-- ==== Sys2Proof/Word.lean ====
section
/-! DEFINITION. The register word, the byte, and their plainest arithmetic: two's-complement reading and
rounding division, which the manual uses throughout (R14: all registers are 32 bits wide and little-endian). -/

namespace Sys2Proof

/-- A 32-bit register word (R14). -/
abbrev Word := BitVec 32

/-- A byte. -/
abbrev Byte := BitVec 8

/-- `n` as a 32-bit word, taken modulo 2³². -/
abbrev w32 (n : Nat) : Word := BitVec.ofNat 32 n

/-- The two's-complement value of the low `w` bits of `n`. -/
def sNat (w n : Nat) : Int :=
  let m := n % 2 ^ w
  if m < 2 ^ (w - 1) then (m : Int) else (m : Int) - (2 ^ w : Nat)

/-- The low `w` bits of the two's-complement representation of `i`. -/
def uInt (w : Nat) (i : Int) : Nat := (i % (2 ^ w : Nat)).toNat

/-- `n / d` rounded up; 0 for a zero divisor. -/
def ceilDiv (n d : Nat) : Nat := (n + (d - 1)) / d

/-- `i / d` rounded to the nearest integer, halves away from zero. -/
def roundDiv (i : Int) (d : Nat) : Int :=
  let n := i.natAbs
  let q := (2 * n + d) / (2 * d)
  if i < 0 then - (q : Int) else (q : Int)

/-- Bit `i` of `n`. -/
abbrev bitOf (n i : Nat) : Bool := n.testBit i

/-- `1` for true and `0` for false. -/
abbrev b2n (b : Bool) : Nat := if b then 1 else 0

/-- The bits `hi:lo` of `n`. -/
def bitsOf (n hi lo : Nat) : Nat := (n / 2 ^ lo) % 2 ^ (hi + 1 - lo)

/-- The first `n` elements of `l`, padded with `d` to length `n`. -/
def padTo {α : Type} (d : α) (n : Nat) (l : List α) : List α := l.take n ++ List.replicate (n - l.length) d

/-- The number whose little-endian bytes are `l`. -/
def leNat : List Byte → Nat
  | [] => 0
  | b :: t => b.toNat + 256 * leNat t

/-- The `n` little-endian bytes of `v`. -/
def leBytes : Nat → Nat → List Byte
  | 0, _ => []
  | n + 1, v => BitVec.ofNat 8 v :: leBytes n (v / 256)

/-- Replace the element of `l` at index `i` by `v`; `l` unchanged when there is none. -/
def setAt {α : Type} (l : List α) (i : Nat) (v : α) : List α := l.set i v

/-- Apply `f` to the element of `l` at index `i`, where every element past the end of `l` is `d`. -/
def modAt {α : Type} (d : α) (l : List α) (i : Nat) (f : α → α) : List α :=
  if i < l.length then l.modify i f else l ++ List.replicate (i - l.length) d ++ [f d]

end Sys2Proof
end

