-- ==== Sys2Proof/Machine/Events.lean ====
section
/-! DEFINITION. The 1,024 event numbers: the base of each block (R133) plus the offset each block's chapter gives. -/

namespace Sys2Proof.Machine

/-- The first event number of block page `p` and how many numbers it has (R133); `none` for an unlisted page. -/
def evBase (p : Nat) : Option (Nat × Nat) :=
  if 0x10 ≤ p ∧ p ≤ 0x1E then some (144 + 16 * (p - 0x10), 16) else
  match p with
  | 0x00 => some (0, 16) | 0x01 => some (16, 16) | 0x02 => some (32, 16) | 0x03 => some (48, 16)
  | 0x04 => some (64, 16) | 0x05 => some (80, 16) | 0x06 => some (96, 16) | 0x07 => some (112, 16)
  | 0x08 => some (128, 16) | 0x20 => some (384, 32) | 0x21 => some (416, 32) | 0x24 => some (448, 32)
  | 0x25 => some (480, 32) | 0x28 => some (512, 64) | 0x29 => some (576, 32) | 0x2A => some (608, 32)
  | 0x2C => some (640, 32) | 0x30 => some (672, 64) | 0x31 => some (736, 32) | 0x32 => some (768, 32)
  | 0x33 => some (800, 16) | 0x34 => some (816, 32) | 0x35 => some (848, 48) | 0x36 => some (896, 16)
  | 0x38 => some (912, 32) | 0x39 => some (944, 16) | 0x3C => some (960, 16) | 0x3E => some (976, 16)
  | 0x3F => some (992, 8) | 0x40 => some (1000, 8) | 0x42 => some (1008, 8) | 0x44 => some (1016, 8)
  | _ => none

/-- Every block page (R103), in ascending order. -/
def allPages : List Nat :=
  [0x00, 0x01, 0x02, 0x03, 0x04, 0x05, 0x06, 0x07, 0x08] ++
  [0x10, 0x11, 0x12, 0x13, 0x14, 0x15, 0x16, 0x17, 0x18, 0x19, 0x1A, 0x1B, 0x1C, 0x1D, 0x1E] ++
  [0x20, 0x21, 0x24, 0x25, 0x28, 0x29, 0x2A, 0x2C, 0x30, 0x31, 0x32, 0x33, 0x34, 0x35, 0x36, 0x38, 0x39] ++
  [0x3C, 0x3E, 0x3F, 0x40, 0x42, 0x44]

/-- The pages that have instance sub-pages (R112). -/
def subPages : List Nat :=
  [0x07, 0x08, 0x1E, 0x24, 0x28, 0x29, 0x2A, 0x2C, 0x30, 0x31, 0x32, 0x33, 0x34, 0x35, 0x36, 0x38, 0x3C, 0x3E, 0x3F, 0x40]

/-- Whether the block of page `p` has an event at offset `o` (the events text of each block's chapter; for PWR R79 and R134). -/
def evDefined (p o : Nat) : Bool :=
  if 0x10 ≤ p ∧ p ≤ 0x1E then decide (o < 10)
  else match p with
  | 0x00 => decide (o < 2) | 0x01 => decide (o < 9) | 0x02 => decide (o < 6) | 0x03 => decide (o < 2) | 0x04 => decide (o < 9)
  | 0x05 => decide (o < 8) | 0x06 => decide (o < 2) | 0x07 => decide (o < 3) | 0x08 => decide (o < 4) | 0x20 => decide (o < 4)
  | 0x21 => decide (o < 5) | 0x24 => decide (o < 7) || (decide (8 ≤ o) && decide (o < 24)) | 0x25 => decide (o < 3)
  | 0x28 => decide (o < 9) | 0x29 => decide (o < 6) | 0x2A => decide (o < 3) | 0x2C => decide (o < 5) | 0x30 => decide (o < 8)
  | 0x31 => decide (o < 8) | 0x32 => decide (o < 2) | 0x33 => decide (o < 2) | 0x34 => decide (o < 3) | 0x35 => decide (o < 6)
  | 0x36 => decide (o % 8 < 5) | 0x38 => decide (o < 12) | 0x39 => decide (o < 5) | 0x3C => decide (o < 7) | 0x3E => decide (o < 9)
  | 0x3F => decide (o < 2) | 0x40 => decide (o < 6) | 0x42 => decide (o < 7) | 0x44 => decide (o < 4)
  | _ => false

/-- The page whose block owns event number `ev`, found among `ps` (R133). -/
def evPageIn : List Nat → Nat → Option (Nat × Nat)
  | [], _ => none
  | p :: ps, ev =>
    match evBase p with
    | some (b, n) => if b ≤ ev ∧ ev < b + n then some (p, ev - b) else evPageIn ps ev
    | none => evPageIn ps ev

/-- The block page of event `ev` and the event's offset in it (R133); none for a number that no block gives an event. -/
def evLoc (ev : Nat) : Option (Nat × Nat) :=
  match evPageIn allPages ev with
  | some (p, o) => if evDefined p o then some (p, o) else none
  | none => none

/-- `EV_MAC_*` at offset `j` of MAC page `m` (0–11 for P1–P12, 12–13 for S1–S2, 14 for H). Offsets: 0 LINKUP, 1 LINKDOWN,
2 DSHIFT, 3 DRESTORE, 4 DSHIFTFAIL, 5 VERIFYOK, 6 VERIFYFAIL, 7 STOMPRX, 8 RUNTOVS, 9 HALFDUP (the MAC registers' text). -/
abbrev EV.MAC (m j : Nat) : Nat := 144 + 16 * m + j
/-- `EV_SER_*` at offset `8p + j`: 0 RXFRAME, 1 TXDONE, 2 TIMEOUT, 3 RXERR, 4 RXOVF (the SER registers' text). -/
abbrev EV.SER (p j : Nat) : Nat := 896 + 8 * p + j
/-- `EV_TIM_CMP0 + i` (the TIM registers' text). -/
abbrev EV.TIM_CMP (i : Nat) : Nat := 456 + i
/-- `EV_SYS_SERVICE`. -/
abbrev EV.SYS_SERVICE : Nat := 0
/-- `EV_SYS_LCS`. -/
abbrev EV.SYS_LCS : Nat := 1
/-- `EV_PWR_WARN`. -/
abbrev EV.PWR_WARN : Nat := 16
/-- `EV_PWR_RECOVER`. -/
abbrev EV.PWR_RECOVER : Nat := 17
/-- `EV_PWR_HOT`. -/
abbrev EV.PWR_HOT : Nat := 18
/-- `EV_PWR_COOL`. -/
abbrev EV.PWR_COOL : Nat := 19
/-- `EV_PWR_HOLDUP_LOW`. -/
abbrev EV.PWR_HOLDUP_LOW : Nat := 20
/-- `EV_PWR_LIFE90`. -/
abbrev EV.PWR_LIFE90 : Nat := 21
/-- `EV_PWR_AGELIMIT`. -/
abbrev EV.PWR_AGELIMIT : Nat := 22
/-- `EV_PWR_TALLYJUMP`. -/
abbrev EV.PWR_TALLYJUMP : Nat := 23
/-- `EV_PWR_TALLYMAX`. -/
abbrev EV.PWR_TALLYMAX : Nat := 24
/-- `EV_STL_STEPFAIL`. -/
abbrev EV.STL_STEPFAIL : Nat := 32
/-- `EV_STL_ALTERNATE`. -/
abbrev EV.STL_ALTERNATE : Nat := 33
/-- `EV_STL_SKIPPED`. -/
abbrev EV.STL_SKIPPED : Nat := 34
/-- `EV_STL_HALTED`. -/
abbrev EV.STL_HALTED : Nat := 35
/-- `EV_STL_TAMPER`. -/
abbrev EV.STL_TAMPER : Nat := 36
/-- `EV_STL_COMPLETE`. -/
abbrev EV.STL_COMPLETE : Nat := 37
/-- `EV_HRW_DONE`. -/
abbrev EV.HRW_DONE : Nat := 48
/-- `EV_HRW_VERIFY`. -/
abbrev EV.HRW_VERIFY : Nat := 49
/-- `EV_KEY_DONE`. -/
abbrev EV.KEY_DONE : Nat := 64
/-- `EV_KEY_COMMIT`. -/
abbrev EV.KEY_COMMIT : Nat := 65
/-- `EV_KEY_RECOVER`. -/
abbrev EV.KEY_RECOVER : Nat := 66
/-- `EV_KEY_REPLAY`. -/
abbrev EV.KEY_REPLAY : Nat := 67
/-- `EV_KEY_SIGFAIL`. -/
abbrev EV.KEY_SIGFAIL : Nat := 68
/-- `EV_KEY_RNGFAIL`. -/
abbrev EV.KEY_RNGFAIL : Nat := 69
/-- `EV_KEY_LEAFEXP`. -/
abbrev EV.KEY_LEAFEXP : Nat := 70
/-- `EV_KEY_CELLBAD`. -/
abbrev EV.KEY_CELLBAD : Nat := 71
/-- `EV_KEY_TAMPERED`. -/
abbrev EV.KEY_TAMPERED : Nat := 72
/-- `EV_TMP_LEVEL1`. -/
abbrev EV.TMP_LEVEL1 : Nat := 80
/-- `EV_TMP_LEVEL2`. -/
abbrev EV.TMP_LEVEL2 : Nat := 81
/-- `EV_TMP_LEVEL3`. -/
abbrev EV.TMP_LEVEL3 : Nat := 82
/-- `EV_TMP_FALLOW`. -/
abbrev EV.TMP_FALLOW : Nat := 83
/-- `EV_TMP_KEYLOSS`. -/
abbrev EV.TMP_KEYLOSS : Nat := 84
/-- `EV_TMP_VFAIL`. -/
abbrev EV.TMP_VFAIL : Nat := 85
/-- `EV_TMP_ALLOWGONE`. -/
abbrev EV.TMP_ALLOWGONE : Nat := 86
/-- `EV_TMP_MEASCLOSED`. -/
abbrev EV.TMP_MEASCLOSED : Nat := 87
/-- `EV_ACT_DENY`. -/
abbrev EV.ACT_DENY : Nat := 96
/-- `EV_ACT_FIFOOVF`. -/
abbrev EV.ACT_FIFOOVF : Nat := 97
/-- `EV_EVR_MQOVF`. -/
abbrev EV.EVR_MQOVF : Nat := 112
/-- `EV_EVR_SQOVF`. -/
abbrev EV.EVR_SQOVF : Nat := 113
/-- `EV_EVR_DROP`. -/
abbrev EV.EVR_DROP : Nat := 114
/-- `EV_BNK_SWAPPED`. -/
abbrev EV.BNK_SWAPPED : Nat := 128
/-- `EV_BNK_REFUSED`. -/
abbrev EV.BNK_REFUSED : Nat := 129
/-- `EV_BNK_COPYDONE`. -/
abbrev EV.BNK_COPYDONE : Nat := 130
/-- `EV_BNK_CANCELLED`. -/
abbrev EV.BNK_CANCELLED : Nat := 131
/-- `EV_SWC_LEARNFULL`. -/
abbrev EV.SWC_LEARNFULL : Nat := 384
/-- `EV_SWC_PARTIALMC`. -/
abbrev EV.SWC_PARTIALMC : Nat := 385
/-- `EV_SWC_QDROP`. -/
abbrev EV.SWC_QDROP : Nat := 386
/-- `EV_SWC_FILTER`. -/
abbrev EV.SWC_FILTER : Nat := 387
/-- `EV_PRP_NODEFULL`. -/
abbrev EV.PRP_NODEFULL : Nat := 416
/-- `EV_PRP_LANERR`. -/
abbrev EV.PRP_LANERR : Nat := 417
/-- `EV_PRP_OUTWIN`. -/
abbrev EV.PRP_OUTWIN : Nat := 418
/-- `EV_PRP_BOTHLAN`. -/
abbrev EV.PRP_BOTHLAN : Nat := 419
/-- `EV_PRP_ONELAN`. -/
abbrev EV.PRP_ONELAN : Nat := 420
/-- `EV_TIM_STATE`. -/
abbrev EV.TIM_STATE : Nat := 448
/-- `EV_TIM_SRCCHG`. -/
abbrev EV.TIM_SRCCHG : Nat := 449
/-- `EV_TIM_HOLDEXP`. -/
abbrev EV.TIM_HOLDEXP : Nat := 450
/-- `EV_TIM_OFFBIG`. -/
abbrev EV.TIM_OFFBIG : Nat := 451
/-- `EV_TIM_TXQOVF`. -/
abbrev EV.TIM_TXQOVF : Nat := 452
/-- `EV_TIM_LATE`. -/
abbrev EV.TIM_LATE : Nat := 453
/-- `EV_TIM_LEAP`. -/
abbrev EV.TIM_LEAP : Nat := 454
/-- `EV_PTP_PSTATE`. -/
abbrev EV.PTP_PSTATE : Nat := 480
/-- `EV_PTP_GMCHG`. -/
abbrev EV.PTP_GMCHG : Nat := 481
/-- `EV_PTP_PDFAIL`. -/
abbrev EV.PTP_PDFAIL : Nat := 482
/-- `EV_SVI_DUPCONF`. -/
abbrev EV.SVI_DUPCONF : Nat := 512
/-- `EV_SVI_AUTHFAIL`. -/
abbrev EV.SVI_AUTHFAIL : Nat := 513
/-- `EV_SVI_NOKEY`. -/
abbrev EV.SVI_NOKEY : Nat := 514
/-- `EV_SVI_CFGERR`. -/
abbrev EV.SVI_CFGERR : Nat := 515
/-- `EV_SVI_DECODE`. -/
abbrev EV.SVI_DECODE : Nat := 516
/-- `EV_SVI_SIMSWITCH`. -/
abbrev EV.SVI_SIMSWITCH : Nat := 517
/-- `EV_SVI_GSTALE`. -/
abbrev EV.SVI_GSTALE : Nat := 518
/-- `EV_SVI_GCONFLICT`. -/
abbrev EV.SVI_GCONFLICT : Nat := 519
/-- `EV_SVI_GRESTART`. -/
abbrev EV.SVI_GRESTART : Nat := 520
/-- `EV_ALN_HELDOVER`. -/
abbrev EV.ALN_HELDOVER : Nat := 576
/-- `EV_ALN_RESUMED`. -/
abbrev EV.ALN_RESUMED : Nat := 577
/-- `EV_ALN_TOOLATE`. -/
abbrev EV.ALN_TOOLATE : Nat := 578
/-- `EV_ALN_AGREETO`. -/
abbrev EV.ALN_AGREETO : Nat := 579
/-- `EV_ALN_REVCONF`. -/
abbrev EV.ALN_REVCONF : Nat := 580
/-- `EV_ALN_CHERR`. -/
abbrev EV.ALN_CHERR : Nat := 581
/-- `EV_AAP_STUCK`. -/
abbrev EV.AAP_STUCK : Nat := 608
/-- `EV_AAP_CLIP`. -/
abbrev EV.AAP_CLIP : Nat := 609
/-- `EV_AAP_RECOVER`. -/
abbrev EV.AAP_RECOVER : Nat := 610
/-- `EV_PHE_LATE`. -/
abbrev EV.PHE_LATE : Nat := 640
/-- `EV_PHE_ABANDON`. -/
abbrev EV.PHE_ABANDON : Nat := 641
/-- `EV_PHE_CORRDEFER`. -/
abbrev EV.PHE_CORRDEFER : Nat := 642
/-- `EV_PHE_CORRDROP`. -/
abbrev EV.PHE_CORRDROP : Nat := 643
/-- `EV_PHE_FREQCLAMP`. -/
abbrev EV.PHE_FREQCLAMP : Nat := 644
/-- `EV_SCH_OVERRUN`. -/
abbrev EV.SCH_OVERRUN : Nat := 672
/-- `EV_SCH_FAULT`. -/
abbrev EV.SCH_FAULT : Nat := 673
/-- `EV_SCH_OVERBUDGET`. -/
abbrev EV.SCH_OVERBUDGET : Nat := 674
/-- `EV_SCH_STARTED`. -/
abbrev EV.SCH_STARTED : Nat := 675
/-- `EV_SCH_STOPPED`. -/
abbrev EV.SCH_STOPPED : Nat := 676
/-- `EV_SCH_NOREL`. -/
abbrev EV.SCH_NOREL : Nat := 677
/-- `EV_SCH_IMGERR`. -/
abbrev EV.SCH_IMGERR : Nat := 678
/-- `EV_SCH_TRAP`. -/
abbrev EV.SCH_TRAP : Nat := 679
/-- `EV_VIM_IERROR`. -/
abbrev EV.VIM_IERROR : Nat := 736
/-- `EV_VIM_STATE`. -/
abbrev EV.VIM_STATE : Nat := 737
/-- `EV_VIM_QDONE`. -/
abbrev EV.VIM_QDONE : Nat := 738
/-- `EV_VIM_RESETDONE`. -/
abbrev EV.VIM_RESETDONE : Nat := 739
/-- `EV_VIM_FAULT`. -/
abbrev EV.VIM_FAULT : Nat := 740
/-- `EV_VIM_OVERSHARE`. -/
abbrev EV.VIM_OVERSHARE : Nat := 741
/-- `EV_VIM_SHAREDONE`. -/
abbrev EV.VIM_SHAREDONE : Nat := 742
/-- `EV_VIM_PEERREFUSED`. -/
abbrev EV.VIM_PEERREFUSED : Nat := 743
/-- `EV_DMA_ERROR`. -/
abbrev EV.DMA_ERROR : Nat := 768
/-- `EV_DMA_ABORT`. -/
abbrev EV.DMA_ABORT : Nat := 769
/-- `EV_DPL_BMPERR`. -/
abbrev EV.DPL_BMPERR : Nat := 800
/-- `EV_DPL_OUTSIDE`. -/
abbrev EV.DPL_OUTSIDE : Nat := 801
/-- `EV_PUB_RESTART`. -/
abbrev EV.PUB_RESTART : Nat := 816
/-- `EV_PUB_SRCERR`. -/
abbrev EV.PUB_SRCERR : Nat := 817
/-- `EV_PUB_LEAFSW`. -/
abbrev EV.PUB_LEAFSW : Nat := 818
/-- `EV_BIO_COILOPEN`. -/
abbrev EV.BIO_COILOPEN : Nat := 848
/-- `EV_BIO_DRIVEFAIL`. -/
abbrev EV.BIO_DRIVEFAIL : Nat := 849
/-- `EV_BIO_SUPCLEAR`. -/
abbrev EV.BIO_SUPCLEAR : Nat := 850
/-- `EV_BIO_CHATTER`. -/
abbrev EV.BIO_CHATTER : Nat := 851
/-- `EV_BIO_UNCHATTER`. -/
abbrev EV.BIO_UNCHATTER : Nat := 852
/-- `EV_BIO_BINQOVF`. -/
abbrev EV.BIO_BINQOVF : Nat := 853
/-- `EV_TWN_PAIRED`. -/
abbrev EV.TWN_PAIRED : Nat := 912
/-- `EV_TWN_SPANLOST`. -/
abbrev EV.TWN_SPANLOST : Nat := 913
/-- `EV_TWN_PAIRREFUSED`. -/
abbrev EV.TWN_PAIRREFUSED : Nat := 914
/-- `EV_TWN_DIVERGE`. -/
abbrev EV.TWN_DIVERGE : Nat := 915
/-- `EV_TWN_LEASEGOT`. -/
abbrev EV.TWN_LEASEGOT : Nat := 916
/-- `EV_TWN_LEASELOST`. -/
abbrev EV.TWN_LEASELOST : Nat := 917
/-- `EV_TWN_STATE`. -/
abbrev EV.TWN_STATE : Nat := 918
/-- `EV_TWN_PEERRISK`. -/
abbrev EV.TWN_PEERRISK : Nat := 919
/-- `EV_TWN_PEERRECOVER`. -/
abbrev EV.TWN_PEERRECOVER : Nat := 920
/-- `EV_TWN_WITFAIL`. -/
abbrev EV.TWN_WITFAIL : Nat := 921
/-- `EV_TWN_REJOIN`. -/
abbrev EV.TWN_REJOIN : Nat := 922
/-- `EV_TWN_LANE`. -/
abbrev EV.TWN_LANE : Nat := 923
/-- `EV_FLD_MASTER`. -/
abbrev EV.FLD_MASTER : Nat := 944
/-- `EV_FLD_NOMASTER`. -/
abbrev EV.FLD_NOMASTER : Nat := 945
/-- `EV_FLD_EPOCH`. -/
abbrev EV.FLD_EPOCH : Nat := 946
/-- `EV_FLD_NOKEY`. -/
abbrev EV.FLD_NOKEY : Nat := 947
/-- `EV_FLD_MCHG`. -/
abbrev EV.FLD_MCHG : Nat := 948
/-- `EV_LGR_CHANGED`. -/
abbrev EV.LGR_CHANGED : Nat := 960
/-- `EV_LGR_FORCEREL`. -/
abbrev EV.LGR_FORCEREL : Nat := 961
/-- `EV_LGR_DIRBAD`. -/
abbrev EV.LGR_DIRBAD : Nat := 962
/-- `EV_LGR_RESTORED`. -/
abbrev EV.LGR_RESTORED : Nat := 963
/-- `EV_LGR_RETFAIL`. -/
abbrev EV.LGR_RETFAIL : Nat := 964
/-- `EV_LGR_SAVESKIP`. -/
abbrev EV.LGR_SAVESKIP : Nat := 965
/-- `EV_LGR_STAGEERR`. -/
abbrev EV.LGR_STAGEERR : Nat := 966
/-- `EV_MTR_GAP`. -/
abbrev EV.MTR_GAP : Nat := 976
/-- `EV_MTR_SAVEFAIL`. -/
abbrev EV.MTR_SAVEFAIL : Nat := 977
/-- `EV_MTR_SAVEGAP`. -/
abbrev EV.MTR_SAVEGAP : Nat := 978
/-- `EV_MTR_PHSEQ`. -/
abbrev EV.MTR_PHSEQ : Nat := 979
/-- `EV_MTR_NEUTRAL`. -/
abbrev EV.MTR_NEUTRAL : Nat := 980
/-- `EV_MTR_SAG`. -/
abbrev EV.MTR_SAG : Nat := 981
/-- `EV_MTR_SWELL`. -/
abbrev EV.MTR_SWELL : Nat := 982
/-- `EV_MTR_INTERRUPT`. -/
abbrev EV.MTR_INTERRUPT : Nat := 983
/-- `EV_MTR_RESTORED`. -/
abbrev EV.MTR_RESTORED : Nat := 984
/-- `EV_PLS_LAG`. -/
abbrev EV.PLS_LAG : Nat := 992
/-- `EV_PLS_DROP`. -/
abbrev EV.PLS_DROP : Nat := 993
/-- `EV_ELG_FAIL`. -/
abbrev EV.ELG_FAIL : Nat := 1000
/-- `EV_ELG_DEAD`. -/
abbrev EV.ELG_DEAD : Nat := 1001
/-- `EV_ELG_LOST`. -/
abbrev EV.ELG_LOST : Nat := 1002
/-- `EV_ELG_CLEARED`. -/
abbrev EV.ELG_CLEARED : Nat := 1003
/-- `EV_ELG_PEERFAIL`. -/
abbrev EV.ELG_PEERFAIL : Nat := 1004
/-- `EV_ELG_HOLDEXP`. -/
abbrev EV.ELG_HOLDEXP : Nat := 1005
/-- `EV_MEM_CE`. -/
abbrev EV.MEM_CE : Nat := 1008
/-- `EV_MEM_UE`. -/
abbrev EV.MEM_UE : Nat := 1009
/-- `EV_MEM_POISON`. -/
abbrev EV.MEM_POISON : Nat := 1010
/-- `EV_MEM_ADDRFAULT`. -/
abbrev EV.MEM_ADDRFAULT : Nat := 1011
/-- `EV_MEM_DEVFAIL`. -/
abbrev EV.MEM_DEVFAIL : Nat := 1012
/-- `EV_MEM_PATROL`. -/
abbrev EV.MEM_PATROL : Nat := 1013
/-- `EV_MEM_FIFOOVF`. -/
abbrev EV.MEM_FIFOOVF : Nat := 1014
/-- `EV_DBG_AUTHOK`. -/
abbrev EV.DBG_AUTHOK : Nat := 1016
/-- `EV_DBG_AUTHFAIL`. -/
abbrev EV.DBG_AUTHFAIL : Nat := 1017
/-- `EV_DBG_OPEN`. -/
abbrev EV.DBG_OPEN : Nat := 1018
/-- `EV_DBG_CLOSED`. -/
abbrev EV.DBG_CLOSED : Nat := 1019

end Sys2Proof.Machine
end

