-- ==== Sys2Proof/Machine/Frames.lean ====
section
/-! DEFINITION. Frames and messages as plain data: what crosses the ports, the span link and the serial lines.
Content the module interprets is decoded into fields; the rest stays bytes. -/

namespace Sys2Proof.Machine

/-! ### Network frames -/

/-- The frame check sequence as received (R237): correct, the bitwise inverse of the correct CRC, or any other mismatch. -/
inductive Fcs where
  | good | stomped | bad
  deriving DecidableEq, Repr

/-- What MAC H finds of IPv4 and UDP in a frame (R240, R241): header checksum correct, IHL and total length sound, a
fragment, protocol 17, and the UDP checksum (0 wrong, 1 correct, 2 the field is zero). -/
structure Ip where
  hdrOk : Bool
  lenOk : Bool
  frag : Bool
  udp : Bool
  udpSum : Nat
  deriving DecidableEq, Repr

/-- PTP message types (R312). -/
inductive PtpKind where
  | announce | sync | followUp | pdelayReq | pdelayResp | pdelayRespFollowUp
  deriving DecidableEq, Repr

/-- A PTP message (R312): domain, sender, sequence, correctionField in ns, the timestamp it carries in ns since the epoch,
the two-step flag, the requester it answers, and the Announce data set: priorities, quality, grandmaster, stepsRemoved,
currentUtcOffset when valid, and the C37.238 grandmaster ID. -/
structure PtpMsg where
  kind : PtpKind
  domain : Nat
  srcId : Nat
  srcPort : Nat
  seq : Nat
  corr : Int
  t : Nat
  twoStep : Bool
  reqId : Nat
  reqPort : Nat
  prio1 : Nat
  cls : Nat
  acc : Nat
  var : Nat
  prio2 : Nat
  gmId : Nat
  steps : Nat
  utc : Option Nat
  gmTlv : Option Nat
  ato : Option Nat
  deriving DecidableEq, Repr

/-- One ASDU of a sampled-value frame: svID, datSet (empty when left out), confRev, smpCnt, smpSynch, gmIdentity, and value and
quality by dataset position. -/
structure SvAsdu where
  svid : List Byte
  datset : List Byte
  confrev : Nat
  smpcnt : Nat
  smpsynch : Nat
  gm : Option Nat
  data : List (Int × Nat)
  deriving DecidableEq, Repr

/-- The IPv4, UDP and IEC 61850-90-5 session headers of an R-SV or R-GOOSE frame: destination IPv4 address and UDP port, session
identifier, a well-formed session header, source address and port, TTL, DSCP and SPDU number. -/
structure Session where
  ip : Nat
  port : Nat
  sid : Nat
  ok : Bool
  srcIp : Nat
  srcPort : Nat
  ttl : Nat
  dscp : Nat
  spdu : Nat
  deriving DecidableEq, Repr

/-- A sampled-value PDU (R332): session of R-SV, APPID, simulation bit, length field and BER structure sound, noASDU, the key
ID of the IEC 62351-6 extension when there is one, and the ASDUs. -/
structure SvBody where
  sess : Option Session
  appid : Nat
  sim : Bool
  wf : Bool
  noasdu : Nat
  ext : Option Nat
  asdus : List SvAsdu
  deriving DecidableEq, Repr

/-- A GOOSE PDU (R344–R346); members carry their type code of R344 and a 64-bit value. -/
structure GooseBody where
  sess : Option Session
  appid : Nat
  sim : Bool
  wf : Bool
  ext : Option Nat
  gocb : List Byte
  datset : List Byte
  goid : List Byte
  confrev : Nat
  nds : Bool
  test : Bool
  stnum : Nat
  sqnum : Nat
  t : Nat
  ttl : Nat
  members : List (Nat × Nat)
  deriving DecidableEq, Repr

/-- A field frame (R537): 1 DATA, 2 REVISION, 3 ANNOUNCE, 4 CANDIDATE. Entries pair a dataset position with value, quality and
alignment flags laid out as in the ring; `time` is the sheaf index, or the TAI seconds of types 3 and 4. -/
structure RelayBody where
  typ : Nat
  expid : Nat
  fid : Nat
  epoch : Nat
  midx : Nat
  pair : Nat
  time : Nat
  prio : Nat
  rate : Nat
  gmid : Nat
  key : Nat
  entries : List (Nat × Nat)
  deriving DecidableEq, Repr

/-- A witness message (R527) with the addresses and port of its datagram. -/
structure WitMsg where
  toIp : Nat
  fromIp : Nat
  port : Nat
  typ : Nat
  lease : Nat
  side : Nat
  fleet : Nat
  fid : Nat
  pair : Nat
  midx : Nat
  widx : Nat
  len : Nat
  epoch : Nat
  req : Nat
  startno : Nat
  remaining : Nat
  peerage : Nat
  holder : Nat
  deriving DecidableEq, Repr

/-- What a frame carries, decoded (DESIGN CHOICE, log entry 12). -/
inductive Body where
  | raw (bytes : List Byte)
  | macctl (opcode time : Nat)
  | supervision (src : Nat)
  | ptp (m : PtpMsg)
  | sv (m : SvBody)
  | goose (m : GooseBody)
  | relay (m : RelayBody)
  | witness (m : WitMsg)
  deriving DecidableEq, Repr

/-- A frame: addresses, VLAN tag (PCP, VID), EtherType, length of R236, FCS, a code error inside, a fragment that failed
reassembly (R249), PRP trailer (sequence, LanId, LSDUsize correct), HSR tag (sequence, path), IPv4, the instance whose
virtual interface it is addressed to, and its content. -/
structure Frame where
  dst : Nat
  src : Nat
  tag : Option (Nat × Nat)
  etype : Nat
  len : Nat
  fcs : Fcs
  sym : Bool
  asmErr : Bool
  rct : Option (Nat × Nat × Bool)
  hsr : Option (Nat × Nat)
  ip : Option Ip
  inst : Option Nat
  body : Body
  deriving DecidableEq, Repr


/-! ### The span link -/

/-- HEARTBEAT payload (R515). -/
structure Heartbeat where
  midx : Nat
  side : Bool
  service : Nat
  startno : Nat
  twn : Nat
  pwr : Nat
  timState : Nat
  timSrc : Nat
  holder : Bool
  master : Bool
  hexp : Bool
  epoch : Nat
  leftUs : Nat
  idx : Nat
  deriving DecidableEq, Repr

/-- HELLO content (R517), with the boundary index the sender proposes for joining (R519). -/
structure Hello where
  cap : Nat
  side : Bool
  fleet : Nat
  midx : Nat
  fldId : Nat
  pair : Nat
  vmac : Nat
  rate : Nat
  twn : Nat
  s16 : Bool
  swapPend : Bool
  digest : Nat
  propose : Nat
  deriving DecidableEq, Repr

/-- One revision record of PH1 (R513): sheaf index, channel and the 64-bit entry. -/
structure RevRec where
  k : Nat
  ch : Nat
  entry : Nat
  deriving DecidableEq, Repr

/-- One record of FRAMEDIG (R521). -/
structure FrameRec where
  seq : Nat
  item : Nat
  digest : Nat
  deriving DecidableEq, Repr

/-- One shared publication's state in a RESYNC (R523): entry, stNum, sqNum, state-change count. -/
structure PubSync where
  pub : Nat
  stnum : Nat
  sqnum : Nat
  changes : Nat
  deriving DecidableEq, Repr

/-- A run of PH2: first channel and its entries (R513). -/
abbrev Run := Nat × List Nat

/-- The parts of a SETTLE exchange (R378, R513): bitmap of channels still provisional or held-over, entries, digest. -/
inductive SettlePart where
  | bitmap (m : Nat)
  | runs (r : List Run) (more : Bool)
  | digest (d : Nat)
  deriving DecidableEq, Repr

/-- The span frame types (R513); `sec` is flag bit 0, the secondary grid. -/
inductive SpanMsg where
  | heartbeat (h : Heartbeat)
  | hello (h : Hello)
  | ph1 (sec : Bool) (k : Nat) (bitmap : Nat) (revs : List RevRec)
  | ph2 (sec : Bool) (k : Nat) (runs : List Run) (more : Bool)
  | ph3 (sec : Bool) (k : Nat) (digest : Nat)
  | settle (sec : Bool) (k : Nat) (part : SettlePart)
  | framedig (recs : List FrameRec)
  | agree (kind : Nat) (copyback agreed : Bool) (idx : Nat) (digest : Nat)
  | time (t1 t1echo t2 t3 : Nat)
  | notice (code : Nat) (detail : List Byte)
  | resync (twinSeq : Nat) (absence : List (Nat × Nat)) (pubs : List PubSync)
  | tunnel (f : Frame)
  deriving DecidableEq, Repr

/-- What a command makes the module send or drive outward. -/
inductive Output where
  | span (m : SpanMsg)
  /-- A frame that starts on output `o` (0–13). -/
  | tx (o : Nat) (f : Frame)
  /-- A frame delivered to the on-die endpoints with its receive stamp and half-ns bit (R241, R317). -/
  | host (f : Frame) (stamp : Nat) (half : Bool)
  /-- A verify or respond mPacket of port `o` (R248). -/
  | verify (o : Nat)
  /-- How the frame under way on output `o` ends when it ends early or was cut through: the bytes sent and the FCS they end with,
  none when it is cut off (R239, R284). -/
  | txEnd (o len : Nat) (fcs : Option Fcs)
  /-- SGMII or Clause 37 word of port `o`: full duplex only, with the highest rate advertised and, under Clause 37, symmetric
  PAUSE or not (R234, R250). -/
  | advertise (o rate : Nat) (pause : Bool)
  /-- A serial frame that starts on line `p`, with the SER_PCFG word that gives its rate and character format (R262, R264). -/
  | serial (p : Nat) (bytes : List Byte) (cfg : Nat)
  /-- The frame on serial line `p` ends early, after `n` characters (R266). -/
  | serialEnd (p n : Nat)
  /-- What DBG_TDO carries in the shift states after a TAP instruction: the register selected, so many bits (R51). Outside them it is
  high-impedance. -/
  | tdo (bits value : Nat)
  deriving DecidableEq, Repr

/-! ### What commands carry besides frames -/

/-- One channel of a decimated sample: channel and the densities of its high and low path, in units of 2⁻³¹ (R352). -/
structure AapIn where
  ch : Nat
  high : Int
  low : Int
  deriving DecidableEq, Repr

/-- An IRIG-B frame as decoded (R315): its format B000–B007, parity and position markers correct, day of year, hour,
minute, second, the two-digit year of B004–B007, and the IEEE 1344 extension: two-digit year, local offset in minutes
(local time minus UTC), time quality. -/
structure Irig where
  fmt : Nat
  ok : Bool
  day : Nat
  hour : Nat
  minute : Nat
  sec : Nat
  year : Option Nat
  ext : Option (Nat × Int × Nat)
  deriving DecidableEq, Repr

/-- The interval that ends: Announce, Sync or Pdelay_Req (R312). -/
inductive PtpTick where
  | announce | sync | pdelay
  deriving DecidableEq, Repr

/-- How a frame that was cut through ends (R284). -/
inductive CtEnd where
  | good | fcs | stomped | oversize | code | linkDrop | preempted
  deriving DecidableEq, Repr

/-- What a tamper source reports (R223, R227): a condition that is over at once, one that goes on, or the end of one that went on. -/
inductive TamperHow where
  | once | holds | ends
  deriving DecidableEq, Repr

/-- A tamper report: what it says, and whether an always-on rail is what glitched, for a voltage source in fallow (R223). -/
structure TamperSign where
  how : TamperHow
  rail : Bool
  deriving DecidableEq, Repr

/-- The instructions of the test access port (R51): IDCODE, BYPASS, or another. -/
inductive TapIr where
  | idcode | bypass | other
  deriving DecidableEq, Repr

/-- The atomic read-modify-write operations of the cores (R19, R128). -/
inductive AmoOp where
  | swap | add | xor | and | or | min | max | minu | maxu
  deriving DecidableEq, Repr

/-- A core's access (R621): a load, store or atomic of 1, 2, 4 or 8 bytes, an instruction fetch, a cache-line fill (for a fetch or
not) or a write-back; and a read of CSR `n` by the task that application core `core` runs, which has retired `insns` instructions since its
latest context switch (R95; the table has no row of its own for it). -/
inductive CoreOp where
  | load (n : Nat)
  | store (n v : Nat)
  | fetch (n : Nat)
  | fill (fetch : Bool)
  | writeBack (l : List (BitVec 8))
  | amo (op : AmoOp) (n v : Nat)
  | csr (core n insns : Nat)
  deriving DecidableEq, Repr

end Sys2Proof.Machine
end

