-- ==== Sys2Proof/Machine/RegMap.lean ====
section
/-! DEFINITION. The register map: one address per register, one field per bit field, and one
`RegDef` per register with its writable bits, its write-1-to-clear bits and its reset value.
Every entry follows the register table of the rule named beside it. -/

namespace Sys2Proof.Machine

/-- A bit field `hi:lo` of the 32-bit register at physical address `addr` (R14, R15). -/
structure Fld where
  addr : Nat
  hi : Nat
  lo : Nat
  deriving DecidableEq, Repr

/-- One register, or one array of `n1 × n2` registers `s1` and `s2` bytes apart, at offset `off` of a page
or sub-page: the bits a write stores (`wr`), the bits a write of 1 clears (`w1c`) and the reset value. -/
structure RegDef where
  off : Nat
  n1 : Nat
  s1 : Nat
  n2 : Nat
  s2 : Nat
  wr : Nat
  w1c : Nat
  rst : Nat
  deriving DecidableEq, Repr

/-- The physical address of offset `o` in block page `p` (R102). -/
abbrev pg (p o : Nat) : Nat := 0x2000000000 + p * 0x10000 + o

/-- The physical address of offset `o` in the sub-page of block page `p` of instance `n` (R102, R112). -/
abbrev sp (n p o : Nat) : Nat := 0x3000000000 + n * 0x100000 + p * 0x1000 + o

/-- `PWR_CTL`, R77. -/
abbrev R.PWR_CTL : Nat := 0x2000010008
/-- `PWR_CTL.hforce` (RW), R77. -/
abbrev F.PWR_CTL_hforce : Fld := ⟨R.PWR_CTL, 0, 0⟩
/-- `PWR_STAT`, R78. -/
abbrev R.PWR_STAT : Nat := 0x200001000C
/-- `PWR_STAT.side` (RO), R78. -/
abbrev F.PWR_STAT_side : Fld := ⟨R.PWR_STAT, 9, 9⟩
/-- `PWR_STAT.hot` (RO), R78. -/
abbrev F.PWR_STAT_hot : Fld := ⟨R.PWR_STAT, 8, 8⟩
/-- `PWR_STAT.rstpin` (RO), R78. -/
abbrev F.PWR_STAT_rstpin : Fld := ⟨R.PWR_STAT, 7, 7⟩
/-- `PWR_STAT.pwrok` (RO), R78. -/
abbrev F.PWR_STAT_pwrok : Fld := ⟨R.PWR_STAT, 6, 6⟩
/-- `PWR_STAT.gasp_at_risk` (RO), R78. -/
abbrev F.PWR_STAT_gasp_at_risk : Fld := ⟨R.PWR_STAT, 5, 5⟩
/-- `PWR_STAT.holdup_ready` (RO), R78. -/
abbrev F.PWR_STAT_holdup_ready : Fld := ⟨R.PWR_STAT, 4, 4⟩
/-- `PWR_STAT.state` (RO), R78. -/
abbrev F.PWR_STAT_state : Fld := ⟨R.PWR_STAT, 1, 0⟩
/-- `PWR_EVT`, R79. -/
abbrev R.PWR_EVT : Nat := 0x2000010010
/-- `PWR_EVT.tallymax` (W1C), R79. -/
abbrev F.PWR_EVT_tallymax : Fld := ⟨R.PWR_EVT, 8, 8⟩
/-- `PWR_EVT.tallyjump` (W1C), R79. -/
abbrev F.PWR_EVT_tallyjump : Fld := ⟨R.PWR_EVT, 7, 7⟩
/-- `PWR_EVT.agelimit` (W1C), R79. -/
abbrev F.PWR_EVT_agelimit : Fld := ⟨R.PWR_EVT, 6, 6⟩
/-- `PWR_EVT.life90` (W1C), R79. -/
abbrev F.PWR_EVT_life90 : Fld := ⟨R.PWR_EVT, 5, 5⟩
/-- `PWR_EVT.holdup_low` (W1C), R79. -/
abbrev F.PWR_EVT_holdup_low : Fld := ⟨R.PWR_EVT, 4, 4⟩
/-- `PWR_EVT.cool` (W1C), R79. -/
abbrev F.PWR_EVT_cool : Fld := ⟨R.PWR_EVT, 3, 3⟩
/-- `PWR_EVT.hot` (W1C), R79. -/
abbrev F.PWR_EVT_hot : Fld := ⟨R.PWR_EVT, 2, 2⟩
/-- `PWR_EVT.recover` (W1C), R79. -/
abbrev F.PWR_EVT_recover : Fld := ⟨R.PWR_EVT, 1, 1⟩
/-- `PWR_EVT.warn` (W1C), R79. -/
abbrev F.PWR_EVT_warn : Fld := ⟨R.PWR_EVT, 0, 0⟩
/-- `PWR_ERR`, R80. -/
abbrev R.PWR_ERR : Nat := 0x2000010018
/-- `PWR_ERR.rail` (W1C), R80. -/
abbrev F.PWR_ERR_rail : Fld := ⟨R.PWR_ERR, 2, 2⟩
/-- `PWR_ERR.tsense` (W1C), R80. -/
abbrev F.PWR_ERR_tsense : Fld := ⟨R.PWR_ERR, 1, 1⟩
/-- `PWR_ERR.vsense` (W1C), R80. -/
abbrev F.PWR_ERR_vsense : Fld := ⟨R.PWR_ERR, 0, 0⟩
/-- `PWR_ERRINFO`, R80. -/
abbrev R.PWR_ERRINFO : Nat := 0x200001001C
/-- `PWR_ERRINFO.rail` (RO), R80. -/
abbrev F.PWR_ERRINFO_rail : Fld := ⟨R.PWR_ERRINFO, 3, 0⟩
/-- `PWR_VIN`, R82. -/
abbrev R.PWR_VIN : Nat := 0x2000010100
/-- `PWR_VIN.iin` (RO), R82. -/
abbrev F.PWR_VIN_iin : Fld := ⟨R.PWR_VIN, 31, 16⟩
/-- `PWR_VIN.vin` (RO), R82. -/
abbrev F.PWR_VIN_vin : Fld := ⟨R.PWR_VIN, 15, 0⟩
/-- `PWR_VINMIN`, R82. -/
abbrev R.PWR_VINMIN : Nat := 0x2000010104
/-- `PWR_VINMIN.min` (RO), R82. -/
abbrev F.PWR_VINMIN_min : Fld := ⟨R.PWR_VINMIN, 15, 0⟩
/-- `PWR_TEMP`, R82. -/
abbrev R.PWR_TEMP : Nat := 0x2000010108
/-- `PWR_TEMP.tplate` (RO), R82. -/
abbrev F.PWR_TEMP_tplate : Fld := ⟨R.PWR_TEMP, 31, 16⟩
/-- `PWR_TEMP.tj` (RO), R82. -/
abbrev F.PWR_TEMP_tj : Fld := ⟨R.PWR_TEMP, 15, 0⟩
/-- `PWR_HOLDUP`, R82. -/
abbrev R.PWR_HOLDUP : Nat := 0x200001010C
/-- `PWR_HOLDUP.varray` (RO), R82. -/
abbrev F.PWR_HOLDUP_varray : Fld := ⟨R.PWR_HOLDUP, 31, 16⟩
/-- `PWR_HOLDUP.cap` (RO), R82. -/
abbrev F.PWR_HOLDUP_cap : Fld := ⟨R.PWR_HOLDUP, 15, 0⟩
/-- `PWR_DIPCNT`, R82. -/
abbrev R.PWR_DIPCNT : Nat := 0x2000010110
/-- `PWR_DIPCNT.count` (RO), R82. -/
abbrev F.PWR_DIPCNT_count : Fld := ⟨R.PWR_DIPCNT, 31, 0⟩
/-- `PWR_DIPDEPTH`, R82. -/
abbrev R.PWR_DIPDEPTH : Nat := 0x2000010114
/-- `PWR_DIPDEPTH.depth` (RO), R82. -/
abbrev F.PWR_DIPDEPTH_depth : Fld := ⟨R.PWR_DIPDEPTH, 15, 0⟩
/-- `PWR_DIPDUR`, R82. -/
abbrev R.PWR_DIPDUR : Nat := 0x2000010118
/-- `PWR_DIPDUR.us` (RO), R82. -/
abbrev F.PWR_DIPDUR_us : Fld := ⟨R.PWR_DIPDUR, 31, 0⟩
/-- `PWR_DIPSEC`, R82. -/
abbrev R.PWR_DIPSEC : Nat := 0x200001011C
/-- `PWR_DIPSEC.sec` (RO), R82. -/
abbrev F.PWR_DIPSEC_sec : Fld := ⟨R.PWR_DIPSEC, 31, 0⟩
/-- `PWR_DIPNS`, R82. -/
abbrev R.PWR_DIPNS : Nat := 0x2000010120
/-- `PWR_DIPNS.ns` (RO), R82. -/
abbrev F.PWR_DIPNS_ns : Fld := ⟨R.PWR_DIPNS, 31, 0⟩
/-- `PWR_LIFE`, R82. -/
abbrev R.PWR_LIFE : Nat := 0x2000010124
/-- `PWR_LIFE.hours` (RO), R82. -/
abbrev F.PWR_LIFE_hours : Fld := ⟨R.PWR_LIFE, 31, 0⟩
/-- `PWR_AGEMON`, R82. -/
abbrev R.PWR_AGEMON : Nat := 0x2000010128
/-- `PWR_AGEMON.limit` (RO), R82. -/
abbrev F.PWR_AGEMON_limit : Fld := ⟨R.PWR_AGEMON, 31, 16⟩
/-- `PWR_AGEMON.ratio` (RO), R82. -/
abbrev F.PWR_AGEMON_ratio : Fld := ⟨R.PWR_AGEMON, 15, 0⟩
/-- `PWR_WARN`, R83. -/
abbrev R.PWR_WARN : Nat := 0x2000011000
/-- `PWR_WARN.hyst` (RW (shadow)), R83. -/
abbrev F.PWR_WARN_hyst : Fld := ⟨R.PWR_WARN, 31, 16⟩
/-- `PWR_WARN.level` (RW (shadow)), R83. -/
abbrev F.PWR_WARN_level : Fld := ⟨R.PWR_WARN, 15, 0⟩
/-- `PWR_TALLYCTL`, R96. -/
abbrev R.PWR_TALLYCTL : Nat := 0x2000010130
/-- `PWR_TALLYCTL.vset` (RW), R96. -/
abbrev F.PWR_TALLYCTL_vset : Fld := ⟨R.PWR_TALLYCTL, 27, 16⟩
/-- `PWR_TALLYCTL.mode` (RW), R96. -/
abbrev F.PWR_TALLYCTL_mode : Fld := ⟨R.PWR_TALLYCTL, 0, 0⟩
/-- `PWR_TALLYSTAT`, R97. -/
abbrev R.PWR_TALLYSTAT : Nat := 0x2000010134
/-- `PWR_TALLYSTAT.vcore` (RO), R97. -/
abbrev F.PWR_TALLYSTAT_vcore : Fld := ⟨R.PWR_TALLYSTAT, 27, 16⟩
/-- `PWR_TALLYSTAT.holdleft` (RO), R97. -/
abbrev F.PWR_TALLYSTAT_holdleft : Fld := ⟨R.PWR_TALLYSTAT, 15, 8⟩
/-- `PWR_TALLYSTAT.jumped` (W1C), R97. -/
abbrev F.PWR_TALLYSTAT_jumped : Fld := ⟨R.PWR_TALLYSTAT, 2, 2⟩
/-- `PWR_TALLYSTAT.atmax` (W1C), R97. -/
abbrev F.PWR_TALLYSTAT_atmax : Fld := ⟨R.PWR_TALLYSTAT, 1, 1⟩
/-- `PWR_TALLYSTAT.active` (RO), R97. -/
abbrev F.PWR_TALLYSTAT_active : Fld := ⟨R.PWR_TALLYSTAT, 0, 0⟩
/-- `PWR_TALLYSPD`, R98. -/
abbrev R.PWR_TALLYSPD : Nat := 0x2000010138
/-- `PWR_TALLYSPD.min` (RO), R98. -/
abbrev F.PWR_TALLYSPD_min : Fld := ⟨R.PWR_TALLYSPD, 31, 16⟩
/-- `PWR_TALLYSPD.mean` (RO), R98. -/
abbrev F.PWR_TALLYSPD_mean : Fld := ⟨R.PWR_TALLYSPD, 15, 0⟩
/-- `PWR_TALLYHL`, R98. -/
abbrev R.PWR_TALLYHL : Nat := 0x200001013C
/-- `PWR_TALLYHL.h` (RO), R98. -/
abbrev F.PWR_TALLYHL_h : Fld := ⟨R.PWR_TALLYHL, 31, 0⟩
/-- `PWR_TALLY`, R99. -/
abbrev R.PWR_TALLY : Nat := 0x2000011004
/-- `PWR_TALLY.band` (RW (shadow)), R99. -/
abbrev F.PWR_TALLY_band : Fld := ⟨R.PWR_TALLY, 31, 16⟩
/-- `PWR_TALLY.target` (RW (shadow)), R99. -/
abbrev F.PWR_TALLY_target : Fld := ⟨R.PWR_TALLY, 15, 0⟩
/-- `PWR_TALLYCFG`, R100. -/
abbrev R.PWR_TALLYCFG : Nat := 0x2000011008
/-- `PWR_TALLYCFG.vmax` (RW (shadow)), R100. -/
abbrev F.PWR_TALLYCFG_vmax : Fld := ⟨R.PWR_TALLYCFG, 29, 20⟩
/-- `PWR_TALLYCFG.vmin` (RW (shadow)), R100. -/
abbrev F.PWR_TALLYCFG_vmin : Fld := ⟨R.PWR_TALLYCFG, 19, 10⟩
/-- `PWR_TALLYCFG.step` (RW (shadow)), R100. -/
abbrev F.PWR_TALLYCFG_step : Fld := ⟨R.PWR_TALLYCFG, 9, 5⟩
/-- `PWR_TALLYPER`, R101. -/
abbrev R.PWR_TALLYPER : Nat := 0x200001100C
/-- `PWR_TALLYPER.period` (RW (shadow)), R101. -/
abbrev F.PWR_TALLYPER_period : Fld := ⟨R.PWR_TALLYPER, 6, 0⟩
/-- `SYS_CAP`, R138. -/
abbrev R.SYS_CAP : Nat := 0x2000000004
/-- `SYS_CAP.step` (RO), R138. -/
abbrev F.SYS_CAP_step : Fld := ⟨R.SYS_CAP, 15, 8⟩
/-- `SYS_CAP.opt_s` (RO), R138. -/
abbrev F.SYS_CAP_opt_s : Fld := ⟨R.SYS_CAP, 6, 6⟩
/-- `SYS_CAP.opt_a` (RO), R138. -/
abbrev F.SYS_CAP_opt_a : Fld := ⟨R.SYS_CAP, 5, 5⟩
/-- `SYS_CAP.opt_m` (RO), R138. -/
abbrev F.SYS_CAP_opt_m : Fld := ⟨R.SYS_CAP, 4, 4⟩
/-- `SYS_CAP.portq` (RO), R138. -/
abbrev F.SYS_CAP_portq : Fld := ⟨R.SYS_CAP, 1, 1⟩
/-- `SYS_CAP.ddr32` (RO), R138. -/
abbrev F.SYS_CAP_ddr32 : Fld := ⟨R.SYS_CAP, 0, 0⟩
/-- `SYS_STAT`, R139. -/
abbrev R.SYS_STAT : Nat := 0x200000000C
/-- `SYS_STAT.lcs` (RO), R139. -/
abbrev F.SYS_STAT_lcs : Fld := ⟨R.SYS_STAT, 7, 4⟩
/-- `SYS_STAT.dbg` (RO), R139. -/
abbrev F.SYS_STAT_dbg : Fld := ⟨R.SYS_STAT, 3, 3⟩
/-- `SYS_STAT.service` (RO), R139. -/
abbrev F.SYS_STAT_service : Fld := ⟨R.SYS_STAT, 2, 1⟩
/-- `SYS_STAT.logdead` (RO), R139. -/
abbrev F.SYS_STAT_logdead : Fld := ⟨R.SYS_STAT, 0, 0⟩
/-- `SYS_EVT`, R139. -/
abbrev R.SYS_EVT : Nat := 0x2000000010
/-- `SYS_EVT.lcs` (W1C), R139. -/
abbrev F.SYS_EVT_lcs : Fld := ⟨R.SYS_EVT, 1, 1⟩
/-- `SYS_EVT.service` (W1C), R139. -/
abbrev F.SYS_EVT_service : Fld := ⟨R.SYS_EVT, 0, 0⟩
/-- `ACT_FLTADDR_LO`, R140. -/
abbrev R.ACT_FLTADDR_LO : Nat := 0x2000060100
/-- `ACT_FLTADDR_LO.addr` (RO), R140. -/
abbrev F.ACT_FLTADDR_LO_addr : Fld := ⟨R.ACT_FLTADDR_LO, 31, 0⟩
/-- `ACT_FLTADDR_HI`, R140. -/
abbrev R.ACT_FLTADDR_HI : Nat := 0x2000060104
/-- `ACT_FLTADDR_HI.addr` (RO), R140. -/
abbrev F.ACT_FLTADDR_HI_addr : Fld := ⟨R.ACT_FLTADDR_HI, 7, 0⟩
/-- `ACT_FLTINFO`, R140. -/
abbrev R.ACT_FLTINFO : Nat := 0x2000060108
/-- `ACT_FLTINFO.valid` (RO), R140. -/
abbrev F.ACT_FLTINFO_valid : Fld := ⟨R.ACT_FLTINFO, 31, 31⟩
/-- `ACT_FLTINFO.kind` (RO), R140. -/
abbrev F.ACT_FLTINFO_kind : Fld := ⟨R.ACT_FLTINFO, 30, 28⟩
/-- `ACT_FLTINFO.region` (RO), R140. -/
abbrev F.ACT_FLTINFO_region : Fld := ⟨R.ACT_FLTINFO, 27, 24⟩
/-- `ACT_FLTINFO.op` (RO), R140. -/
abbrev F.ACT_FLTINFO_op : Fld := ⟨R.ACT_FLTINFO, 23, 20⟩
/-- `ACT_FLTINFO.target` (RO), R140. -/
abbrev F.ACT_FLTINFO_target : Fld := ⟨R.ACT_FLTINFO, 19, 12⟩
/-- `ACT_FLTINFO.rqid` (RO), R140. -/
abbrev F.ACT_FLTINFO_rqid : Fld := ⟨R.ACT_FLTINFO, 9, 0⟩
/-- `ACT_FLTTIME`, R140. -/
abbrev R.ACT_FLTTIME : Nat := 0x200006010C
/-- `ACT_FLTTIME.t` (RO), R140. -/
abbrev F.ACT_FLTTIME_t : Fld := ⟨R.ACT_FLTTIME, 31, 0⟩
/-- `ACT_FLTOVF`, R140. -/
abbrev R.ACT_FLTOVF : Nat := 0x2000060110
/-- `ACT_FLTOVF.count` (RO), R140. -/
abbrev F.ACT_FLTOVF_count : Fld := ⟨R.ACT_FLTOVF, 31, 0⟩
/-- `ACT_QRQID`, R140. -/
abbrev R.ACT_QRQID : Nat := 0x2000060114
/-- `ACT_QRQID.rqid` (RW), R140. -/
abbrev F.ACT_QRQID_rqid : Fld := ⟨R.ACT_QRQID, 9, 0⟩
/-- `ACT_QADDR_LO`, R140. -/
abbrev R.ACT_QADDR_LO : Nat := 0x2000060118
/-- `ACT_QADDR_LO.addr` (RW), R140. -/
abbrev F.ACT_QADDR_LO_addr : Fld := ⟨R.ACT_QADDR_LO, 31, 0⟩
/-- `ACT_QADDR_HI`, R140. -/
abbrev R.ACT_QADDR_HI : Nat := 0x200006011C
/-- `ACT_QADDR_HI.addr` (RW), R140. -/
abbrev F.ACT_QADDR_HI_addr : Fld := ⟨R.ACT_QADDR_HI, 7, 0⟩
/-- `ACT_QRES`, R140. -/
abbrev R.ACT_QRES : Nat := 0x2000060120
/-- `ACT_QRES.result` (RO), R140. -/
abbrev F.ACT_QRES_result : Fld := ⟨R.ACT_QRES, 31, 30⟩
/-- `ACT_QRES.target` (RO), R140. -/
abbrev F.ACT_QRES_target : Fld := ⟨R.ACT_QRES, 27, 20⟩
/-- `ACT_QRES.region` (RO), R140. -/
abbrev F.ACT_QRES_region : Fld := ⟨R.ACT_QRES, 19, 16⟩
/-- `ACT_QRES.perm` (RO), R140. -/
abbrev F.ACT_QRES_perm : Fld := ⟨R.ACT_QRES, 3, 0⟩
/-- `EVR_MQ0`, R142. -/
abbrev R.EVR_MQ0 : Nat := 0x2000070100
/-- `EVR_MQ0.t` (RO), R142. -/
abbrev F.EVR_MQ0_t : Fld := ⟨R.EVR_MQ0, 31, 0⟩
/-- `EVR_MQ1`, R142. -/
abbrev R.EVR_MQ1 : Nat := 0x2000070104
/-- `EVR_MQ1.valid` (RO), R142. -/
abbrev F.EVR_MQ1_valid : Fld := ⟨R.EVR_MQ1, 31, 31⟩
/-- `EVR_MQ1.prio` (RO), R142. -/
abbrev F.EVR_MQ1_prio : Fld := ⟨R.EVR_MQ1, 30, 28⟩
/-- `EVR_MQ1.ev` (RO), R142. -/
abbrev F.EVR_MQ1_ev : Fld := ⟨R.EVR_MQ1, 9, 0⟩
/-- `EVR_SQ0`, R142. -/
abbrev R.EVR_SQ0 : Nat := 0x2000070108
/-- `EVR_SQ0.t` (RO), R142. -/
abbrev F.EVR_SQ0_t : Fld := ⟨R.EVR_SQ0, 31, 0⟩
/-- `EVR_SQ1`, R142. -/
abbrev R.EVR_SQ1 : Nat := 0x200007010C
/-- `EVR_SQ1.v` (RO), R142. -/
abbrev F.EVR_SQ1_v : Fld := ⟨R.EVR_SQ1, 31, 0⟩
/-- `EVR_MQOVF`, R142. -/
abbrev R.EVR_MQOVF : Nat := 0x2000070110
/-- `EVR_MQOVF.count` (RO), R142. -/
abbrev F.EVR_MQOVF_count : Fld := ⟨R.EVR_MQOVF, 31, 0⟩
/-- `EVR_SQOVF`, R142. -/
abbrev R.EVR_SQOVF : Nat := 0x2000070114
/-- `EVR_SQOVF.count` (RO), R142. -/
abbrev F.EVR_SQOVF_count : Fld := ⟨R.EVR_SQOVF, 31, 0⟩
/-- `EVR_DROPCNT`, R142. -/
abbrev R.EVR_DROPCNT : Nat := 0x2000070118
/-- `EVR_DROPCNT.count` (RO), R142. -/
abbrev F.EVR_DROPCNT_count : Fld := ⟨R.EVR_DROPCNT, 31, 0⟩
/-- `EVR_STAT`, R143. -/
abbrev R.EVR_STAT : Nat := 0x200007000C
/-- `EVR_STAT.sqovf` (RO), R143. -/
abbrev F.EVR_STAT_sqovf : Fld := ⟨R.EVR_STAT, 17, 17⟩
/-- `EVR_STAT.mqovf` (RO), R143. -/
abbrev F.EVR_STAT_mqovf : Fld := ⟨R.EVR_STAT, 16, 16⟩
/-- `EVR_STAT.sqocc` (RO), R143. -/
abbrev F.EVR_STAT_sqocc : Fld := ⟨R.EVR_STAT, 15, 9⟩
/-- `EVR_STAT.mqocc` (RO), R143. -/
abbrev F.EVR_STAT_mqocc : Fld := ⟨R.EVR_STAT, 8, 0⟩
/-- `EVR_I_PEND0`, R144. -/
abbrev R.EVR_I_PEND0 (n : Nat) : Nat := sp n 0x7 0x100
/-- `EVR_I_PEND0.v` (W1C), R144. -/
abbrev F.EVR_I_PEND0_v (n : Nat) : Fld := ⟨R.EVR_I_PEND0 n, 31, 0⟩
/-- `EVR_I_PEND1`, R144. -/
abbrev R.EVR_I_PEND1 (n : Nat) : Nat := sp n 0x7 0x104
/-- `EVR_I_PEND1.v` (W1C), R144. -/
abbrev F.EVR_I_PEND1_v (n : Nat) : Fld := ⟨R.EVR_I_PEND1 n, 31, 0⟩
/-- `EVR_I_MASK0`, R144. -/
abbrev R.EVR_I_MASK0 (n : Nat) : Nat := sp n 0x7 0x108
/-- `EVR_I_MASK0.v` (RW), R144. -/
abbrev F.EVR_I_MASK0_v (n : Nat) : Fld := ⟨R.EVR_I_MASK0 n, 31, 0⟩
/-- `EVR_I_MASK1`, R144. -/
abbrev R.EVR_I_MASK1 (n : Nat) : Nat := sp n 0x7 0x10C
/-- `EVR_I_MASK1.v` (RW), R144. -/
abbrev F.EVR_I_MASK1_v (n : Nat) : Fld := ⟨R.EVR_I_MASK1 n, 31, 0⟩
/-- `EVR_I_TOP`, R144. -/
abbrev R.EVR_I_TOP (n : Nat) : Nat := sp n 0x7 0x110
/-- `EVR_I_TOP.valid` (RO), R144. -/
abbrev F.EVR_I_TOP_valid (n : Nat) : Fld := ⟨R.EVR_I_TOP n, 31, 31⟩
/-- `EVR_I_TOP.vec` (RO), R144. -/
abbrev F.EVR_I_TOP_vec (n : Nat) : Fld := ⟨R.EVR_I_TOP n, 5, 0⟩
/-- `EVR_I_SRC`, R144. -/
abbrev R.EVR_I_SRC (n i : Nat) : Nat := sp n 0x7 0x200 + 4 * i
/-- `EVR_I_SRC.ev` (RO), R144. -/
abbrev F.EVR_I_SRC_ev (n i : Nat) : Fld := ⟨R.EVR_I_SRC n i, 9, 0⟩
/-- `BNK_STAT`, R146. -/
abbrev R.BNK_STAT : Nat := 0x200008000C
/-- `BNK_STAT.swaps` (RO), R146. -/
abbrev F.BNK_STAT_swaps : Fld := ⟨R.BNK_STAT, 31, 16⟩
/-- `BNK_STAT.agreed` (RO), R146. -/
abbrev F.BNK_STAT_agreed : Fld := ⟨R.BNK_STAT, 3, 3⟩
/-- `BNK_STAT.atidx` (RO), R146. -/
abbrev F.BNK_STAT_atidx : Fld := ⟨R.BNK_STAT, 2, 2⟩
/-- `BNK_STAT.copying` (RO), R146. -/
abbrev F.BNK_STAT_copying : Fld := ⟨R.BNK_STAT, 1, 1⟩
/-- `BNK_STAT.pending` (RO), R146. -/
abbrev F.BNK_STAT_pending : Fld := ⟨R.BNK_STAT, 0, 0⟩
/-- `BNK_SWAPIDX_LO`, R146. -/
abbrev R.BNK_SWAPIDX_LO : Nat := 0x2000080100
/-- `BNK_SWAPIDX_LO.idx` (RW), R146. -/
abbrev F.BNK_SWAPIDX_LO_idx : Fld := ⟨R.BNK_SWAPIDX_LO, 31, 0⟩
/-- `BNK_SWAPIDX_HI`, R146. -/
abbrev R.BNK_SWAPIDX_HI : Nat := 0x2000080104
/-- `BNK_SWAPIDX_HI.idx` (RW), R146. -/
abbrev F.BNK_SWAPIDX_HI_idx : Fld := ⟨R.BNK_SWAPIDX_HI, 31, 0⟩
/-- `BNK_CURIDX_LO`, R146. -/
abbrev R.BNK_CURIDX_LO : Nat := 0x2000080108
/-- `BNK_CURIDX_LO.idx` (RO), R146. -/
abbrev F.BNK_CURIDX_LO_idx : Fld := ⟨R.BNK_CURIDX_LO, 31, 0⟩
/-- `BNK_CURIDX_HI`, R146. -/
abbrev R.BNK_CURIDX_HI : Nat := 0x200008010C
/-- `BNK_CURIDX_HI.idx` (RO), R146. -/
abbrev F.BNK_CURIDX_HI_idx : Fld := ⟨R.BNK_CURIDX_HI, 31, 0⟩
/-- `BNK_LASTIDX_LO`, R146. -/
abbrev R.BNK_LASTIDX_LO : Nat := 0x2000080110
/-- `BNK_LASTIDX_LO.idx` (RO), R146. -/
abbrev F.BNK_LASTIDX_LO_idx : Fld := ⟨R.BNK_LASTIDX_LO, 31, 0⟩
/-- `BNK_LASTIDX_HI`, R146. -/
abbrev R.BNK_LASTIDX_HI : Nat := 0x2000080114
/-- `BNK_LASTIDX_HI.idx` (RO), R146. -/
abbrev F.BNK_LASTIDX_HI_idx : Fld := ⟨R.BNK_LASTIDX_HI, 31, 0⟩
/-- `BNK_REFUSER`, R146. -/
abbrev R.BNK_REFUSER : Nat := 0x2000080118
/-- `BNK_REFUSER.valid` (RO), R146. -/
abbrev F.BNK_REFUSER_valid : Fld := ⟨R.BNK_REFUSER, 31, 31⟩
/-- `BNK_REFUSER.code` (RO), R146. -/
abbrev F.BNK_REFUSER_code : Fld := ⟨R.BNK_REFUSER, 15, 8⟩
/-- `BNK_REFUSER.page` (RO), R146. -/
abbrev F.BNK_REFUSER_page : Fld := ⟨R.BNK_REFUSER, 7, 0⟩
/-- `BNK_I_CMD`, R147. -/
abbrev R.BNK_I_CMD (n : Nat) : Nat := sp n 0x8 0x100
/-- `BNK_I_CMD.code` (WO), R147. -/
abbrev F.BNK_I_CMD_code (n : Nat) : Fld := ⟨R.BNK_I_CMD n, 7, 0⟩
/-- `BNK_I_CMDSTAT`, R147. -/
abbrev R.BNK_I_CMDSTAT (n : Nat) : Nat := sp n 0x8 0x104
/-- `BNK_I_CMDSTAT.v` (RO), R147. -/
abbrev F.BNK_I_CMDSTAT_v (n : Nat) : Fld := ⟨R.BNK_I_CMDSTAT n, 31, 0⟩
/-- `BNK_I_STAT`, R147. -/
abbrev R.BNK_I_STAT (n : Nat) : Nat := sp n 0x8 0x108
/-- `BNK_I_STAT.swaps` (RO), R147. -/
abbrev F.BNK_I_STAT_swaps (n : Nat) : Fld := ⟨R.BNK_I_STAT n, 31, 16⟩
/-- `BNK_I_STAT.pending` (RO), R147. -/
abbrev F.BNK_I_STAT_pending (n : Nat) : Fld := ⟨R.BNK_I_STAT n, 0, 0⟩
/-- `MEM_FLTADDR_LO`, R148. -/
abbrev R.MEM_FLTADDR_LO : Nat := 0x2000420100
/-- `MEM_FLTADDR_LO.addr` (RO), R148. -/
abbrev F.MEM_FLTADDR_LO_addr : Fld := ⟨R.MEM_FLTADDR_LO, 31, 0⟩
/-- `MEM_FLTADDR_HI`, R148. -/
abbrev R.MEM_FLTADDR_HI : Nat := 0x2000420104
/-- `MEM_FLTADDR_HI.addr` (RO), R148. -/
abbrev F.MEM_FLTADDR_HI_addr : Fld := ⟨R.MEM_FLTADDR_HI, 7, 0⟩
/-- `MEM_FLTINFO`, R148. -/
abbrev R.MEM_FLTINFO : Nat := 0x2000420108
/-- `MEM_FLTINFO.valid` (RO), R148. -/
abbrev F.MEM_FLTINFO_valid : Fld := ⟨R.MEM_FLTINFO, 31, 31⟩
/-- `MEM_FLTINFO.kind` (RO), R148. -/
abbrev F.MEM_FLTINFO_kind : Fld := ⟨R.MEM_FLTINFO, 30, 28⟩
/-- `MEM_FLTINFO.mem` (RO), R148. -/
abbrev F.MEM_FLTINFO_mem : Fld := ⟨R.MEM_FLTINFO, 27, 26⟩
/-- `MEM_FLTINFO.op` (RO), R148. -/
abbrev F.MEM_FLTINFO_op : Fld := ⟨R.MEM_FLTINFO, 15, 12⟩
/-- `MEM_FLTINFO.rqid` (RO), R148. -/
abbrev F.MEM_FLTINFO_rqid : Fld := ⟨R.MEM_FLTINFO, 9, 0⟩
/-- `MEM_FLTTIME`, R148. -/
abbrev R.MEM_FLTTIME : Nat := 0x200042010C
/-- `MEM_FLTTIME.t` (RO), R148. -/
abbrev F.MEM_FLTTIME_t : Fld := ⟨R.MEM_FLTTIME, 31, 0⟩
/-- `MEM_FLTOVF`, R148. -/
abbrev R.MEM_FLTOVF : Nat := 0x2000420110
/-- `MEM_FLTOVF.count` (RO), R148. -/
abbrev F.MEM_FLTOVF_count : Fld := ⟨R.MEM_FLTOVF, 31, 0⟩
/-- `MEM_CESRAM`, R148. -/
abbrev R.MEM_CESRAM : Nat := 0x2000420114
/-- `MEM_CESRAM.count` (RO), R148. -/
abbrev F.MEM_CESRAM_count : Fld := ⟨R.MEM_CESRAM, 31, 0⟩
/-- `MEM_CEDDR`, R148. -/
abbrev R.MEM_CEDDR : Nat := 0x2000420118
/-- `MEM_CEDDR.count` (RO), R148. -/
abbrev F.MEM_CEDDR_count : Fld := ⟨R.MEM_CEDDR, 31, 0⟩
/-- `MEM_CEMRAM`, R148. -/
abbrev R.MEM_CEMRAM : Nat := 0x200042011C
/-- `MEM_CEMRAM.count` (RO), R148. -/
abbrev F.MEM_CEMRAM_count : Fld := ⟨R.MEM_CEMRAM, 31, 0⟩
/-- `MEM_DEVMARK`, R148. -/
abbrev R.MEM_DEVMARK : Nat := 0x2000420120
/-- `MEM_DEVMARK.marked` (RO), R148. -/
abbrev F.MEM_DEVMARK_marked (q : Nat) : Fld := ⟨R.MEM_DEVMARK, 8 * q + 7, 8 * q + 7⟩
/-- `MEM_DEVMARK.dev` (RO), R148. -/
abbrev F.MEM_DEVMARK_dev (q : Nat) : Fld := ⟨R.MEM_DEVMARK, 8 * q + 3, 8 * q + 0⟩
/-- `MEM_INJADDR_LO`, R148. -/
abbrev R.MEM_INJADDR_LO : Nat := 0x2000420128
/-- `MEM_INJADDR_LO.addr` (RW), R148. -/
abbrev F.MEM_INJADDR_LO_addr : Fld := ⟨R.MEM_INJADDR_LO, 31, 0⟩
/-- `MEM_INJADDR_HI`, R148. -/
abbrev R.MEM_INJADDR_HI : Nat := 0x200042012C
/-- `MEM_INJADDR_HI.addr` (RW), R148. -/
abbrev F.MEM_INJADDR_HI_addr : Fld := ⟨R.MEM_INJADDR_HI, 7, 0⟩
/-- `STL_STAT`, R169. -/
abbrev R.STL_STAT : Nat := 0x200002000C
/-- `STL_STAT.halted` (RO), R169. -/
abbrev F.STL_STAT_halted : Fld := ⟨R.STL_STAT, 25, 25⟩
/-- `STL_STAT.complete` (RO), R169. -/
abbrev F.STL_STAT_complete : Fld := ⟨R.STL_STAT, 24, 24⟩
/-- `STL_STAT.step` (RO), R169. -/
abbrev F.STL_STAT_step : Fld := ⟨R.STL_STAT, 20, 16⟩
/-- `STL_STAT.class` (RO), R169. -/
abbrev F.STL_STAT_class : Fld := ⟨R.STL_STAT, 9, 8⟩
/-- `STL_STAT.cause` (RO), R169. -/
abbrev F.STL_STAT_cause : Fld := ⟨R.STL_STAT, 7, 0⟩
/-- `STL_STARTNO`, R170. -/
abbrev R.STL_STARTNO : Nat := 0x2000020100
/-- `STL_STARTNO.startno` (RO), R170. -/
abbrev F.STL_STARTNO_startno : Fld := ⟨R.STL_STARTNO, 31, 0⟩
/-- `STL_FAILMAP`, R170. -/
abbrev R.STL_FAILMAP : Nat := 0x2000020104
/-- `STL_FAILMAP.failed` (RO), R170. -/
abbrev F.STL_FAILMAP_failed : Fld := ⟨R.STL_FAILMAP, 18, 1⟩
/-- `STL_ALTMAP`, R170. -/
abbrev R.STL_ALTMAP : Nat := 0x2000020108
/-- `STL_ALTMAP.alt` (RO), R170. -/
abbrev F.STL_ALTMAP_alt : Fld := ⟨R.STL_ALTMAP, 18, 1⟩
/-- `STL_SKIPMAP`, R170. -/
abbrev R.STL_SKIPMAP : Nat := 0x200002010C
/-- `STL_SKIPMAP.skip` (RO), R170. -/
abbrev F.STL_SKIPMAP_skip : Fld := ⟨R.STL_SKIPMAP, 18, 1⟩
/-- `STL_TAMPMAP`, R170. -/
abbrev R.STL_TAMPMAP : Nat := 0x2000020110
/-- `STL_TAMPMAP.tamp` (RO), R170. -/
abbrev F.STL_TAMPMAP_tamp : Fld := ⟨R.STL_TAMPMAP, 18, 1⟩
/-- `STL_ELAPSED`, R170. -/
abbrev R.STL_ELAPSED : Nat := 0x2000020114
/-- `STL_ELAPSED.ms` (RO), R170. -/
abbrev F.STL_ELAPSED_ms : Fld := ⟨R.STL_ELAPSED, 31, 0⟩
/-- `HRW_STAT`, R171. -/
abbrev R.HRW_STAT : Nat := 0x200003000C
/-- `HRW_STAT.kind` (RO), R171. -/
abbrev F.HRW_STAT_kind : Fld := ⟨R.HRW_STAT, 2, 1⟩
/-- `HRW_STAT.busy` (RO), R171. -/
abbrev F.HRW_STAT_busy : Fld := ⟨R.HRW_STAT, 0, 0⟩
/-- `HRW_BYTES_LO`, R171. -/
abbrev R.HRW_BYTES_LO : Nat := 0x2000030100
/-- `HRW_BYTES_LO.n` (RO), R171. -/
abbrev F.HRW_BYTES_LO_n : Fld := ⟨R.HRW_BYTES_LO, 31, 0⟩
/-- `HRW_BYTES_HI`, R171. -/
abbrev R.HRW_BYTES_HI : Nat := 0x2000030104
/-- `HRW_BYTES_HI.n` (RO), R171. -/
abbrev F.HRW_BYTES_HI_n : Fld := ⟨R.HRW_BYTES_HI, 31, 0⟩
/-- `HRW_DURUS`, R171. -/
abbrev R.HRW_DURUS : Nat := 0x2000030108
/-- `HRW_DURUS.us` (RO), R171. -/
abbrev F.HRW_DURUS_us : Fld := ⟨R.HRW_DURUS, 31, 0⟩
/-- `HRW_ERRCNT`, R171. -/
abbrev R.HRW_ERRCNT : Nat := 0x200003010C
/-- `HRW_ERRCNT.count` (RO), R171. -/
abbrev F.HRW_ERRCNT_count : Fld := ⟨R.HRW_ERRCNT, 31, 0⟩
/-- `HRW_ERRADDR_LO`, R171. -/
abbrev R.HRW_ERRADDR_LO : Nat := 0x2000030110
/-- `HRW_ERRADDR_LO.addr` (RO), R171. -/
abbrev F.HRW_ERRADDR_LO_addr : Fld := ⟨R.HRW_ERRADDR_LO, 31, 0⟩
/-- `HRW_ERRADDR_HI`, R171. -/
abbrev R.HRW_ERRADDR_HI : Nat := 0x2000030114
/-- `HRW_ERRADDR_HI.addr` (RO), R171. -/
abbrev F.HRW_ERRADDR_HI_addr : Fld := ⟨R.HRW_ERRADDR_HI, 7, 0⟩
/-- `SYS_CTL`, R172. -/
abbrev R.SYS_CTL : Nat := 0x2000000008
/-- `SYS_CTL.autowarm` (RW), R172. -/
abbrev F.SYS_CTL_autowarm : Fld := ⟨R.SYS_CTL, 1, 1⟩
/-- `SYS_CTL.wden` (RW), R172. -/
abbrev F.SYS_CTL_wden : Fld := ⟨R.SYS_CTL, 0, 0⟩
/-- `SYS_RSTCAUSE`, R174. -/
abbrev R.SYS_RSTCAUSE : Nat := 0x2000000100
/-- `SYS_RSTCAUSE.origcause` (RO), R174. -/
abbrev F.SYS_RSTCAUSE_origcause : Fld := ⟨R.SYS_RSTCAUSE, 31, 24⟩
/-- `SYS_RSTCAUSE.prevstep` (RO), R174. -/
abbrev F.SYS_RSTCAUSE_prevstep : Fld := ⟨R.SYS_RSTCAUSE, 20, 16⟩
/-- `SYS_RSTCAUSE.class` (RO), R174. -/
abbrev F.SYS_RSTCAUSE_class : Fld := ⟨R.SYS_RSTCAUSE, 9, 8⟩
/-- `SYS_RSTCAUSE.cause` (RO), R174. -/
abbrev F.SYS_RSTCAUSE_cause : Fld := ⟨R.SYS_RSTCAUSE, 7, 0⟩
/-- `SYS_WDOG`, R174. -/
abbrev R.SYS_WDOG : Nat := 0x2000000104
/-- `SYS_WDOG.period` (RW), R174. -/
abbrev F.SYS_WDOG_period : Fld := ⟨R.SYS_WDOG, 13, 0⟩
/-- `SYS_WDOGKICK`, R174. -/
abbrev R.SYS_WDOGKICK : Nat := 0x2000000108
/-- `SYS_WDOGKICK.any` (WO), R174. -/
abbrev F.SYS_WDOGKICK_any : Fld := ⟨R.SYS_WDOGKICK, 31, 0⟩
/-- `SYS_WAKESEC`, R174. -/
abbrev R.SYS_WAKESEC : Nat := 0x200000010C
/-- `SYS_WAKESEC.sec` (RW), R174. -/
abbrev F.SYS_WAKESEC_sec : Fld := ⟨R.SYS_WAKESEC, 31, 0⟩
/-- `KEY_CAP`, R205. -/
abbrev R.KEY_CAP : Nat := 0x2000040004
/-- `KEY_CAP.anchors` (RO), R205. -/
abbrev F.KEY_CAP_anchors : Fld := ⟨R.KEY_CAP, 27, 24⟩
/-- `KEY_CAP.persist` (RO), R205. -/
abbrev F.KEY_CAP_persist : Fld := ⟨R.KEY_CAP, 23, 16⟩
/-- `KEY_CAP.leaves` (RO), R205. -/
abbrev F.KEY_CAP_leaves : Fld := ⟨R.KEY_CAP, 11, 0⟩
/-- `KEY_CTL`, R205. -/
abbrev R.KEY_CTL : Nat := 0x2000040008
/-- `KEY_CTL.rxgrace` (RW), R205. -/
abbrev F.KEY_CTL_rxgrace : Fld := ⟨R.KEY_CTL, 0, 0⟩
/-- `KEY_STAT`, R206. -/
abbrev R.KEY_STAT : Nat := 0x200004000C
/-- `KEY_STAT.svc` (RO), R206. -/
abbrev F.KEY_STAT_svc : Fld := ⟨R.KEY_STAT, 22, 22⟩
/-- `KEY_STAT.fleet` (RO), R206. -/
abbrev F.KEY_STAT_fleet : Fld := ⟨R.KEY_STAT, 21, 21⟩
/-- `KEY_STAT.device` (RO), R206. -/
abbrev F.KEY_STAT_device : Fld := ⟨R.KEY_STAT, 20, 20⟩
/-- `KEY_STAT.test` (RO), R206. -/
abbrev F.KEY_STAT_test : Fld := ⟨R.KEY_STAT, 16, 16⟩
/-- `KEY_STAT.rngok` (RO), R206. -/
abbrev F.KEY_STAT_rngok : Fld := ⟨R.KEY_STAT, 15, 15⟩
/-- `KEY_STAT.held` (RO), R206. -/
abbrev F.KEY_STAT_held : Fld := ⟨R.KEY_STAT, 14, 14⟩
/-- `KEY_STAT.step` (RO), R206. -/
abbrev F.KEY_STAT_step : Fld := ⟨R.KEY_STAT, 11, 8⟩
/-- `KEY_STAT.op` (RO), R206. -/
abbrev F.KEY_STAT_op : Fld := ⟨R.KEY_STAT, 7, 0⟩
/-- `KEY_EVT`, R207. -/
abbrev R.KEY_EVT : Nat := 0x2000040010
/-- `KEY_EVT.tampered` (W1C), R207. -/
abbrev F.KEY_EVT_tampered : Fld := ⟨R.KEY_EVT, 8, 8⟩
/-- `KEY_EVT.cellbad` (W1C), R207. -/
abbrev F.KEY_EVT_cellbad : Fld := ⟨R.KEY_EVT, 7, 7⟩
/-- `KEY_EVT.leafexp` (W1C), R207. -/
abbrev F.KEY_EVT_leafexp : Fld := ⟨R.KEY_EVT, 6, 6⟩
/-- `KEY_EVT.rngfail` (W1C), R207. -/
abbrev F.KEY_EVT_rngfail : Fld := ⟨R.KEY_EVT, 5, 5⟩
/-- `KEY_EVT.sigfail` (W1C), R207. -/
abbrev F.KEY_EVT_sigfail : Fld := ⟨R.KEY_EVT, 4, 4⟩
/-- `KEY_EVT.replay` (W1C), R207. -/
abbrev F.KEY_EVT_replay : Fld := ⟨R.KEY_EVT, 3, 3⟩
/-- `KEY_EVT.recover` (W1C), R207. -/
abbrev F.KEY_EVT_recover : Fld := ⟨R.KEY_EVT, 2, 2⟩
/-- `KEY_EVT.commit` (W1C), R207. -/
abbrev F.KEY_EVT_commit : Fld := ⟨R.KEY_EVT, 1, 1⟩
/-- `KEY_EVT.done` (W1C), R207. -/
abbrev F.KEY_EVT_done : Fld := ⟨R.KEY_EVT, 0, 0⟩
/-- `KEY_ERR`, R207. -/
abbrev R.KEY_ERR : Nat := 0x2000040018
/-- `KEY_ERR.selftest` (W1C), R207. -/
abbrev F.KEY_ERR_selftest : Fld := ⟨R.KEY_ERR, 2, 2⟩
/-- `KEY_ERR.cellbad` (W1C), R207. -/
abbrev F.KEY_ERR_cellbad : Fld := ⟨R.KEY_ERR, 1, 1⟩
/-- `KEY_ERR.rng` (W1C), R207. -/
abbrev F.KEY_ERR_rng : Fld := ⟨R.KEY_ERR, 0, 0⟩
/-- `KEY_ERRINFO`, R207. -/
abbrev R.KEY_ERRINFO : Nat := 0x200004001C
/-- `KEY_ERRINFO.bit` (RO), R207. -/
abbrev F.KEY_ERRINFO_bit : Fld := ⟨R.KEY_ERRINFO, 31, 24⟩
/-- `KEY_ERRINFO.cell` (RO), R207. -/
abbrev F.KEY_ERRINFO_cell : Fld := ⟨R.KEY_ERRINFO, 6, 0⟩
/-- `KEY_REQADDR_LO`, R208. -/
abbrev R.KEY_REQADDR_LO : Nat := 0x2000040100
/-- `KEY_REQADDR_LO.addr` (RW), R208. -/
abbrev F.KEY_REQADDR_LO_addr : Fld := ⟨R.KEY_REQADDR_LO, 31, 0⟩
/-- `KEY_REQADDR_HI`, R208. -/
abbrev R.KEY_REQADDR_HI : Nat := 0x2000040104
/-- `KEY_REQADDR_HI.addr` (RW), R208. -/
abbrev F.KEY_REQADDR_HI_addr : Fld := ⟨R.KEY_REQADDR_HI, 7, 0⟩
/-- `KEY_REQLEN`, R208. -/
abbrev R.KEY_REQLEN : Nat := 0x2000040108
/-- `KEY_REQLEN.len` (RW), R208. -/
abbrev F.KEY_REQLEN_len : Fld := ⟨R.KEY_REQLEN, 15, 0⟩
/-- `KEY_RSPADDR_LO`, R208. -/
abbrev R.KEY_RSPADDR_LO : Nat := 0x200004010C
/-- `KEY_RSPADDR_LO.addr` (RW), R208. -/
abbrev F.KEY_RSPADDR_LO_addr : Fld := ⟨R.KEY_RSPADDR_LO, 31, 0⟩
/-- `KEY_RSPADDR_HI`, R208. -/
abbrev R.KEY_RSPADDR_HI : Nat := 0x2000040110
/-- `KEY_RSPADDR_HI.addr` (RW), R208. -/
abbrev F.KEY_RSPADDR_HI_addr : Fld := ⟨R.KEY_RSPADDR_HI, 7, 0⟩
/-- `KEY_RSPLEN`, R208. -/
abbrev R.KEY_RSPLEN : Nat := 0x2000040114
/-- `KEY_RSPLEN.len` (RW), R208. -/
abbrev F.KEY_RSPLEN_len : Fld := ⟨R.KEY_RSPLEN, 15, 0⟩
/-- `KEY_RESULT`, R208. -/
abbrev R.KEY_RESULT : Nat := 0x2000040118
/-- `KEY_RESULT.reason` (RO), R208. -/
abbrev F.KEY_RESULT_reason : Fld := ⟨R.KEY_RESULT, 31, 24⟩
/-- `KEY_RESULT.len` (RO), R208. -/
abbrev F.KEY_RESULT_len : Fld := ⟨R.KEY_RESULT, 15, 0⟩
/-- `KEY_CTR_LO`, R208. -/
abbrev R.KEY_CTR_LO : Nat := 0x200004011C
/-- `KEY_CTR_LO.ctr` (RO), R208. -/
abbrev F.KEY_CTR_LO_ctr : Fld := ⟨R.KEY_CTR_LO, 31, 0⟩
/-- `KEY_CTR_HI`, R208. -/
abbrev R.KEY_CTR_HI : Nat := 0x2000040120
/-- `KEY_CTR_HI.ctr` (RO), R208. -/
abbrev F.KEY_CTR_HI_ctr : Fld := ⟨R.KEY_CTR_HI, 31, 0⟩
/-- `KEY_DID0`, R208. -/
abbrev R.KEY_DID0 : Nat := 0x2000040124
/-- `KEY_DID0.did` (RO), R208. -/
abbrev F.KEY_DID0_did : Fld := ⟨R.KEY_DID0, 31, 0⟩
/-- `KEY_DID1`, R208. -/
abbrev R.KEY_DID1 : Nat := 0x2000040128
/-- `KEY_DID1.did` (RO), R208. -/
abbrev F.KEY_DID1_did : Fld := ⟨R.KEY_DID1, 31, 0⟩
/-- `KEY_DID2`, R208. -/
abbrev R.KEY_DID2 : Nat := 0x200004012C
/-- `KEY_DID2.did` (RO), R208. -/
abbrev F.KEY_DID2_did : Fld := ⟨R.KEY_DID2, 31, 0⟩
/-- `KEY_DID3`, R208. -/
abbrev R.KEY_DID3 : Nat := 0x2000040130
/-- `KEY_DID3.did` (RO), R208. -/
abbrev F.KEY_DID3_did : Fld := ⟨R.KEY_DID3, 31, 0⟩
/-- `KEY_FLEET`, R208. -/
abbrev R.KEY_FLEET : Nat := 0x2000040134
/-- `KEY_FLEET.fleet` (RO), R208. -/
abbrev F.KEY_FLEET_fleet : Fld := ⟨R.KEY_FLEET, 31, 0⟩
/-- `KEY_MODIDX`, R208. -/
abbrev R.KEY_MODIDX : Nat := 0x2000040138
/-- `KEY_MODIDX.idx` (RO), R208. -/
abbrev F.KEY_MODIDX_idx : Fld := ⟨R.KEY_MODIDX, 15, 0⟩
/-- `KEY_LEAFCNT`, R208. -/
abbrev R.KEY_LEAFCNT : Nat := 0x200004013C
/-- `KEY_LEAFCNT.persisted` (RO), R208. -/
abbrev F.KEY_LEAFCNT_persisted : Fld := ⟨R.KEY_LEAFCNT, 22, 16⟩
/-- `KEY_LEAFCNT.used` (RO), R208. -/
abbrev F.KEY_LEAFCNT_used : Fld := ⟨R.KEY_LEAFCNT, 11, 0⟩
/-- `TMP_STAT`, R227. -/
abbrev R.TMP_STAT : Nat := 0x200005000C
/-- `TMP_STAT.active` (RO), R227. -/
abbrev F.TMP_STAT_active : Fld := ⟨R.TMP_STAT, 27, 18⟩
/-- `TMP_STAT.level` (RO), R227. -/
abbrev F.TMP_STAT_level : Fld := ⟨R.TMP_STAT, 17, 16⟩
/-- `TMP_STAT.allow` (RO), R227. -/
abbrev F.TMP_STAT_allow : Fld := ⟨R.TMP_STAT, 2, 2⟩
/-- `TMP_STAT.closed` (RO), R227. -/
abbrev F.TMP_STAT_closed : Fld := ⟨R.TMP_STAT, 1, 1⟩
/-- `TMP_STAT.keyloss` (RO), R227. -/
abbrev F.TMP_STAT_keyloss : Fld := ⟨R.TMP_STAT, 0, 0⟩
/-- `TMP_LATCH`, R229. -/
abbrev R.TMP_LATCH : Nat := 0x2000050100
/-- `TMP_LATCH.src` (RO), R229. -/
abbrev F.TMP_LATCH_src : Fld := ⟨R.TMP_LATCH, 9, 0⟩
/-- `TMP_LASTSRC`, R229. -/
abbrev R.TMP_LASTSRC : Nat := 0x2000050104
/-- `TMP_LASTSRC.fallow` (RO), R229. -/
abbrev F.TMP_LASTSRC_fallow : Fld := ⟨R.TMP_LASTSRC, 8, 8⟩
/-- `TMP_LASTSRC.level` (RO), R229. -/
abbrev F.TMP_LASTSRC_level : Fld := ⟨R.TMP_LASTSRC, 5, 4⟩
/-- `TMP_LASTSRC.src` (RO), R229. -/
abbrev F.TMP_LASTSRC_src : Fld := ⟨R.TMP_LASTSRC, 3, 0⟩
/-- `TMP_LASTSEC`, R229. -/
abbrev R.TMP_LASTSEC : Nat := 0x2000050108
/-- `TMP_LASTSEC.sec` (RO), R229. -/
abbrev F.TMP_LASTSEC_sec : Fld := ⟨R.TMP_LASTSEC, 31, 0⟩
/-- `TMP_LASTNS`, R229. -/
abbrev R.TMP_LASTNS : Nat := 0x200005010C
/-- `TMP_LASTNS.ns` (RO), R229. -/
abbrev F.TMP_LASTNS_ns : Fld := ⟨R.TMP_LASTNS, 31, 0⟩
/-- `TMP_CNT`, R229. -/
abbrev R.TMP_CNT : Nat := 0x2000050110
/-- `TMP_CNT.l3` (RO), R229. -/
abbrev F.TMP_CNT_l3 : Fld := ⟨R.TMP_CNT, 29, 20⟩
/-- `TMP_CNT.l2` (RO), R229. -/
abbrev F.TMP_CNT_l2 : Fld := ⟨R.TMP_CNT, 19, 10⟩
/-- `TMP_CNT.l1` (RO), R229. -/
abbrev F.TMP_CNT_l1 : Fld := ⟨R.TMP_CNT, 9, 0⟩
/-- `TMP_LOOP`, R229. -/
abbrev R.TMP_LOOP : Nat := 0x2000050114
/-- `TMP_LOOP.ohm` (RO), R229. -/
abbrev F.TMP_LOOP_ohm : Fld := ⟨R.TMP_LOOP, 15, 0⟩
/-- `TMP_VRESULT`, R229. -/
abbrev R.TMP_VRESULT : Nat := 0x2000050118
/-- `TMP_VRESULT.reason` (RO), R229. -/
abbrev F.TMP_VRESULT_reason : Fld := ⟨R.TMP_VRESULT, 31, 24⟩
/-- `TMP_VRESULT.type` (RO), R229. -/
abbrev F.TMP_VRESULT_type : Fld := ⟨R.TMP_VRESULT, 15, 8⟩
/-- `TMP_VRESULT.order` (RO), R229. -/
abbrev F.TMP_VRESULT_order : Fld := ⟨R.TMP_VRESULT, 7, 0⟩
/-- `TMP_VADDR_LO`, R229. -/
abbrev R.TMP_VADDR_LO : Nat := 0x200005011C
/-- `TMP_VADDR_LO.addr` (RW), R229. -/
abbrev F.TMP_VADDR_LO_addr : Fld := ⟨R.TMP_VADDR_LO, 31, 0⟩
/-- `TMP_VADDR_HI`, R229. -/
abbrev R.TMP_VADDR_HI : Nat := 0x2000050120
/-- `TMP_VADDR_HI.addr` (RW), R229. -/
abbrev F.TMP_VADDR_HI_addr : Fld := ⟨R.TMP_VADDR_HI, 7, 0⟩
/-- `TMP_VLEN`, R229. -/
abbrev R.TMP_VLEN : Nat := 0x2000050124
/-- `TMP_VLEN.len` (RW), R229. -/
abbrev F.TMP_VLEN_len : Fld := ⟨R.TMP_VLEN, 31, 0⟩
/-- `TMP_POLICY`, R230. -/
abbrev R.TMP_POLICY : Nat := 0x2000051000
/-- `TMP_POLICY.silence` (RW (shadow)), R230. -/
abbrev F.TMP_POLICY_silence : Fld := ⟨R.TMP_POLICY, 0, 0⟩
/-- `TMP_SRCLVL`, R230. -/
abbrev R.TMP_SRCLVL : Nat := 0x2000051004
/-- `TMP_SRCLVL.lvl` (RW (shadow)), R230. -/
abbrev F.TMP_SRCLVL_lvl (q : Nat) : Fld := ⟨R.TMP_SRCLVL, 2 * q + 1, 2 * q + 0⟩
/-- `DBG_STAT`, R232. -/
abbrev R.DBG_STAT : Nat := 0x200044000C
/-- `DBG_STAT.fails` (RO), R232. -/
abbrev F.DBG_STAT_fails : Fld := ⟨R.DBG_STAT, 31, 24⟩
/-- `DBG_STAT.scope` (RO), R232. -/
abbrev F.DBG_STAT_scope : Fld := ⟨R.DBG_STAT, 19, 16⟩
/-- `DBG_STAT.left` (RO), R232. -/
abbrev F.DBG_STAT_left : Fld := ⟨R.DBG_STAT, 15, 8⟩
/-- `DBG_STAT.closing` (RO), R232. -/
abbrev F.DBG_STAT_closing : Fld := ⟨R.DBG_STAT, 2, 2⟩
/-- `DBG_STAT.pending` (RO), R232. -/
abbrev F.DBG_STAT_pending : Fld := ⟨R.DBG_STAT, 1, 1⟩
/-- `DBG_STAT.open` (RO), R232. -/
abbrev F.DBG_STAT_open : Fld := ⟨R.DBG_STAT, 0, 0⟩
/-- `DBG_TOKADDR_LO`, R232. -/
abbrev R.DBG_TOKADDR_LO : Nat := 0x2000440100
/-- `DBG_TOKADDR_LO.addr` (RW), R232. -/
abbrev F.DBG_TOKADDR_LO_addr : Fld := ⟨R.DBG_TOKADDR_LO, 31, 0⟩
/-- `DBG_TOKADDR_HI`, R232. -/
abbrev R.DBG_TOKADDR_HI : Nat := 0x2000440104
/-- `DBG_TOKADDR_HI.addr` (RW), R232. -/
abbrev F.DBG_TOKADDR_HI_addr : Fld := ⟨R.DBG_TOKADDR_HI, 7, 0⟩
/-- `DBG_NONCE`, R232. -/
abbrev R.DBG_NONCE (i : Nat) : Nat := 0x2000440108 + 4 * i
/-- `DBG_NONCE.nonce` (RO), R232. -/
abbrev F.DBG_NONCE_nonce (i : Nat) : Fld := ⟨R.DBG_NONCE i, 31, 0⟩
/-- `DBG_RESULT`, R232. -/
abbrev R.DBG_RESULT : Nat := 0x2000440128
/-- `DBG_RESULT.reason` (RO), R232. -/
abbrev F.DBG_RESULT_reason : Fld := ⟨R.DBG_RESULT, 7, 0⟩
/-- `MAC_CAP`, R253. -/
abbrev R.MAC_CAP (m : Nat) : Nat := pg (0x10 + m) 0x4
/-- `MAC_CAP.dshift` (RO), R253. -/
abbrev F.MAC_CAP_dshift (m : Nat) : Fld := ⟨R.MAC_CAP m, 10, 10⟩
/-- `MAC_CAP.csum` (RO), R253. -/
abbrev F.MAC_CAP_csum (m : Nat) : Fld := ⟨R.MAC_CAP m, 9, 9⟩
/-- `MAC_CAP.preempt` (RO), R253. -/
abbrev F.MAC_CAP_preempt (m : Nat) : Fld := ⟨R.MAC_CAP m, 8, 8⟩
/-- `MAC_CAP.modes` (RO), R253. -/
abbrev F.MAC_CAP_modes (m : Nat) : Fld := ⟨R.MAC_CAP m, 6, 1⟩
/-- `MAC_CTL`, R254. -/
abbrev R.MAC_CTL (m : Nat) : Nat := pg (0x10 + m) 0x8
/-- `MAC_CTL.txdis` (RW), R254. -/
abbrev F.MAC_CTL_txdis (m : Nat) : Fld := ⟨R.MAC_CTL m, 0, 0⟩
/-- `MAC_STAT`, R254. -/
abbrev R.MAC_STAT (m : Nat) : Nat := pg (0x10 + m) 0xC
/-- `MAC_STAT.halfdup` (RO), R254. -/
abbrev F.MAC_STAT_halfdup (m : Nat) : Fld := ⟨R.MAC_STAT m, 13, 13⟩
/-- `MAC_STAT.an` (RO), R254. -/
abbrev F.MAC_STAT_an (m : Nat) : Fld := ⟨R.MAC_STAT m, 12, 12⟩
/-- `MAC_STAT.dlevel` (RO), R254. -/
abbrev F.MAC_STAT_dlevel (m : Nat) : Fld := ⟨R.MAC_STAT m, 11, 10⟩
/-- `MAC_STAT.dshift` (RO), R254. -/
abbrev F.MAC_STAT_dshift (m : Nat) : Fld := ⟨R.MAC_STAT m, 9, 8⟩
/-- `MAC_STAT.pactive` (RO), R254. -/
abbrev F.MAC_STAT_pactive (m : Nat) : Fld := ⟨R.MAC_STAT m, 7, 7⟩
/-- `MAC_STAT.verify` (RO), R254. -/
abbrev F.MAC_STAT_verify (m : Nat) : Fld := ⟨R.MAC_STAT m, 6, 5⟩
/-- `MAC_STAT.paused` (RO), R254. -/
abbrev F.MAC_STAT_paused (m : Nat) : Fld := ⟨R.MAC_STAT m, 4, 4⟩
/-- `MAC_STAT.rate` (RO), R254. -/
abbrev F.MAC_STAT_rate (m : Nat) : Fld := ⟨R.MAC_STAT m, 3, 1⟩
/-- `MAC_STAT.link` (RO), R254. -/
abbrev F.MAC_STAT_link (m : Nat) : Fld := ⟨R.MAC_STAT m, 0, 0⟩
/-- `MAC_RXOK`, R256. -/
abbrev R.MAC_RXOK (m : Nat) : Nat := pg (0x10 + m) 0x100
/-- `MAC_RXOK.n` (RO), R256. -/
abbrev F.MAC_RXOK_n (m : Nat) : Fld := ⟨R.MAC_RXOK m, 31, 0⟩
/-- `MAC_RXOCT_LO`, R256. -/
abbrev R.MAC_RXOCT_LO (m : Nat) : Nat := pg (0x10 + m) 0x104
/-- `MAC_RXOCT_LO.n` (RO), R256. -/
abbrev F.MAC_RXOCT_LO_n (m : Nat) : Fld := ⟨R.MAC_RXOCT_LO m, 31, 0⟩
/-- `MAC_RXOCT_HI`, R256. -/
abbrev R.MAC_RXOCT_HI (m : Nat) : Nat := pg (0x10 + m) 0x108
/-- `MAC_RXOCT_HI.n` (RO), R256. -/
abbrev F.MAC_RXOCT_HI_n (m : Nat) : Fld := ⟨R.MAC_RXOCT_HI m, 31, 0⟩
/-- `MAC_RXFCSERR`, R256. -/
abbrev R.MAC_RXFCSERR (m : Nat) : Nat := pg (0x10 + m) 0x10C
/-- `MAC_RXFCSERR.n` (RO), R256. -/
abbrev F.MAC_RXFCSERR_n (m : Nat) : Fld := ⟨R.MAC_RXFCSERR m, 31, 0⟩
/-- `MAC_RXRUNT`, R256. -/
abbrev R.MAC_RXRUNT (m : Nat) : Nat := pg (0x10 + m) 0x110
/-- `MAC_RXRUNT.n` (RO), R256. -/
abbrev F.MAC_RXRUNT_n (m : Nat) : Fld := ⟨R.MAC_RXRUNT m, 31, 0⟩
/-- `MAC_RXOVERSIZE`, R256. -/
abbrev R.MAC_RXOVERSIZE (m : Nat) : Nat := pg (0x10 + m) 0x114
/-- `MAC_RXOVERSIZE.n` (RO), R256. -/
abbrev F.MAC_RXOVERSIZE_n (m : Nat) : Fld := ⟨R.MAC_RXOVERSIZE m, 31, 0⟩
/-- `MAC_RXSTOMPED`, R256. -/
abbrev R.MAC_RXSTOMPED (m : Nat) : Nat := pg (0x10 + m) 0x118
/-- `MAC_RXSTOMPED.n` (RO), R256. -/
abbrev F.MAC_RXSTOMPED_n (m : Nat) : Fld := ⟨R.MAC_RXSTOMPED m, 31, 0⟩
/-- `MAC_RXSYMERR`, R256. -/
abbrev R.MAC_RXSYMERR (m : Nat) : Nat := pg (0x10 + m) 0x11C
/-- `MAC_RXSYMERR.n` (RO), R256. -/
abbrev F.MAC_RXSYMERR_n (m : Nat) : Fld := ⟨R.MAC_RXSYMERR m, 31, 0⟩
/-- `MAC_RXPAUSE`, R256. -/
abbrev R.MAC_RXPAUSE (m : Nat) : Nat := pg (0x10 + m) 0x120
/-- `MAC_RXPAUSE.n` (RO), R256. -/
abbrev F.MAC_RXPAUSE_n (m : Nat) : Fld := ⟨R.MAC_RXPAUSE m, 31, 0⟩
/-- `MAC_RXCTLUNK`, R256. -/
abbrev R.MAC_RXCTLUNK (m : Nat) : Nat := pg (0x10 + m) 0x124
/-- `MAC_RXCTLUNK.n` (RO), R256. -/
abbrev F.MAC_RXCTLUNK_n (m : Nat) : Fld := ⟨R.MAC_RXCTLUNK m, 31, 0⟩
/-- `MAC_RXASMERR`, R256. -/
abbrev R.MAC_RXASMERR (m : Nat) : Nat := pg (0x10 + m) 0x128
/-- `MAC_RXASMERR.n` (RO), R256. -/
abbrev F.MAC_RXASMERR_n (m : Nat) : Fld := ⟨R.MAC_RXASMERR m, 31, 0⟩
/-- `MAC_CSUMBADIP`, R256. -/
abbrev R.MAC_CSUMBADIP (m : Nat) : Nat := pg (0x10 + m) 0x12C
/-- `MAC_CSUMBADIP.n` (RO), R256. -/
abbrev F.MAC_CSUMBADIP_n (m : Nat) : Fld := ⟨R.MAC_CSUMBADIP m, 31, 0⟩
/-- `MAC_CSUMBADUDP`, R256. -/
abbrev R.MAC_CSUMBADUDP (m : Nat) : Nat := pg (0x10 + m) 0x130
/-- `MAC_CSUMBADUDP.n` (RO), R256. -/
abbrev F.MAC_CSUMBADUDP_n (m : Nat) : Fld := ⟨R.MAC_CSUMBADUDP m, 31, 0⟩
/-- `MAC_CSUMSKIP`, R256. -/
abbrev R.MAC_CSUMSKIP (m : Nat) : Nat := pg (0x10 + m) 0x134
/-- `MAC_CSUMSKIP.n` (RO), R256. -/
abbrev F.MAC_CSUMSKIP_n (m : Nat) : Fld := ⟨R.MAC_CSUMSKIP m, 31, 0⟩
/-- `MAC_TXOK`, R256. -/
abbrev R.MAC_TXOK (m : Nat) : Nat := pg (0x10 + m) 0x13C
/-- `MAC_TXOK.n` (RO), R256. -/
abbrev F.MAC_TXOK_n (m : Nat) : Fld := ⟨R.MAC_TXOK m, 31, 0⟩
/-- `MAC_TXOCT_LO`, R256. -/
abbrev R.MAC_TXOCT_LO (m : Nat) : Nat := pg (0x10 + m) 0x140
/-- `MAC_TXOCT_LO.n` (RO), R256. -/
abbrev F.MAC_TXOCT_LO_n (m : Nat) : Fld := ⟨R.MAC_TXOCT_LO m, 31, 0⟩
/-- `MAC_TXOCT_HI`, R256. -/
abbrev R.MAC_TXOCT_HI (m : Nat) : Nat := pg (0x10 + m) 0x144
/-- `MAC_TXOCT_HI.n` (RO), R256. -/
abbrev F.MAC_TXOCT_HI_n (m : Nat) : Fld := ⟨R.MAC_TXOCT_HI m, 31, 0⟩
/-- `MAC_TXOVERSIZE`, R256. -/
abbrev R.MAC_TXOVERSIZE (m : Nat) : Nat := pg (0x10 + m) 0x148
/-- `MAC_TXOVERSIZE.n` (RO), R256. -/
abbrev F.MAC_TXOVERSIZE_n (m : Nat) : Fld := ⟨R.MAC_TXOVERSIZE m, 31, 0⟩
/-- `MAC_TXLINKDROP`, R256. -/
abbrev R.MAC_TXLINKDROP (m : Nat) : Nat := pg (0x10 + m) 0x14C
/-- `MAC_TXLINKDROP.n` (RO), R256. -/
abbrev F.MAC_TXLINKDROP_n (m : Nat) : Fld := ⟨R.MAC_TXLINKDROP m, 31, 0⟩
/-- `MAC_TXSTOMP`, R256. -/
abbrev R.MAC_TXSTOMP (m : Nat) : Nat := pg (0x10 + m) 0x150
/-- `MAC_TXSTOMP.n` (RO), R256. -/
abbrev F.MAC_TXSTOMP_n (m : Nat) : Fld := ⟨R.MAC_TXSTOMP m, 31, 0⟩
/-- `MAC_TXFRAG`, R256. -/
abbrev R.MAC_TXFRAG (m : Nat) : Nat := pg (0x10 + m) 0x154
/-- `MAC_TXFRAG.n` (RO), R256. -/
abbrev F.MAC_TXFRAG_n (m : Nat) : Fld := ⟨R.MAC_TXFRAG m, 31, 0⟩
/-- `MAC_PAUSEDUS`, R256. -/
abbrev R.MAC_PAUSEDUS (m : Nat) : Nat := pg (0x10 + m) 0x158
/-- `MAC_PAUSEDUS.us` (RO), R256. -/
abbrev F.MAC_PAUSEDUS_us (m : Nat) : Fld := ⟨R.MAC_PAUSEDUS m, 31, 0⟩
/-- `MAC_UTIL`, R256. -/
abbrev R.MAC_UTIL (m : Nat) : Nat := pg (0x10 + m) 0x15C
/-- `MAC_UTIL.tx` (RO), R256. -/
abbrev F.MAC_UTIL_tx (m : Nat) : Fld := ⟨R.MAC_UTIL m, 31, 16⟩
/-- `MAC_UTIL.rx` (RO), R256. -/
abbrev F.MAC_UTIL_rx (m : Nat) : Fld := ⟨R.MAC_UTIL m, 15, 0⟩
/-- `MAC_DSHCNT`, R256. -/
abbrev R.MAC_DSHCNT (m : Nat) : Nat := pg (0x10 + m) 0x160
/-- `MAC_DSHCNT.n` (RO), R256. -/
abbrev F.MAC_DSHCNT_n (m : Nat) : Fld := ⟨R.MAC_DSHCNT m, 31, 0⟩
/-- `MAC_PORTCFG`, R257. -/
abbrev R.MAC_PORTCFG (m : Nat) : Nat := pg (0x10 + m) 0x1000
/-- `MAC_PORTCFG.fec` (RW (shadow)), R257. -/
abbrev F.MAC_PORTCFG_fec (m : Nat) : Fld := ⟨R.MAC_PORTCFG m, 29, 28⟩
/-- `MAC_PORTCFG.maxlen` (RW (shadow)), R257. -/
abbrev F.MAC_PORTCFG_maxlen (m : Nat) : Fld := ⟨R.MAC_PORTCFG m, 27, 16⟩
/-- `MAC_PORTCFG.etp` (RW (shadow)), R257. -/
abbrev F.MAC_PORTCFG_etp (m : Nat) : Fld := ⟨R.MAC_PORTCFG m, 7, 7⟩
/-- `MAC_PORTCFG.obey` (RW (shadow)), R257. -/
abbrev F.MAC_PORTCFG_obey (m : Nat) : Fld := ⟨R.MAC_PORTCFG m, 6, 6⟩
/-- `MAC_PORTCFG.prot` (RW (shadow)), R257. -/
abbrev F.MAC_PORTCFG_prot (m : Nat) : Fld := ⟨R.MAC_PORTCFG m, 5, 5⟩
/-- `MAC_PORTCFG.dshift` (RW (shadow)), R257. -/
abbrev F.MAC_PORTCFG_dshift (m : Nat) : Fld := ⟨R.MAC_PORTCFG m, 4, 4⟩
/-- `MAC_PORTCFG.mode` (RW (shadow)), R257. -/
abbrev F.MAC_PORTCFG_mode (m : Nat) : Fld := ⟨R.MAC_PORTCFG m, 2, 0⟩
/-- `MAC_PREEMPT`, R258. -/
abbrev R.MAC_PREEMPT (m : Nat) : Nat := pg (0x10 + m) 0x1004
/-- `MAC_PREEMPT.express` (RW (shadow)), R258. -/
abbrev F.MAC_PREEMPT_express (m : Nat) : Fld := ⟨R.MAC_PREEMPT m, 31, 24⟩
/-- `MAC_PREEMPT.verifyms` (RW (shadow)), R258. -/
abbrev F.MAC_PREEMPT_verifyms (m : Nat) : Fld := ⟨R.MAC_PREEMPT m, 23, 16⟩
/-- `MAC_PREEMPT.addfrag` (RW (shadow)), R258. -/
abbrev F.MAC_PREEMPT_addfrag (m : Nat) : Fld := ⟨R.MAC_PREEMPT m, 9, 8⟩
/-- `MAC_PREEMPT.vdis` (RW (shadow)), R258. -/
abbrev F.MAC_PREEMPT_vdis (m : Nat) : Fld := ⟨R.MAC_PREEMPT m, 1, 1⟩
/-- `MAC_PREEMPT.en` (RW (shadow)), R258. -/
abbrev F.MAC_PREEMPT_en (m : Nat) : Fld := ⟨R.MAC_PREEMPT m, 0, 0⟩
/-- `MAC_DSHIFT`, R258. -/
abbrev R.MAC_DSHIFT (m : Nat) : Nat := pg (0x10 + m) 0x1008
/-- `MAC_DSHIFT.floor` (RW (shadow)), R258. -/
abbrev F.MAC_DSHIFT_floor (m : Nat) : Fld := ⟨R.MAC_DSHIFT m, 14, 12⟩
/-- `MAC_DSHIFT.hold` (RW (shadow)), R258. -/
abbrev F.MAC_DSHIFT_hold (m : Nat) : Fld := ⟨R.MAC_DSHIFT m, 11, 0⟩
/-- `SER_STAT`, R267. -/
abbrev R.SER_STAT : Nat := 0x200036000C
/-- `SER_STAT.occ` (RO), R267. -/
abbrev F.SER_STAT_occ (q : Nat) : Fld := ⟨R.SER_STAT, 8 * q + 7, 8 * q + 4⟩
/-- `SER_STAT.rxfull` (RO), R267. -/
abbrev F.SER_STAT_rxfull (q : Nat) : Fld := ⟨R.SER_STAT, 8 * q + 3, 8 * q + 3⟩
/-- `SER_STAT.await` (RO), R267. -/
abbrev F.SER_STAT_await (q : Nat) : Fld := ⟨R.SER_STAT, 8 * q + 2, 8 * q + 2⟩
/-- `SER_STAT.rxactive` (RO), R267. -/
abbrev F.SER_STAT_rxactive (q : Nat) : Fld := ⟨R.SER_STAT, 8 * q + 1, 8 * q + 1⟩
/-- `SER_STAT.txbusy` (RO), R267. -/
abbrev F.SER_STAT_txbusy (q : Nat) : Fld := ⟨R.SER_STAT, 8 * q + 0, 8 * q + 0⟩
/-- `SER_TXADDR_LO`, R268. -/
abbrev R.SER_TXADDR_LO (i : Nat) : Nat := 0x2000360100 + 32 * i
/-- `SER_TXADDR_LO.addr` (RW), R268. -/
abbrev F.SER_TXADDR_LO_addr (i : Nat) : Fld := ⟨R.SER_TXADDR_LO i, 31, 0⟩
/-- `SER_TXADDR_HI`, R268. -/
abbrev R.SER_TXADDR_HI (i : Nat) : Nat := 0x2000360104 + 32 * i
/-- `SER_TXADDR_HI.addr` (RW), R268. -/
abbrev F.SER_TXADDR_HI_addr (i : Nat) : Fld := ⟨R.SER_TXADDR_HI i, 7, 0⟩
/-- `SER_TXLEN`, R268. -/
abbrev R.SER_TXLEN (i : Nat) : Nat := 0x2000360108 + 32 * i
/-- `SER_TXLEN.len` (RW), R268. -/
abbrev F.SER_TXLEN_len (i : Nat) : Fld := ⟨R.SER_TXLEN i, 9, 0⟩
/-- `SER_RXHEAD`, R268. -/
abbrev R.SER_RXHEAD (i : Nat) : Nat := 0x200036010C + 32 * i
/-- `SER_RXHEAD.slot` (RO), R268. -/
abbrev F.SER_RXHEAD_slot (i : Nat) : Fld := ⟨R.SER_RXHEAD i, 2, 0⟩
/-- `SER_RXFRM`, R268. -/
abbrev R.SER_RXFRM (i : Nat) : Nat := 0x2000360110 + 32 * i
/-- `SER_RXFRM.n` (RO), R268. -/
abbrev F.SER_RXFRM_n (i : Nat) : Fld := ⟨R.SER_RXFRM i, 31, 0⟩
/-- `SER_RXERR`, R268. -/
abbrev R.SER_RXERR (i : Nat) : Nat := 0x2000360114 + 32 * i
/-- `SER_RXERR.n` (RO), R268. -/
abbrev F.SER_RXERR_n (i : Nat) : Fld := ⟨R.SER_RXERR i, 31, 0⟩
/-- `SER_RXDROP`, R268. -/
abbrev R.SER_RXDROP (i : Nat) : Nat := 0x2000360118 + 32 * i
/-- `SER_RXDROP.n` (RO), R268. -/
abbrev F.SER_RXDROP_n (i : Nat) : Fld := ⟨R.SER_RXDROP i, 31, 0⟩
/-- `SER_TIMEOUT`, R268. -/
abbrev R.SER_TIMEOUT (i : Nat) : Nat := 0x200036011C + 32 * i
/-- `SER_TIMEOUT.n` (RO), R268. -/
abbrev F.SER_TIMEOUT_n (i : Nat) : Fld := ⟨R.SER_TIMEOUT i, 31, 0⟩
/-- `SER_PCFG`, R269. -/
abbrev R.SER_PCFG (i : Nat) : Nat := 0x2000361000 + 32 * i
/-- `SER_PCFG.inst` (RW (shadow)), R269. -/
abbrev F.SER_PCFG_inst (i : Nat) : Fld := ⟨R.SER_PCFG i, 29, 24⟩
/-- `SER_PCFG.owner` (RW (shadow)), R269. -/
abbrev F.SER_PCFG_owner (i : Nat) : Fld := ⟨R.SER_PCFG i, 23, 23⟩
/-- `SER_PCFG.rate` (RW (shadow)), R269. -/
abbrev F.SER_PCFG_rate (i : Nat) : Fld := ⟨R.SER_PCFG i, 19, 16⟩
/-- `SER_PCFG.parity` (RW (shadow)), R269. -/
abbrev F.SER_PCFG_parity (i : Nat) : Fld := ⟨R.SER_PCFG i, 15, 14⟩
/-- `SER_PCFG.stop2` (RW (shadow)), R269. -/
abbrev F.SER_PCFG_stop2 (i : Nat) : Fld := ⟨R.SER_PCFG i, 13, 13⟩
/-- `SER_PCFG.proto` (RW (shadow)), R269. -/
abbrev F.SER_PCFG_proto (i : Nat) : Fld := ⟨R.SER_PCFG i, 9, 8⟩
/-- `SER_PCFG.en` (RW (shadow)), R269. -/
abbrev F.SER_PCFG_en (i : Nat) : Fld := ⟨R.SER_PCFG i, 0, 0⟩
/-- `SER_PTIM`, R269. -/
abbrev R.SER_PTIM (i : Nat) : Nat := 0x2000361004 + 32 * i
/-- `SER_PTIM.reply` (RW (shadow)), R269. -/
abbrev F.SER_PTIM_reply (i : Nat) : Fld := ⟨R.SER_PTIM i, 31, 16⟩
/-- `SER_PTIM.lag` (RW (shadow)), R269. -/
abbrev F.SER_PTIM_lag (i : Nat) : Fld := ⟨R.SER_PTIM i, 15, 8⟩
/-- `SER_PTIM.lead` (RW (shadow)), R269. -/
abbrev F.SER_PTIM_lead (i : Nat) : Fld := ⟨R.SER_PTIM i, 7, 0⟩
/-- `SER_PGAP`, R269. -/
abbrev R.SER_PGAP (i : Nat) : Nat := 0x2000361008 + 32 * i
/-- `SER_PGAP.eof` (RW (shadow)), R269. -/
abbrev F.SER_PGAP_eof (i : Nat) : Fld := ⟨R.SER_PGAP i, 31, 16⟩
/-- `SER_PGAP.ic` (RW (shadow)), R269. -/
abbrev F.SER_PGAP_ic (i : Nat) : Fld := ⟨R.SER_PGAP i, 15, 0⟩
/-- `SER_RING_LO`, R269. -/
abbrev R.SER_RING_LO (i : Nat) : Nat := 0x200036100C + 32 * i
/-- `SER_RING_LO.addr` (RW (shadow)), R269. -/
abbrev F.SER_RING_LO_addr (i : Nat) : Fld := ⟨R.SER_RING_LO i, 31, 6⟩
/-- `SER_RING_HI`, R269. -/
abbrev R.SER_RING_HI (i : Nat) : Nat := 0x2000361010 + 32 * i
/-- `SER_RING_HI.addr` (RW (shadow)), R269. -/
abbrev F.SER_RING_HI_addr (i : Nat) : Fld := ⟨R.SER_RING_HI i, 7, 0⟩
/-- `SWC_CTL`, R292. -/
abbrev R.SWC_CTL : Nat := 0x2000200008
/-- `SWC_CTL.lrnen` (RW), R292. -/
abbrev F.SWC_CTL_lrnen : Fld := ⟨R.SWC_CTL, 0, 0⟩
/-- `SWC_STAT`, R292. -/
abbrev R.SWC_STAT : Nat := 0x200020000C
/-- `SWC_STAT.ring` (RO), R292. -/
abbrev F.SWC_STAT_ring : Fld := ⟨R.SWC_STAT, 31, 31⟩
/-- `SWC_STAT.cells` (RO), R292. -/
abbrev F.SWC_STAT_cells : Fld := ⟨R.SWC_STAT, 16, 0⟩
/-- `SWC_TIDX`, R294. -/
abbrev R.SWC_TIDX : Nat := 0x2000200100
/-- `SWC_TIDX.idx` (RW), R294. -/
abbrev F.SWC_TIDX_idx : Fld := ⟨R.SWC_TIDX, 13, 0⟩
/-- `SWC_TDATA`, R294. -/
abbrev R.SWC_TDATA (i : Nat) : Nat := 0x2000200104 + 4 * i
/-- `SWC_TDATA.d` (RW), R294. -/
abbrev F.SWC_TDATA_d (i : Nat) : Fld := ⟨R.SWC_TDATA i, 31, 0⟩
/-- `SWC_PARTIALMC`, R294. -/
abbrev R.SWC_PARTIALMC : Nat := 0x2000200114
/-- `SWC_PARTIALMC.n` (RO), R294. -/
abbrev F.SWC_PARTIALMC_n : Fld := ⟨R.SWC_PARTIALMC, 31, 0⟩
/-- `SWC_LEARNFULL`, R294. -/
abbrev R.SWC_LEARNFULL : Nat := 0x2000200118
/-- `SWC_LEARNFULL.n` (RO), R294. -/
abbrev F.SWC_LEARNFULL_n : Fld := ⟨R.SWC_LEARNFULL, 31, 0⟩
/-- `SWC_CTFWD`, R294. -/
abbrev R.SWC_CTFWD : Nat := 0x200020011C
/-- `SWC_CTFWD.n` (RO), R294. -/
abbrev F.SWC_CTFWD_n : Fld := ⟨R.SWC_CTFWD, 31, 0⟩
/-- `SWC_CTSTOMP`, R294. -/
abbrev R.SWC_CTSTOMP : Nat := 0x2000200120
/-- `SWC_CTSTOMP.n` (RO), R294. -/
abbrev F.SWC_CTSTOMP_n : Fld := ⟨R.SWC_CTSTOMP, 31, 0⟩
/-- `SWC_NOCELL`, R294. -/
abbrev R.SWC_NOCELL : Nat := 0x2000200124
/-- `SWC_NOCELL.n` (RO), R294. -/
abbrev F.SWC_NOCELL_n : Fld := ⟨R.SWC_NOCELL, 31, 0⟩
/-- `SWC_VLANDROP`, R294. -/
abbrev R.SWC_VLANDROP (i : Nat) : Nat := 0x2000200200 + 16 * i
/-- `SWC_VLANDROP.n` (RO), R294. -/
abbrev F.SWC_VLANDROP_n (i : Nat) : Fld := ⟨R.SWC_VLANDROP i, 31, 0⟩
/-- `SWC_NODEST`, R294. -/
abbrev R.SWC_NODEST (i : Nat) : Nat := 0x2000200204 + 16 * i
/-- `SWC_NODEST.n` (RO), R294. -/
abbrev F.SWC_NODEST_n (i : Nat) : Fld := ⟨R.SWC_NODEST i, 31, 0⟩
/-- `SWC_FILTDROP`, R294. -/
abbrev R.SWC_FILTDROP (i : Nat) : Nat := 0x2000200208 + 16 * i
/-- `SWC_FILTDROP.n` (RO), R294. -/
abbrev F.SWC_FILTDROP_n (i : Nat) : Fld := ⟨R.SWC_FILTDROP i, 31, 0⟩
/-- `SWC_QDROP`, R294. -/
abbrev R.SWC_QDROP (i j : Nat) : Nat := 0x2000200400 + 64 * i + 8 * j
/-- `SWC_QDROP.n` (RO), R294. -/
abbrev F.SWC_QDROP_n (i j : Nat) : Fld := ⟨R.SWC_QDROP i j, 31, 0⟩
/-- `SWC_QOCC`, R294. -/
abbrev R.SWC_QOCC (i j : Nat) : Nat := 0x2000200404 + 64 * i + 8 * j
/-- `SWC_QOCC.cells` (RO), R294. -/
abbrev F.SWC_QOCC_cells (i j : Nat) : Fld := ⟨R.SWC_QOCC i j, 16, 0⟩
/-- `SWC_CFG`, R295. -/
abbrev R.SWC_CFG : Nat := 0x2000201000
/-- `SWC_CFG.agesec` (RW (shadow)), R295. -/
abbrev F.SWC_CFG_agesec : Fld := ⟨R.SWC_CFG, 15, 0⟩
/-- `SWC_PORTCFG`, R295. -/
abbrev R.SWC_PORTCFG (i : Nat) : Nat := 0x2000201040 + 4 * i
/-- `SWC_PORTCFG.tagonly` (RW (shadow)), R295. -/
abbrev F.SWC_PORTCFG_tagonly (i : Nat) : Fld := ⟨R.SWC_PORTCFG i, 17, 17⟩
/-- `SWC_PORTCFG.learn` (RW (shadow)), R295. -/
abbrev F.SWC_PORTCFG_learn (i : Nat) : Fld := ⟨R.SWC_PORTCFG i, 16, 16⟩
/-- `SWC_PORTCFG.dclass` (RW (shadow)), R295. -/
abbrev F.SWC_PORTCFG_dclass (i : Nat) : Fld := ⟨R.SWC_PORTCFG i, 14, 12⟩
/-- `SWC_PORTCFG.pvid` (RW (shadow)), R295. -/
abbrev F.SWC_PORTCFG_pvid (i : Nat) : Fld := ⟨R.SWC_PORTCFG i, 11, 0⟩
/-- `SWC_PCPMAP`, R295. -/
abbrev R.SWC_PCPMAP (i : Nat) : Nat := 0x2000201080 + 4 * i
/-- `SWC_PCPMAP.cls` (RW (shadow)), R295. -/
abbrev F.SWC_PCPMAP_cls (i q : Nat) : Fld := ⟨R.SWC_PCPMAP i, 3 * q + 2, 3 * q + 0⟩
/-- `SWC_ETCLS`, R295. -/
abbrev R.SWC_ETCLS (i : Nat) : Nat := 0x20002010C0 + 4 * i
/-- `SWC_ETCLS.en` (RW (shadow)), R295. -/
abbrev F.SWC_ETCLS_en (i : Nat) : Fld := ⟨R.SWC_ETCLS i, 31, 31⟩
/-- `SWC_ETCLS.cls` (RW (shadow)), R295. -/
abbrev F.SWC_ETCLS_cls (i : Nat) : Fld := ⟨R.SWC_ETCLS i, 18, 16⟩
/-- `SWC_ETCLS.etype` (RW (shadow)), R295. -/
abbrev F.SWC_ETCLS_etype (i : Nat) : Fld := ⟨R.SWC_ETCLS i, 15, 0⟩
/-- `SWC_QUOTA`, R295. -/
abbrev R.SWC_QUOTA (i j : Nat) : Nat := 0x2000201100 + 32 * i + 4 * j
/-- `SWC_QUOTA.cells` (RW (shadow)), R295. -/
abbrev F.SWC_QUOTA_cells (i j : Nat) : Fld := ⟨R.SWC_QUOTA i j, 16, 0⟩
/-- `SWC_WEIGHT`, R295. -/
abbrev R.SWC_WEIGHT (i : Nat) : Nat := 0x2000201300 + 4 * i
/-- `SWC_WEIGHT.wc` (RW (shadow)), R295. -/
abbrev F.SWC_WEIGHT_wc (i q : Nat) : Fld := ⟨R.SWC_WEIGHT i, 6 * q + 5, 6 * q + 0⟩
/-- `PRP_STAT`, R296. -/
abbrev R.PRP_STAT : Nat := 0x200021000C
/-- `PRP_STAT.bothlan` (RO), R296. -/
abbrev F.PRP_STAT_bothlan : Fld := ⟨R.PRP_STAT, 8, 8⟩
/-- `PRP_STAT.active` (RO), R296. -/
abbrev F.PRP_STAT_active : Fld := ⟨R.PRP_STAT, 5, 0⟩
/-- `PRP_TXSEQ`, R297. -/
abbrev R.PRP_TXSEQ (i : Nat) : Nat := 0x2000210100 + 32 * i
/-- `PRP_TXSEQ.twin` (RO), R297. -/
abbrev F.PRP_TXSEQ_twin (i : Nat) : Fld := ⟨R.PRP_TXSEQ i, 31, 16⟩
/-- `PRP_TXSEQ.seq` (RO), R297. -/
abbrev F.PRP_TXSEQ_seq (i : Nat) : Fld := ⟨R.PRP_TXSEQ i, 15, 0⟩
/-- `PRP_DUPDROP`, R297. -/
abbrev R.PRP_DUPDROP (i : Nat) : Nat := 0x2000210104 + 32 * i
/-- `PRP_DUPDROP.n` (RO), R297. -/
abbrev F.PRP_DUPDROP_n (i : Nat) : Fld := ⟨R.PRP_DUPDROP i, 31, 0⟩
/-- `PRP_OUTWIN`, R297. -/
abbrev R.PRP_OUTWIN (i : Nat) : Nat := 0x2000210108 + 32 * i
/-- `PRP_OUTWIN.n` (RO), R297. -/
abbrev F.PRP_OUTWIN_n (i : Nat) : Fld := ⟨R.PRP_OUTWIN i, 31, 0⟩
/-- `PRP_OWNSRC`, R297. -/
abbrev R.PRP_OWNSRC (i : Nat) : Nat := 0x200021010C + 32 * i
/-- `PRP_OWNSRC.n` (RO), R297. -/
abbrev F.PRP_OWNSRC_n (i : Nat) : Fld := ⟨R.PRP_OWNSRC i, 31, 0⟩
/-- `PRP_NORCT`, R297. -/
abbrev R.PRP_NORCT (i : Nat) : Nat := 0x2000210110 + 32 * i
/-- `PRP_NORCT.n` (RO), R297. -/
abbrev F.PRP_NORCT_n (i : Nat) : Fld := ⟨R.PRP_NORCT i, 31, 0⟩
/-- `PRP_RINGFWD`, R297. -/
abbrev R.PRP_RINGFWD (i : Nat) : Nat := 0x2000210114 + 32 * i
/-- `PRP_RINGFWD.n` (RO), R297. -/
abbrev F.PRP_RINGFWD_n (i : Nat) : Fld := ⟨R.PRP_RINGFWD i, 31, 0⟩
/-- `PRP_LANERR`, R297. -/
abbrev R.PRP_LANERR (i : Nat) : Nat := 0x2000210118 + 32 * i
/-- `PRP_LANERR.n` (RO), R297. -/
abbrev F.PRP_LANERR_n (i : Nat) : Fld := ⟨R.PRP_LANERR i, 31, 0⟩
/-- `PRP_NODES`, R297. -/
abbrev R.PRP_NODES : Nat := 0x20002101C0
/-- `PRP_NODES.n` (RO), R297. -/
abbrev F.PRP_NODES_n : Fld := ⟨R.PRP_NODES, 10, 0⟩
/-- `PRP_NODEFULL`, R297. -/
abbrev R.PRP_NODEFULL : Nat := 0x20002101C4
/-- `PRP_NODEFULL.n` (RO), R297. -/
abbrev F.PRP_NODEFULL_n : Fld := ⟨R.PRP_NODEFULL, 31, 0⟩
/-- `PRP_PAIR_w0`, R298. -/
abbrev R.PRP_PAIR_w0 (i : Nat) : Nat := 0x2000211000 + 8 * i
/-- `PRP_PAIR_w0.kind` (RW (shadow)), R298. -/
abbrev F.PRP_PAIR_w0_kind (i : Nat) : Fld := ⟨R.PRP_PAIR_w0 i, 31, 30⟩
/-- `PRP_PAIR_w0.portb` (RW (shadow)), R298. -/
abbrev F.PRP_PAIR_w0_portb (i : Nat) : Fld := ⟨R.PRP_PAIR_w0 i, 11, 8⟩
/-- `PRP_PAIR_w0.porta` (RW (shadow)), R298. -/
abbrev F.PRP_PAIR_w0_porta (i : Nat) : Fld := ⟨R.PRP_PAIR_w0 i, 3, 0⟩
/-- `PRP_PAIR_w1`, R298. -/
abbrev R.PRP_PAIR_w1 (i : Nat) : Nat := 0x2000211004 + 8 * i
/-- `PRP_PAIR_w1.lifecheck` (RW (shadow)), R298. -/
abbrev F.PRP_PAIR_w1_lifecheck (i : Nat) : Fld := ⟨R.PRP_PAIR_w1 i, 15, 0⟩
/-- `PRP_DDCFG`, R298. -/
abbrev R.PRP_DDCFG : Nat := 0x2000211040
/-- `PRP_DDCFG.nodeforget` (RW (shadow)), R298. -/
abbrev F.PRP_DDCFG_nodeforget : Fld := ⟨R.PRP_DDCFG, 31, 16⟩
/-- `PRP_DDCFG.forget` (RW (shadow)), R298. -/
abbrev F.PRP_DDCFG_forget : Fld := ⟨R.PRP_DDCFG, 15, 0⟩
/-- `TIM_CTL`, R322. -/
abbrev R.TIM_CTL : Nat := 0x2000240008
/-- `TIM_CTL.slewbig` (RW), R322. -/
abbrev F.TIM_CTL_slewbig : Fld := ⟨R.TIM_CTL, 0, 0⟩
/-- `TIM_STAT`, R322. -/
abbrev R.TIM_STAT : Nat := 0x200024000C
/-- `TIM_STAT.src` (RO), R322. -/
abbrev F.TIM_STAT_src : Fld := ⟨R.TIM_STAT, 11, 8⟩
/-- `TIM_STAT.txqovf` (RO), R322. -/
abbrev F.TIM_STAT_txqovf : Fld := ⟨R.TIM_STAT, 7, 7⟩
/-- `TIM_STAT.synced` (RO), R322. -/
abbrev F.TIM_STAT_synced : Fld := ⟨R.TIM_STAT, 6, 6⟩
/-- `TIM_STAT.hexp` (RO), R322. -/
abbrev F.TIM_STAT_hexp : Fld := ⟨R.TIM_STAT, 5, 5⟩
/-- `TIM_STAT.offbig` (RO), R322. -/
abbrev F.TIM_STAT_offbig : Fld := ⟨R.TIM_STAT, 4, 4⟩
/-- `TIM_STAT.set` (RO), R322. -/
abbrev F.TIM_STAT_set : Fld := ⟨R.TIM_STAT, 3, 3⟩
/-- `TIM_STAT.state` (RO), R322. -/
abbrev F.TIM_STAT_state : Fld := ⟨R.TIM_STAT, 1, 0⟩
/-- `TIM_NOW_LO`, R324. -/
abbrev R.TIM_NOW_LO : Nat := 0x2000240100
/-- `TIM_NOW_LO.ns` (RO), R324. -/
abbrev F.TIM_NOW_LO_ns : Fld := ⟨R.TIM_NOW_LO, 31, 0⟩
/-- `TIM_NOW_HI`, R324. -/
abbrev R.TIM_NOW_HI : Nat := 0x2000240104
/-- `TIM_NOW_HI.ns` (RO), R324. -/
abbrev F.TIM_NOW_HI_ns : Fld := ⟨R.TIM_NOW_HI, 31, 0⟩
/-- `TIM_SEC_LO`, R324. -/
abbrev R.TIM_SEC_LO : Nat := 0x2000240108
/-- `TIM_SEC_LO.sec` (RO), R324. -/
abbrev F.TIM_SEC_LO_sec : Fld := ⟨R.TIM_SEC_LO, 31, 0⟩
/-- `TIM_SEC_HI`, R324. -/
abbrev R.TIM_SEC_HI : Nat := 0x200024010C
/-- `TIM_SEC_HI.sec` (RO), R324. -/
abbrev F.TIM_SEC_HI_sec : Fld := ⟨R.TIM_SEC_HI, 15, 0⟩
/-- `TIM_NS`, R324. -/
abbrev R.TIM_NS : Nat := 0x2000240110
/-- `TIM_NS.ns` (RO), R324. -/
abbrev F.TIM_NS_ns : Fld := ⟨R.TIM_NS, 31, 0⟩
/-- `TIM_FRAC`, R324. -/
abbrev R.TIM_FRAC : Nat := 0x2000240114
/-- `TIM_FRAC.frac` (RO), R324. -/
abbrev F.TIM_FRAC_frac : Fld := ⟨R.TIM_FRAC, 15, 0⟩
/-- `TIM_FAST`, R324. -/
abbrev R.TIM_FAST : Nat := 0x2000240118
/-- `TIM_FAST.t` (RO), R324. -/
abbrev F.TIM_FAST_t : Fld := ⟨R.TIM_FAST, 31, 0⟩
/-- `TIM_OFFSET`, R324. -/
abbrev R.TIM_OFFSET : Nat := 0x200024011C
/-- `TIM_OFFSET.ns` (RO), R324. -/
abbrev F.TIM_OFFSET_ns : Fld := ⟨R.TIM_OFFSET, 31, 0⟩
/-- `TIM_FREQ`, R324. -/
abbrev R.TIM_FREQ : Nat := 0x2000240120
/-- `TIM_FREQ.rate` (RO), R324. -/
abbrev F.TIM_FREQ_rate : Fld := ⟨R.TIM_FREQ, 31, 0⟩
/-- `TIM_HOLDSEC`, R324. -/
abbrev R.TIM_HOLDSEC : Nat := 0x2000240124
/-- `TIM_HOLDSEC.s` (RO), R324. -/
abbrev F.TIM_HOLDSEC_s : Fld := ⟨R.TIM_HOLDSEC, 31, 0⟩
/-- `TIM_STEPSEC`, R324. -/
abbrev R.TIM_STEPSEC : Nat := 0x2000240128
/-- `TIM_STEPSEC.s` (RW), R324. -/
abbrev F.TIM_STEPSEC_s : Fld := ⟨R.TIM_STEPSEC, 31, 0⟩
/-- `TIM_STEPNS`, R324. -/
abbrev R.TIM_STEPNS : Nat := 0x200024012C
/-- `TIM_STEPNS.ns` (RW), R324. -/
abbrev F.TIM_STEPNS_ns : Fld := ⟨R.TIM_STEPNS, 31, 0⟩
/-- `TIM_TXQ0`, R324. -/
abbrev R.TIM_TXQ0 : Nat := 0x2000240130
/-- `TIM_TXQ0.ns` (RO), R324. -/
abbrev F.TIM_TXQ0_ns : Fld := ⟨R.TIM_TXQ0, 31, 0⟩
/-- `TIM_TXQ1`, R324. -/
abbrev R.TIM_TXQ1 : Nat := 0x2000240134
/-- `TIM_TXQ1.ns` (RO), R324. -/
abbrev F.TIM_TXQ1_ns : Fld := ⟨R.TIM_TXQ1, 31, 0⟩
/-- `TIM_TXQ2`, R324. -/
abbrev R.TIM_TXQ2 : Nat := 0x2000240138
/-- `TIM_TXQ2.valid` (RO), R324. -/
abbrev F.TIM_TXQ2_valid : Fld := ⟨R.TIM_TXQ2, 31, 31⟩
/-- `TIM_TXQ2.half` (RO), R324. -/
abbrev F.TIM_TXQ2_half : Fld := ⟨R.TIM_TXQ2, 27, 27⟩
/-- `TIM_TXQ2.frag` (RO), R324. -/
abbrev F.TIM_TXQ2_frag : Fld := ⟨R.TIM_TXQ2, 26, 26⟩
/-- `TIM_TXQ2.port` (RO), R324. -/
abbrev F.TIM_TXQ2_port : Fld := ⟨R.TIM_TXQ2, 23, 20⟩
/-- `TIM_TXQ2.id` (RO), R324. -/
abbrev F.TIM_TXQ2_id : Fld := ⟨R.TIM_TXQ2, 15, 0⟩
/-- `TIM_TXQOVF`, R324. -/
abbrev R.TIM_TXQOVF : Nat := 0x200024013C
/-- `TIM_TXQOVF.n` (RO), R324. -/
abbrev F.TIM_TXQOVF_n : Fld := ⟨R.TIM_TXQOVF, 31, 0⟩
/-- `TIM_IRIGERR`, R324. -/
abbrev R.TIM_IRIGERR : Nat := 0x2000240140
/-- `TIM_IRIGERR.n` (RO), R324. -/
abbrev F.TIM_IRIGERR_n : Fld := ⟨R.TIM_IRIGERR, 31, 0⟩
/-- `TIM_CMPTGT`, R324. -/
abbrev R.TIM_CMPTGT (i : Nat) : Nat := 0x2000240200 + 16 * i
/-- `TIM_CMPTGT.t` (RW), R324. -/
abbrev F.TIM_CMPTGT_t (i : Nat) : Fld := ⟨R.TIM_CMPTGT i, 31, 0⟩
/-- `TIM_CMPPER`, R324. -/
abbrev R.TIM_CMPPER (i : Nat) : Nat := 0x2000240204 + 16 * i
/-- `TIM_CMPPER.ns` (RW), R324. -/
abbrev F.TIM_CMPPER_ns (i : Nat) : Fld := ⟨R.TIM_CMPPER i, 31, 0⟩
/-- `TIM_CMPSTAT`, R324. -/
abbrev R.TIM_CMPSTAT (i : Nat) : Nat := 0x2000240208 + 16 * i
/-- `TIM_CMPSTAT.late` (W1C), R324. -/
abbrev F.TIM_CMPSTAT_late (i : Nat) : Fld := ⟨R.TIM_CMPSTAT i, 17, 17⟩
/-- `TIM_CMPSTAT.armed` (RO), R324. -/
abbrev F.TIM_CMPSTAT_armed (i : Nat) : Fld := ⟨R.TIM_CMPSTAT i, 16, 16⟩
/-- `TIM_CMPSTAT.missed` (RO), R324. -/
abbrev F.TIM_CMPSTAT_missed (i : Nat) : Fld := ⟨R.TIM_CMPSTAT i, 15, 0⟩
/-- `TIM_SRCSEL`, R326. -/
abbrev R.TIM_SRCSEL : Nat := 0x2000241000
/-- `TIM_SRCSEL.src` (RW (shadow)), R326. -/
abbrev F.TIM_SRCSEL_src (q : Nat) : Fld := ⟨R.TIM_SRCSEL, 4 * q + 3, 4 * q + 0⟩
/-- `TIM_DISC`, R326. -/
abbrev R.TIM_DISC : Nat := 0x2000241004
/-- `TIM_DISC.slew` (RW (shadow)), R326. -/
abbrev F.TIM_DISC_slew : Fld := ⟨R.TIM_DISC, 31, 23⟩
/-- `TIM_DISC.lockns` (RW (shadow)), R326. -/
abbrev F.TIM_DISC_lockns : Fld := ⟨R.TIM_DISC, 15, 0⟩
/-- `TIM_DISC2`, R326. -/
abbrev R.TIM_DISC2 : Nat := 0x2000241008
/-- `TIM_DISC2.stepthr` (RW (shadow)), R326. -/
abbrev F.TIM_DISC2_stepthr : Fld := ⟨R.TIM_DISC2, 31, 16⟩
/-- `TIM_DISC2.lossto` (RW (shadow)), R326. -/
abbrev F.TIM_DISC2_lossto : Fld := ⟨R.TIM_DISC2, 15, 8⟩
/-- `TIM_DISC2.lockcnt` (RW (shadow)), R326. -/
abbrev F.TIM_DISC2_lockcnt : Fld := ⟨R.TIM_DISC2, 7, 0⟩
/-- `TIM_HOLD`, R326. -/
abbrev R.TIM_HOLD : Nat := 0x200024100C
/-- `TIM_HOLD.bound` (RW (shadow)), R326. -/
abbrev F.TIM_HOLD_bound : Fld := ⟨R.TIM_HOLD, 15, 0⟩
/-- `TIM_UTCOFF`, R326. -/
abbrev R.TIM_UTCOFF : Nat := 0x2000241010
/-- `TIM_UTCOFF.qmax` (RW (shadow)), R326. -/
abbrev F.TIM_UTCOFF_qmax : Fld := ⟨R.TIM_UTCOFF, 15, 12⟩
/-- `TIM_UTCOFF.ext1344` (RW (shadow)), R326. -/
abbrev F.TIM_UTCOFF_ext1344 : Fld := ⟨R.TIM_UTCOFF, 8, 8⟩
/-- `TIM_UTCOFF.taiutc` (RW (shadow)), R326. -/
abbrev F.TIM_UTCOFF_taiutc : Fld := ⟨R.TIM_UTCOFF, 7, 0⟩
/-- `TIM_PPSCFG`, R326. -/
abbrev R.TIM_PPSCFG : Nat := 0x2000241014
/-- `TIM_PPSCFG.en` (RW (shadow)), R326. -/
abbrev F.TIM_PPSCFG_en : Fld := ⟨R.TIM_PPSCFG, 31, 31⟩
/-- `TIM_PPSCFG.squelch` (RW (shadow)), R326. -/
abbrev F.TIM_PPSCFG_squelch : Fld := ⟨R.TIM_PPSCFG, 30, 30⟩
/-- `TIM_PPSCFG.width` (RW (shadow)), R326. -/
abbrev F.TIM_PPSCFG_width : Fld := ⟨R.TIM_PPSCFG, 19, 0⟩
/-- `TIM_CMPCFG`, R326. -/
abbrev R.TIM_CMPCFG (i : Nat) : Nat := 0x2000241040 + 4 * i
/-- `TIM_CMPCFG.en` (RW (shadow)), R326. -/
abbrev F.TIM_CMPCFG_en (i : Nat) : Fld := ⟨R.TIM_CMPCFG i, 31, 31⟩
/-- `TIM_CMPCFG.owner` (RW (shadow)), R326. -/
abbrev F.TIM_CMPCFG_owner (i : Nat) : Fld := ⟨R.TIM_CMPCFG i, 30, 30⟩
/-- `TIM_CMPCFG.inst` (RW (shadow)), R326. -/
abbrev F.TIM_CMPCFG_inst (i : Nat) : Fld := ⟨R.TIM_CMPCFG i, 29, 24⟩
/-- `TIM_CMPCFG.pol` (RW (shadow)), R326. -/
abbrev F.TIM_CMPCFG_pol (i : Nat) : Fld := ⟨R.TIM_CMPCFG i, 23, 23⟩
/-- `TIM_CMPCFG.toggle` (RW (shadow)), R326. -/
abbrev F.TIM_CMPCFG_toggle (i : Nat) : Fld := ⟨R.TIM_CMPCFG i, 22, 22⟩
/-- `TIM_CMPCFG.width` (RW (shadow)), R326. -/
abbrev F.TIM_CMPCFG_width (i : Nat) : Fld := ⟨R.TIM_CMPCFG i, 19, 0⟩
/-- `PTP_PSTATE0`, R327. -/
abbrev R.PTP_PSTATE0 : Nat := 0x2000250100
/-- `PTP_PSTATE0.st` (RO), R327. -/
abbrev F.PTP_PSTATE0_st (q : Nat) : Fld := ⟨R.PTP_PSTATE0, 4 * q + 3, 4 * q + 0⟩
/-- `PTP_PSTATE1`, R327. -/
abbrev R.PTP_PSTATE1 : Nat := 0x2000250104
/-- `PTP_PSTATE1.st` (RO), R327. -/
abbrev F.PTP_PSTATE1_st (q : Nat) : Fld := ⟨R.PTP_PSTATE1, 4 * q + 3, 4 * q + 0⟩
/-- `PTP_GMID_LO`, R327. -/
abbrev R.PTP_GMID_LO : Nat := 0x2000250108
/-- `PTP_GMID_LO.id` (RO), R327. -/
abbrev F.PTP_GMID_LO_id : Fld := ⟨R.PTP_GMID_LO, 31, 0⟩
/-- `PTP_GMID_HI`, R327. -/
abbrev R.PTP_GMID_HI : Nat := 0x200025010C
/-- `PTP_GMID_HI.id` (RO), R327. -/
abbrev F.PTP_GMID_HI_id : Fld := ⟨R.PTP_GMID_HI, 31, 0⟩
/-- `PTP_GMQ`, R327. -/
abbrev R.PTP_GMQ : Nat := 0x2000250110
/-- `PTP_GMQ.cclass` (RO), R327. -/
abbrev F.PTP_GMQ_cclass : Fld := ⟨R.PTP_GMQ, 31, 24⟩
/-- `PTP_GMQ.acc` (RO), R327. -/
abbrev F.PTP_GMQ_acc : Fld := ⟨R.PTP_GMQ, 23, 16⟩
/-- `PTP_GMQ.var` (RO), R327. -/
abbrev F.PTP_GMQ_var : Fld := ⟨R.PTP_GMQ, 15, 0⟩
/-- `PTP_STEPS`, R327. -/
abbrev R.PTP_STEPS : Nat := 0x2000250114
/-- `PTP_STEPS.n` (RO), R327. -/
abbrev F.PTP_STEPS_n : Fld := ⟨R.PTP_STEPS, 15, 0⟩
/-- `PTP_PDELAY`, R327. -/
abbrev R.PTP_PDELAY (i : Nat) : Nat := 0x2000250140 + 4 * i
/-- `PTP_PDELAY.ns` (RO), R327. -/
abbrev F.PTP_PDELAY_ns (i : Nat) : Fld := ⟨R.PTP_PDELAY i, 31, 0⟩
/-- `PTP_CFG`, R328. -/
abbrev R.PTP_CFG : Nat := 0x2000251000
/-- `PTP_CFG.profile` (RW (shadow)), R328. -/
abbrev F.PTP_CFG_profile : Fld := ⟨R.PTP_CFG, 31, 30⟩
/-- `PTP_CFG.type` (RW (shadow)), R328. -/
abbrev F.PTP_CFG_type : Fld := ⟨R.PTP_CFG, 29, 28⟩
/-- `PTP_CFG.domain` (RW (shadow)), R328. -/
abbrev F.PTP_CFG_domain : Fld := ⟨R.PTP_CFG, 27, 20⟩
/-- `PTP_CFG.prio1` (RW (shadow)), R328. -/
abbrev F.PTP_CFG_prio1 : Fld := ⟨R.PTP_CFG, 19, 12⟩
/-- `PTP_CFG.prio2` (RW (shadow)), R328. -/
abbrev F.PTP_CFG_prio2 : Fld := ⟨R.PTP_CFG, 11, 4⟩
/-- `PTP_CFG.slaveonly` (RW (shadow)), R328. -/
abbrev F.PTP_CFG_slaveonly : Fld := ⟨R.PTP_CFG, 3, 3⟩
/-- `PTP_CFG2`, R328. -/
abbrev R.PTP_CFG2 : Nat := 0x2000251004
/-- `PTP_CFG2.gmid` (RW (shadow)), R328. -/
abbrev F.PTP_CFG2_gmid : Fld := ⟨R.PTP_CFG2, 31, 16⟩
/-- `PTP_CFG2.cclass` (RW (shadow)), R328. -/
abbrev F.PTP_CFG2_cclass : Fld := ⟨R.PTP_CFG2, 15, 8⟩
/-- `PTP_CFG2.acc` (RW (shadow)), R328. -/
abbrev F.PTP_CFG2_acc : Fld := ⟨R.PTP_CFG2, 7, 0⟩
/-- `PTP_PORTCFG`, R328. -/
abbrev R.PTP_PORTCFG (i : Nat) : Nat := 0x2000251040 + 4 * i
/-- `PTP_PORTCFG.en` (RW (shadow)), R328. -/
abbrev F.PTP_PORTCFG_en (i : Nat) : Fld := ⟨R.PTP_PORTCFG i, 0, 0⟩
/-- `PTP_PORTLAT`, R328. -/
abbrev R.PTP_PORTLAT (i : Nat) : Nat := 0x2000251080 + 4 * i
/-- `PTP_PORTLAT.txlat` (RW (shadow)), R328. -/
abbrev F.PTP_PORTLAT_txlat (i : Nat) : Fld := ⟨R.PTP_PORTLAT i, 31, 16⟩
/-- `PTP_PORTLAT.rxlat` (RW (shadow)), R328. -/
abbrev F.PTP_PORTLAT_rxlat (i : Nat) : Fld := ⟨R.PTP_PORTLAT i, 15, 0⟩
/-- `SVI_CTL`, R358. -/
abbrev R.SVI_CTL : Nat := 0x2000280008
/-- `SVI_CTL.sim` (RW), R358. -/
abbrev F.SVI_CTL_sim : Fld := ⟨R.SVI_CTL, 0, 0⟩
/-- `SVI_STAT`, R358. -/
abbrev R.SVI_STAT : Nat := 0x200028000C
/-- `SVI_STAT.spkcfg` (RO), R358. -/
abbrev F.SVI_STAT_spkcfg : Fld := ⟨R.SVI_STAT, 31, 31⟩
/-- `SVI_STAT.units` (RO), R358. -/
abbrev F.SVI_STAT_units : Fld := ⟨R.SVI_STAT, 25, 16⟩
/-- `SVI_STAT.streams` (RO), R358. -/
abbrev F.SVI_STAT_streams : Fld := ⟨R.SVI_STAT, 9, 0⟩
/-- `SVI_TIDX`, R360. -/
abbrev R.SVI_TIDX : Nat := 0x2000280100
/-- `SVI_TIDX.idx` (RW), R360. -/
abbrev F.SVI_TIDX_idx : Fld := ⟨R.SVI_TIDX, 9, 0⟩
/-- `SVI_TDATA`, R360. -/
abbrev R.SVI_TDATA (i : Nat) : Nat := 0x2000280104 + 4 * i
/-- `SVI_TDATA.d` (RW), R360. -/
abbrev F.SVI_TDATA_d (i : Nat) : Fld := ⟨R.SVI_TDATA i, 31, 0⟩
/-- `SVI_NOSUB`, R360. -/
abbrev R.SVI_NOSUB : Nat := 0x2000280184
/-- `SVI_NOSUB.n` (RO), R360. -/
abbrev F.SVI_NOSUB_n : Fld := ⟨R.SVI_NOSUB, 31, 0⟩
/-- `SVI_GNOSUB`, R360. -/
abbrev R.SVI_GNOSUB : Nat := 0x2000280188
/-- `SVI_GNOSUB.n` (RO), R360. -/
abbrev F.SVI_GNOSUB_n : Fld := ⟨R.SVI_GNOSUB, 31, 0⟩
/-- `SVI_GCHG`, R360. -/
abbrev R.SVI_GCHG (i : Nat) : Nat := 0x2000280200 + 4 * i
/-- `SVI_GCHG.chg` (W1C), R360. -/
abbrev F.SVI_GCHG_chg (i : Nat) : Fld := ⟨R.SVI_GCHG i, 31, 0⟩
/-- `SVI_GSTALE`, R360. -/
abbrev R.SVI_GSTALE (i : Nat) : Nat := 0x2000280280 + 4 * i
/-- `SVI_GSTALE.stale` (RO), R360. -/
abbrev F.SVI_GSTALE_stale (i : Nat) : Fld := ⟨R.SVI_GSTALE i, 31, 0⟩
/-- `SVI_CFG`, R361. -/
abbrev R.SVI_CFG : Nat := 0x2000281000
/-- `SVI_CFG.udpport` (RW (shadow)), R361. -/
abbrev F.SVI_CFG_udpport : Fld := ⟨R.SVI_CFG, 31, 16⟩
/-- `SVI_CFG.ahead` (RW (shadow)), R361. -/
abbrev F.SVI_CFG_ahead : Fld := ⟨R.SVI_CFG, 15, 0⟩
/-- `SVI_I_GCHG`, R362. -/
abbrev R.SVI_I_GCHG (n i : Nat) : Nat := sp n 0x28 0x100 + 4 * i
/-- `SVI_I_GCHG.chg` (W1C), R362. -/
abbrev F.SVI_I_GCHG_chg (n i : Nat) : Fld := ⟨R.SVI_I_GCHG n i, 31, 0⟩
/-- `SVI_I_GSTALE`, R362. -/
abbrev R.SVI_I_GSTALE (n i : Nat) : Nat := sp n 0x28 0x180 + 4 * i
/-- `SVI_I_GSTALE.stale` (RO), R362. -/
abbrev F.SVI_I_GSTALE_stale (n i : Nat) : Fld := ⟨R.SVI_I_GSTALE n i, 31, 0⟩
/-- `AAP_CTL`, R363. -/
abbrev R.AAP_CTL : Nat := 0x20002A0008
/-- `AAP_CTL.clken` (RW), R363. -/
abbrev F.AAP_CTL_clken : Fld := ⟨R.AAP_CTL, 0, 0⟩
/-- `AAP_STAT`, R363. -/
abbrev R.AAP_STAT : Nat := 0x20002A000C
/-- `AAP_STAT.fault` (RO), R363. -/
abbrev F.AAP_STAT_fault : Fld := ⟨R.AAP_STAT, 31, 16⟩
/-- `AAP_STAT.low` (RO), R363. -/
abbrev F.AAP_STAT_low : Fld := ⟨R.AAP_STAT, 15, 0⟩
/-- `AAP_SWCNT`, R363. -/
abbrev R.AAP_SWCNT (i : Nat) : Nat := 0x20002A0100 + 4 * i
/-- `AAP_SWCNT.n` (RO), R363. -/
abbrev F.AAP_SWCNT_n (i : Nat) : Fld := ⟨R.AAP_SWCNT i, 31, 0⟩
/-- `AAP_CLIP`, R363. -/
abbrev R.AAP_CLIP (i : Nat) : Nat := 0x20002A0140 + 4 * i
/-- `AAP_CLIP.n` (RO), R363. -/
abbrev F.AAP_CLIP_n (i : Nat) : Fld := ⟨R.AAP_CLIP i, 31, 0⟩
/-- `AAP_CFG`, R364. -/
abbrev R.AAP_CFG : Nat := 0x20002A1000
/-- `AAP_CFG.fnom` (RW (shadow)), R364. -/
abbrev F.AAP_CFG_fnom : Fld := ⟨R.AAP_CFG, 0, 0⟩
/-- `AAP_CHCFG`, R364. -/
abbrev R.AAP_CHCFG (i : Nat) : Nat := 0x20002A1040 + 4 * i
/-- `AAP_CHCFG.en` (RW (shadow)), R364. -/
abbrev F.AAP_CHCFG_en (i : Nat) : Fld := ⟨R.AAP_CHCFG i, 31, 31⟩
/-- `AAP_CHCFG.range` (RW (shadow)), R364. -/
abbrev F.AAP_CHCFG_range (i : Nat) : Fld := ⟨R.AAP_CHCFG i, 29, 28⟩
/-- `AAP_CHCFG.vstream` (RW (shadow)), R364. -/
abbrev F.AAP_CHCFG_vstream (i : Nat) : Fld := ⟨R.AAP_CHCFG i, 25, 24⟩
/-- `AAP_CHCFG.pos` (RW (shadow)), R364. -/
abbrev F.AAP_CHCFG_pos (i : Nat) : Fld := ⟨R.AAP_CHCFG i, 20, 16⟩
/-- `AAP_FS`, R364. -/
abbrev R.AAP_FS (i : Nat) : Nat := 0x20002A1080 + 4 * i
/-- `AAP_FS.fs` (RW (shadow)), R364. -/
abbrev F.AAP_FS_fs (i : Nat) : Fld := ⟨R.AAP_FS i, 31, 0⟩
/-- `AAP_CAL_w0`, R364. -/
abbrev R.AAP_CAL_w0 (i : Nat) : Nat := 0x20002A10C0 + 8 * i
/-- `AAP_CAL_w0.gainh` (RW (shadow)), R364. -/
abbrev F.AAP_CAL_w0_gainh (i : Nat) : Fld := ⟨R.AAP_CAL_w0 i, 31, 16⟩
/-- `AAP_CAL_w0.gainl` (RW (shadow)), R364. -/
abbrev F.AAP_CAL_w0_gainl (i : Nat) : Fld := ⟨R.AAP_CAL_w0 i, 15, 0⟩
/-- `AAP_CAL_w1`, R364. -/
abbrev R.AAP_CAL_w1 (i : Nat) : Nat := 0x20002A10C4 + 8 * i
/-- `AAP_CAL_w1.offh` (RW (shadow)), R364. -/
abbrev F.AAP_CAL_w1_offh (i : Nat) : Fld := ⟨R.AAP_CAL_w1 i, 31, 16⟩
/-- `AAP_CAL_w1.offl` (RW (shadow)), R364. -/
abbrev F.AAP_CAL_w1_offl (i : Nat) : Fld := ⟨R.AAP_CAL_w1 i, 15, 0⟩
/-- `ALN_CTL`, R388. -/
abbrev R.ALN_CTL : Nat := 0x2000290008
/-- `ALN_STAT`, R388. -/
abbrev R.ALN_STAT : Nat := 0x200029000C
/-- `ALN_STAT.spkcfg` (RO), R388. -/
abbrev F.ALN_STAT_spkcfg : Fld := ⟨R.ALN_STAT, 31, 31⟩
/-- `ALN_STAT.paired` (RO), R388. -/
abbrev F.ALN_STAT_paired : Fld := ⟨R.ALN_STAT, 3, 3⟩
/-- `ALN_STAT.secen` (RO), R388. -/
abbrev F.ALN_STAT_secen : Fld := ⟨R.ALN_STAT, 2, 2⟩
/-- `ALN_STAT.rate` (RO), R388. -/
abbrev F.ALN_STAT_rate : Fld := ⟨R.ALN_STAT, 1, 1⟩
/-- `ALN_STAT.running` (RO), R388. -/
abbrev F.ALN_STAT_running : Fld := ⟨R.ALN_STAT, 0, 0⟩
/-- `ALN_ERR`, R388. -/
abbrev R.ALN_ERR : Nat := 0x2000290018
/-- `ALN_ERR.secwr` (W1C), R388. -/
abbrev F.ALN_ERR_secwr : Fld := ⟨R.ALN_ERR, 0, 0⟩
/-- `ALN_CURIDX_LO`, R389. -/
abbrev R.ALN_CURIDX_LO : Nat := 0x2000290100
/-- `ALN_CURIDX_LO.idx` (RO), R389. -/
abbrev F.ALN_CURIDX_LO_idx : Fld := ⟨R.ALN_CURIDX_LO, 31, 0⟩
/-- `ALN_CURIDX_HI`, R389. -/
abbrev R.ALN_CURIDX_HI : Nat := 0x2000290104
/-- `ALN_CURIDX_HI.idx` (RO), R389. -/
abbrev F.ALN_CURIDX_HI_idx : Fld := ⟨R.ALN_CURIDX_HI, 31, 0⟩
/-- `ALN_SETIDX_LO`, R389. -/
abbrev R.ALN_SETIDX_LO : Nat := 0x2000290108
/-- `ALN_SETIDX_LO.idx` (RO), R389. -/
abbrev F.ALN_SETIDX_LO_idx : Fld := ⟨R.ALN_SETIDX_LO, 31, 0⟩
/-- `ALN_SETIDX_HI`, R389. -/
abbrev R.ALN_SETIDX_HI : Nat := 0x200029010C
/-- `ALN_SETIDX_HI.idx` (RO), R389. -/
abbrev F.ALN_SETIDX_HI_idx : Fld := ⟨R.ALN_SETIDX_HI, 31, 0⟩
/-- `ALN_TOOLATE`, R389. -/
abbrev R.ALN_TOOLATE : Nat := 0x2000290110
/-- `ALN_TOOLATE.n` (RO), R389. -/
abbrev F.ALN_TOOLATE_n : Fld := ⟨R.ALN_TOOLATE, 31, 0⟩
/-- `ALN_AGREETO`, R389. -/
abbrev R.ALN_AGREETO : Nat := 0x2000290114
/-- `ALN_AGREETO.n` (RO), R389. -/
abbrev F.ALN_AGREETO_n : Fld := ⟨R.ALN_AGREETO, 31, 0⟩
/-- `ALN_REVCNT`, R389. -/
abbrev R.ALN_REVCNT : Nat := 0x2000290118
/-- `ALN_REVCNT.n` (RO), R389. -/
abbrev F.ALN_REVCNT_n : Fld := ⟨R.ALN_REVCNT, 31, 0⟩
/-- `ALN_REVCONF`, R389. -/
abbrev R.ALN_REVCONF : Nat := 0x200029011C
/-- `ALN_REVCONF.n` (RO), R389. -/
abbrev F.ALN_REVCONF_n : Fld := ⟨R.ALN_REVCONF, 31, 0⟩
/-- `ALN_MISSCNT`, R389. -/
abbrev R.ALN_MISSCNT : Nat := 0x2000290120
/-- `ALN_MISSCNT.n` (RO), R389. -/
abbrev F.ALN_MISSCNT_n : Fld := ⟨R.ALN_MISSCNT, 31, 0⟩
/-- `ALN_AGREENS`, R389. -/
abbrev R.ALN_AGREENS : Nat := 0x2000290124
/-- `ALN_AGREENS.ns` (RO), R389. -/
abbrev F.ALN_AGREENS_ns : Fld := ⟨R.ALN_AGREENS, 15, 0⟩
/-- `ALN_SCURIDX_LO`, R389. -/
abbrev R.ALN_SCURIDX_LO : Nat := 0x2000290128
/-- `ALN_SCURIDX_LO.idx` (RO), R389. -/
abbrev F.ALN_SCURIDX_LO_idx : Fld := ⟨R.ALN_SCURIDX_LO, 31, 0⟩
/-- `ALN_SCURIDX_HI`, R389. -/
abbrev R.ALN_SCURIDX_HI : Nat := 0x200029012C
/-- `ALN_SCURIDX_HI.idx` (RO), R389. -/
abbrev F.ALN_SCURIDX_HI_idx : Fld := ⟨R.ALN_SCURIDX_HI, 31, 0⟩
/-- `ALN_HELD`, R389. -/
abbrev R.ALN_HELD (i : Nat) : Nat := 0x2000290140 + 4 * i
/-- `ALN_HELD.held` (RO), R389. -/
abbrev F.ALN_HELD_held (i : Nat) : Fld := ⟨R.ALN_HELD i, 31, 0⟩
/-- `ALN_CFG`, R391. -/
abbrev R.ALN_CFG : Nat := 0x2000291000
/-- `ALN_CFG.secen` (RW (shadow)), R391. -/
abbrev F.ALN_CFG_secen : Fld := ⟨R.ALN_CFG, 1, 1⟩
/-- `ALN_CFG.rate` (RW (shadow)), R391. -/
abbrev F.ALN_CFG_rate : Fld := ⟨R.ALN_CFG, 0, 0⟩
/-- `ALN_HORIZON`, R391. -/
abbrev R.ALN_HORIZON : Nat := 0x2000291004
/-- `ALN_HORIZON.ns` (RW (shadow)), R391. -/
abbrev F.ALN_HORIZON_ns : Fld := ⟨R.ALN_HORIZON, 20, 0⟩
/-- `ALN_GLEAN`, R391. -/
abbrev R.ALN_GLEAN : Nat := 0x2000291008
/-- `ALN_GLEAN.ns` (RW (shadow)), R391. -/
abbrev F.ALN_GLEAN_ns : Fld := ⟨R.ALN_GLEAN, 21, 0⟩
/-- `ALN_SECRING_LO`, R391. -/
abbrev R.ALN_SECRING_LO : Nat := 0x200029100C
/-- `ALN_SECRING_LO.addr` (RW (shadow)), R391. -/
abbrev F.ALN_SECRING_LO_addr : Fld := ⟨R.ALN_SECRING_LO, 31, 16⟩
/-- `ALN_SECRING_HI`, R391. -/
abbrev R.ALN_SECRING_HI : Nat := 0x2000291010
/-- `ALN_SECRING_HI.addr` (RW (shadow)), R391. -/
abbrev F.ALN_SECRING_HI_addr : Fld := ⟨R.ALN_SECRING_HI, 7, 0⟩
/-- `ALN_STRM`, R391. -/
abbrev R.ALN_STRM (i : Nat) : Nat := 0x2000291100 + 4 * i
/-- `ALN_STRM.rsmp` (RW (shadow)), R391. -/
abbrev F.ALN_STRM_rsmp (i : Nat) : Fld := ⟨R.ALN_STRM i, 3, 2⟩
/-- `ALN_STRM.fill` (RW (shadow)), R391. -/
abbrev F.ALN_STRM_fill (i : Nat) : Fld := ⟨R.ALN_STRM i, 1, 0⟩
/-- `ALN_I_CURIDX_LO`, R394. -/
abbrev R.ALN_I_CURIDX_LO (n : Nat) : Nat := sp n 0x29 0x100
/-- `ALN_I_CURIDX_LO.idx` (RO), R394. -/
abbrev F.ALN_I_CURIDX_LO_idx (n : Nat) : Fld := ⟨R.ALN_I_CURIDX_LO n, 31, 0⟩
/-- `ALN_I_CURIDX_HI`, R394. -/
abbrev R.ALN_I_CURIDX_HI (n : Nat) : Nat := sp n 0x29 0x104
/-- `ALN_I_CURIDX_HI.idx` (RO), R394. -/
abbrev F.ALN_I_CURIDX_HI_idx (n : Nat) : Fld := ⟨R.ALN_I_CURIDX_HI n, 31, 0⟩
/-- `ALN_I_SETIDX_LO`, R394. -/
abbrev R.ALN_I_SETIDX_LO (n : Nat) : Nat := sp n 0x29 0x108
/-- `ALN_I_SETIDX_LO.idx` (RO), R394. -/
abbrev F.ALN_I_SETIDX_LO_idx (n : Nat) : Fld := ⟨R.ALN_I_SETIDX_LO n, 31, 0⟩
/-- `ALN_I_SETIDX_HI`, R394. -/
abbrev R.ALN_I_SETIDX_HI (n : Nat) : Nat := sp n 0x29 0x10C
/-- `ALN_I_SETIDX_HI.idx` (RO), R394. -/
abbrev F.ALN_I_SETIDX_HI_idx (n : Nat) : Fld := ⟨R.ALN_I_SETIDX_HI n, 31, 0⟩
/-- `ALN_I_REVIDX_LO`, R394. -/
abbrev R.ALN_I_REVIDX_LO (n : Nat) : Nat := sp n 0x29 0x110
/-- `ALN_I_REVIDX_LO.idx` (RO), R394. -/
abbrev F.ALN_I_REVIDX_LO_idx (n : Nat) : Fld := ⟨R.ALN_I_REVIDX_LO n, 31, 0⟩
/-- `ALN_I_REVIDX_HI`, R394. -/
abbrev R.ALN_I_REVIDX_HI (n : Nat) : Nat := sp n 0x29 0x114
/-- `ALN_I_REVIDX_HI.idx` (RO), R394. -/
abbrev F.ALN_I_REVIDX_HI_idx (n : Nat) : Fld := ⟨R.ALN_I_REVIDX_HI n, 31, 0⟩
/-- `PHE_STAT`, R416. -/
abbrev R.PHE_STAT : Nat := 0x20002C000C
/-- `PHE_STAT.spkcfg` (RO), R416. -/
abbrev F.PHE_STAT_spkcfg : Fld := ⟨R.PHE_STAT, 31, 31⟩
/-- `PHE_STAT.late` (RO), R416. -/
abbrev F.PHE_STAT_late : Fld := ⟨R.PHE_STAT, 23, 16⟩
/-- `PHE_STAT.carry` (RO), R416. -/
abbrev F.PHE_STAT_carry : Fld := ⟨R.PHE_STAT, 15, 8⟩
/-- `PHE_STAT.busy` (RO), R416. -/
abbrev F.PHE_STAT_busy : Fld := ⟨R.PHE_STAT, 7, 0⟩
/-- `PHE_ERR`, R416. -/
abbrev R.PHE_ERR : Nat := 0x20002C0018
/-- `PHE_ERR.ringerr` (W1C), R416. -/
abbrev F.PHE_ERR_ringerr : Fld := ⟨R.PHE_ERR, 0, 0⟩
/-- `PHE_TIDX`, R418. -/
abbrev R.PHE_TIDX : Nat := 0x20002C0100
/-- `PHE_TIDX.idx` (RW), R418. -/
abbrev F.PHE_TIDX_idx : Fld := ⟨R.PHE_TIDX, 12, 0⟩
/-- `PHE_TDATA`, R418. -/
abbrev R.PHE_TDATA (i : Nat) : Nat := 0x20002C0104 + 4 * i
/-- `PHE_TDATA.d` (RW), R418. -/
abbrev F.PHE_TDATA_d (i : Nat) : Fld := ⟨R.PHE_TDATA i, 31, 0⟩
/-- `PHE_DONEIDX_LO`, R418. -/
abbrev R.PHE_DONEIDX_LO : Nat := 0x20002C0124
/-- `PHE_DONEIDX_LO.idx` (RO), R418. -/
abbrev F.PHE_DONEIDX_LO_idx : Fld := ⟨R.PHE_DONEIDX_LO, 31, 0⟩
/-- `PHE_DONEIDX_HI`, R418. -/
abbrev R.PHE_DONEIDX_HI : Nat := 0x20002C0128
/-- `PHE_DONEIDX_HI.idx` (RO), R418. -/
abbrev F.PHE_DONEIDX_HI_idx : Fld := ⟨R.PHE_DONEIDX_HI, 31, 0⟩
/-- `PHE_LATECNT`, R418. -/
abbrev R.PHE_LATECNT : Nat := 0x20002C012C
/-- `PHE_LATECNT.n` (RO), R418. -/
abbrev F.PHE_LATECNT_n : Fld := ⟨R.PHE_LATECNT, 31, 0⟩
/-- `PHE_ABANDCNT`, R418. -/
abbrev R.PHE_ABANDCNT : Nat := 0x20002C0130
/-- `PHE_ABANDCNT.n` (RO), R418. -/
abbrev F.PHE_ABANDCNT_n : Fld := ⟨R.PHE_ABANDCNT, 31, 0⟩
/-- `PHE_CORRCNT`, R418. -/
abbrev R.PHE_CORRCNT : Nat := 0x20002C0134
/-- `PHE_CORRCNT.n` (RO), R418. -/
abbrev F.PHE_CORRCNT_n : Fld := ⟨R.PHE_CORRCNT, 31, 0⟩
/-- `PHE_CORRDEFER`, R418. -/
abbrev R.PHE_CORRDEFER : Nat := 0x20002C0138
/-- `PHE_CORRDEFER.n` (RO), R418. -/
abbrev F.PHE_CORRDEFER_n : Fld := ⟨R.PHE_CORRDEFER, 31, 0⟩
/-- `PHE_CORRDROP`, R418. -/
abbrev R.PHE_CORRDROP : Nat := 0x20002C013C
/-- `PHE_CORRDROP.n` (RO), R418. -/
abbrev F.PHE_CORRDROP_n : Fld := ⟨R.PHE_CORRDROP, 31, 0⟩
/-- `PHE_UNITCOST`, R418. -/
abbrev R.PHE_UNITCOST (i : Nat) : Nat := 0x20002C0140 + 8 * i
/-- `PHE_UNITCOST.cost` (RO), R418. -/
abbrev F.PHE_UNITCOST_cost (i : Nat) : Fld := ⟨R.PHE_UNITCOST i, 31, 0⟩
/-- `PHE_UNITDUR`, R418. -/
abbrev R.PHE_UNITDUR (i : Nat) : Nat := 0x20002C0144 + 8 * i
/-- `PHE_UNITDUR.ns` (RO), R418. -/
abbrev F.PHE_UNITDUR_ns (i : Nat) : Fld := ⟨R.PHE_UNITDUR i, 15, 0⟩
/-- `PHE_CFG`, R419. -/
abbrev R.PHE_CFG : Nat := 0x20002C1000
/-- `PHE_CFG.fnom` (RW (shadow)), R419. -/
abbrev F.PHE_CFG_fnom : Fld := ⟨R.PHE_CFG, 16, 16⟩
/-- `PHE_CFG.corrres` (RW (shadow)), R419. -/
abbrev F.PHE_CFG_corrres : Fld := ⟨R.PHE_CFG, 9, 0⟩
/-- `PHE_I_DONEIDX_LO`, R420. -/
abbrev R.PHE_I_DONEIDX_LO (n : Nat) : Nat := sp n 0x2C 0x100
/-- `PHE_I_DONEIDX_LO.idx` (RO), R420. -/
abbrev F.PHE_I_DONEIDX_LO_idx (n : Nat) : Fld := ⟨R.PHE_I_DONEIDX_LO n, 31, 0⟩
/-- `PHE_I_DONEIDX_HI`, R420. -/
abbrev R.PHE_I_DONEIDX_HI (n : Nat) : Nat := sp n 0x2C 0x104
/-- `PHE_I_DONEIDX_HI.idx` (RO), R420. -/
abbrev F.PHE_I_DONEIDX_HI_idx (n : Nat) : Fld := ⟨R.PHE_I_DONEIDX_HI n, 31, 0⟩
/-- `PHE_I_CORRIDX_LO`, R420. -/
abbrev R.PHE_I_CORRIDX_LO (n : Nat) : Nat := sp n 0x2C 0x108
/-- `PHE_I_CORRIDX_LO.idx` (RO), R420. -/
abbrev F.PHE_I_CORRIDX_LO_idx (n : Nat) : Fld := ⟨R.PHE_I_CORRIDX_LO n, 31, 0⟩
/-- `PHE_I_CORRIDX_HI`, R420. -/
abbrev R.PHE_I_CORRIDX_HI (n : Nat) : Nat := sp n 0x2C 0x10C
/-- `PHE_I_CORRIDX_HI.idx` (RO), R420. -/
abbrev F.PHE_I_CORRIDX_HI_idx (n : Nat) : Fld := ⟨R.PHE_I_CORRIDX_HI n, 31, 0⟩
/-- `PHE_I_TIDX`, R420. -/
abbrev R.PHE_I_TIDX (n : Nat) : Nat := sp n 0x2C 0x110
/-- `PHE_I_TIDX.idx` (RW), R420. -/
abbrev F.PHE_I_TIDX_idx (n : Nat) : Fld := ⟨R.PHE_I_TIDX n, 12, 0⟩
/-- `PHE_I_TDATA`, R420. -/
abbrev R.PHE_I_TDATA (n i : Nat) : Nat := sp n 0x2C 0x114 + 4 * i
/-- `PHE_I_TDATA.d` (RW), R420. -/
abbrev F.PHE_I_TDATA_d (n i : Nat) : Fld := ⟨R.PHE_I_TDATA n i, 31, 0⟩
/-- `PHE_I_CMD`, R420. -/
abbrev R.PHE_I_CMD (n : Nat) : Nat := sp n 0x2C 0x1F0
/-- `PHE_I_CMD.code` (WO), R420. -/
abbrev F.PHE_I_CMD_code (n : Nat) : Fld := ⟨R.PHE_I_CMD n, 7, 0⟩
/-- `PHE_I_CMDSTAT`, R420. -/
abbrev R.PHE_I_CMDSTAT (n : Nat) : Nat := sp n 0x2C 0x1F4
/-- `PHE_I_CMDSTAT.v` (RO), R420. -/
abbrev F.PHE_I_CMDSTAT_v (n : Nat) : Fld := ⟨R.PHE_I_CMDSTAT n, 31, 0⟩
/-- `SCH_STAT`, R447. -/
abbrev R.SCH_STAT : Nat := 0x200030000C
/-- `SCH_STAT.run` (RO), R447. -/
abbrev F.SCH_STAT_run : Fld := ⟨R.SCH_STAT, 31, 31⟩
/-- `SCH_STAT.phase` (RO), R447. -/
abbrev F.SCH_STAT_phase : Fld := ⟨R.SCH_STAT, 22, 16⟩
/-- `SCH_STAT.nfault` (RO), R447. -/
abbrev F.SCH_STAT_nfault : Fld := ⟨R.SCH_STAT, 6, 0⟩
/-- `SCH_TIDX`, R450. -/
abbrev R.SCH_TIDX : Nat := 0x2000300100
/-- `SCH_TIDX.idx` (RW), R450. -/
abbrev F.SCH_TIDX_idx : Fld := ⟨R.SCH_TIDX, 9, 0⟩
/-- `SCH_TDATA`, R450. -/
abbrev R.SCH_TDATA (i : Nat) : Nat := 0x2000300104 + 4 * i
/-- `SCH_TDATA.d` (RW), R450. -/
abbrev F.SCH_TDATA_d (i : Nat) : Fld := ⟨R.SCH_TDATA i, 31, 0⟩
/-- `SCH_CURIDX_LO`, R450. -/
abbrev R.SCH_CURIDX_LO : Nat := 0x2000300144
/-- `SCH_CURIDX_LO.idx` (RO), R450. -/
abbrev F.SCH_CURIDX_LO_idx : Fld := ⟨R.SCH_CURIDX_LO, 31, 0⟩
/-- `SCH_CURIDX_HI`, R450. -/
abbrev R.SCH_CURIDX_HI : Nat := 0x2000300148
/-- `SCH_CURIDX_HI.idx` (RO), R450. -/
abbrev F.SCH_CURIDX_HI_idx : Fld := ⟨R.SCH_CURIDX_HI, 31, 0⟩
/-- `SCH_NORELCNT`, R450. -/
abbrev R.SCH_NORELCNT : Nat := 0x200030014C
/-- `SCH_NORELCNT.n` (RO), R450. -/
abbrev F.SCH_NORELCNT_n : Fld := ⟨R.SCH_NORELCNT, 31, 0⟩
/-- `SCH_CORE`, R450. -/
abbrev R.SCH_CORE (i : Nat) : Nat := 0x2000300200 + 4 * i
/-- `SCH_CORE.busy` (RO), R450. -/
abbrev F.SCH_CORE_busy (i : Nat) : Fld := ⟨R.SCH_CORE i, 31, 31⟩
/-- `SCH_CORE.class` (RO), R450. -/
abbrev F.SCH_CORE_class (i : Nat) : Fld := ⟨R.SCH_CORE i, 30, 29⟩
/-- `SCH_CORE.inst` (RO), R450. -/
abbrev F.SCH_CORE_inst (i : Nat) : Fld := ⟨R.SCH_CORE i, 21, 16⟩
/-- `SCH_CORE.task` (RO), R450. -/
abbrev F.SCH_CORE_task (i : Nat) : Fld := ⟨R.SCH_CORE i, 9, 0⟩
/-- `SCH_CFG`, R451. -/
abbrev R.SCH_CFG : Nat := 0x2000301000
/-- `SCH_CFG.kover` (RW (shadow)), R451. -/
abbrev F.SCH_CFG_kover : Fld := ⟨R.SCH_CFG, 11, 8⟩
/-- `SCH_CFG.frame` (RW (shadow)), R451. -/
abbrev F.SCH_CFG_frame : Fld := ⟨R.SCH_CFG, 6, 0⟩
/-- `SCH_I_TIDX`, R452. -/
abbrev R.SCH_I_TIDX (n : Nat) : Nat := sp n 0x30 0x100
/-- `SCH_I_TIDX.task` (RW), R452. -/
abbrev F.SCH_I_TIDX_task (n : Nat) : Fld := ⟨R.SCH_I_TIDX n, 9, 0⟩
/-- `SCH_I_TSTAT`, R452. -/
abbrev R.SCH_I_TSTAT (n i : Nat) : Nat := sp n 0x30 0x104 + 4 * i
/-- `SCH_I_TSTAT.d` (RO), R452. -/
abbrev F.SCH_I_TSTAT_d (n i : Nat) : Fld := ⟨R.SCH_I_TSTAT n i, 31, 0⟩
/-- `SCH_I_OVRTASK`, R452. -/
abbrev R.SCH_I_OVRTASK (n : Nat) : Nat := sp n 0x30 0x124
/-- `SCH_I_OVRTASK.task` (RO), R452. -/
abbrev F.SCH_I_OVRTASK_task (n : Nat) : Fld := ⟨R.SCH_I_OVRTASK n, 9, 0⟩
/-- `SCH_I_OVRIDX_LO`, R452. -/
abbrev R.SCH_I_OVRIDX_LO (n : Nat) : Nat := sp n 0x30 0x128
/-- `SCH_I_OVRIDX_LO.idx` (RO), R452. -/
abbrev F.SCH_I_OVRIDX_LO_idx (n : Nat) : Fld := ⟨R.SCH_I_OVRIDX_LO n, 31, 0⟩
/-- `SCH_I_OVRIDX_HI`, R452. -/
abbrev R.SCH_I_OVRIDX_HI (n : Nat) : Nat := sp n 0x30 0x12C
/-- `SCH_I_OVRIDX_HI.idx` (RO), R452. -/
abbrev F.SCH_I_OVRIDX_HI_idx (n : Nat) : Fld := ⟨R.SCH_I_OVRIDX_HI n, 31, 0⟩
/-- `VIM_STAT`, R476. -/
abbrev R.VIM_STAT : Nat := 0x200031000C
/-- `VIM_STAT.pending` (RO), R476. -/
abbrev F.VIM_STAT_pending : Fld := ⟨R.VIM_STAT, 31, 31⟩
/-- `VIM_STAT.agreed` (RO), R476. -/
abbrev F.VIM_STAT_agreed : Fld := ⟨R.VIM_STAT, 30, 30⟩
/-- `VIM_STAT.harrowing` (RO), R476. -/
abbrev F.VIM_STAT_harrowing : Fld := ⟨R.VIM_STAT, 29, 29⟩
/-- `VIM_STAT.ninst` (RO), R476. -/
abbrev F.VIM_STAT_ninst : Fld := ⟨R.VIM_STAT, 6, 0⟩
/-- `VIM_TIDX`, R478. -/
abbrev R.VIM_TIDX : Nat := 0x2000310100
/-- `VIM_TIDX.idx` (RW), R478. -/
abbrev F.VIM_TIDX_idx : Fld := ⟨R.VIM_TIDX, 13, 0⟩
/-- `VIM_TDATA`, R478. -/
abbrev R.VIM_TDATA (i : Nat) : Nat := 0x2000310104 + 4 * i
/-- `VIM_TDATA.d` (RW), R478. -/
abbrev F.VIM_TDATA_d (i : Nat) : Fld := ⟨R.VIM_TDATA i, 31, 0⟩
/-- `VIM_GSEL`, R478. -/
abbrev R.VIM_GSEL : Nat := 0x2000310144
/-- `VIM_GSEL.ddr` (RW), R478. -/
abbrev F.VIM_GSEL_ddr : Fld := ⟨R.VIM_GSEL, 31, 31⟩
/-- `VIM_GSEL.gran` (RW), R478. -/
abbrev F.VIM_GSEL_gran : Fld := ⟨R.VIM_GSEL, 13, 0⟩
/-- `VIM_ISTATE`, R478. -/
abbrev R.VIM_ISTATE (i : Nat) : Nat := 0x2000310200 + 4 * i
/-- `VIM_ISTATE.overshare` (RO), R478. -/
abbrev F.VIM_ISTATE_overshare (i : Nat) : Fld := ⟨R.VIM_ISTATE i, 4, 4⟩
/-- `VIM_ISTATE.faulted` (RO), R478. -/
abbrev F.VIM_ISTATE_faulted (i : Nat) : Fld := ⟨R.VIM_ISTATE i, 3, 3⟩
/-- `VIM_ISTATE.state` (RO), R478. -/
abbrev F.VIM_ISTATE_state (i : Nat) : Fld := ⟨R.VIM_ISTATE i, 2, 0⟩
/-- `VIM_QRES`, R478. -/
abbrev R.VIM_QRES (i : Nat) : Nat := 0x2000310300 + 4 * i
/-- `VIM_QRES.aborted` (RO), R478. -/
abbrev F.VIM_QRES_aborted (i : Nat) : Fld := ⟨R.VIM_QRES i, 31, 16⟩
/-- `VIM_QRES.finished` (RO), R478. -/
abbrev F.VIM_QRES_finished (i : Nat) : Fld := ⟨R.VIM_QRES i, 15, 0⟩
/-- `VIM_CFG`, R479. -/
abbrev R.VIM_CFG : Nat := 0x2000311000
/-- `VIM_CFG.qtmo` (RW (shadow)), R479. -/
abbrev F.VIM_CFG_qtmo : Fld := ⟨R.VIM_CFG, 31, 16⟩
/-- `VIM_CFG.mgrtok` (RW (shadow)), R479. -/
abbrev F.VIM_CFG_mgrtok : Fld := ⟨R.VIM_CFG, 5, 0⟩
/-- `VIM_I_STATE`, R480. -/
abbrev R.VIM_I_STATE (n : Nat) : Nat := sp n 0x31 0x100
/-- `VIM_I_STATE.overshare` (RO), R480. -/
abbrev F.VIM_I_STATE_overshare (n : Nat) : Fld := ⟨R.VIM_I_STATE n, 4, 4⟩
/-- `VIM_I_STATE.faulted` (RO), R480. -/
abbrev F.VIM_I_STATE_faulted (n : Nat) : Fld := ⟨R.VIM_I_STATE n, 3, 3⟩
/-- `VIM_I_STATE.state` (RO), R480. -/
abbrev F.VIM_I_STATE_state (n : Nat) : Fld := ⟨R.VIM_I_STATE n, 2, 0⟩
/-- `VIM_I_QRES`, R480. -/
abbrev R.VIM_I_QRES (n : Nat) : Nat := sp n 0x31 0x104
/-- `VIM_I_QRES.v` (RO), R480. -/
abbrev F.VIM_I_QRES_v (n : Nat) : Fld := ⟨R.VIM_I_QRES n, 31, 0⟩
/-- `VIM_I_QCELLS`, R480. -/
abbrev R.VIM_I_QCELLS (n : Nat) : Nat := sp n 0x31 0x108
/-- `VIM_I_QCELLS.share` (RO), R480. -/
abbrev F.VIM_I_QCELLS_share (n : Nat) : Fld := ⟨R.VIM_I_QCELLS n, 16, 0⟩
/-- `VIM_I_QOCC`, R480. -/
abbrev R.VIM_I_QOCC (n : Nat) : Nat := sp n 0x31 0x10C
/-- `VIM_I_QOCC.cells` (RO), R480. -/
abbrev F.VIM_I_QOCC_cells (n : Nat) : Fld := ⟨R.VIM_I_QOCC n, 16, 0⟩
/-- `VIM_I_TOKENS`, R480. -/
abbrev R.VIM_I_TOKENS (n : Nat) : Nat := sp n 0x31 0x110
/-- `VIM_I_TOKENS.tokens` (RO), R480. -/
abbrev F.VIM_I_TOKENS_tokens (n : Nat) : Fld := ⟨R.VIM_I_TOKENS n, 5, 0⟩
/-- `DMA_STAT`, R481. -/
abbrev R.DMA_STAT : Nat := 0x200032000C
/-- `DMA_STAT.busy` (RO), R481. -/
abbrev F.DMA_STAT_busy : Fld := ⟨R.DMA_STAT, 5, 0⟩
/-- `DMA_CHAN`, R481. -/
abbrev R.DMA_CHAN (i : Nat) : Nat := 0x2000320200 + 4 * i
/-- `DMA_CHAN.busy` (RO), R481. -/
abbrev F.DMA_CHAN_busy (i : Nat) : Fld := ⟨R.DMA_CHAN i, 31, 31⟩
/-- `DMA_CHAN.rqid` (RO), R481. -/
abbrev F.DMA_CHAN_rqid (i : Nat) : Fld := ⟨R.DMA_CHAN i, 9, 0⟩
/-- `DMA_I_RING_LO`, R482. -/
abbrev R.DMA_I_RING_LO (n : Nat) : Nat := sp n 0x32 0x100
/-- `DMA_I_RING_LO.addr` (RW), R482. -/
abbrev F.DMA_I_RING_LO_addr (n : Nat) : Fld := ⟨R.DMA_I_RING_LO n, 31, 5⟩
/-- `DMA_I_RING_HI`, R482. -/
abbrev R.DMA_I_RING_HI (n : Nat) : Nat := sp n 0x32 0x104
/-- `DMA_I_RING_HI.addr` (RW), R482. -/
abbrev F.DMA_I_RING_HI_addr (n : Nat) : Fld := ⟨R.DMA_I_RING_HI n, 7, 0⟩
/-- `DMA_I_RINGSZ`, R482. -/
abbrev R.DMA_I_RINGSZ (n : Nat) : Nat := sp n 0x32 0x108
/-- `DMA_I_RINGSZ.log2` (RW), R482. -/
abbrev F.DMA_I_RINGSZ_log2 (n : Nat) : Fld := ⟨R.DMA_I_RINGSZ n, 3, 0⟩
/-- `DMA_I_TAIL`, R482. -/
abbrev R.DMA_I_TAIL (n : Nat) : Nat := sp n 0x32 0x10C
/-- `DMA_I_TAIL.tail` (RW), R482. -/
abbrev F.DMA_I_TAIL_tail (n : Nat) : Fld := ⟨R.DMA_I_TAIL n, 11, 0⟩
/-- `DMA_I_HEAD`, R482. -/
abbrev R.DMA_I_HEAD (n : Nat) : Nat := sp n 0x32 0x110
/-- `DMA_I_HEAD.head` (RO), R482. -/
abbrev F.DMA_I_HEAD_head (n : Nat) : Fld := ⟨R.DMA_I_HEAD n, 11, 0⟩
/-- `DMA_I_DONE`, R482. -/
abbrev R.DMA_I_DONE (n : Nat) : Nat := sp n 0x32 0x114
/-- `DMA_I_DONE.n` (RO), R482. -/
abbrev F.DMA_I_DONE_n (n : Nat) : Fld := ⟨R.DMA_I_DONE n, 31, 0⟩
/-- `DMA_I_ACTIVE`, R482. -/
abbrev R.DMA_I_ACTIVE (n : Nat) : Nat := sp n 0x32 0x118
/-- `DMA_I_ACTIVE.chan` (RO), R482. -/
abbrev F.DMA_I_ACTIVE_chan (n : Nat) : Fld := ⟨R.DMA_I_ACTIVE n, 13, 8⟩
/-- `DMA_I_ACTIVE.held` (RO), R482. -/
abbrev F.DMA_I_ACTIVE_held (n : Nat) : Fld := ⟨R.DMA_I_ACTIVE n, 6, 0⟩
/-- `DPL_BMP_LO`, R483. -/
abbrev R.DPL_BMP_LO (i : Nat) : Nat := 0x2000330200 + 32 * i
/-- `DPL_BMP_LO.addr` (RW), R483. -/
abbrev F.DPL_BMP_LO_addr (i : Nat) : Fld := ⟨R.DPL_BMP_LO i, 31, 12⟩
/-- `DPL_BMP_HI`, R483. -/
abbrev R.DPL_BMP_HI (i : Nat) : Nat := 0x2000330204 + 32 * i
/-- `DPL_BMP_HI.en` (RW), R483. -/
abbrev F.DPL_BMP_HI_en (i : Nat) : Fld := ⟨R.DPL_BMP_HI i, 31, 31⟩
/-- `DPL_BMP_HI.addr` (RW), R483. -/
abbrev F.DPL_BMP_HI_addr (i : Nat) : Fld := ⟨R.DPL_BMP_HI i, 7, 0⟩
/-- `DPL_WIN`, R483. -/
abbrev R.DPL_WIN (i : Nat) : Nat := 0x2000330208 + 32 * i
/-- `DPL_WIN.base` (RW), R483. -/
abbrev F.DPL_WIN_base (i : Nat) : Fld := ⟨R.DPL_WIN i, 18, 0⟩
/-- `DPL_WINSZ`, R483. -/
abbrev R.DPL_WINSZ (i : Nat) : Nat := 0x200033020C + 32 * i
/-- `DPL_WINSZ.gran` (RW), R483. -/
abbrev F.DPL_WINSZ_gran (i : Nat) : Fld := ⟨R.DPL_WINSZ i, 11, 0⟩
/-- `DPL_OUTSIDE`, R483. -/
abbrev R.DPL_OUTSIDE (i : Nat) : Nat := 0x2000330210 + 32 * i
/-- `DPL_OUTSIDE.n` (RO), R483. -/
abbrev F.DPL_OUTSIDE_n (i : Nat) : Fld := ⟨R.DPL_OUTSIDE i, 31, 0⟩
/-- `PUB_STAT`, R505. -/
abbrev R.PUB_STAT : Nat := 0x200034000C
/-- `PUB_STAT.spkonly` (RO), R505. -/
abbrev F.PUB_STAT_spkonly : Fld := ⟨R.PUB_STAT, 31, 31⟩
/-- `PUB_STAT.keyloss` (RO), R505. -/
abbrev F.PUB_STAT_keyloss : Fld := ⟨R.PUB_STAT, 30, 30⟩
/-- `PUB_STAT.npub` (RO), R505. -/
abbrev F.PUB_STAT_npub : Fld := ⟨R.PUB_STAT, 8, 0⟩
/-- `PUB_TIDX`, R507. -/
abbrev R.PUB_TIDX : Nat := 0x2000340100
/-- `PUB_TIDX.idx` (RW), R507. -/
abbrev F.PUB_TIDX_idx : Fld := ⟨R.PUB_TIDX, 10, 0⟩
/-- `PUB_KEYLOSS`, R507. -/
abbrev R.PUB_KEYLOSS (i : Nat) : Nat := 0x2000340140 + 4 * i
/-- `PUB_KEYLOSS.loss` (RO), R507. -/
abbrev F.PUB_KEYLOSS_loss (i : Nat) : Fld := ⟨R.PUB_KEYLOSS i, 31, 0⟩
/-- `PUB_TDATA`, R507. -/
abbrev R.PUB_TDATA (i : Nat) : Nat := 0x2000340200 + 4 * i
/-- `PUB_TDATA.d` (RW), R507. -/
abbrev F.PUB_TDATA_d (i : Nat) : Fld := ⟨R.PUB_TDATA i, 31, 0⟩
/-- `BIO_STAT`, R508. -/
abbrev R.BIO_STAT : Nat := 0x200035000C
/-- `BIO_STAT.supfault` (RO), R508. -/
abbrev F.BIO_STAT_supfault : Fld := ⟨R.BIO_STAT, 1, 1⟩
/-- `BIO_STAT.spkctl` (RO), R508. -/
abbrev F.BIO_STAT_spkctl : Fld := ⟨R.BIO_STAT, 0, 0⟩
/-- `BIO_BOUT`, R508. -/
abbrev R.BIO_BOUT : Nat := 0x2000350100
/-- `BIO_BOUT.drive` (RO), R508. -/
abbrev F.BIO_BOUT_drive : Fld := ⟨R.BIO_BOUT, 15, 0⟩
/-- `BIO_RDBK`, R508. -/
abbrev R.BIO_RDBK : Nat := 0x2000350104
/-- `BIO_RDBK.high` (RO), R508. -/
abbrev F.BIO_RDBK_high : Fld := ⟨R.BIO_RDBK, 15, 0⟩
/-- `BIO_COILOPEN`, R508. -/
abbrev R.BIO_COILOPEN : Nat := 0x2000350108
/-- `BIO_COILOPEN.open` (RO), R508. -/
abbrev F.BIO_COILOPEN_open : Fld := ⟨R.BIO_COILOPEN, 15, 0⟩
/-- `BIO_DRVFAIL`, R508. -/
abbrev R.BIO_DRVFAIL : Nat := 0x200035010C
/-- `BIO_DRVFAIL.fail` (RO), R508. -/
abbrev F.BIO_DRVFAIL_fail : Fld := ⟨R.BIO_DRVFAIL, 15, 0⟩
/-- `BIO_BIN`, R508. -/
abbrev R.BIO_BIN : Nat := 0x2000350110
/-- `BIO_BIN.state` (RO), R508. -/
abbrev F.BIO_BIN_state : Fld := ⟨R.BIO_BIN, 31, 0⟩
/-- `BIO_CHAT`, R508. -/
abbrev R.BIO_CHAT : Nat := 0x2000350114
/-- `BIO_CHAT.blocked` (RO), R508. -/
abbrev F.BIO_CHAT_blocked : Fld := ⟨R.BIO_CHAT, 31, 0⟩
/-- `BIO_BINQ0`, R508. -/
abbrev R.BIO_BINQ0 : Nat := 0x2000350118
/-- `BIO_BINQ0.ns` (RO), R508. -/
abbrev F.BIO_BINQ0_ns : Fld := ⟨R.BIO_BINQ0, 31, 0⟩
/-- `BIO_BINQ1`, R508. -/
abbrev R.BIO_BINQ1 : Nat := 0x200035011C
/-- `BIO_BINQ1.ns` (RO), R508. -/
abbrev F.BIO_BINQ1_ns : Fld := ⟨R.BIO_BINQ1, 31, 0⟩
/-- `BIO_BINQ2`, R508. -/
abbrev R.BIO_BINQ2 : Nat := 0x2000350120
/-- `BIO_BINQ2.valid` (RO), R508. -/
abbrev F.BIO_BINQ2_valid : Fld := ⟨R.BIO_BINQ2, 31, 31⟩
/-- `BIO_BINQ2.unchat` (RO), R508. -/
abbrev F.BIO_BINQ2_unchat : Fld := ⟨R.BIO_BINQ2, 9, 9⟩
/-- `BIO_BINQ2.level` (RO), R508. -/
abbrev F.BIO_BINQ2_level : Fld := ⟨R.BIO_BINQ2, 8, 8⟩
/-- `BIO_BINQ2.input` (RO), R508. -/
abbrev F.BIO_BINQ2_input : Fld := ⟨R.BIO_BINQ2, 4, 0⟩
/-- `BIO_BINQOVF`, R508. -/
abbrev R.BIO_BINQOVF : Nat := 0x2000350124
/-- `BIO_BINQOVF.n` (RO), R508. -/
abbrev F.BIO_BINQOVF_n : Fld := ⟨R.BIO_BINQOVF, 31, 0⟩
/-- `BIO_OMAP`, R509. -/
abbrev R.BIO_OMAP (i j : Nat) : Nat := 0x2000351000 + 32 * i + 4 * j
/-- `BIO_OMAP.src` (RW (shadow)), R509. -/
abbrev F.BIO_OMAP_src (i j : Nat) : Fld := ⟨R.BIO_OMAP i j, 31, 0⟩
/-- `BIO_OCFG`, R509. -/
abbrev R.BIO_OCFG (i : Nat) : Nat := 0x2000351200 + 4 * i
/-- `BIO_OCFG.supen` (RW (shadow)), R509. -/
abbrev F.BIO_OCFG_supen (i : Nat) : Fld := ⟨R.BIO_OCFG i, 31, 31⟩
/-- `BIO_OCFG.minon` (RW (shadow)), R509. -/
abbrev F.BIO_OCFG_minon (i : Nat) : Fld := ⟨R.BIO_OCFG i, 9, 0⟩
/-- `BIO_ICFG`, R509. -/
abbrev R.BIO_ICFG (i : Nat) : Nat := 0x2000351300 + 4 * i
/-- `BIO_ICFG.db` (RW (shadow)), R509. -/
abbrev F.BIO_ICFG_db (i : Nat) : Fld := ⟨R.BIO_ICFG i, 14, 0⟩
/-- `BIO_CHATCFG`, R509. -/
abbrev R.BIO_CHATCFG : Nat := 0x2000351380
/-- `BIO_CHATCFG.chatw` (RW (shadow)), R509. -/
abbrev F.BIO_CHATCFG_chatw : Fld := ⟨R.BIO_CHATCFG, 13, 8⟩
/-- `BIO_CHATCFG.chatn` (RW (shadow)), R509. -/
abbrev F.BIO_CHATCFG_chatn : Fld := ⟨R.BIO_CHATCFG, 7, 0⟩
/-- `BIO_SUPCFG`, R509. -/
abbrev R.BIO_SUPCFG : Nat := 0x2000351384
/-- `BIO_SUPCFG.filt` (RW (shadow)), R509. -/
abbrev F.BIO_SUPCFG_filt : Fld := ⟨R.BIO_SUPCFG, 6, 0⟩
/-- `BIO_I_BIN`, R510. -/
abbrev R.BIO_I_BIN (n : Nat) : Nat := sp n 0x35 0x100
/-- `BIO_I_BIN.state` (RO), R510. -/
abbrev F.BIO_I_BIN_state (n : Nat) : Fld := ⟨R.BIO_I_BIN n, 31, 0⟩
/-- `BIO_I_BINCHG`, R510. -/
abbrev R.BIO_I_BINCHG (n : Nat) : Nat := sp n 0x35 0x104
/-- `BIO_I_BINCHG.chg` (W1C), R510. -/
abbrev F.BIO_I_BINCHG_chg (n : Nat) : Fld := ⟨R.BIO_I_BINCHG n, 31, 0⟩
/-- `TWN_CTL`, R542. -/
abbrev R.TWN_CTL : Nat := 0x2000380008
/-- `TWN_CTL.nolease` (RW), R542. -/
abbrev F.TWN_CTL_nolease : Fld := ⟨R.TWN_CTL, 0, 0⟩
/-- `TWN_STAT`, R542. -/
abbrev R.TWN_STAT : Nat := 0x200038000C
/-- `TWN_STAT.refuse` (RO), R542. -/
abbrev F.TWN_STAT_refuse : Fld := ⟨R.TWN_STAT, 28, 26⟩
/-- `TWN_STAT.peerrisk` (RO), R542. -/
abbrev F.TWN_STAT_peerrisk : Fld := ⟨R.TWN_STAT, 20, 20⟩
/-- `TWN_STAT.nokey` (RO), R542. -/
abbrev F.TWN_STAT_nokey : Fld := ⟨R.TWN_STAT, 19, 19⟩
/-- `TWN_STAT.witok` (RO), R542. -/
abbrev F.TWN_STAT_witok : Fld := ⟨R.TWN_STAT, 18, 18⟩
/-- `TWN_STAT.lane2` (RO), R542. -/
abbrev F.TWN_STAT_lane2 : Fld := ⟨R.TWN_STAT, 17, 17⟩
/-- `TWN_STAT.lane1` (RO), R542. -/
abbrev F.TWN_STAT_lane1 : Fld := ⟨R.TWN_STAT, 16, 16⟩
/-- `TWN_STAT.holder` (RO), R542. -/
abbrev F.TWN_STAT_holder : Fld := ⟨R.TWN_STAT, 9, 9⟩
/-- `TWN_STAT.paired` (RO), R542. -/
abbrev F.TWN_STAT_paired : Fld := ⟨R.TWN_STAT, 8, 8⟩
/-- `TWN_STAT.state` (RO), R542. -/
abbrev F.TWN_STAT_state : Fld := ⟨R.TWN_STAT, 2, 0⟩
/-- `TWN_EPOCH`, R544. -/
abbrev R.TWN_EPOCH : Nat := 0x2000380100
/-- `TWN_EPOCH.epoch` (RO), R544. -/
abbrev F.TWN_EPOCH_epoch : Fld := ⟨R.TWN_EPOCH, 31, 0⟩
/-- `TWN_LEFT`, R544. -/
abbrev R.TWN_LEFT : Nat := 0x2000380104
/-- `TWN_LEFT.us` (RO), R544. -/
abbrev F.TWN_LEFT_us : Fld := ⟨R.TWN_LEFT, 31, 0⟩
/-- `TWN_PEER`, R544. -/
abbrev R.TWN_PEER : Nat := 0x2000380108
/-- `TWN_PEER.idx` (RO), R544. -/
abbrev F.TWN_PEER_idx : Fld := ⟨R.TWN_PEER, 31, 16⟩
/-- `TWN_PEER.state` (RO), R544. -/
abbrev F.TWN_PEER_state : Fld := ⟨R.TWN_PEER, 10, 8⟩
/-- `TWN_PEER.service` (RO), R544. -/
abbrev F.TWN_PEER_service : Fld := ⟨R.TWN_PEER, 1, 0⟩
/-- `TWN_PEERAGE`, R544. -/
abbrev R.TWN_PEERAGE : Nat := 0x200038010C
/-- `TWN_PEERAGE.ms` (RO), R544. -/
abbrev F.TWN_PEERAGE_ms : Fld := ⟨R.TWN_PEERAGE, 31, 0⟩
/-- `TWN_JOINIDX_LO`, R544. -/
abbrev R.TWN_JOINIDX_LO : Nat := 0x2000380110
/-- `TWN_JOINIDX_LO.idx` (RO), R544. -/
abbrev F.TWN_JOINIDX_LO_idx : Fld := ⟨R.TWN_JOINIDX_LO, 31, 0⟩
/-- `TWN_JOINIDX_HI`, R544. -/
abbrev R.TWN_JOINIDX_HI : Nat := 0x2000380114
/-- `TWN_JOINIDX_HI.idx` (RO), R544. -/
abbrev F.TWN_JOINIDX_HI_idx : Fld := ⟨R.TWN_JOINIDX_HI, 31, 0⟩
/-- `TWN_HBMISS`, R544. -/
abbrev R.TWN_HBMISS : Nat := 0x2000380118
/-- `TWN_HBMISS.n` (RO), R544. -/
abbrev F.TWN_HBMISS_n : Fld := ⟨R.TWN_HBMISS, 31, 0⟩
/-- `TWN_DIVCNT`, R544. -/
abbrev R.TWN_DIVCNT (i : Nat) : Nat := 0x2000380120 + 4 * i
/-- `TWN_DIVCNT.n` (RO), R544. -/
abbrev F.TWN_DIVCNT_n (i : Nat) : Fld := ⟨R.TWN_DIVCNT i, 31, 0⟩
/-- `TWN_DIVLAST`, R544. -/
abbrev R.TWN_DIVLAST : Nat := 0x2000380140
/-- `TWN_DIVLAST.kind` (RO), R544. -/
abbrev F.TWN_DIVLAST_kind : Fld := ⟨R.TWN_DIVLAST, 31, 28⟩
/-- `TWN_DIVLAST.item` (RO), R544. -/
abbrev F.TWN_DIVLAST_item : Fld := ⟨R.TWN_DIVLAST, 11, 0⟩
/-- `TWN_DIVIDX_LO`, R544. -/
abbrev R.TWN_DIVIDX_LO : Nat := 0x2000380144
/-- `TWN_DIVIDX_LO.idx` (RO), R544. -/
abbrev F.TWN_DIVIDX_LO_idx : Fld := ⟨R.TWN_DIVIDX_LO, 31, 0⟩
/-- `TWN_DIVIDX_HI`, R544. -/
abbrev R.TWN_DIVIDX_HI : Nat := 0x2000380148
/-- `TWN_DIVIDX_HI.idx` (RO), R544. -/
abbrev F.TWN_DIVIDX_HI_idx : Fld := ⟨R.TWN_DIVIDX_HI, 31, 0⟩
/-- `TWN_WITRX`, R544. -/
abbrev R.TWN_WITRX : Nat := 0x200038014C
/-- `TWN_WITRX.n` (RO), R544. -/
abbrev F.TWN_WITRX_n : Fld := ⟨R.TWN_WITRX, 31, 0⟩
/-- `TWN_WITTO`, R544. -/
abbrev R.TWN_WITTO : Nat := 0x2000380150
/-- `TWN_WITTO.n` (RO), R544. -/
abbrev F.TWN_WITTO_n : Fld := ⟨R.TWN_WITTO, 31, 0⟩
/-- `TWN_WITBAD`, R544. -/
abbrev R.TWN_WITBAD : Nat := 0x2000380154
/-- `TWN_WITBAD.n` (RO), R544. -/
abbrev F.TWN_WITBAD_n : Fld := ⟨R.TWN_WITBAD, 31, 0⟩
/-- `TWN_CFG`, R545. -/
abbrev R.TWN_CFG : Nat := 0x2000381000
/-- `TWN_CFG.pair` (RW (shadow)), R545. -/
abbrev F.TWN_CFG_pair : Fld := ⟨R.TWN_CFG, 31, 31⟩
/-- `TWN_CFG.lease` (RW (shadow)), R545. -/
abbrev F.TWN_CFG_lease : Fld := ⟨R.TWN_CFG, 25, 16⟩
/-- `TWN_VMAC_LO`, R545. -/
abbrev R.TWN_VMAC_LO : Nat := 0x2000381004
/-- `TWN_VMAC_LO.mac` (RW (shadow)), R545. -/
abbrev F.TWN_VMAC_LO_mac : Fld := ⟨R.TWN_VMAC_LO, 31, 0⟩
/-- `TWN_VMAC_HI`, R545. -/
abbrev R.TWN_VMAC_HI : Nat := 0x2000381008
/-- `TWN_VMAC_HI.mac` (RW (shadow)), R545. -/
abbrev F.TWN_VMAC_HI_mac : Fld := ⟨R.TWN_VMAC_HI, 15, 0⟩
/-- `TWN_WIT`, R545. -/
abbrev R.TWN_WIT : Nat := 0x200038100C
/-- `TWN_WIT.widx` (RW (shadow)), R545. -/
abbrev F.TWN_WIT_widx : Fld := ⟨R.TWN_WIT, 31, 16⟩
/-- `TWN_WIT.port` (RW (shadow)), R545. -/
abbrev F.TWN_WIT_port : Fld := ⟨R.TWN_WIT, 15, 0⟩
/-- `TWN_WITIP`, R545. -/
abbrev R.TWN_WITIP : Nat := 0x2000381010
/-- `TWN_WITIP.ip` (RW (shadow)), R545. -/
abbrev F.TWN_WITIP_ip : Fld := ⟨R.TWN_WITIP, 31, 0⟩
/-- `TWN_OWNIP`, R545. -/
abbrev R.TWN_OWNIP : Nat := 0x2000381014
/-- `TWN_OWNIP.ip` (RW (shadow)), R545. -/
abbrev F.TWN_OWNIP_ip : Fld := ⟨R.TWN_OWNIP, 31, 0⟩
/-- `TWN_WITLEAF`, R545. -/
abbrev R.TWN_WITLEAF : Nat := 0x2000381018
/-- `TWN_WITLEAF.next` (RW (shadow)), R545. -/
abbrev F.TWN_WITLEAF_next : Fld := ⟨R.TWN_WITLEAF, 26, 16⟩
/-- `TWN_WITLEAF.cur` (RW (shadow)), R545. -/
abbrev F.TWN_WITLEAF_cur : Fld := ⟨R.TWN_WITLEAF, 10, 0⟩
/-- `TWN_WITNET`, R545. -/
abbrev R.TWN_WITNET : Nat := 0x200038101C
/-- `TWN_WITNET.vid` (RW (shadow)), R545. -/
abbrev F.TWN_WITNET_vid : Fld := ⟨R.TWN_WITNET, 27, 16⟩
/-- `TWN_WITNET.pcp` (RW (shadow)), R545. -/
abbrev F.TWN_WITNET_pcp : Fld := ⟨R.TWN_WITNET, 15, 13⟩
/-- `TWN_WITNET.cls` (RW (shadow)), R545. -/
abbrev F.TWN_WITNET_cls : Fld := ⟨R.TWN_WITNET, 2, 0⟩
/-- `TWN_WSRV_w0`, R545. -/
abbrev R.TWN_WSRV_w0 (i : Nat) : Nat := 0x2000381100 + 32 * i
/-- `TWN_WSRV_w0.en` (RW (shadow)), R545. -/
abbrev F.TWN_WSRV_w0_en (i : Nat) : Fld := ⟨R.TWN_WSRV_w0 i, 31, 31⟩
/-- `TWN_WSRV_w0.pidx` (RW (shadow)), R545. -/
abbrev F.TWN_WSRV_w0_pidx (i : Nat) : Fld := ⟨R.TWN_WSRV_w0 i, 3, 0⟩
/-- `TWN_WSRV_w1`, R545. -/
abbrev R.TWN_WSRV_w1 (i : Nat) : Nat := 0x2000381104 + 32 * i
/-- `TWN_WSRV_w1.fid` (RW (shadow)), R545. -/
abbrev F.TWN_WSRV_w1_fid (i : Nat) : Fld := ⟨R.TWN_WSRV_w1 i, 31, 0⟩
/-- `TWN_WSRV_w2`, R545. -/
abbrev R.TWN_WSRV_w2 (i : Nat) : Nat := 0x2000381108 + 32 * i
/-- `TWN_WSRV_w2.midy` (RW (shadow)), R545. -/
abbrev F.TWN_WSRV_w2_midy (i : Nat) : Fld := ⟨R.TWN_WSRV_w2 i, 31, 16⟩
/-- `TWN_WSRV_w2.midx` (RW (shadow)), R545. -/
abbrev F.TWN_WSRV_w2_midx (i : Nat) : Fld := ⟨R.TWN_WSRV_w2 i, 15, 0⟩
/-- `TWN_WSRV_w3`, R545. -/
abbrev R.TWN_WSRV_w3 (i : Nat) : Nat := 0x200038110C + 32 * i
/-- `TWN_WSRV_w3.leafy` (RW (shadow)), R545. -/
abbrev F.TWN_WSRV_w3_leafy (i : Nat) : Fld := ⟨R.TWN_WSRV_w3 i, 26, 16⟩
/-- `TWN_WSRV_w3.leafx` (RW (shadow)), R545. -/
abbrev F.TWN_WSRV_w3_leafx (i : Nat) : Fld := ⟨R.TWN_WSRV_w3 i, 10, 0⟩
/-- `TWN_I_STAT`, R546. -/
abbrev R.TWN_I_STAT (n : Nat) : Nat := sp n 0x38 0x100
/-- `TWN_I_STAT.holder` (RO), R546. -/
abbrev F.TWN_I_STAT_holder (n : Nat) : Fld := ⟨R.TWN_I_STAT n, 9, 8⟩
/-- `TWN_I_STAT.state` (RO), R546. -/
abbrev F.TWN_I_STAT_state (n : Nat) : Fld := ⟨R.TWN_I_STAT n, 2, 0⟩
/-- `TWN_I_EPOCH`, R546. -/
abbrev R.TWN_I_EPOCH (n : Nat) : Nat := sp n 0x38 0x104
/-- `TWN_I_EPOCH.epoch` (RO), R546. -/
abbrev F.TWN_I_EPOCH_epoch (n : Nat) : Fld := ⟨R.TWN_I_EPOCH n, 31, 0⟩
/-- `TWN_I_LEFT`, R546. -/
abbrev R.TWN_I_LEFT (n : Nat) : Nat := sp n 0x38 0x108
/-- `TWN_I_LEFT.us` (RO), R546. -/
abbrev F.TWN_I_LEFT_us (n : Nat) : Fld := ⟨R.TWN_I_LEFT n, 31, 0⟩
/-- `TWN_I_CMD`, R546. -/
abbrev R.TWN_I_CMD (n : Nat) : Nat := sp n 0x38 0x1F0
/-- `TWN_I_CMD.v` (WO), R546. -/
abbrev F.TWN_I_CMD_v (n : Nat) : Fld := ⟨R.TWN_I_CMD n, 31, 24⟩
/-- `TWN_I_CMD.margin` (WO), R546. -/
abbrev F.TWN_I_CMD_margin (n : Nat) : Fld := ⟨R.TWN_I_CMD n, 23, 8⟩
/-- `TWN_I_CMD.code` (WO), R546. -/
abbrev F.TWN_I_CMD_code (n : Nat) : Fld := ⟨R.TWN_I_CMD n, 7, 0⟩
/-- `TWN_I_CMDSTAT`, R546. -/
abbrev R.TWN_I_CMDSTAT (n : Nat) : Nat := sp n 0x38 0x1F4
/-- `TWN_I_CMDSTAT.v` (RO), R546. -/
abbrev F.TWN_I_CMDSTAT_v (n : Nat) : Fld := ⟨R.TWN_I_CMDSTAT n, 31, 0⟩
/-- `FLD_STAT`, R547. -/
abbrev R.FLD_STAT : Nat := 0x200039000C
/-- `FLD_STAT.master` (RO), R547. -/
abbrev F.FLD_STAT_master : Fld := ⟨R.FLD_STAT, 31, 31⟩
/-- `FLD_STAT.mismatch` (RO), R547. -/
abbrev F.FLD_STAT_mismatch : Fld := ⟨R.FLD_STAT, 30, 30⟩
/-- `FLD_STAT.nokey` (RO), R547. -/
abbrev F.FLD_STAT_nokey : Fld := ⟨R.FLD_STAT, 29, 29⟩
/-- `FLD_STAT.cand` (RO), R547. -/
abbrev F.FLD_STAT_cand : Fld := ⟨R.FLD_STAT, 28, 28⟩
/-- `FLD_STAT.mpair` (RO), R547. -/
abbrev F.FLD_STAT_mpair : Fld := ⟨R.FLD_STAT, 19, 16⟩
/-- `FLD_STAT.midx` (RO), R547. -/
abbrev F.FLD_STAT_midx : Fld := ⟨R.FLD_STAT, 15, 0⟩
/-- `FLD_TIDX`, R549. -/
abbrev R.FLD_TIDX : Nat := 0x2000390100
/-- `FLD_TIDX.idx` (RW), R549. -/
abbrev F.FLD_TIDX_idx : Fld := ⟨R.FLD_TIDX, 6, 0⟩
/-- `FLD_TDATA`, R549. -/
abbrev R.FLD_TDATA (i : Nat) : Nat := 0x2000390104 + 4 * i
/-- `FLD_TDATA.d` (RW), R549. -/
abbrev F.FLD_TDATA_d (i : Nat) : Fld := ⟨R.FLD_TDATA i, 31, 0⟩
/-- `FLD_EPOCH`, R549. -/
abbrev R.FLD_EPOCH : Nat := 0x2000390124
/-- `FLD_EPOCH.epoch` (RO), R549. -/
abbrev F.FLD_EPOCH_epoch : Fld := ⟨R.FLD_EPOCH, 31, 0⟩
/-- `FLD_TXDATA`, R549. -/
abbrev R.FLD_TXDATA : Nat := 0x2000390128
/-- `FLD_TXDATA.n` (RO), R549. -/
abbrev F.FLD_TXDATA_n : Fld := ⟨R.FLD_TXDATA, 31, 0⟩
/-- `FLD_TXREV`, R549. -/
abbrev R.FLD_TXREV : Nat := 0x200039012C
/-- `FLD_TXREV.n` (RO), R549. -/
abbrev F.FLD_TXREV_n : Fld := ⟨R.FLD_TXREV, 31, 0⟩
/-- `FLD_IMPDROP`, R549. -/
abbrev R.FLD_IMPDROP : Nat := 0x2000390130
/-- `FLD_IMPDROP.n` (RO), R549. -/
abbrev F.FLD_IMPDROP_n : Fld := ⟨R.FLD_IMPDROP, 31, 0⟩
/-- `FLD_GMID_LO`, R549. -/
abbrev R.FLD_GMID_LO : Nat := 0x2000390134
/-- `FLD_GMID_LO.id` (RO), R549. -/
abbrev F.FLD_GMID_LO_id : Fld := ⟨R.FLD_GMID_LO, 31, 0⟩
/-- `FLD_GMID_HI`, R549. -/
abbrev R.FLD_GMID_HI : Nat := 0x2000390138
/-- `FLD_GMID_HI.id` (RO), R549. -/
abbrev F.FLD_GMID_HI_id : Fld := ⟨R.FLD_GMID_HI, 31, 0⟩
/-- `FLD_CFG`, R550. -/
abbrev R.FLD_CFG : Nat := 0x2000391000
/-- `FLD_CFG.prio` (RW (shadow)), R550. -/
abbrev F.FLD_CFG_prio : Fld := ⟨R.FLD_CFG, 31, 24⟩
/-- `FLD_CFG.pair` (RW (shadow)), R550. -/
abbrev F.FLD_CFG_pair : Fld := ⟨R.FLD_CFG, 19, 16⟩
/-- `FLD_CFG.etype` (RW (shadow)), R550. -/
abbrev F.FLD_CFG_etype : Fld := ⟨R.FLD_CFG, 15, 0⟩
/-- `FLD_ID`, R550. -/
abbrev R.FLD_ID : Nat := 0x2000391004
/-- `FLD_ID.fid` (RW (shadow)), R550. -/
abbrev F.FLD_ID_fid : Fld := ⟨R.FLD_ID, 31, 0⟩
/-- `FLD_AMAC_LO`, R550. -/
abbrev R.FLD_AMAC_LO : Nat := 0x2000391008
/-- `FLD_AMAC_LO.mac` (RW (shadow)), R550. -/
abbrev F.FLD_AMAC_LO_mac : Fld := ⟨R.FLD_AMAC_LO, 31, 0⟩
/-- `FLD_AMAC_HI`, R550. -/
abbrev R.FLD_AMAC_HI : Nat := 0x200039100C
/-- `FLD_AMAC_HI.vid` (RW (shadow)), R550. -/
abbrev F.FLD_AMAC_HI_vid : Fld := ⟨R.FLD_AMAC_HI, 27, 16⟩
/-- `FLD_AMAC_HI.mac` (RW (shadow)), R550. -/
abbrev F.FLD_AMAC_HI_mac : Fld := ⟨R.FLD_AMAC_HI, 15, 0⟩
/-- `FLD_LEAF`, R550. -/
abbrev R.FLD_LEAF : Nat := 0x2000391010
/-- `FLD_LEAF.next` (RW (shadow)), R550. -/
abbrev F.FLD_LEAF_next : Fld := ⟨R.FLD_LEAF, 26, 16⟩
/-- `FLD_LEAF.cur` (RW (shadow)), R550. -/
abbrev F.FLD_LEAF_cur : Fld := ⟨R.FLD_LEAF, 10, 0⟩
/-- `FLD_WIT`, R550. -/
abbrev R.FLD_WIT : Nat := 0x2000391014
/-- `FLD_WIT.widx` (RW (shadow)), R550. -/
abbrev F.FLD_WIT_widx : Fld := ⟨R.FLD_WIT, 31, 16⟩
/-- `FLD_WIT.lease` (RW (shadow)), R550. -/
abbrev F.FLD_WIT_lease : Fld := ⟨R.FLD_WIT, 9, 0⟩
/-- `FLD_WITIP`, R550. -/
abbrev R.FLD_WITIP : Nat := 0x2000391018
/-- `FLD_WITIP.ip` (RW (shadow)), R550. -/
abbrev F.FLD_WITIP_ip : Fld := ⟨R.FLD_WITIP, 31, 0⟩
/-- `FLD_WITLEAF`, R550. -/
abbrev R.FLD_WITLEAF : Nat := 0x200039101C
/-- `FLD_WITLEAF.next` (RW (shadow)), R550. -/
abbrev F.FLD_WITLEAF_next : Fld := ⟨R.FLD_WITLEAF, 26, 16⟩
/-- `FLD_WITLEAF.cur` (RW (shadow)), R550. -/
abbrev F.FLD_WITLEAF_cur : Fld := ⟨R.FLD_WITLEAF, 10, 0⟩
/-- `LGR_STAT`, R573. -/
abbrev R.LGR_STAT : Nat := 0x20003C000C
/-- `LGR_STAT.saving` (RO), R573. -/
abbrev F.LGR_STAT_saving : Fld := ⟨R.LGR_STAT, 16, 16⟩
/-- `LGR_STAT.nprog` (RO), R573. -/
abbrev F.LGR_STAT_nprog : Fld := ⟨R.LGR_STAT, 8, 0⟩
/-- `LGR_TIDX`, R576. -/
abbrev R.LGR_TIDX : Nat := 0x20003C0100
/-- `LGR_TIDX.idx` (RW), R576. -/
abbrev F.LGR_TIDX_idx : Fld := ⟨R.LGR_TIDX, 11, 0⟩
/-- `LGR_TDATA`, R576. -/
abbrev R.LGR_TDATA (i : Nat) : Nat := 0x20003C0104 + 4 * i
/-- `LGR_TDATA.d` (RW), R576. -/
abbrev F.LGR_TDATA_d (i : Nat) : Fld := ⟨R.LGR_TDATA i, 31, 0⟩
/-- `LGR_STAGE_LO`, R576. -/
abbrev R.LGR_STAGE_LO : Nat := 0x20003C1000
/-- `LGR_STAGE_LO.addr` (RW (shadow)), R576. -/
abbrev F.LGR_STAGE_LO_addr : Fld := ⟨R.LGR_STAGE_LO, 31, 16⟩
/-- `LGR_STAGE_HI`, R576. -/
abbrev R.LGR_STAGE_HI : Nat := 0x20003C1004
/-- `LGR_STAGE_HI.addr` (RW (shadow)), R576. -/
abbrev F.LGR_STAGE_HI_addr : Fld := ⟨R.LGR_STAGE_HI, 7, 0⟩
/-- `LGR_I_CHG`, R577. -/
abbrev R.LGR_I_CHG (n : Nat) : Nat := sp n 0x3C 0x100
/-- `LGR_I_CHG.gen` (RO), R577. -/
abbrev F.LGR_I_CHG_gen (n : Nat) : Fld := ⟨R.LGR_I_CHG n, 15, 8⟩
/-- `LGR_I_CHG.prog` (RO), R577. -/
abbrev F.LGR_I_CHG_prog (n : Nat) : Fld := ⟨R.LGR_I_CHG n, 7, 0⟩
/-- `LGR_I_CHGIDX_LO`, R577. -/
abbrev R.LGR_I_CHGIDX_LO (n : Nat) : Nat := sp n 0x3C 0x104
/-- `LGR_I_CHGIDX_LO.idx` (RO), R577. -/
abbrev F.LGR_I_CHGIDX_LO_idx (n : Nat) : Fld := ⟨R.LGR_I_CHGIDX_LO n, 31, 0⟩
/-- `LGR_I_CHGIDX_HI`, R577. -/
abbrev R.LGR_I_CHGIDX_HI (n : Nat) : Nat := sp n 0x3C 0x108
/-- `LGR_I_CHGIDX_HI.idx` (RO), R577. -/
abbrev F.LGR_I_CHGIDX_HI_idx (n : Nat) : Fld := ⟨R.LGR_I_CHGIDX_HI n, 31, 0⟩
/-- `LGR_I_FORCES`, R577. -/
abbrev R.LGR_I_FORCES (n : Nat) : Nat := sp n 0x3C 0x10C
/-- `LGR_I_FORCES.n` (RO), R577. -/
abbrev F.LGR_I_FORCES_n (n : Nat) : Fld := ⟨R.LGR_I_FORCES n, 10, 0⟩
/-- `MTR_STAT`, R595. -/
abbrev R.MTR_STAT : Nat := 0x20003E000C
/-- `MTR_STAT.restored` (RO), R595. -/
abbrev F.MTR_STAT_restored : Fld := ⟨R.MTR_STAT, 31, 31⟩
/-- `MTR_STAT.saving` (RO), R595. -/
abbrev F.MTR_STAT_saving : Fld := ⟨R.MTR_STAT, 30, 30⟩
/-- `MTR_STAT.npoints` (RO), R595. -/
abbrev F.MTR_STAT_npoints : Fld := ⟨R.MTR_STAT, 7, 0⟩
/-- `MTR_TIDX`, R597. -/
abbrev R.MTR_TIDX : Nat := 0x20003E0100
/-- `MTR_TIDX.idx` (RW), R597. -/
abbrev F.MTR_TIDX_idx : Fld := ⟨R.MTR_TIDX, 6, 0⟩
/-- `MTR_TDATA`, R597. -/
abbrev R.MTR_TDATA (i : Nat) : Nat := 0x20003E0104 + 4 * i
/-- `MTR_TDATA.d` (RW), R597. -/
abbrev F.MTR_TDATA_d (i : Nat) : Fld := ⟨R.MTR_TDATA i, 31, 0⟩
/-- `MTR_SNAPADDR_LO`, R597. -/
abbrev R.MTR_SNAPADDR_LO : Nat := 0x20003E0144
/-- `MTR_SNAPADDR_LO.addr` (RW), R597. -/
abbrev F.MTR_SNAPADDR_LO_addr : Fld := ⟨R.MTR_SNAPADDR_LO, 31, 3⟩
/-- `MTR_SNAPADDR_HI`, R597. -/
abbrev R.MTR_SNAPADDR_HI : Nat := 0x20003E0148
/-- `MTR_SNAPADDR_HI.addr` (RW), R597. -/
abbrev F.MTR_SNAPADDR_HI_addr : Fld := ⟨R.MTR_SNAPADDR_HI, 7, 0⟩
/-- `MTR_SNAPLEN`, R597. -/
abbrev R.MTR_SNAPLEN : Nat := 0x20003E014C
/-- `MTR_SNAPLEN.len` (RW), R597. -/
abbrev F.MTR_SNAPLEN_len : Fld := ⟨R.MTR_SNAPLEN, 15, 0⟩
/-- `MTR_SNAPIDX_LO`, R597. -/
abbrev R.MTR_SNAPIDX_LO : Nat := 0x20003E0150
/-- `MTR_SNAPIDX_LO.idx` (RO), R597. -/
abbrev F.MTR_SNAPIDX_LO_idx : Fld := ⟨R.MTR_SNAPIDX_LO, 31, 0⟩
/-- `MTR_SNAPIDX_HI`, R597. -/
abbrev R.MTR_SNAPIDX_HI : Nat := 0x20003E0154
/-- `MTR_SNAPIDX_HI.idx` (RO), R597. -/
abbrev F.MTR_SNAPIDX_HI_idx : Fld := ⟨R.MTR_SNAPIDX_HI, 31, 0⟩
/-- `MTR_SAVESEQ`, R597. -/
abbrev R.MTR_SAVESEQ : Nat := 0x20003E0158
/-- `MTR_SAVESEQ.seq` (RO), R597. -/
abbrev F.MTR_SAVESEQ_seq : Fld := ⟨R.MTR_SAVESEQ, 31, 0⟩
/-- `MTR_AOIDX_LO`, R597. -/
abbrev R.MTR_AOIDX_LO : Nat := 0x20003E015C
/-- `MTR_AOIDX_LO.idx` (RO), R597. -/
abbrev F.MTR_AOIDX_LO_idx : Fld := ⟨R.MTR_AOIDX_LO, 31, 0⟩
/-- `MTR_AOIDX_HI`, R597. -/
abbrev R.MTR_AOIDX_HI : Nat := 0x20003E0160
/-- `MTR_AOIDX_HI.idx` (RO), R597. -/
abbrev F.MTR_AOIDX_HI_idx : Fld := ⟨R.MTR_AOIDX_HI, 31, 0⟩
/-- `MTR_GAPCNT`, R597. -/
abbrev R.MTR_GAPCNT : Nat := 0x20003E0164
/-- `MTR_GAPCNT.n` (RO), R597. -/
abbrev F.MTR_GAPCNT_n : Fld := ⟨R.MTR_GAPCNT, 31, 0⟩
/-- `MTR_CFG`, R598. -/
abbrev R.MTR_CFG : Nat := 0x20003E1000
/-- `MTR_CFG.saveint` (RW (shadow)), R598. -/
abbrev F.MTR_CFG_saveint : Fld := ⟨R.MTR_CFG, 15, 0⟩
/-- `PLS_CNT`, R601. -/
abbrev R.PLS_CNT (i : Nat) : Nat := 0x20003F0100 + 16 * i
/-- `PLS_CNT.n` (RO), R601. -/
abbrev F.PLS_CNT_n (i : Nat) : Fld := ⟨R.PLS_CNT i, 31, 0⟩
/-- `PLS_WAIT`, R601. -/
abbrev R.PLS_WAIT (i : Nat) : Nat := 0x20003F0104 + 16 * i
/-- `PLS_WAIT.n` (RO), R601. -/
abbrev F.PLS_WAIT_n (i : Nat) : Fld := ⟨R.PLS_WAIT i, 15, 0⟩
/-- `PLS_DROP`, R601. -/
abbrev R.PLS_DROP (i : Nat) : Nat := 0x20003F0108 + 16 * i
/-- `PLS_DROP.n` (RO), R601. -/
abbrev F.PLS_DROP_n (i : Nat) : Fld := ⟨R.PLS_DROP i, 31, 0⟩
/-- `PLS_CFG_w0`, R602. -/
abbrev R.PLS_CFG_w0 (i : Nat) : Nat := 0x20003F1000 + 8 * i
/-- `PLS_CFG_w0.en` (RW (shadow)), R602. -/
abbrev F.PLS_CFG_w0_en (i : Nat) : Fld := ⟨R.PLS_CFG_w0 i, 31, 31⟩
/-- `PLS_CFG_w0.mode` (RW (shadow)), R602. -/
abbrev F.PLS_CFG_w0_mode (i : Nat) : Fld := ⟨R.PLS_CFG_w0 i, 30, 30⟩
/-- `PLS_CFG_w0.owner` (RW (shadow)), R602. -/
abbrev F.PLS_CFG_w0_owner (i : Nat) : Fld := ⟨R.PLS_CFG_w0 i, 29, 29⟩
/-- `PLS_CFG_w0.inst` (RW (shadow)), R602. -/
abbrev F.PLS_CFG_w0_inst (i : Nat) : Fld := ⟨R.PLS_CFG_w0 i, 27, 22⟩
/-- `PLS_CFG_w0.point` (RW (shadow)), R602. -/
abbrev F.PLS_CFG_w0_point (i : Nat) : Fld := ⟨R.PLS_CFG_w0 i, 21, 15⟩
/-- `PLS_CFG_w0.qty` (RW (shadow)), R602. -/
abbrev F.PLS_CFG_w0_qty (i : Nat) : Fld := ⟨R.PLS_CFG_w0 i, 14, 10⟩
/-- `PLS_CFG_w0.width` (RW (shadow)), R602. -/
abbrev F.PLS_CFG_w0_width (i : Nat) : Fld := ⟨R.PLS_CFG_w0 i, 7, 0⟩
/-- `PLS_CFG_w1`, R602. -/
abbrev R.PLS_CFG_w1 (i : Nat) : Nat := 0x20003F1004 + 8 * i
/-- `PLS_CFG_w1.weight` (RW (shadow)), R602. -/
abbrev F.PLS_CFG_w1_weight (i : Nat) : Fld := ⟨R.PLS_CFG_w1 i, 31, 0⟩
/-- `ELG_CTL`, R617. -/
abbrev R.ELG_CTL : Nat := 0x2000400008
/-- `ELG_CTL.hold` (RW), R617. -/
abbrev F.ELG_CTL_hold : Fld := ⟨R.ELG_CTL, 0, 0⟩
/-- `ELG_STAT`, R617. -/
abbrev R.ELG_STAT : Nat := 0x200040000C
/-- `ELG_STAT.reserve` (RO), R617. -/
abbrev F.ELG_STAT_reserve : Fld := ⟨R.ELG_STAT, 31, 31⟩
/-- `ELG_STAT.dead` (RO), R617. -/
abbrev F.ELG_STAT_dead : Fld := ⟨R.ELG_STAT, 30, 30⟩
/-- `ELG_STAT.hold` (RO), R617. -/
abbrev F.ELG_STAT_hold : Fld := ⟨R.ELG_STAT, 29, 29⟩
/-- `ELG_STAT.clearing` (RO), R617. -/
abbrev F.ELG_STAT_clearing : Fld := ⟨R.ELG_STAT, 28, 28⟩
/-- `ELG_STAT.ready` (RO), R617. -/
abbrev F.ELG_STAT_ready : Fld := ⟨R.ELG_STAT, 27, 27⟩
/-- `ELG_STAT.held` (RO), R617. -/
abbrev F.ELG_STAT_held : Fld := ⟨R.ELG_STAT, 19, 8⟩
/-- `ELG_STAT.queue` (RO), R617. -/
abbrev F.ELG_STAT_queue : Fld := ⟨R.ELG_STAT, 7, 0⟩
/-- `ELG_NEXT`, R618. -/
abbrev R.ELG_NEXT : Nat := 0x2000400100
/-- `ELG_NEXT.seq` (RO), R618. -/
abbrev F.ELG_NEXT_seq : Fld := ⟨R.ELG_NEXT, 31, 0⟩
/-- `ELG_FIRST`, R618. -/
abbrev R.ELG_FIRST : Nat := 0x2000400104
/-- `ELG_FIRST.seq` (RO), R618. -/
abbrev F.ELG_FIRST_seq : Fld := ⟨R.ELG_FIRST, 31, 0⟩
/-- `ELG_RFIRST`, R618. -/
abbrev R.ELG_RFIRST : Nat := 0x2000400108
/-- `ELG_RFIRST.seq` (RO), R618. -/
abbrev F.ELG_RFIRST_seq : Fld := ⟨R.ELG_RFIRST, 31, 0⟩
/-- `ELG_LOST`, R618. -/
abbrev R.ELG_LOST : Nat := 0x200040010C
/-- `ELG_LOST.n` (RO), R618. -/
abbrev F.ELG_LOST_n : Fld := ⟨R.ELG_LOST, 31, 0⟩
/-- `ELG_TOKADDR_LO`, R618. -/
abbrev R.ELG_TOKADDR_LO : Nat := 0x2000400110
/-- `ELG_TOKADDR_LO.addr` (RW), R618. -/
abbrev F.ELG_TOKADDR_LO_addr : Fld := ⟨R.ELG_TOKADDR_LO, 31, 0⟩
/-- `ELG_TOKADDR_HI`, R618. -/
abbrev R.ELG_TOKADDR_HI : Nat := 0x2000400114
/-- `ELG_TOKADDR_HI.addr` (RW), R618. -/
abbrev F.ELG_TOKADDR_HI_addr : Fld := ⟨R.ELG_TOKADDR_HI, 7, 0⟩
/-- `ELG_FAILSLOT`, R618. -/
abbrev R.ELG_FAILSLOT : Nat := 0x2000400118
/-- `ELG_FAILSLOT.slot` (RO), R618. -/
abbrev F.ELG_FAILSLOT_slot : Fld := ⟨R.ELG_FAILSLOT, 17, 0⟩
/-- `ELG_RIDX`, R618. -/
abbrev R.ELG_RIDX : Nat := 0x2000400120
/-- `ELG_RIDX.idx` (RW), R618. -/
abbrev F.ELG_RIDX_idx : Fld := ⟨R.ELG_RIDX, 10, 0⟩
/-- `ELG_RDATA`, R618. -/
abbrev R.ELG_RDATA (i : Nat) : Nat := 0x2000400124 + 4 * i
/-- `ELG_RDATA.d` (RO), R618. -/
abbrev F.ELG_RDATA_d (i : Nat) : Fld := ⟨R.ELG_RDATA i, 31, 0⟩
/-- `ELG_CFG`, R619. -/
abbrev R.ELG_CFG : Nat := 0x2000401000
/-- `ELG_CFG.holdmax` (RW (shadow)), R619. -/
abbrev F.ELG_CFG_holdmax : Fld := ⟨R.ELG_CFG, 25, 16⟩
/-- `ELG_CFG.coalesce` (RW (shadow)), R619. -/
abbrev F.ELG_CFG_coalesce : Fld := ⟨R.ELG_CFG, 15, 0⟩
/-- `ELG_IRATE`, R619. -/
abbrev R.ELG_IRATE : Nat := 0x2000401004
/-- `ELG_IRATE.rate` (RW (shadow)), R619. -/
abbrev F.ELG_IRATE_rate : Fld := ⟨R.ELG_IRATE, 9, 0⟩
/-- `ELG_I_PAYLOAD`, R620. -/
abbrev R.ELG_I_PAYLOAD (n i : Nat) : Nat := sp n 0x40 0x100 + 4 * i
/-- `ELG_I_PAYLOAD.d` (RW), R620. -/
abbrev F.ELG_I_PAYLOAD_d (n i : Nat) : Fld := ⟨R.ELG_I_PAYLOAD n i, 31, 0⟩
/-- `ELG_I_DROP`, R620. -/
abbrev R.ELG_I_DROP (n : Nat) : Nat := sp n 0x40 0x120
/-- `ELG_I_DROP.n` (RO), R620. -/
abbrev F.ELG_I_DROP_n (n : Nat) : Fld := ⟨R.ELG_I_DROP n, 31, 0⟩
/-- `ELG_I_CMD`, R620. -/
abbrev R.ELG_I_CMD (n : Nat) : Nat := sp n 0x40 0x1F0
/-- `ELG_I_CMD.v` (WO), R620. -/
abbrev F.ELG_I_CMD_v (n : Nat) : Fld := ⟨R.ELG_I_CMD n, 31, 21⟩
/-- `ELG_I_CMD.sev` (WO), R620. -/
abbrev F.ELG_I_CMD_sev (n : Nat) : Fld := ⟨R.ELG_I_CMD n, 20, 18⟩
/-- `ELG_I_CMD.code` (WO), R620. -/
abbrev F.ELG_I_CMD_code (n : Nat) : Fld := ⟨R.ELG_I_CMD n, 17, 8⟩
/-- `ELG_I_CMD.cmd` (WO), R620. -/
abbrev F.ELG_I_CMD_cmd (n : Nat) : Fld := ⟨R.ELG_I_CMD n, 7, 0⟩
/-- `ELG_I_CMDSTAT`, R620. -/
abbrev R.ELG_I_CMDSTAT (n : Nat) : Nat := sp n 0x40 0x1F4
/-- `ELG_I_CMDSTAT.v` (RO), R620. -/
abbrev F.ELG_I_CMDSTAT_v (n : Nat) : Fld := ⟨R.ELG_I_CMDSTAT n, 31, 0⟩
/-- `EVR_ROUTE`, R135. -/
abbrev R.EVR_ROUTE (i : Nat) : Nat := 0x2000078000 + 4 * i
/-- `EVR_ROUTE.rec` (RW), R135. -/
abbrev F.EVR_ROUTE_rec (i : Nat) : Fld := ⟨R.EVR_ROUTE i, 31, 31⟩
/-- `EVR_ROUTE.prio` (RW), R135. -/
abbrev F.EVR_ROUTE_prio (i : Nat) : Fld := ⟨R.EVR_ROUTE i, 30, 28⟩
/-- `EVR_ROUTE.dest` (RW), R135. -/
abbrev F.EVR_ROUTE_dest (i : Nat) : Fld := ⟨R.EVR_ROUTE i, 17, 16⟩
/-- `EVR_ROUTE.inst` (RW), R135. -/
abbrev F.EVR_ROUTE_inst (i : Nat) : Fld := ⟨R.EVR_ROUTE i, 13, 8⟩
/-- `EVR_ROUTE.vec` (RW), R135. -/
abbrev F.EVR_ROUTE_vec (i : Nat) : Fld := ⟨R.EVR_ROUTE i, 5, 0⟩
/-- `MTR_I_SNAPADDR_LO`, R600. -/
abbrev R.MTR_I_SNAPADDR_LO (n : Nat) : Nat := sp n 0x3E 0x100
/-- `MTR_I_SNAPADDR_LO.addr` (RW), R600. -/
abbrev F.MTR_I_SNAPADDR_LO_addr (n : Nat) : Fld := ⟨R.MTR_I_SNAPADDR_LO n, 31, 3⟩
/-- `MTR_I_SNAPADDR_HI`, R600. -/
abbrev R.MTR_I_SNAPADDR_HI (n : Nat) : Nat := sp n 0x3E 0x104
/-- `MTR_I_SNAPADDR_HI.addr` (RW), R600. -/
abbrev F.MTR_I_SNAPADDR_HI_addr (n : Nat) : Fld := ⟨R.MTR_I_SNAPADDR_HI n, 7, 0⟩
/-- `MTR_I_SNAPLEN`, R600. -/
abbrev R.MTR_I_SNAPLEN (n : Nat) : Nat := sp n 0x3E 0x108
/-- `MTR_I_SNAPLEN.len` (RW), R600. -/
abbrev F.MTR_I_SNAPLEN_len (n : Nat) : Fld := ⟨R.MTR_I_SNAPLEN n, 15, 0⟩
/-- `MTR_I_CMDSTAT`, R600. -/
abbrev R.MTR_I_CMDSTAT (n : Nat) : Nat := sp n 0x3E 0x1F4
/-- `MTR_I_CMDSTAT.v` (RO), R600. -/
abbrev F.MTR_I_CMDSTAT_v (n : Nat) : Fld := ⟨R.MTR_I_CMDSTAT n, 31, 0⟩
/-- `DMA_RING_LO`, R481. -/
abbrev R.DMA_RING_LO : Nat := 0x2000320100
/-- `DMA_RING_LO.addr` (RW), R481. -/
abbrev F.DMA_RING_LO_addr : Fld := ⟨R.DMA_RING_LO, 31, 5⟩
/-- `DMA_RING_HI`, R481. -/
abbrev R.DMA_RING_HI : Nat := 0x2000320104
/-- `DMA_RING_HI.addr` (RW), R481. -/
abbrev F.DMA_RING_HI_addr : Fld := ⟨R.DMA_RING_HI, 7, 0⟩
/-- `DMA_RINGSZ`, R481. -/
abbrev R.DMA_RINGSZ : Nat := 0x2000320108
/-- `DMA_RINGSZ.log2` (RW), R481. -/
abbrev F.DMA_RINGSZ_log2 : Fld := ⟨R.DMA_RINGSZ, 3, 0⟩
/-- `DMA_TAIL`, R481. -/
abbrev R.DMA_TAIL : Nat := 0x200032010C
/-- `DMA_TAIL.tail` (RW), R481. -/
abbrev F.DMA_TAIL_tail : Fld := ⟨R.DMA_TAIL, 11, 0⟩
/-- `DMA_HEAD`, R481. -/
abbrev R.DMA_HEAD : Nat := 0x2000320110
/-- `DMA_HEAD.head` (RO), R481. -/
abbrev F.DMA_HEAD_head : Fld := ⟨R.DMA_HEAD, 11, 0⟩
/-- `DMA_DONE`, R481. -/
abbrev R.DMA_DONE : Nat := 0x2000320114
/-- `DMA_DONE.n` (RO), R481. -/
abbrev F.DMA_DONE_n : Fld := ⟨R.DMA_DONE, 31, 0⟩
/-- `DMA_ACTIVE`, R481. -/
abbrev R.DMA_ACTIVE : Nat := 0x2000320118
/-- `DMA_ACTIVE.chan` (RO), R481. -/
abbrev F.DMA_ACTIVE_chan : Fld := ⟨R.DMA_ACTIVE, 13, 8⟩
/-- `DMA_ACTIVE.held` (RO), R481. -/
abbrev F.DMA_ACTIVE_held : Fld := ⟨R.DMA_ACTIVE, 6, 0⟩

/-- The registers of page 0x00 beyond the common ones. -/
def regsPage00 : List RegDef :=
  [
    ⟨0x100, 1, 4, 1, 4, 0x0, 0x0, 0x0⟩,
    ⟨0x104, 1, 4, 1, 4, 0x3FFF, 0x0, 0x3E8⟩,
    ⟨0x108, 1, 4, 1, 4, 0x0, 0x0, 0x0⟩,
    ⟨0x10C, 1, 4, 1, 4, 0xFFFFFFFF, 0x0, 0x0⟩]

/-- The registers of page 0x01 beyond the common ones. -/
def regsPage01 : List RegDef :=
  [
    ⟨0x100, 1, 4, 1, 4, 0x0, 0x0, 0x0⟩,
    ⟨0x104, 1, 4, 1, 4, 0x0, 0x0, 0xFFFF⟩,
    ⟨0x108, 1, 4, 1, 4, 0x0, 0x0, 0x0⟩,
    ⟨0x10C, 1, 4, 1, 4, 0x0, 0x0, 0x0⟩,
    ⟨0x110, 1, 4, 1, 4, 0x0, 0x0, 0x0⟩,
    ⟨0x114, 1, 4, 1, 4, 0x0, 0x0, 0x0⟩,
    ⟨0x118, 1, 4, 1, 4, 0x0, 0x0, 0x0⟩,
    ⟨0x11C, 1, 4, 1, 4, 0x0, 0x0, 0x0⟩,
    ⟨0x120, 1, 4, 1, 4, 0x0, 0x0, 0x0⟩,
    ⟨0x124, 1, 4, 1, 4, 0x0, 0x0, 0x0⟩,
    ⟨0x128, 1, 4, 1, 4, 0x0, 0x0, 0x11EC0000⟩,
    ⟨0x130, 1, 4, 1, 4, 0xFFF0001, 0x0, 0x3200000⟩,
    ⟨0x134, 1, 4, 1, 4, 0x0, 0x6, 0x3200000⟩,
    ⟨0x138, 1, 4, 1, 4, 0x0, 0x0, 0x0⟩,
    ⟨0x13C, 1, 4, 1, 4, 0x0, 0x0, 0xFFFFFFFF⟩,
    ⟨0x1000, 1, 4, 1, 4, 0xFFFFFFFF, 0x0, 0x6403E8⟩,
    ⟨0x1004, 1, 4, 1, 4, 0xFFFFFFFF, 0x0, 0x4E207530⟩,
    ⟨0x1008, 1, 4, 1, 4, 0x3FFFFFE0, 0x0, 0x384B4140⟩,
    ⟨0x100C, 1, 4, 1, 4, 0x7F, 0x0, 0xA⟩]

/-- The registers of page 0x02 beyond the common ones. -/
def regsPage02 : List RegDef :=
  [
    ⟨0x100, 1, 4, 1, 4, 0x0, 0x0, 0x0⟩,
    ⟨0x104, 1, 4, 1, 4, 0x0, 0x0, 0x0⟩,
    ⟨0x108, 1, 4, 1, 4, 0x0, 0x0, 0x0⟩,
    ⟨0x10C, 1, 4, 1, 4, 0x0, 0x0, 0x0⟩,
    ⟨0x110, 1, 4, 1, 4, 0x0, 0x0, 0x0⟩,
    ⟨0x114, 1, 4, 1, 4, 0x0, 0x0, 0x0⟩]

/-- The registers of page 0x03 beyond the common ones. -/
def regsPage03 : List RegDef :=
  [
    ⟨0x100, 1, 4, 1, 4, 0x0, 0x0, 0x0⟩,
    ⟨0x104, 1, 4, 1, 4, 0x0, 0x0, 0x0⟩,
    ⟨0x108, 1, 4, 1, 4, 0x0, 0x0, 0x0⟩,
    ⟨0x10C, 1, 4, 1, 4, 0x0, 0x0, 0x0⟩,
    ⟨0x110, 1, 4, 1, 4, 0x0, 0x0, 0x0⟩,
    ⟨0x114, 1, 4, 1, 4, 0x0, 0x0, 0x0⟩]

/-- The registers of page 0x04 beyond the common ones. -/
def regsPage04 : List RegDef :=
  [
    ⟨0x100, 1, 4, 1, 4, 0xFFFFFFFF, 0x0, 0x0⟩,
    ⟨0x104, 1, 4, 1, 4, 0xFF, 0x0, 0x0⟩,
    ⟨0x108, 1, 4, 1, 4, 0xFFFF, 0x0, 0x0⟩,
    ⟨0x10C, 1, 4, 1, 4, 0xFFFFFFFF, 0x0, 0x0⟩,
    ⟨0x110, 1, 4, 1, 4, 0xFF, 0x0, 0x0⟩,
    ⟨0x114, 1, 4, 1, 4, 0xFFFF, 0x0, 0x0⟩,
    ⟨0x118, 1, 4, 1, 4, 0x0, 0x0, 0x0⟩,
    ⟨0x11C, 1, 4, 1, 4, 0x0, 0x0, 0x0⟩,
    ⟨0x120, 1, 4, 1, 4, 0x0, 0x0, 0x0⟩,
    ⟨0x124, 1, 4, 1, 4, 0x0, 0x0, 0x0⟩,
    ⟨0x128, 1, 4, 1, 4, 0x0, 0x0, 0x0⟩,
    ⟨0x12C, 1, 4, 1, 4, 0x0, 0x0, 0x0⟩,
    ⟨0x130, 1, 4, 1, 4, 0x0, 0x0, 0x0⟩,
    ⟨0x134, 1, 4, 1, 4, 0x0, 0x0, 0x0⟩,
    ⟨0x138, 1, 4, 1, 4, 0x0, 0x0, 0x0⟩,
    ⟨0x13C, 1, 4, 1, 4, 0x0, 0x0, 0x0⟩]

/-- The registers of page 0x05 beyond the common ones. -/
def regsPage05 : List RegDef :=
  [
    ⟨0x100, 1, 4, 1, 4, 0x0, 0x0, 0x0⟩,
    ⟨0x104, 1, 4, 1, 4, 0x0, 0x0, 0x0⟩,
    ⟨0x108, 1, 4, 1, 4, 0x0, 0x0, 0x0⟩,
    ⟨0x10C, 1, 4, 1, 4, 0x0, 0x0, 0x0⟩,
    ⟨0x110, 1, 4, 1, 4, 0x0, 0x0, 0x0⟩,
    ⟨0x114, 1, 4, 1, 4, 0x0, 0x0, 0x0⟩,
    ⟨0x118, 1, 4, 1, 4, 0x0, 0x0, 0x0⟩,
    ⟨0x11C, 1, 4, 1, 4, 0xFFFFFFFF, 0x0, 0x0⟩,
    ⟨0x120, 1, 4, 1, 4, 0xFF, 0x0, 0x0⟩,
    ⟨0x124, 1, 4, 1, 4, 0xFFFFFFFF, 0x0, 0x0⟩,
    ⟨0x1000, 1, 4, 1, 4, 0x1, 0x0, 0x0⟩,
    ⟨0x1004, 1, 4, 1, 4, 0x3FFFF, 0x0, 0x279BE⟩]

/-- The registers of page 0x06 beyond the common ones. -/
def regsPage06 : List RegDef :=
  [
    ⟨0x100, 1, 4, 1, 4, 0x0, 0x0, 0x0⟩,
    ⟨0x104, 1, 4, 1, 4, 0x0, 0x0, 0x0⟩,
    ⟨0x108, 1, 4, 1, 4, 0x0, 0x0, 0x0⟩,
    ⟨0x10C, 1, 4, 1, 4, 0x0, 0x0, 0x0⟩,
    ⟨0x110, 1, 4, 1, 4, 0x0, 0x0, 0x0⟩,
    ⟨0x114, 1, 4, 1, 4, 0x3FF, 0x0, 0x0⟩,
    ⟨0x118, 1, 4, 1, 4, 0xFFFFFFFF, 0x0, 0x0⟩,
    ⟨0x11C, 1, 4, 1, 4, 0xFF, 0x0, 0x0⟩,
    ⟨0x120, 1, 4, 1, 4, 0x0, 0x0, 0x0⟩]

/-- The registers of page 0x07 beyond the common ones. -/
def regsPage07 : List RegDef :=
  [
    ⟨0x100, 1, 4, 1, 4, 0x0, 0x0, 0x0⟩,
    ⟨0x104, 1, 4, 1, 4, 0x0, 0x0, 0x0⟩,
    ⟨0x108, 1, 4, 1, 4, 0x0, 0x0, 0x0⟩,
    ⟨0x10C, 1, 4, 1, 4, 0x0, 0x0, 0x0⟩,
    ⟨0x110, 1, 4, 1, 4, 0x0, 0x0, 0x0⟩,
    ⟨0x114, 1, 4, 1, 4, 0x0, 0x0, 0x0⟩,
    ⟨0x118, 1, 4, 1, 4, 0x0, 0x0, 0x0⟩,
    ⟨0x8000, 1024, 4, 1, 4, 0xF0033F3F, 0x0, 0xB0010000⟩]

/-- The registers of the sub-page of page 0x07 beyond the common ones. -/
def regsSub07 : List RegDef :=
  [
    ⟨0x100, 1, 4, 1, 4, 0x0, 0xFFFFFFFF, 0x0⟩,
    ⟨0x104, 1, 4, 1, 4, 0x0, 0xFFFFFFFF, 0x0⟩,
    ⟨0x108, 1, 4, 1, 4, 0xFFFFFFFF, 0x0, 0x0⟩,
    ⟨0x10C, 1, 4, 1, 4, 0xFFFFFFFF, 0x0, 0x0⟩,
    ⟨0x110, 1, 4, 1, 4, 0x0, 0x0, 0x0⟩,
    ⟨0x200, 64, 4, 1, 4, 0x0, 0x0, 0x0⟩]

/-- The registers of page 0x08 beyond the common ones. -/
def regsPage08 : List RegDef :=
  [
    ⟨0x100, 1, 4, 1, 4, 0xFFFFFFFF, 0x0, 0x0⟩,
    ⟨0x104, 1, 4, 1, 4, 0xFFFFFFFF, 0x0, 0x0⟩,
    ⟨0x108, 1, 4, 1, 4, 0x0, 0x0, 0x0⟩,
    ⟨0x10C, 1, 4, 1, 4, 0x0, 0x0, 0x0⟩,
    ⟨0x110, 1, 4, 1, 4, 0x0, 0x0, 0x0⟩,
    ⟨0x114, 1, 4, 1, 4, 0x0, 0x0, 0x0⟩,
    ⟨0x118, 1, 4, 1, 4, 0x0, 0x0, 0x0⟩]

/-- The registers of the sub-page of page 0x08 beyond the common ones. -/
def regsSub08 : List RegDef :=
  [
    ⟨0x100, 1, 4, 1, 4, 0x0, 0x0, 0x0⟩,
    ⟨0x104, 1, 4, 1, 4, 0x0, 0x0, 0x0⟩,
    ⟨0x108, 1, 4, 1, 4, 0x0, 0x0, 0x0⟩]

/-- The registers of page 0x10 beyond the common ones. -/
def regsPage10 : List RegDef :=
  [
    ⟨0x100, 1, 4, 1, 4, 0x0, 0x0, 0x0⟩,
    ⟨0x104, 1, 4, 1, 4, 0x0, 0x0, 0x0⟩,
    ⟨0x108, 1, 4, 1, 4, 0x0, 0x0, 0x0⟩,
    ⟨0x10C, 1, 4, 1, 4, 0x0, 0x0, 0x0⟩,
    ⟨0x110, 1, 4, 1, 4, 0x0, 0x0, 0x0⟩,
    ⟨0x114, 1, 4, 1, 4, 0x0, 0x0, 0x0⟩,
    ⟨0x118, 1, 4, 1, 4, 0x0, 0x0, 0x0⟩,
    ⟨0x11C, 1, 4, 1, 4, 0x0, 0x0, 0x0⟩,
    ⟨0x120, 1, 4, 1, 4, 0x0, 0x0, 0x0⟩,
    ⟨0x124, 1, 4, 1, 4, 0x0, 0x0, 0x0⟩,
    ⟨0x128, 1, 4, 1, 4, 0x0, 0x0, 0x0⟩,
    ⟨0x12C, 1, 4, 1, 4, 0x0, 0x0, 0x0⟩,
    ⟨0x130, 1, 4, 1, 4, 0x0, 0x0, 0x0⟩,
    ⟨0x134, 1, 4, 1, 4, 0x0, 0x0, 0x0⟩,
    ⟨0x13C, 1, 4, 1, 4, 0x0, 0x0, 0x0⟩,
    ⟨0x140, 1, 4, 1, 4, 0x0, 0x0, 0x0⟩,
    ⟨0x144, 1, 4, 1, 4, 0x0, 0x0, 0x0⟩,
    ⟨0x148, 1, 4, 1, 4, 0x0, 0x0, 0x0⟩,
    ⟨0x14C, 1, 4, 1, 4, 0x0, 0x0, 0x0⟩,
    ⟨0x150, 1, 4, 1, 4, 0x0, 0x0, 0x0⟩,
    ⟨0x154, 1, 4, 1, 4, 0x0, 0x0, 0x0⟩,
    ⟨0x158, 1, 4, 1, 4, 0x0, 0x0, 0x0⟩,
    ⟨0x15C, 1, 4, 1, 4, 0x0, 0x0, 0x0⟩,
    ⟨0x160, 1, 4, 1, 4, 0x0, 0x0, 0x0⟩,
    ⟨0x1000, 1, 4, 1, 4, 0x3FFF00F7, 0x0, 0x26000000⟩,
    ⟨0x1004, 1, 4, 1, 4, 0xFFFF0303, 0x0, 0xC00A0001⟩,
    ⟨0x1008, 1, 4, 1, 4, 0x7FFF, 0x0, 0x57D0⟩]

/-- The registers of page 0x20 beyond the common ones. -/
def regsPage20 : List RegDef :=
  [
    ⟨0x100, 1, 4, 1, 4, 0x3FFF, 0x0, 0x0⟩,
    ⟨0x104, 4, 4, 1, 4, 0xFFFFFFFF, 0x0, 0x0⟩,
    ⟨0x114, 1, 4, 1, 4, 0x0, 0x0, 0x0⟩,
    ⟨0x118, 1, 4, 1, 4, 0x0, 0x0, 0x0⟩,
    ⟨0x11C, 1, 4, 1, 4, 0x0, 0x0, 0x0⟩,
    ⟨0x120, 1, 4, 1, 4, 0x0, 0x0, 0x0⟩,
    ⟨0x124, 1, 4, 1, 4, 0x0, 0x0, 0x0⟩,
    ⟨0x200, 15, 16, 1, 4, 0x0, 0x0, 0x0⟩,
    ⟨0x204, 15, 16, 1, 4, 0x0, 0x0, 0x0⟩,
    ⟨0x208, 15, 16, 1, 4, 0x0, 0x0, 0x0⟩,
    ⟨0x400, 15, 64, 8, 8, 0x0, 0x0, 0x0⟩,
    ⟨0x404, 15, 64, 8, 8, 0x0, 0x0, 0x0⟩,
    ⟨0x1000, 1, 4, 1, 4, 0xFFFF, 0x0, 0x12C⟩,
    ⟨0x1040, 15, 4, 1, 4, 0x37FFF, 0x0, 0x10001⟩,
    ⟨0x1080, 15, 4, 1, 4, 0xFFFFFF, 0x0, 0xFAC688⟩,
    ⟨0x10C0, 8, 4, 1, 4, 0x8007FFFF, 0x0, 0x0⟩,
    ⟨0x1100, 15, 32, 8, 4, 0x1FFFF, 0x0, 0x300⟩,
    ⟨0x1300, 15, 4, 1, 4, 0x3FFFFFFF, 0x0, 0x10204081⟩]

/-- The registers of page 0x21 beyond the common ones. -/
def regsPage21 : List RegDef :=
  [
    ⟨0x100, 6, 32, 1, 4, 0x0, 0x0, 0x0⟩,
    ⟨0x104, 6, 32, 1, 4, 0x0, 0x0, 0x0⟩,
    ⟨0x108, 6, 32, 1, 4, 0x0, 0x0, 0x0⟩,
    ⟨0x10C, 6, 32, 1, 4, 0x0, 0x0, 0x0⟩,
    ⟨0x110, 6, 32, 1, 4, 0x0, 0x0, 0x0⟩,
    ⟨0x114, 6, 32, 1, 4, 0x0, 0x0, 0x0⟩,
    ⟨0x118, 6, 32, 1, 4, 0x0, 0x0, 0x0⟩,
    ⟨0x1C0, 1, 4, 1, 4, 0x0, 0x0, 0x0⟩,
    ⟨0x1C4, 1, 4, 1, 4, 0x0, 0x0, 0x0⟩,
    ⟨0x1000, 6, 8, 1, 4, 0xC0000F0F, 0x0, 0x0⟩,
    ⟨0x1004, 6, 8, 1, 4, 0xFFFF, 0x0, 0x7D0⟩,
    ⟨0x1040, 1, 4, 1, 4, 0xFFFFFFFF, 0x0, 0x3C0190⟩]

/-- The registers of page 0x24 beyond the common ones. -/
def regsPage24 : List RegDef :=
  [
    ⟨0x100, 1, 4, 1, 4, 0x0, 0x0, 0x0⟩,
    ⟨0x104, 1, 4, 1, 4, 0x0, 0x0, 0x0⟩,
    ⟨0x108, 1, 4, 1, 4, 0x0, 0x0, 0x0⟩,
    ⟨0x10C, 1, 4, 1, 4, 0x0, 0x0, 0x0⟩,
    ⟨0x110, 1, 4, 1, 4, 0x0, 0x0, 0x0⟩,
    ⟨0x114, 1, 4, 1, 4, 0x0, 0x0, 0x0⟩,
    ⟨0x118, 1, 4, 1, 4, 0x0, 0x0, 0x0⟩,
    ⟨0x11C, 1, 4, 1, 4, 0x0, 0x0, 0x0⟩,
    ⟨0x120, 1, 4, 1, 4, 0x0, 0x0, 0x0⟩,
    ⟨0x124, 1, 4, 1, 4, 0x0, 0x0, 0x0⟩,
    ⟨0x128, 1, 4, 1, 4, 0xFFFFFFFF, 0x0, 0x0⟩,
    ⟨0x12C, 1, 4, 1, 4, 0xFFFFFFFF, 0x0, 0x0⟩,
    ⟨0x130, 1, 4, 1, 4, 0x0, 0x0, 0x0⟩,
    ⟨0x134, 1, 4, 1, 4, 0x0, 0x0, 0x0⟩,
    ⟨0x138, 1, 4, 1, 4, 0x0, 0x0, 0x0⟩,
    ⟨0x13C, 1, 4, 1, 4, 0x0, 0x0, 0x0⟩,
    ⟨0x140, 1, 4, 1, 4, 0x0, 0x0, 0x0⟩,
    ⟨0x200, 16, 16, 1, 4, 0xFFFFFFFF, 0x0, 0x0⟩,
    ⟨0x204, 16, 16, 1, 4, 0xFFFFFFFF, 0x0, 0x0⟩,
    ⟨0x208, 16, 16, 1, 4, 0x0, 0x20000, 0x0⟩,
    ⟨0x1000, 1, 4, 1, 4, 0xFFFF, 0x0, 0x521⟩,
    ⟨0x1004, 1, 4, 1, 4, 0xFF80FFFF, 0x0, 0x32000064⟩,
    ⟨0x1008, 1, 4, 1, 4, 0xFFFFFFFF, 0x0, 0x3E8030A⟩,
    ⟨0x100C, 1, 4, 1, 4, 0xFFFF, 0x0, 0xA⟩,
    ⟨0x1010, 1, 4, 1, 4, 0xF1FF, 0x0, 0x4025⟩,
    ⟨0x1014, 1, 4, 1, 4, 0xC00FFFFF, 0x0, 0xC00186A0⟩,
    ⟨0x1040, 16, 4, 1, 4, 0xFFCFFFFF, 0x0, 0x64⟩]

/-- The registers of page 0x25 beyond the common ones. -/
def regsPage25 : List RegDef :=
  [
    ⟨0x100, 1, 4, 1, 4, 0x0, 0x0, 0x33333333⟩,
    ⟨0x104, 1, 4, 1, 4, 0x0, 0x0, 0x3333⟩,
    ⟨0x108, 1, 4, 1, 4, 0x0, 0x0, 0x0⟩,
    ⟨0x10C, 1, 4, 1, 4, 0x0, 0x0, 0x0⟩,
    ⟨0x110, 1, 4, 1, 4, 0x0, 0x0, 0x0⟩,
    ⟨0x114, 1, 4, 1, 4, 0x0, 0x0, 0x0⟩,
    ⟨0x140, 12, 4, 1, 4, 0x0, 0x0, 0x0⟩,
    ⟨0x1000, 1, 4, 1, 4, 0xFFFFFFF8, 0x0, 0x20080800⟩,
    ⟨0x1004, 1, 4, 1, 4, 0xFFFFFFFF, 0x0, 0x621⟩,
    ⟨0x1040, 12, 4, 1, 4, 0x1, 0x0, 0x0⟩,
    ⟨0x1080, 12, 4, 1, 4, 0xFFFFFFFF, 0x0, 0x0⟩]

/-- The registers of page 0x28 beyond the common ones. -/
def regsPage28 : List RegDef :=
  [
    ⟨0x100, 1, 4, 1, 4, 0x3FF, 0x0, 0x0⟩,
    ⟨0x104, 32, 4, 1, 4, 0xFFFFFFFF, 0x0, 0x0⟩,
    ⟨0x184, 1, 4, 1, 4, 0x0, 0x0, 0x0⟩,
    ⟨0x188, 1, 4, 1, 4, 0x0, 0x0, 0x0⟩,
    ⟨0x200, 32, 4, 1, 4, 0x0, 0xFFFFFFFF, 0x0⟩,
    ⟨0x280, 32, 4, 1, 4, 0x0, 0x0, 0x0⟩,
    ⟨0x1000, 1, 4, 1, 4, 0xFFFFFFFF, 0x0, 0x6607D0⟩]

/-- The registers of the sub-page of page 0x28 beyond the common ones. -/
def regsSub28 : List RegDef :=
  [
    ⟨0x100, 32, 4, 1, 4, 0x0, 0xFFFFFFFF, 0x0⟩,
    ⟨0x180, 32, 4, 1, 4, 0x0, 0x0, 0x0⟩]

/-- The registers of page 0x29 beyond the common ones. -/
def regsPage29 : List RegDef :=
  [
    ⟨0x100, 1, 4, 1, 4, 0x0, 0x0, 0x0⟩,
    ⟨0x104, 1, 4, 1, 4, 0x0, 0x0, 0x0⟩,
    ⟨0x108, 1, 4, 1, 4, 0x0, 0x0, 0x0⟩,
    ⟨0x10C, 1, 4, 1, 4, 0x0, 0x0, 0x0⟩,
    ⟨0x110, 1, 4, 1, 4, 0x0, 0x0, 0x0⟩,
    ⟨0x114, 1, 4, 1, 4, 0x0, 0x0, 0x0⟩,
    ⟨0x118, 1, 4, 1, 4, 0x0, 0x0, 0x0⟩,
    ⟨0x11C, 1, 4, 1, 4, 0x0, 0x0, 0x0⟩,
    ⟨0x120, 1, 4, 1, 4, 0x0, 0x0, 0x0⟩,
    ⟨0x124, 1, 4, 1, 4, 0x0, 0x0, 0x0⟩,
    ⟨0x128, 1, 4, 1, 4, 0x0, 0x0, 0x0⟩,
    ⟨0x12C, 1, 4, 1, 4, 0x0, 0x0, 0x0⟩,
    ⟨0x140, 16, 4, 1, 4, 0x0, 0x0, 0x0⟩,
    ⟨0x1000, 1, 4, 1, 4, 0x3, 0x0, 0x0⟩,
    ⟨0x1004, 1, 4, 1, 4, 0x1FFFFF, 0x0, 0x3D090⟩,
    ⟨0x1008, 1, 4, 1, 4, 0x3FFFFF, 0x0, 0xF4240⟩,
    ⟨0x100C, 1, 4, 1, 4, 0xFFFF0000, 0x0, 0x0⟩,
    ⟨0x1010, 1, 4, 1, 4, 0xFF, 0x0, 0x0⟩,
    ⟨0x1100, 512, 4, 1, 4, 0xF, 0x0, 0x0⟩]

/-- The registers of the sub-page of page 0x29 beyond the common ones. -/
def regsSub29 : List RegDef :=
  [
    ⟨0x100, 1, 4, 1, 4, 0x0, 0x0, 0x0⟩,
    ⟨0x104, 1, 4, 1, 4, 0x0, 0x0, 0x0⟩,
    ⟨0x108, 1, 4, 1, 4, 0x0, 0x0, 0x0⟩,
    ⟨0x10C, 1, 4, 1, 4, 0x0, 0x0, 0x0⟩,
    ⟨0x110, 1, 4, 1, 4, 0x0, 0x0, 0x0⟩,
    ⟨0x114, 1, 4, 1, 4, 0x0, 0x0, 0x0⟩]

/-- The registers of page 0x2A beyond the common ones. -/
def regsPage2A : List RegDef :=
  [
    ⟨0x100, 16, 4, 1, 4, 0x0, 0x0, 0x0⟩,
    ⟨0x140, 16, 4, 1, 4, 0x0, 0x0, 0x0⟩,
    ⟨0x1000, 1, 4, 1, 4, 0x1, 0x0, 0x0⟩,
    ⟨0x1040, 16, 4, 1, 4, 0xB31F0000, 0x0, 0x0⟩,
    ⟨0x1080, 16, 4, 1, 4, 0xFFFFFFFF, 0x0, 0x0⟩,
    ⟨0x10C0, 16, 8, 1, 4, 0xFFFFFFFF, 0x0, 0x80008000⟩,
    ⟨0x10C4, 16, 8, 1, 4, 0xFFFFFFFF, 0x0, 0x0⟩]

/-- The registers of page 0x2C beyond the common ones. -/
def regsPage2C : List RegDef :=
  [
    ⟨0x100, 1, 4, 1, 4, 0x1FFF, 0x0, 0x0⟩,
    ⟨0x104, 8, 4, 1, 4, 0xFFFFFFFF, 0x0, 0x0⟩,
    ⟨0x124, 1, 4, 1, 4, 0x0, 0x0, 0x0⟩,
    ⟨0x128, 1, 4, 1, 4, 0x0, 0x0, 0x0⟩,
    ⟨0x12C, 1, 4, 1, 4, 0x0, 0x0, 0x0⟩,
    ⟨0x130, 1, 4, 1, 4, 0x0, 0x0, 0x0⟩,
    ⟨0x134, 1, 4, 1, 4, 0x0, 0x0, 0x0⟩,
    ⟨0x138, 1, 4, 1, 4, 0x0, 0x0, 0x0⟩,
    ⟨0x13C, 1, 4, 1, 4, 0x0, 0x0, 0x0⟩,
    ⟨0x140, 8, 8, 1, 4, 0x0, 0x0, 0x0⟩,
    ⟨0x144, 8, 8, 1, 4, 0x0, 0x0, 0x0⟩,
    ⟨0x1000, 1, 4, 1, 4, 0x103FF, 0x0, 0x40⟩]

/-- The registers of the sub-page of page 0x2C beyond the common ones. -/
def regsSub2C : List RegDef :=
  [
    ⟨0x100, 1, 4, 1, 4, 0x0, 0x0, 0x0⟩,
    ⟨0x104, 1, 4, 1, 4, 0x0, 0x0, 0x0⟩,
    ⟨0x108, 1, 4, 1, 4, 0x0, 0x0, 0x0⟩,
    ⟨0x10C, 1, 4, 1, 4, 0x0, 0x0, 0x0⟩,
    ⟨0x110, 1, 4, 1, 4, 0x1FFF, 0x0, 0x0⟩,
    ⟨0x114, 8, 4, 1, 4, 0xFFFFFFFF, 0x0, 0x0⟩,
    ⟨0x1F0, 1, 4, 1, 4, 0x0, 0x0, 0x0⟩,
    ⟨0x1F4, 1, 4, 1, 4, 0x0, 0x0, 0x0⟩]

/-- The registers of page 0x30 beyond the common ones. -/
def regsPage30 : List RegDef :=
  [
    ⟨0x100, 1, 4, 1, 4, 0x3FF, 0x0, 0x0⟩,
    ⟨0x104, 16, 4, 1, 4, 0xFFFFFFFF, 0x0, 0x0⟩,
    ⟨0x144, 1, 4, 1, 4, 0x0, 0x0, 0x0⟩,
    ⟨0x148, 1, 4, 1, 4, 0x0, 0x0, 0x0⟩,
    ⟨0x14C, 1, 4, 1, 4, 0x0, 0x0, 0x0⟩,
    ⟨0x200, 16, 4, 1, 4, 0x0, 0x0, 0x0⟩,
    ⟨0x1000, 1, 4, 1, 4, 0xF7F, 0x0, 0x301⟩]

/-- The registers of the sub-page of page 0x30 beyond the common ones. -/
def regsSub30 : List RegDef :=
  [
    ⟨0x100, 1, 4, 1, 4, 0x3FF, 0x0, 0x0⟩,
    ⟨0x104, 8, 4, 1, 4, 0x0, 0x0, 0x0⟩,
    ⟨0x124, 1, 4, 1, 4, 0x0, 0x0, 0x0⟩,
    ⟨0x128, 1, 4, 1, 4, 0x0, 0x0, 0x0⟩,
    ⟨0x12C, 1, 4, 1, 4, 0x0, 0x0, 0x0⟩]

/-- The registers of page 0x31 beyond the common ones. -/
def regsPage31 : List RegDef :=
  [
    ⟨0x100, 1, 4, 1, 4, 0x3FFF, 0x0, 0x0⟩,
    ⟨0x104, 16, 4, 1, 4, 0xFFFFFFFF, 0x0, 0x0⟩,
    ⟨0x144, 1, 4, 1, 4, 0x80003FFF, 0x0, 0x0⟩,
    ⟨0x200, 64, 4, 1, 4, 0x0, 0x0, 0x0⟩,
    ⟨0x300, 64, 4, 1, 4, 0x0, 0x0, 0x0⟩,
    ⟨0x1000, 1, 4, 1, 4, 0xFFFF003F, 0x0, 0x7D00004⟩]

/-- The registers of the sub-page of page 0x31 beyond the common ones. -/
def regsSub31 : List RegDef :=
  [
    ⟨0x100, 1, 4, 1, 4, 0x0, 0x0, 0x0⟩,
    ⟨0x104, 1, 4, 1, 4, 0x0, 0x0, 0x0⟩,
    ⟨0x108, 1, 4, 1, 4, 0x0, 0x0, 0x0⟩,
    ⟨0x10C, 1, 4, 1, 4, 0x0, 0x0, 0x0⟩,
    ⟨0x110, 1, 4, 1, 4, 0x0, 0x0, 0x0⟩]

/-- The registers of page 0x32 beyond the common ones. -/
def regsPage32 : List RegDef :=
  [
    ⟨0x100, 1, 4, 1, 4, 0xFFFFFFE0, 0x0, 0x0⟩,
    ⟨0x104, 1, 4, 1, 4, 0xFF, 0x0, 0x0⟩,
    ⟨0x108, 1, 4, 1, 4, 0xF, 0x0, 0x4⟩,
    ⟨0x10C, 1, 4, 1, 4, 0xFFF, 0x0, 0x0⟩,
    ⟨0x110, 1, 4, 1, 4, 0x0, 0x0, 0x0⟩,
    ⟨0x114, 1, 4, 1, 4, 0x0, 0x0, 0x0⟩,
    ⟨0x118, 1, 4, 1, 4, 0x0, 0x0, 0x0⟩,
    ⟨0x200, 32, 4, 1, 4, 0x0, 0x0, 0x0⟩]

/-- The registers of the sub-page of page 0x32 beyond the common ones. -/
def regsSub32 : List RegDef :=
  [
    ⟨0x100, 1, 4, 1, 4, 0xFFFFFFE0, 0x0, 0x0⟩,
    ⟨0x104, 1, 4, 1, 4, 0xFF, 0x0, 0x0⟩,
    ⟨0x108, 1, 4, 1, 4, 0xF, 0x0, 0x4⟩,
    ⟨0x10C, 1, 4, 1, 4, 0xFFF, 0x0, 0x0⟩,
    ⟨0x110, 1, 4, 1, 4, 0x0, 0x0, 0x0⟩,
    ⟨0x114, 1, 4, 1, 4, 0x0, 0x0, 0x0⟩,
    ⟨0x118, 1, 4, 1, 4, 0x0, 0x0, 0x0⟩]

/-- The registers of page 0x33 beyond the common ones. -/
def regsPage33 : List RegDef :=
  [
    ⟨0x200, 64, 32, 1, 4, 0xFFFFF000, 0x0, 0x0⟩,
    ⟨0x204, 64, 32, 1, 4, 0x800000FF, 0x0, 0x0⟩,
    ⟨0x208, 64, 32, 1, 4, 0x7FFFF, 0x0, 0x0⟩,
    ⟨0x20C, 64, 32, 1, 4, 0xFFF, 0x0, 0x0⟩,
    ⟨0x210, 64, 32, 1, 4, 0x0, 0x0, 0x0⟩]

/-- The registers of page 0x34 beyond the common ones. -/
def regsPage34 : List RegDef :=
  [
    ⟨0x100, 1, 4, 1, 4, 0x7FF, 0x0, 0x0⟩,
    ⟨0x140, 8, 4, 1, 4, 0x0, 0x0, 0x0⟩,
    ⟨0x200, 128, 4, 1, 4, 0xFFFFFFFF, 0x0, 0x0⟩]

/-- The registers of page 0x35 beyond the common ones. -/
def regsPage35 : List RegDef :=
  [
    ⟨0x100, 1, 4, 1, 4, 0x0, 0x0, 0x0⟩,
    ⟨0x104, 1, 4, 1, 4, 0x0, 0x0, 0x0⟩,
    ⟨0x108, 1, 4, 1, 4, 0x0, 0x0, 0x0⟩,
    ⟨0x10C, 1, 4, 1, 4, 0x0, 0x0, 0x0⟩,
    ⟨0x110, 1, 4, 1, 4, 0x0, 0x0, 0x0⟩,
    ⟨0x114, 1, 4, 1, 4, 0x0, 0x0, 0x0⟩,
    ⟨0x118, 1, 4, 1, 4, 0x0, 0x0, 0x0⟩,
    ⟨0x11C, 1, 4, 1, 4, 0x0, 0x0, 0x0⟩,
    ⟨0x120, 1, 4, 1, 4, 0x0, 0x0, 0x0⟩,
    ⟨0x124, 1, 4, 1, 4, 0x0, 0x0, 0x0⟩,
    ⟨0x1000, 16, 32, 8, 4, 0xFFFFFFFF, 0x0, 0x0⟩,
    ⟨0x1200, 16, 4, 1, 4, 0x800003FF, 0x0, 0x0⟩,
    ⟨0x1300, 32, 4, 1, 4, 0x7FFF, 0x0, 0x3E8⟩,
    ⟨0x1380, 1, 4, 1, 4, 0x3FFF, 0x0, 0x114⟩,
    ⟨0x1384, 1, 4, 1, 4, 0x7F, 0x0, 0x14⟩]

/-- The registers of the sub-page of page 0x35 beyond the common ones. -/
def regsSub35 : List RegDef :=
  [
    ⟨0x100, 1, 4, 1, 4, 0x0, 0x0, 0x0⟩,
    ⟨0x104, 1, 4, 1, 4, 0x0, 0xFFFFFFFF, 0x0⟩]

/-- The registers of page 0x36 beyond the common ones. -/
def regsPage36 : List RegDef :=
  [
    ⟨0x100, 2, 32, 1, 4, 0xFFFFFFFF, 0x0, 0x0⟩,
    ⟨0x104, 2, 32, 1, 4, 0xFF, 0x0, 0x0⟩,
    ⟨0x108, 2, 32, 1, 4, 0x3FF, 0x0, 0x0⟩,
    ⟨0x10C, 2, 32, 1, 4, 0x0, 0x0, 0x0⟩,
    ⟨0x110, 2, 32, 1, 4, 0x0, 0x0, 0x0⟩,
    ⟨0x114, 2, 32, 1, 4, 0x0, 0x0, 0x0⟩,
    ⟨0x118, 2, 32, 1, 4, 0x0, 0x0, 0x0⟩,
    ⟨0x11C, 2, 32, 1, 4, 0x0, 0x0, 0x0⟩,
    ⟨0x1000, 2, 32, 1, 4, 0x3F8FE301, 0x0, 0x34000⟩,
    ⟨0x1004, 2, 32, 1, 4, 0xFFFFFFFF, 0x0, 0xA0A⟩,
    ⟨0x1008, 2, 32, 1, 4, 0xFFFFFFFF, 0x0, 0x21000B⟩,
    ⟨0x100C, 2, 32, 1, 4, 0xFFFFFFC0, 0x0, 0x0⟩,
    ⟨0x1010, 2, 32, 1, 4, 0xFF, 0x0, 0x0⟩]

/-- The registers of page 0x38 beyond the common ones. -/
def regsPage38 : List RegDef :=
  [
    ⟨0x100, 1, 4, 1, 4, 0x0, 0x0, 0x0⟩,
    ⟨0x104, 1, 4, 1, 4, 0x0, 0x0, 0x0⟩,
    ⟨0x108, 1, 4, 1, 4, 0x0, 0x0, 0x0⟩,
    ⟨0x10C, 1, 4, 1, 4, 0x0, 0x0, 0xFFFFFFFF⟩,
    ⟨0x110, 1, 4, 1, 4, 0x0, 0x0, 0x0⟩,
    ⟨0x114, 1, 4, 1, 4, 0x0, 0x0, 0x0⟩,
    ⟨0x118, 1, 4, 1, 4, 0x0, 0x0, 0x0⟩,
    ⟨0x120, 5, 4, 1, 4, 0x0, 0x0, 0x0⟩,
    ⟨0x140, 1, 4, 1, 4, 0x0, 0x0, 0x0⟩,
    ⟨0x144, 1, 4, 1, 4, 0x0, 0x0, 0x0⟩,
    ⟨0x148, 1, 4, 1, 4, 0x0, 0x0, 0x0⟩,
    ⟨0x14C, 1, 4, 1, 4, 0x0, 0x0, 0x0⟩,
    ⟨0x150, 1, 4, 1, 4, 0x0, 0x0, 0x0⟩,
    ⟨0x154, 1, 4, 1, 4, 0x0, 0x0, 0x0⟩,
    ⟨0x1000, 1, 4, 1, 4, 0x83FF0000, 0x0, 0xC80000⟩,
    ⟨0x1004, 1, 4, 1, 4, 0xFFFFFFFF, 0x0, 0x0⟩,
    ⟨0x1008, 1, 4, 1, 4, 0xFFFF, 0x0, 0x0⟩,
    ⟨0x100C, 1, 4, 1, 4, 0xFFFFFFFF, 0x0, 0xFFFF5A4C⟩,
    ⟨0x1010, 1, 4, 1, 4, 0xFFFFFFFF, 0x0, 0x0⟩,
    ⟨0x1014, 1, 4, 1, 4, 0xFFFFFFFF, 0x0, 0x0⟩,
    ⟨0x1018, 1, 4, 1, 4, 0x7FF07FF, 0x0, 0x0⟩,
    ⟨0x101C, 1, 4, 1, 4, 0xFFFE007, 0x0, 0x1A005⟩,
    ⟨0x1100, 16, 32, 1, 4, 0x8000000F, 0x0, 0x0⟩,
    ⟨0x1104, 16, 32, 1, 4, 0xFFFFFFFF, 0x0, 0x0⟩,
    ⟨0x1108, 16, 32, 1, 4, 0xFFFFFFFF, 0x0, 0x0⟩,
    ⟨0x110C, 16, 32, 1, 4, 0x7FF07FF, 0x0, 0x0⟩]

/-- The registers of the sub-page of page 0x38 beyond the common ones. -/
def regsSub38 : List RegDef :=
  [
    ⟨0x100, 1, 4, 1, 4, 0x0, 0x0, 0x0⟩,
    ⟨0x104, 1, 4, 1, 4, 0x0, 0x0, 0x0⟩,
    ⟨0x108, 1, 4, 1, 4, 0x0, 0x0, 0x0⟩,
    ⟨0x1F0, 1, 4, 1, 4, 0x0, 0x0, 0x0⟩,
    ⟨0x1F4, 1, 4, 1, 4, 0x0, 0x0, 0x0⟩]

/-- The registers of page 0x39 beyond the common ones. -/
def regsPage39 : List RegDef :=
  [
    ⟨0x100, 1, 4, 1, 4, 0x7F, 0x0, 0x0⟩,
    ⟨0x104, 8, 4, 1, 4, 0xFFFFFFFF, 0x0, 0x0⟩,
    ⟨0x124, 1, 4, 1, 4, 0x0, 0x0, 0x0⟩,
    ⟨0x128, 1, 4, 1, 4, 0x0, 0x0, 0x0⟩,
    ⟨0x12C, 1, 4, 1, 4, 0x0, 0x0, 0x0⟩,
    ⟨0x130, 1, 4, 1, 4, 0x0, 0x0, 0x0⟩,
    ⟨0x134, 1, 4, 1, 4, 0x0, 0x0, 0x0⟩,
    ⟨0x138, 1, 4, 1, 4, 0x0, 0x0, 0x0⟩,
    ⟨0x1000, 1, 4, 1, 4, 0xFF0FFFFF, 0x0, 0x88B5⟩,
    ⟨0x1004, 1, 4, 1, 4, 0xFFFFFFFF, 0x0, 0x0⟩,
    ⟨0x1008, 1, 4, 1, 4, 0xFFFFFFFF, 0x0, 0x0⟩,
    ⟨0x100C, 1, 4, 1, 4, 0xFFFFFFF, 0x0, 0x10000⟩,
    ⟨0x1010, 1, 4, 1, 4, 0x7FF07FF, 0x0, 0x0⟩,
    ⟨0x1014, 1, 4, 1, 4, 0xFFFF03FF, 0x0, 0xFFFF00C8⟩,
    ⟨0x1018, 1, 4, 1, 4, 0xFFFFFFFF, 0x0, 0x0⟩,
    ⟨0x101C, 1, 4, 1, 4, 0x7FF07FF, 0x0, 0x0⟩]

/-- The registers of page 0x3C beyond the common ones. -/
def regsPage3C : List RegDef :=
  [
    ⟨0x100, 1, 4, 1, 4, 0xFFF, 0x0, 0x0⟩,
    ⟨0x104, 16, 4, 1, 4, 0xFFFFFFFF, 0x0, 0x0⟩,
    ⟨0x1000, 1, 4, 1, 4, 0xFFFF0000, 0x0, 0x0⟩,
    ⟨0x1004, 1, 4, 1, 4, 0xFF, 0x0, 0x0⟩]

/-- The registers of the sub-page of page 0x3C beyond the common ones. -/
def regsSub3C : List RegDef :=
  [
    ⟨0x100, 1, 4, 1, 4, 0x0, 0x0, 0x0⟩,
    ⟨0x104, 1, 4, 1, 4, 0x0, 0x0, 0x0⟩,
    ⟨0x108, 1, 4, 1, 4, 0x0, 0x0, 0x0⟩,
    ⟨0x10C, 1, 4, 1, 4, 0x0, 0x0, 0x0⟩]

/-- The registers of page 0x3E beyond the common ones. -/
def regsPage3E : List RegDef :=
  [
    ⟨0x100, 1, 4, 1, 4, 0x7F, 0x0, 0x0⟩,
    ⟨0x104, 16, 4, 1, 4, 0xFFFFFFFF, 0x0, 0x0⟩,
    ⟨0x144, 1, 4, 1, 4, 0xFFFFFFF8, 0x0, 0x0⟩,
    ⟨0x148, 1, 4, 1, 4, 0xFF, 0x0, 0x0⟩,
    ⟨0x14C, 1, 4, 1, 4, 0xFFFF, 0x0, 0x0⟩,
    ⟨0x150, 1, 4, 1, 4, 0x0, 0x0, 0x0⟩,
    ⟨0x154, 1, 4, 1, 4, 0x0, 0x0, 0x0⟩,
    ⟨0x158, 1, 4, 1, 4, 0x0, 0x0, 0x0⟩,
    ⟨0x15C, 1, 4, 1, 4, 0x0, 0x0, 0x0⟩,
    ⟨0x160, 1, 4, 1, 4, 0x0, 0x0, 0x0⟩,
    ⟨0x164, 1, 4, 1, 4, 0x0, 0x0, 0x0⟩,
    ⟨0x1000, 1, 4, 1, 4, 0xFFFF, 0x0, 0x3E8⟩]

/-- The registers of the sub-page of page 0x3E beyond the common ones. -/
def regsSub3E : List RegDef :=
  [
    ⟨0x100, 1, 4, 1, 4, 0xFFFFFFF8, 0x0, 0x0⟩,
    ⟨0x104, 1, 4, 1, 4, 0xFF, 0x0, 0x0⟩,
    ⟨0x108, 1, 4, 1, 4, 0xFFFF, 0x0, 0x0⟩,
    ⟨0x1F4, 1, 4, 1, 4, 0x0, 0x0, 0x0⟩]

/-- The registers of page 0x3F beyond the common ones. -/
def regsPage3F : List RegDef :=
  [
    ⟨0x100, 16, 16, 1, 4, 0x0, 0x0, 0x0⟩,
    ⟨0x104, 16, 16, 1, 4, 0x0, 0x0, 0x0⟩,
    ⟨0x108, 16, 16, 1, 4, 0x0, 0x0, 0x0⟩,
    ⟨0x1000, 16, 8, 1, 4, 0xEFFFFCFF, 0x0, 0x50⟩,
    ⟨0x1004, 16, 8, 1, 4, 0xFFFFFFFF, 0x0, 0x0⟩]

/-- The registers of page 0x40 beyond the common ones. -/
def regsPage40 : List RegDef :=
  [
    ⟨0x100, 1, 4, 1, 4, 0x0, 0x0, 0x0⟩,
    ⟨0x104, 1, 4, 1, 4, 0x0, 0x0, 0x0⟩,
    ⟨0x108, 1, 4, 1, 4, 0x0, 0x0, 0x0⟩,
    ⟨0x10C, 1, 4, 1, 4, 0x0, 0x0, 0x0⟩,
    ⟨0x110, 1, 4, 1, 4, 0xFFFFFFFF, 0x0, 0x0⟩,
    ⟨0x114, 1, 4, 1, 4, 0xFF, 0x0, 0x0⟩,
    ⟨0x118, 1, 4, 1, 4, 0x0, 0x0, 0x0⟩,
    ⟨0x120, 1, 4, 1, 4, 0x7FF, 0x0, 0x0⟩,
    ⟨0x124, 16, 4, 1, 4, 0x0, 0x0, 0x0⟩,
    ⟨0x1000, 1, 4, 1, 4, 0x3FFFFFF, 0x0, 0x3C03E8⟩,
    ⟨0x1004, 1, 4, 1, 4, 0x3FF, 0x0, 0x64⟩]

/-- The registers of the sub-page of page 0x40 beyond the common ones. -/
def regsSub40 : List RegDef :=
  [
    ⟨0x100, 8, 4, 1, 4, 0xFFFFFFFF, 0x0, 0x0⟩,
    ⟨0x120, 1, 4, 1, 4, 0x0, 0x0, 0x0⟩,
    ⟨0x1F0, 1, 4, 1, 4, 0x0, 0x0, 0x0⟩,
    ⟨0x1F4, 1, 4, 1, 4, 0x0, 0x0, 0x0⟩]

/-- The registers of page 0x42 beyond the common ones. -/
def regsPage42 : List RegDef :=
  [
    ⟨0x100, 1, 4, 1, 4, 0x0, 0x0, 0x0⟩,
    ⟨0x104, 1, 4, 1, 4, 0x0, 0x0, 0x0⟩,
    ⟨0x108, 1, 4, 1, 4, 0x0, 0x0, 0x0⟩,
    ⟨0x10C, 1, 4, 1, 4, 0x0, 0x0, 0x0⟩,
    ⟨0x110, 1, 4, 1, 4, 0x0, 0x0, 0x0⟩,
    ⟨0x114, 1, 4, 1, 4, 0x0, 0x0, 0x0⟩,
    ⟨0x118, 1, 4, 1, 4, 0x0, 0x0, 0x0⟩,
    ⟨0x11C, 1, 4, 1, 4, 0x0, 0x0, 0x0⟩,
    ⟨0x120, 1, 4, 1, 4, 0x0, 0x0, 0x0⟩,
    ⟨0x128, 1, 4, 1, 4, 0xFFFFFFFF, 0x0, 0x0⟩,
    ⟨0x12C, 1, 4, 1, 4, 0xFF, 0x0, 0x0⟩]

/-- The registers of page 0x44 beyond the common ones. -/
def regsPage44 : List RegDef :=
  [
    ⟨0x100, 1, 4, 1, 4, 0xFFFFFFFF, 0x0, 0x0⟩,
    ⟨0x104, 1, 4, 1, 4, 0xFF, 0x0, 0x0⟩,
    ⟨0x108, 8, 4, 1, 4, 0x0, 0x0, 0x0⟩,
    ⟨0x128, 1, 4, 1, 4, 0x0, 0x0, 0x0⟩]

/-- The operational and banked registers of block page `p`. -/
def pageRegs (p : Nat) : List RegDef :=
  if 0x10 ≤ p ∧ p ≤ 0x1E then regsPage10 else
  match p with
  | 0x00 => regsPage00
  | 0x01 => regsPage01
  | 0x02 => regsPage02
  | 0x03 => regsPage03
  | 0x04 => regsPage04
  | 0x05 => regsPage05
  | 0x06 => regsPage06
  | 0x07 => regsPage07
  | 0x08 => regsPage08
  | 0x20 => regsPage20
  | 0x21 => regsPage21
  | 0x24 => regsPage24
  | 0x25 => regsPage25
  | 0x28 => regsPage28
  | 0x29 => regsPage29
  | 0x2A => regsPage2A
  | 0x2C => regsPage2C
  | 0x30 => regsPage30
  | 0x31 => regsPage31
  | 0x32 => regsPage32
  | 0x33 => regsPage33
  | 0x34 => regsPage34
  | 0x35 => regsPage35
  | 0x36 => regsPage36
  | 0x38 => regsPage38
  | 0x39 => regsPage39
  | 0x3C => regsPage3C
  | 0x3E => regsPage3E
  | 0x3F => regsPage3F
  | 0x40 => regsPage40
  | 0x42 => regsPage42
  | 0x44 => regsPage44
  | _ => []

/-- The block-specific registers of the sub-page of page `p`. -/
def subRegs (p : Nat) : List RegDef :=
  match p with
  | 0x07 => regsSub07
  | 0x08 => regsSub08
  | 0x28 => regsSub28
  | 0x29 => regsSub29
  | 0x2C => regsSub2C
  | 0x30 => regsSub30
  | 0x31 => regsSub31
  | 0x32 => regsSub32
  | 0x35 => regsSub35
  | 0x38 => regsSub38
  | 0x3C => regsSub3C
  | 0x3E => regsSub3E
  | 0x40 => regsSub40
  | _ => []

/-- `CTL`: writable bits and reset value of page `p` (R106 and the block's own table): (write mask, reset). -/
def ctlDef (p : Nat) : Nat × Nat :=
  match p with
  | 0x00 => (0x3, 0x3)
  | 0x01 => (0x1, 0x0)
  | 0x04 => (0x1, 0x0)
  | 0x10 => (0x1, 0x0)
  | 0x20 => (0x1, 0x1)
  | 0x24 => (0x1, 0x0)
  | 0x28 => (0x1, 0x0)
  | 0x29 => (0x0, 0x0)
  | 0x2A => (0x1, 0x0)
  | 0x38 => (0x1, 0x0)
  | 0x40 => (0x1, 0x0)
  | _ => (0, 0)

/-- `STAT`: write-1-to-clear bits and reset value of page `p` (R106 and the block's own table): (write mask, reset). -/
def statDef (p : Nat) : Nat × Nat :=
  match p with
  | 0x00 => (0x0, 0x0)
  | 0x01 => (0x0, 0xC0)
  | 0x02 => (0x0, 0x0)
  | 0x03 => (0x0, 0x2)
  | 0x04 => (0x0, 0x8000)
  | 0x05 => (0x0, 0x0)
  | 0x07 => (0x0, 0x0)
  | 0x08 => (0x0, 0x0)
  | 0x10 => (0x0, 0x0)
  | 0x20 => (0x0, 0x0)
  | 0x21 => (0x0, 0x0)
  | 0x24 => (0x0, 0x0)
  | 0x28 => (0x0, 0x80000000)
  | 0x29 => (0x0, 0x80000000)
  | 0x2A => (0x0, 0x0)
  | 0x2C => (0x0, 0x80000000)
  | 0x30 => (0x0, 0x0)
  | 0x31 => (0x0, 0x0)
  | 0x32 => (0x0, 0x0)
  | 0x34 => (0x0, 0x80000000)
  | 0x35 => (0x0, 0x0)
  | 0x36 => (0x0, 0x0)
  | 0x38 => (0x0, 0x0)
  | 0x39 => (0x0, 0x0)
  | 0x3C => (0x0, 0x0)
  | 0x3E => (0x0, 0x0)
  | 0x40 => (0x0, 0x0)
  | 0x44 => (0x0, 0x0)
  | _ => (0, 0)

end Sys2Proof.Machine
end

