-- ==== Sys2Proof/Machine/Block.lean ====
section
/-! DEFINITION. The plain data that the block's state is made of, unit by unit. Registers and indirect tables live in
two sparse stores; queues, timers and engine state that no register shows have structures of their own. -/

namespace Sys2Proof.Machine

/-! ### Ordering code -/

/-- What the ordering code and the identity of the part fix (R2, R3, R138, R181). -/
structure Part where
  ddr32 : Bool
  portQ : Bool
  optM : Bool
  optA : Bool
  optS : Bool
  gradeE : Bool
  stepping : Nat
  did : Nat
  /-- The module's own MAC (R287). -/
  mac : Nat
  deriving DecidableEq, Repr

/-! ### Accesses -/

/-- How the last access ended: granted, denied by a table (class 0), an address fault (class 1), an absent option,
or a data error (class 2: uncorrectable or poisoned) (R110, R128). -/
inductive Status where
  | ok | denied | address | absent | ue | poison
  deriving DecidableEq, Repr

/-- The answer of the last access: its outcome and the value read (R110: 0 unless granted). -/
structure Resp where
  status : Status
  data : Nat
  deriving DecidableEq, Repr

/-- One record of the ACT fault FIFO (R140). -/
structure ActRec where
  addr : Nat
  kind : Nat
  region : Nat
  op : Nat
  target : Nat
  rqid : Nat
  time : Nat
  deriving DecidableEq, Repr

/-- One record of the MEM fault FIFO (R148). -/
structure MemRec where
  addr : Nat
  kind : Nat
  mem : Nat
  op : Nat
  rqid : Nat
  time : Nat
  deriving DecidableEq, Repr

/-! ### Event router -/

/-- An entry of an EVR queue: identity, fast time of assertion, priority and event number (R142). -/
structure EvEnt where
  id : Nat
  t : Nat
  prio : Nat
  ev : Nat
  deriving DecidableEq, Repr

/-- EVR: the manager and SPK queues in order of arrival, the entries latched by a read of MQ0 or SQ0 for each
requester, and the priority of each instance vector's latest delivery, keyed 64·n + vec (R136, R142). -/
structure Evr where
  mq : List EvEnt
  sq : List EvEnt
  mLatch : List (Nat × EvEnt)
  sLatch : List (Nat × EvEnt)
  nextId : Nat
  prio : List (Nat × Nat)
  deriving DecidableEq, Repr

/-! ### Event recorder -/

/-- A record on its way to the log (R605, R606). -/
structure ElgItem where
  typ : Nat
  code : Nat
  rqid : Nat
  sev : Nat
  time : Nat
  payload : List Byte
  gasp : Bool
  deriving DecidableEq, Repr

/-- The most recent record of the log in force (R609): its identity, where it lies, and its repeat count. -/
structure ElgLast where
  typ : Nat
  code : Nat
  rqid : Nat
  time : Nat
  payload : List Byte
  reserve : Bool
  seq : Nat
  rep : Nat
  deriving DecidableEq, Repr

/-- ELG: intake queue, held records, records lost since the last type 6 record, the reserve log (reserve index, record
bytes), the most recent record, when hold began, the clear in progress (first, upto, authority ID, name) and the
instance records of the present second (R608–R615). -/
structure Elg where
  queue : List ElgItem
  held : List ElgItem
  lostSince : Nat
  reserve : List (Nat × List Byte)
  last : Option ElgLast
  holdAt : Option Nat
  clearing : Option (Nat × Nat × Nat × List Byte)
  instSec : Nat
  instCnt : List (Nat × Nat)
  deriving DecidableEq, Repr

/-! ### Supply -/

/-- Where the rail sequence stands (R59, R60, R70, R167): off, rails rising, PWR_OK high, held in a thermal reset, fallow. -/
inductive PwrPhase where
  | off | rising | on | thermal | fallow
  deriving DecidableEq, Repr

/-- The reset that waits for a running save set (R67, R168). -/
inductive Pending where
  | none | cold (cause : Nat)
  deriving DecidableEq, Repr

/-- The supply monitor and the tally loop beyond their registers: phase, the cause the next rail sequence starts with, t0, save set running and whether the first one
of this WARNED is done, the time of the warning crossing, the recovery crossing that waits, the reset that waits, the
level of MOD_RST_N, that of TWIN_SIDE as the pin was last read (open, side Y), a thermal DECIDED, the loop's least headland, whether a
guard fired in the period, and periods at vmax without headland (R59–R70, R90–R94). -/
structure Pwr where
  phase : PwrPhase
  nextCause : Nat
  t0 : Nat
  tp : Nat
  saving : Bool
  firstSave : Bool
  warnAt : Nat
  recoverAt : Option Nat
  deferred : Pending
  rstLow : Bool
  strap : Bool
  thermal : Bool
  vinMinDip : Nat
  /-- The latest end of a loop period (R91). -/
  tallyEnd : Nat
  tallyJump : Bool
  atmaxCnt : Nat
  aoValid : Bool
  deriving DecidableEq, Repr

/-! ### Banks -/

/-- A global swap accepted and waiting for its boundary (R115, R116). -/
structure SwapPend where
  idx : Nat
  copyback : Bool
  atidx : Bool
  agreed : Bool
  deriving DecidableEq, Repr

/-- A global swap whose checks or agreement still run (R115, R116): `peer` after the AGREE frame
has gone; `idx` is the index asked for at acceptance. -/
structure SwapCheck where
  copyback : Bool
  atidx : Bool
  peer : Bool
  idx : Nat
  sentAt : Nat
  deriving DecidableEq, Repr

/-- BNK: the checks running, the swap pending, a copy-back running, and the instance swaps pending (R115–R122). -/
structure Bnk where
  check : Option SwapCheck
  pend : Option SwapPend
  copying : Bool
  copyCmd : Bool
  instPend : List Nat
  first : Bool
  deriving DecidableEq, Repr

/-! ### Key enclave -/

/-- A commit-record site (R197): the fields of its 64 bytes. -/
structure Site where
  magic : Nat
  version : Nat
  cell : Nat
  live : Nat
  ctr : Nat
  digest : List Byte
  mark : Nat
  deriving DecidableEq, Repr

/-- A site that holds zeros. -/
def Site.zero : Site := ⟨0, 0, 0, 0, 0, [], 0⟩

/-- A slot of a key cell as the enclave's MRAM stores it, scrambled: both shares of a secret value, or the value of another cell and
nothing (R179, R180). A harrowed slot holds nothing. -/
structure Slot where
  s0 : List Byte
  s1 : List Byte
  deriving DecidableEq, Repr

/-- A key cell (R178): two slots, two commit-record sites, and whether it is damaged. -/
structure KCell where
  slot0 : Slot
  slot1 : Slot
  site0 : Site
  site1 : Site
  bad : Bool
  deriving DecidableEq, Repr

/-- A harrowed slot. -/
def Slot.zero : Slot := ⟨[], []⟩

/-- A cell that nothing has written. -/
def KCell.empty : KCell := ⟨Slot.zero, Slot.zero, Site.zero, Site.zero, false⟩

/-- A set of key cells with its anti-rollback counter (R178); production and test sets are apart (R186). -/
structure KeyStore where
  cells : List (Nat × KCell)
  ctr : Nat
  deriving DecidableEq, Repr

/-- A leaf (R187): kind, state (0 free, 1 valid, 2 expired), key ID, validity, the two shares of its key (R180), and whether receive grace
runs (R189). -/
structure Leaf where
  kind : Nat
  state : Nat
  keyId : Nat
  nb : Nat
  na : Nat
  key0 : List Byte
  key1 : List Byte
  grace : Bool
  deriving DecidableEq, Repr

/-- A free handle. -/
def Leaf.free : Leaf := ⟨0, 0, 0, 0, 0, [], [], false⟩

/-- An enclave command that runs (R202): a commit of a mordant message (cell, value, counter, whether cell 2 empties),
a signed report, a key exchange with the leaf it installs, a new device root. -/
inductive KeyRun where
  | commit (cell : Nat) (value : List Byte) (ctr : Nat) (clear2 : Bool)
  | attest (body : List Byte)
  | kex (resp : List Byte) (handle : Nat) (leaf : Leaf)
  | rekey (root : List Byte)
  deriving DecidableEq, Repr

/-- KEY: both cell sets, the leaf table, the running command, the measure registers MEAS0–MEAS7 (R217), and whether S03
is to load no persisted leaf (R226). `next` holds the persisted leaves that take effect at the next sheaf boundary (R201); `scramble` the
scramble key in the die's one-time cells, nothing before the first start (R179); `tags` the tag-unit key registers of SVI, PUB, TWN and
FLD (R175), unit u and handle h at 2,048u + h. -/
structure Enclave where
  prod : KeyStore
  test : KeyStore
  leaves : List (Nat × Leaf)
  next : List (Nat × Leaf)
  run : Option KeyRun
  meas : List (List Byte)
  noLoad : Bool
  scramble : List Byte
  tags : List (Nat × List Byte)
  deriving DecidableEq, Repr

/-! ### Trust -/

/-- TMP and DBG beyond their registers: instance slots (R216), the allow-list payload in force (R214), whether the nonce
still stands (R221), the tamper level latched in fallow (R226), and the always-on debug facts: scope and not-after of the
accepted token, the starts it names, whether the last start ran with debug open, and CLOSE given. -/
structure Trust where
  slots : List (Nat × List Byte)
  allow : List Byte
  nonceOk : Bool
  fallowLevel : Nat
  dbgScope : Nat
  dbgNotAfter : Nat
  dbgStarts : Nat
  dbgOpen : Bool
  dbgClosing : Bool
  deriving DecidableEq, Repr

/-! ### Start -/

/-- The start sequence beyond the ledger (R154–R160): the step begun and not done, the last step done, the ms from tp at
which the step began, module time of tp, module time is running, the decided ways, the containers in use for types 1, 2
and 3 (svn, commitsvn), a debug start, the PCS-keeping warm start, the harrow of the start done, and the hand-over
overlap: sheaves still to pass; when the watchdog was last kicked, and whether its period has ended since (R172). -/
structure Start where
  busy : Bool
  step : Nat
  last : Nat
  beganMs : Nat
  tp : Nat
  ways : List Nat
  images : List (Nat × Nat × Bool)
  warm : Bool
  halted : Bool
  handover : Option Nat
  wdog : Option Nat
  wdogHit : Bool
  /-- The instance that S17 leaves out in its alternate way (R154). -/
  leftOut : Option Nat
  deriving DecidableEq, Repr

/-! ### Network -/

/-- A frame inside the switch: a number shared by its copies, class, input, when it was stamped, whether PUB marked it as
shared, its publication entry, the ID of a requested transmit stamp, and the instance it is queued toward. -/
structure QFrame where
  id : Nat
  f : Frame
  cls : Nat
  inp : Nat
  stamp : Nat
  mark : Bool
  pub : Nat
  stampId : Option Nat
  /-- The ring copy has been cut through already (R282). -/
  noRing : Bool
  /-- Cells that the stored frame occupies: none while it is cut through (R271, R284). -/
  cells : Nat
  /-- The half-ns bit of the stamp (R317). -/
  half : Bool
  deriving DecidableEq, Repr

/-- A MAC beyond its registers: the frame in transmission and its end in ns, a preempted remainder and the ns it still needs, the end of a pause and
the start of holding, verification tries and the end of the interval, the last second in which each of STOMPRX and RUNTOVS
was raised, octets of the utilisation window, whether the link was up throughout it, the rate step aimed at, the end of a
link drop, of the 10 s to come up, of the 60 s without downshift, downshift off until a swap, deficits, the class last
served and when the frame or fragment in transmission began (R243–R252, R280). -/
structure Port where
  cur : Option QFrame
  txEnd : Nat
  rest : Option QFrame
  restNs : Nat
  pauseEnd : Option Nat
  holdFrom : Nat
  verTries : Nat
  verAt : Option Nat
  stompSec : Nat
  runtSec : Nat
  winRx : Nat
  winTx : Nat
  winOk : Bool
  winEnd : Nat
  goal : Nat
  dropEnd : Option Nat
  failAt : Option Nat
  blockEnd : Option Nat
  dsOff : Bool
  drr : List Nat
  drrAt : Nat
  txFrom : Nat
  /-- The mode and FEC that the PCS goes on in through a warm start, until the first swap (R155). -/
  kept : Option (Nat × Nat)
  deriving DecidableEq, Repr

/-- A port after reset. -/
def Port.init : Port := ⟨none, 0, none, 0, none, 0, 0, none, 0, 0, 0, 0, false, 0, 0, none, none, none, false, [0, 0, 0, 0, 0], 0, 0, none⟩

/-- An entry of the forwarding database (R276). -/
structure FdbEnt where
  mac : Nat
  vid : Nat
  mask : Nat
  static : Bool
  seen : Nat
  deriving DecidableEq, Repr

/-- A remembered sequence number: until when by forget, and how many later ones were accepted since (R288, R290). -/
structure SeqRec where
  seq : Nat
  til : Nat
  later : Nat
  deriving DecidableEq, Repr

/-- A node entry: pair, source MAC, until when by nodeforget after its last frame, and for each direction (0 toward H, 1 toward port a, 2 toward port b) the
remembered numbers and the highest one accepted (R288). -/
structure Node where
  pair : Nat
  src : Nat
  til : Nat
  recs : List (Nat × List SeqRec)
  high : List (Nat × Nat)
  deriving DecidableEq, Repr

/-- A lease as its requester sees it (R528, R529): held, expiry E, the latest four requests (number, transmit stamp, message type;
newest first), the next request number, the epoch held (of lease 1 the highest known), when the next RENEW and the next repeat are due, when the last
reply came, EV_TWN_WITFAIL raised for the present silence, when a REQUEST is due that the peer or
the lack of a holder calls for, and when one that a STATUS's remaining time calls for. -/
structure Lease where
  held : Bool
  exp : Nat
  reqs : List (Nat × Nat × Nat)
  nextReq : Nat
  epoch : Nat
  renewAt : Option Nat
  retryAt : Option Nat
  lastReply : Nat
  failed : Bool
  askAt : Option Nat
  remAt : Option Nat
  deriving DecidableEq, Repr

/-- A lease not held. -/
def Lease.init : Lease := ⟨false, 0, [], 1, 0, none, none, 0, false, none, none⟩

/-- A pair that this module serves as witness, for one lease (R530, R531): epoch, holder, expiry, when X and Y were last heard, and
the stored reply to the last (startno, request number) of each sender. -/
structure Serve where
  epoch : Nat
  holder : Nat
  exp : Nat
  heardX : Option Nat
  heardY : Option Nat
  replies : List ((Nat × Nat × Nat) × WitMsg)
  deriving DecidableEq, Repr

/-- A served pair that nothing has been heard of. -/
def Serve.init : Serve := ⟨0, 0xFFFF, 0, none, none, []⟩

/-- A frame record of R521 with its emission instant, whether it has been sent, and whether it has met its partner. -/
structure OwnRec where
  r : FrameRec
  at_ : Nat
  sent : Bool
  matched : Bool
  deriving DecidableEq, Repr

/-- FLD beyond its registers (R535, R536): the last ANNOUNCE, the masters heard lately (module index, when), the previous grid
epoch and until when it counts, the announced rate, better candidates heard (pair, prio, when), since when silent, EV_FLD_NOMASTER
raised, lease 1, and for each swap lately the exports in force before it with its boundary, newest first. -/
structure FieldSt where
  annAt : Option Nat
  masters : List (Nat × Nat)
  prev : Option (Nat × Nat)
  rate : Nat
  cands : List (Nat × Nat × Nat)
  silent : Nat
  noMaster : Bool
  lease : Lease
  oldExp : List (Nat × List (Nat × List Nat))
  deriving DecidableEq, Repr

/-- FLD after reset. -/
def FieldSt.init : FieldSt := ⟨none, [], none, 0, [], 0, false, Lease.init, []⟩

/-- TWN beyond its registers. -/
structure Twn where
  /-- The state that JOINING came from, and whether the peer was SOLE at the HELLO (R518). -/
  joinFrom : Nat
  joinMute : Bool
  /-- When a good frame last came on each lane, and the last HEARTBEAT (R516). -/
  lane1At : Option Nat
  lane2At : Option Nat
  hbAt : Option Nat
  /-- Lanes disabled by the alternate way of S15 (R519). -/
  laneOff : Bool
  /-- Consecutive primary sheaves that missed their agreement time (R516). -/
  missed : Nat
  /-- Peer startno taken when pairing was agreed, the latest HEARTBEAT and HELLO, and the peer's startno at that HELLO (R517). -/
  peerStart : Option Nat
  hb : Option Heartbeat
  hello : Option Hello
  helloStart : Option Nat
  /-- Own proposal for j, and j once known (R519). -/
  propose : Nat
  joinIdx : Option Nat
  /-- The peer's RESYNC, publications suppressed, and publications not yet resynchronised with the larger stNum (R523). -/
  resync : Option (Nat × List (Nat × Nat) × List PubSync)
  suppress : List Nat
  unsynced : List (Nat × Nat)
  /-- Own and peer frame records without a partner (R521). -/
  recs : List OwnRec
  precs : List (FrameRec × Nat)
  /-- Transmit stamp of the last own TIME frame; transmit and receive stamps of a peer frame to echo; receive stamp of the
  peer's last one (R524). -/
  timeT1 : Nat
  timePeer : Option (Nat × Nat)
  timeRx : Nat
  lease : Lease
  /-- When the next PRESENT is due, and the end of the witness's quarantine (R529, R531). -/
  presentAt : Nat
  quarEnd : Nat
  /-- Served pairs by 2·p + lease. -/
  serves : List (Nat × Serve)
  deriving DecidableEq, Repr

/-- TWN after reset. -/
def Twn.init : Twn :=
  { joinFrom := 0, joinMute := false
    lane1At := none, lane2At := none, hbAt := none, laneOff := false, missed := 0, peerStart := none, hb := none, hello := none, helloStart := none
    propose := 0, joinIdx := none, resync := none, suppress := [], unsynced := [], recs := [], precs := [], timeT1 := 0, timePeer := none, timeRx := 0
    lease := Lease.init, presentAt := 0, quarEnd := 0, serves := []
  }

/-- An entry of the TX timestamp queue (R318): TAI ns, half-ns bit, ID, output, flags. -/
structure TxStamp where
  t : Nat
  half : Bool
  id : Nat
  out : Nat
  flags : Nat
  deriving DecidableEq, Repr

/-- The switch: frames accepted and not yet forwarded, queues by 8·output + class, the frames cut through with their ring output and
whether that one was cut off (R284), the forwarding database by slot, frames and drops of the filters in the present window and in all, the second of
each filter's last event, nodes of the redundancy unit, and the next frame number (R270–R291). -/
structure Net where
  rx : List QFrame
  queues : List (Nat × List QFrame)
  ct : List (QFrame × Nat × Bool)
  ports : List Port
  fdb : List (Nat × FdbEnt)
  filtWin : Nat
  filtCnt : List (Nat × Nat)
  filtDrop : List (Nat × Nat)
  filtSec : List (Nat × Nat)
  nodes : List Node
  nextId : Nat
  /-- When each pair sent its last supervision frame, ns (R287). -/
  supAt : List (Nat × Nat)
  deriving DecidableEq, Repr

/-- The switch after reset. -/
def Net.init : Net := ⟨[], [], [], List.replicate 15 Port.init, [], 0, [], [], [], [], 0, []⟩

/-! ### Serial lines -/

/-- Where a transmission stands (R264): waiting for an idle line, in its lead, in its characters, in its lag. -/
inductive SerTx where
  | idle | wait | lead | data | lag
  deriving DecidableEq, Repr

/-- A serial line: transmission, its bytes and end of the present phase in ns, reception (bytes, flags, start and end of
the last character), ring occupancy, sequence, reply timer end, settings in force for the frame in progress (R262–R266). -/
structure Ser where
  tx : SerTx
  txBytes : List Byte
  txAt : Nat
  abort : Bool
  rx : List Byte
  rxOn : Bool
  rxFlags : Nat
  rxStart : Nat
  rxEnd : Nat
  occ : Nat
  seq : Nat
  reply : Option Nat
  cfg : Option Nat
  /-- Idle since the reset of the instance that owns it (R266). -/
  held : Bool
  /-- A silence longer than ic has passed since the last character of the frame (R263). -/
  gap : Bool
  deriving DecidableEq, Repr

/-- A serial line after reset. -/
def Ser.init : Ser := ⟨.idle, [], 0, false, [], false, 0, 0, 0, 0, 0, none, none, false, false⟩

/-! ### Time base -/

/-- TIM beyond its registers: for each source code, when it last gave a measurement; consecutive good measurements; when
the state was last LOCKED; when the present holdover began; the rates applied (since when, 1/256 ppb) for the mean of
R310; the last IRIG second label and the instant its frame ends; currentUtcOffset from PTP; the pending step in ns (R308); for each
compare the end of its pin pulse and its toggled level; PPS_OUT high until. -/
structure Tim where
  meas : List (Nat × Nat)
  good : Nat
  lockedAt : Option Nat
  holdAt : Nat
  rates : List (Nat × Int)
  irig : Option (Nat × Nat)
  utc : Option Nat
  step : Option Int
  pulse : List (Nat × Nat)
  tog : List (Nat × Bool)
  pps : Option Nat
  /-- What the steps of the counter have added below 2⁻¹⁶ ns, in units of 2⁻¹⁶ ns / (256 · 10⁹) (R299). -/
  tickRem : Nat
  deriving DecidableEq, Repr

/-- TIM after reset. -/
def Tim.init : Tim := ⟨[], 0, none, 0, [], none, none, none, [], [], none, 0⟩

/-- A foreign master heard on a port: its latest Announce and the arrival times of the last two. -/
structure Foreign where
  ann : PtpMsg
  last : Nat
  prev : Option Nat
  deriving DecidableEq, Repr

/-- A PTP port (R312–R314): foreign masters, sequence numbers of Announce, Sync and Pdelay_Req, when the last Pdelay_Req
left and whether it was answered, intervals missed in a row, a two-step response that waits (t2, corrections, t4), a
two-step Sync that waits (sender, sequence, receive stamp, correction), and Announce intervals left in PRE_MASTER. -/
structure PtpPort where
  foreign : List Foreign
  annSeq : Nat
  syncSeq : Nat
  pdSeq : Nat
  pdSent : Option Nat
  pdWait : Bool
  pdMiss : Nat
  pdResp : Option (Nat × Int × Nat)
  sync2 : Option (Nat × Nat × Nat × Int)
  pre : Nat
  deriving DecidableEq, Repr

/-- A PTP port after reset. -/
def PtpPort.init : PtpPort := ⟨[], 0, 0, 0, none, false, 0, none, none, 0⟩

/-! ### Ingest and alignment -/

/-- A sample within SVI's history (R334): its number and content by channel. -/
structure HistEnt where
  n : Nat
  vals : List (Nat × Nat)
  deriving DecidableEq, Repr

/-- The state of a GOOSE subscription (R345–R347): record fields, the members stored, whether a state waits for its owner to
run, and when the last frame was accepted. -/
structure GooseSub where
  seq : Nat
  stnum : Nat
  sqnum : Nat
  flags : Nat
  t : Nat
  rx : Nat
  ttl : Nat
  changes : Nat
  vals : List Nat
  wait : Bool
  last : Option Nat
  deriving DecidableEq, Repr

/-- A subscription that nothing has been accepted for. -/
def GooseSub.init : GooseSub := ⟨0, 0, 0, 0, 0, 0, 0, 0, [], false, none⟩

/-- SVI beyond its tables: histories by 2·slot + physical copy of the stream table, streams taking simulated frames, GOOSE
subscriptions, GOOSE subscriptions taking simulated frames, and the latest REVISION of each relay stream (sheaf, content). -/
structure Svi where
  hist : List (Nat × List HistEnt)
  simOn : List Nat
  goose : List (Nat × GooseSub)
  gsimOn : List Nat
  lastRev : List (Nat × (Nat × List (Nat × Nat)))
  deriving DecidableEq, Repr

/-- SVI after reset. -/
def Svi.init : Svi := ⟨[], [], [], [], []⟩

/-- A sample handed to ALN (R330, R335, R340, R343): grid, stream slot, physical copy of the stream table it was matched
under, number, instant, synchronised, direct placement, a relay sheaf index with whether it is a REVISION, and by channel an
entry of value, quality and, for a relay, flags. -/
structure Sample where
  sec : Bool
  slot : Nat
  copy : Bool
  n : Nat
  t : Nat
  sync : Bool
  direct : Bool
  relay : Option (Nat × Bool)
  vals : List (Nat × Nat)
  deriving DecidableEq, Repr

/-- Where a sheaf stands (R371–R378). -/
inductive SheafPhase where
  | claimed | agreeing | released | settling
  deriving DecidableEq, Repr

/-- A sheaf between its claim and its settlement: grid, index, phase, the horizon it was released at, when, channels formed
from unsynchronised samples (R375), own presence bitmap and the peer's, whether phase 2 was sent and received, the content and
stream states at local release (R374), own digest and the peer's, and for the settlement exchange the peer's bitmap, whether
entries were sent and received, and the two digests. -/
structure Sheaf where
  sec : Bool
  k : Nat
  phase : SheafPhase
  h : Nat
  relAt : Nat
  unsync : List Nat
  own : Nat
  peer : Option Nat
  sent2 : Bool
  in2 : Bool
  snap : List (Nat × Nat)
  digest : Option Nat
  peerDigest : Option Nat
  sPeer : Option Nat
  sSent : Bool
  sIn : Bool
  sDigest : Option Nat
  sPeerDigest : Option Nat
  /-- Its stream map and the channel masks of the instances, as they stood at its local release (R28, R386): channel and stream slot;
  instance and mask. -/
  map : List (Nat × Nat)
  masks : List (Nat × Nat)
  /-- Entries that its phase 2 has carried, both ways (R24). -/
  n2 : Nat
  /-- When its close fired, ns (R378). -/
  closedAt : Nat
  deriving DecidableEq, Repr

/-- A sheaf just claimed. -/
def Sheaf.init (sec : Bool) (k : Nat) : Sheaf :=
  ⟨sec, k, .claimed, 0, 0, [], 0, none, false, false, [], none, none, none, false, false, none, none, [], [], 0, 0⟩

/-- A revision applied to the primary ring (R377): sheaf, channel, old and new entry, and the boundary that takes it (R406). -/
structure Applied where
  k : Nat
  ch : Nat
  old : Nat
  new : Nat
  bnd : Nat
  deriving DecidableEq, Repr

/-- A resampling tap: number, instant, synchronised, entries by channel. -/
structure Tap where
  n : Nat
  t : Nat
  sync : Bool
  vals : List (Nat × Nat)
  deriving DecidableEq, Repr

/-- ALN beyond its registers: samples handed over, sheaves in their windows, the next index to claim, release and close for
each grid (primary, secondary), taps by 2·slot + copy, the last final or gleaned
entry of each channel (key 65536·grid + channel), revisions since the previous phase 1 of each grid, revisions not yet taken at a boundary,
peer messages that came before the local release, boundaries of primary sheaves that are due with the horizon of their release, and primary sheaves settled and
not yet taken by their consumers. -/
structure Aln where
  inq : List Sample
  sheaves : List Sheaf
  claimP : Nat
  claimS : Nat
  relP : Nat
  relS : Nat
  closeP : Nat
  closeS : Nat
  taps : List (Nat × List Tap)
  good : List (Nat × Nat)
  revs : List (Bool × RevRec)
  applied : List Applied
  early : List SpanMsg
  due : List (Nat × Nat)
  settled : List Nat
  /-- Bases that the secondary ring had before swaps moved it, each with the first sheaf that is not at it, oldest first (R28). -/
  ringOld : List (Nat × Nat)
  deriving DecidableEq, Repr

/-- ALN after reset. -/
def Aln.init : Aln := ⟨[], [], 0, 0, 0, 0, 0, 0, [], [], [], [], [], [], [], []⟩

/-! ### Standby protection kernel -/

/-- Timers of an SPK element (R161, R165): picked up, ns since pickup, fraction of the operate time in units of 2⁻⁶⁴, ns of reset,
trip and retrip. -/
structure SpkEl where
  pk : Bool
  el : Nat
  acc : Nat
  rs : Nat
  trip : Bool
  retrip : Bool
  deriving DecidableEq, Repr

/-- An element at rest. -/
def SpkEl.init : SpkEl := ⟨false, 0, 0, 0, false, false⟩

/-- The SPK (R161–R165): the settings record it runs, empty when idle, the one that a SPKSET activates at the next boundary, a
fallback that is due, its elements, the sheaves for which each stream still blocks (R162), the trips, the BOUT mask, and the
latest sheaf evaluated. -/
structure Spk where
  record : List Byte
  next : Option (List Byte)
  fb : Bool
  els : List SpkEl
  block : List Nat
  trips : Nat
  mask : Nat
  evalK : Option Nat
  deriving DecidableEq, Repr

/-- The SPK after reset. -/
def Spk.init : Spk := ⟨[], none, false, [], List.replicate 32 4, 0, 0, none⟩

/-! ### Binary inputs and outputs -/

/-- A binary output (R486, R488): the demand d, the end of minon, and for the open-coil and drive-failed rows whether each holds
and since when; the latest change of drive. -/
structure BioOut where
  d : Bool
  holdEnd : Option Nat
  openHold : Bool
  openAt : Nat
  failHold : Bool
  failAt : Nat
  changed : Nat
  deriving DecidableEq, Repr

/-- A binary output after reset. -/
def BioOut.init : BioOut := ⟨false, none, false, 0, false, 0, 0⟩

/-- A binary input (R489, R490): pin level, first sample of a level not yet accepted, debounced level, times of accepted changes
lately, start of the present chatter window when blocked. -/
structure BioIn where
  pin : Bool
  pend : Option Nat
  deb : Bool
  changes : List Nat
  window : Nat
  deriving DecidableEq, Repr

/-- A binary input whose pin is open, after reset. -/
def BioIn.init : BioIn := ⟨false, none, false, [], 0⟩

/-- An entry of the binary-input queue (R491). -/
structure BinEnt where
  t : Nat
  input : Nat
  level : Bool
  unchat : Bool
  deriving DecidableEq, Repr

/-- BIO beyond its registers; the debounced states with the instants they began, newest first, and by input the instant of its latest
change before those. -/
structure Bio where
  outs : List BioOut
  ins : List BioIn
  queue : List BinEnt
  hist : List (Nat × Nat)
  older : List Nat
  deriving DecidableEq, Repr

/-- BIO after reset. -/
def Bio.init : Bio := ⟨List.replicate 16 BioOut.init, List.replicate 32 BioIn.init, [], [(0, 0)], []⟩

/-! ### Publishing -/

/-- A publication that runs (R496–R500): the entry it runs under, stNum and sqNum, the sheaf that caused its state, the members last
published with their types, t as TAI ns, its TimeQuality, the interval d in ms that follows the latest frame, the sheaf of the
next retransmission, whether leafnext is in use, whether its keys are lost, and for SV the samples waiting for their frame
(sheaf, smpCnt, smpSynch, channels) with the sheaf of the latest sample taken. -/
structure PubRun where
  ent : List Nat
  st : Nat
  sq : Nat
  k : Nat
  members : List (Nat × Nat)
  t : Nat
  tq : Nat
  d : Nat
  nextK : Nat
  leafNext : Bool
  loss : Bool
  buf : List (Nat × Nat × Nat × List (Int × Nat))
  lastK : Option Nat
  deriving DecidableEq, Repr

/-- What a swap replaced (R28): sheaves below `k` of publication `p` are still built under the old entry, and under the old state
when the swap restarted the publication. -/
structure PubOld where
  k : Nat
  p : Nat
  ent : List Nat
  run : Option PubRun
  deriving DecidableEq, Repr

/-- PUB beyond its tables: publications that run by number (352 the SPK's), what swaps replaced lately (newest first), the binary
inputs sampled at the grid instant of the latest boundary, and since which sheaf boundaries found TIM_STAT.synced at each value,
newest first. -/
structure Pub where
  runs : List (Nat × PubRun)
  old : List PubOld
  bins : Nat
  synch : List (Nat × Bool)
  deriving DecidableEq, Repr

/-- PUB after reset. -/
def Pub.init : Pub := ⟨[], [], 0, []⟩

/-! ### Scheduler and logic runtime -/

/-- A task as a window takes it at its sheaf's boundary (R28): number, entry words, the logic program bound to it with that program's entry
and forces, and the SCH_CFG.kover in force (R440). -/
structure SnapTask where
  task : Nat
  ent : List Nat
  prog : Option Nat
  lent : List Nat
  forces : List (List Nat)
  kover : Nat
  deriving DecidableEq, Repr

/-- A window of a core about to open or open (R425): core, window word, sheaf, opening and close in ns, and the tasks of its owner
on the core. -/
structure SchWin where
  core : Nat
  word : Nat
  k : Nat
  opens : Nat
  closes : Nat
  tasks : List SnapTask
  deriving DecidableEq, Repr

/-- Where a release stands (R427, R435, R437). -/
inductive RelPhase where
  | waiting | copying | running | stopped
  deriving DecidableEq, Repr

/-- A release (R428), or the turn of an M task: its task, class, sheaf, cycle instant and deadline in ns, phase, the ns it has run
before its last stop and when it was last started, and whether the qualifier applies. -/
structure SchRel where
  snap : SnapTask
  cls : Nat
  k : Nat
  c : Nat
  dl : Nat
  phase : RelPhase
  ran : Nat
  since : Nat
  qual : Bool
  deriving DecidableEq, Repr

/-- A core: the window open on it, its P releases still to run, the release or M turn that runs, the task stopped there whose
context is not saved yet, and the M task that last had a turn. -/
structure SchCore where
  win : Option SchWin
  queue : List SchRel
  cur : Option SchRel
  unsaved : Option Nat
  m : Option Nat
  /-- When the latest window opened. -/
  lastOpen : Nat
  /-- Lines that the core's instruction cache and its data cache hold, newest first (R19, R20). -/
  icache : List Nat
  dcache : List Nat
  deriving DecidableEq, Repr

/-- An idle core. -/
def SchCore.init : SchCore := ⟨none, [], none, none, none, 0, [], []⟩

/-- A commit, kept for kind 5 items (R433): the deadline of its release, its window's core and opening, and the payload. -/
structure SchCommit where
  dl : Nat
  core : Nat
  opens : Nat
  payload : List Byte
  deriving DecidableEq, Repr

/-- A task beyond its entry and statistics: commits since it was enabled, the task block and slot that hold the latest, its flags and payload,
commits lately (newest first), the grid instant of its previous input image, for an L task the release that is not finished and
the latest release instant, and its tally counts: instructions retired and busy ns (R90). -/
structure SchTask where
  seq : Nat
  blk : Nat
  slot : Nat
  flags : Nat
  payload : List Byte
  recent : List SchCommit
  imageAt : Nat
  lrel : Option SchRel
  lrelAt : Option Nat
  instret : Nat
  busy : Nat
  deriving DecidableEq, Repr

/-- A task that has not committed. -/
def SchTask.init : SchTask := ⟨0, 0, 1, 0, [], [], 0, none, none, 0, 0⟩

/-- SCH beyond its registers: cores, tasks, windows of sheaves before a swap that have not opened (R28), the first sheaf whose windows
follow the tables in force, instances whose safe images are due at the next boundary (R440) and those that are faulted, GOOSE
records at local releases (R433), and the least headland of the present tally period (R443). -/
structure Sch where
  cores : List SchCore
  tasks : List (Nat × SchTask)
  wins : List SchWin
  start : Option Nat
  safeDue : List Nat
  faulted : List Nat
  gooSnap : List (Nat × List (Nat × GooseSub))
  minH : Option Int
  deriving DecidableEq, Repr

/-- SCH after reset. -/
def Sch.init : Sch := ⟨List.replicate 16 SchCore.init, [], [], none, [], [], [], none⟩

/-- A retentive save being written (R563): the program, the slot (false the one at moff), the bytes of the slot, and the start. -/
structure LgrSave where
  prog : Nat
  addr : Nat
  data : List Byte
  deriving DecidableEq, Repr

/-- A logic program beyond its entry (R563–R567): a load due at its next release, the entry of the old generation whose data its next
release carries over, and the start of its latest save. -/
structure LgrProg where
  load : Bool
  old : Option (List Nat)
  saveAt : Option Nat
  deriving DecidableEq, Repr

/-- LGR beyond its tables: programs and saves being written. -/
structure Lgr where
  progs : List (Nat × LgrProg)
  saves : List LgrSave
  deriving DecidableEq, Repr

/-- LGR after reset. -/
def Lgr.init : Lgr := ⟨[], []⟩

/-! ### Phasor engine -/

/-- A result record (R404, R405) with what R413 keeps of its computation: the job entry, N, f in µHz, and the rate. -/
structure PRec where
  idx : Nat
  v0 : Int
  v1 : Int
  v2 : Int
  v3 : Int
  flags : Nat
  ncorr : Nat
  inq : Nat
  ent : List Nat
  n : Nat
  fu : Nat
  rate : Nat
  deriving DecidableEq, Repr

/-- No record. -/
def PRec.none : PRec := ⟨0, 0, 0, 0, 0, 0, 0, 0, [], 0, 0, 0⟩

/-- A correction item (R406, R407): kind (0 DFT delta, 1 RMS, 2 derived), slot, the record's sheaf, the revised sheaf, and Δ. -/
structure PheItem where
  kind : Nat
  slot : Nat
  j : Nat
  m : Nat
  delta : Int
  deriving DecidableEq, Repr

/-- A record on its way to the result ring: its slot, the record, and the correction item it comes from. -/
structure PheWork where
  slot : Nat
  res : PRec
  item : Option PheItem
  deriving DecidableEq, Repr

/-- A phasor unit: the sheaf of its list, when its boundary was, the due instant, the work not yet written, the items carried, and
the latest sheaf whose list completed. -/
structure PheUnit where
  k : Nat
  began : Nat
  due : Nat
  work : List PheWork
  carry : List PheItem
  done : Option Nat
  deriving DecidableEq, Repr

/-- An idle unit. -/
def PheUnit.init : PheUnit := ⟨0, 0, 0, [], [], none⟩

/-- PHE beyond its registers: the units, the records in the result ring by 8·slot + sheaf mod 8, slots disabled by R412 until a
new entry runs, and the latest sheaf counted as late. -/
structure Phe where
  units : List PheUnit
  recs : List (Nat × PRec)
  dead : List Nat
  lateK : Option Nat
  deriving DecidableEq, Repr

/-- PHE after reset. -/
def Phe.init : Phe := ⟨List.replicate 8 PheUnit.init, [], [], none⟩

/-! ### Instances and DMA -/

/-- A descriptor that the engine holds (R463, R464): its ring (an instance, or 64 for the manager), address, source or fill
pattern, destination, length, ID, flags with the byte after them, bytes moved, and the channel it runs on. -/
structure DmaDesc where
  ring : Nat
  addr : Nat
  src : Nat
  dst : Nat
  len : Nat
  id : Nat
  flags : Nat
  done : Nat
  chan : Option Nat
  deriving DecidableEq, Repr

/-- A command that waits for the peer's answer (R460): 0 SHARE, 1 START, 2 RESUME; its instance, the boundary proposed, and when the
request was sent. -/
structure VimAsk where
  kind : Nat
  n : Nat
  idx : Nat
  sentAt : Nat
  deriving DecidableEq, Repr

/-- A START or RESUME that waits for its boundary: instance, whether it is a RESUME, and the agreed index, none for the next
boundary (R454, R460). -/
structure VimStart where
  n : Nat
  resume : Bool
  at_ : Option Nat
  deriving DecidableEq, Repr

/-- VIM beyond its tables: mapped granules (DDR5 or not, number), the share change pending with its agreed index, the commands that
wait for a boundary, the one that waits for the peer, quiesce compares by instance, the granules of the resets that run, and
the instances being removed (R454–R470). -/
structure Vim where
  mapped : List (Bool × Nat)
  pend : Option (Option Nat)
  starts : List VimStart
  ask : Option VimAsk
  qtmo : List (Nat × Nat)
  resets : List (Nat × List (Bool × Nat))
  removing : List Nat
  deriving DecidableEq, Repr

/-- VIM after reset. -/
def Vim.init : Vim := ⟨[], none, [], none, [], [], []⟩

/-! ### Memory errors -/

/-- An error that a patrol or a harrow meets (R31–R34, R152): an address in the word or line, the DDR5 device that the symbols belong to
(10 for symbols of no one device, and outside DDR5), and how many symbols are wrong. -/
structure Upset where
  addr : Nat
  dev : Nat
  n : Nat
  deriving DecidableEq, Repr

/-- The symbol errors that a codeword holds (R31, R33): its first address, and their number by device as in `Upset`. -/
structure CwErr where
  addr : Nat
  syms : List (Nat × Nat)
  deriving DecidableEq, Repr

/-- A flash block that a patrol reads (R76): its number, the image slot A (0) or B (1) it lies in if either, the most corrected bits of a sector,
whether its last rewrite lies 2 years back, and the spare block a rewrite would take. -/
structure FlashBlk where
  block : Nat
  slot : Option Nat
  bits : Nat
  old : Bool
  spare : Nat
  deriving DecidableEq, Repr

/-! ### Metering and pulses -/

/-- What a sheaf adds to a point's windows (R581): v·i, delayed v·i and v² of phases A–C, and i² of A–C and N. -/
structure MtrSample where
  p : List Int
  q : List Int
  v : List Nat
  i : List Nat
  deriving DecidableEq, Repr

/-- A sample of zeros, as a skipped sheaf gives (R580). -/
def MtrSample.zero : MtrSample := ⟨[0, 0, 0], [0, 0, 0], [0, 0, 0], [0, 0, 0, 0]⟩

/-- A voltage event in progress (R591): the sheaf it started at, the phases in it, and the extreme sum of squares of a window. -/
structure MtrDip where
  k : Nat
  mask : Nat
  ext : Nat
  deriving DecidableEq, Repr

/-- A metering point (R581, R590, R591): accumulators, the last N samples (newest first) with the entry words and N they were
taken under, sums of the present metering cycle, consecutive cycles with and without a wrong sequence and a missing neutral, and
sag, swell and interruption in progress. -/
structure MtrPoint where
  acc : List Nat
  win : List MtrSample
  under : List Nat
  cycR : Int
  cycRes : Nat
  seqCnt : Nat × Nat
  neuCnt : Nat × Nat
  dips : List (Nat × MtrDip)
  deriving DecidableEq, Repr

/-- A point that nothing has been metered for. -/
def MtrPoint.init : MtrPoint := ⟨List.replicate 23 0, [], [], 0, 0, (0, 0), (0, 0), []⟩

/-- The metering configuration of a boundary (R28): enabled points, PHE_CFG.fnom, H + G in ns, and the PLS entries. -/
structure MtrCfg where
  pts : List (Nat × List Nat)
  f60 : Bool
  hg : Nat
  pls : List (Nat × Nat)
  deriving DecidableEq, Repr

/-- A metering save being written (R587): the slot's address, its header and its data. -/
structure MtrSave where
  addr : Nat
  head : List Byte
  data : List Byte
  deriving DecidableEq, Repr

/-- A pulse output (R592, R593): the point and quantity it follows, the threshold last reached, the pulses that wait (due instant,
width), due instant, start and width of the latest pulse, and the end of a pulse that is high. -/
structure PlsOut where
  src : Option (Nat × Nat)
  base : Nat
  queue : List (Nat × Nat)
  due : Option Nat
  start : Nat
  width : Nat
  high : Option Nat
  deriving DecidableEq, Repr

/-- A pulse output at rest. -/
def PlsOut.init : PlsOut := ⟨none, 0, [], none, 0, 0, none⟩

/-- MTR and PLS beyond their registers and tables: points, the next sheaf to process (none before the first global swap of a start), the
latest processed, MTR_AOIDX in the always-on domain, the ZL24 records (newest first), a save being written and when the latest began,
configurations replaced lately with their boundaries (newest first), and the outputs. -/
structure Mtr where
  pts : List (Nat × MtrPoint)
  next : Option Nat
  last : Nat
  ao : Option Nat
  recs : List (List Nat)
  save : Option MtrSave
  saveAt : Nat
  old : List (Nat × MtrCfg)
  outs : List PlsOut
  deriving DecidableEq, Repr

/-- MTR and PLS after reset. -/
def Mtr.init : Mtr := ⟨[], none, 0, none, [], none, 0, [], List.replicate 16 PlsOut.init⟩


/-! ### The block -/

/-- Everything the module holds, but for the queue of commands that wait. -/
structure Block where
  /-- What the ordering code fixes (R2). -/
  part : Part
  /-- Module time in units of 2⁻¹⁶ ns since the PTP epoch (R299). -/
  time : Nat
  /-- The model's own counter, from which free values are drawn. -/
  free : Nat
  /-- Registers whose value differs from reset, by physical address; the second copy of a banked register lies 2⁴⁰ above. -/
  regs : List (Nat × Word)
  /-- Words of indirect tables that differ from reset, by `tkey`; the second copy of a banked table lies 2⁴⁸ above. -/
  tabs : List (Nat × Word)
  /-- Pages whose second copy is the active one (R114). -/
  bankB : List Nat
  /-- Instances whose second copy is the active one (ISTAT.ibank, R113). -/
  instB : List Nat
  /-- Memory bytes that differ from zero, by physical address; the on-die SRAM that is not mapped lies from 2⁴⁰ on (`packetSram`). -/
  mem : List Host.Cell
  /-- Codewords that are poisoned, uncorrectable, or hold a correctable error, by first address (R31, R33, R35). -/
  poisoned : List Nat
  uncorr : List Nat
  corr : List Nat
  /-- The symbol errors of the codewords that hold any, beside those of a codeword that was left undecodable by a write (R31, R33). -/
  errs : List CwErr
  /-- Values latched by a read of a _LO register, by requester and address of its partner (R104, R324). -/
  hiLatch : List ((Nat × Nat) × Word)
  /-- Access-table low words written and not yet committed, by address of the entry (R127). -/
  heldLow : List (Nat × Word)
  /-- The answer of the last access. -/
  resp : Resp
  /-- What the last command made the module send. -/
  out : List Output
  actFifo : List ActRec
  memFifo : List MemRec
  evr : Evr
  elg : Elg
  pwr : Pwr
  bnk : Bnk
  /-- Whether the second copy of the share tables is the active one (R456). -/
  shareB : Bool
  /-- Granules (DDR5 or not, number) that belong to no instance until their harrow completes (R459). -/
  granHold : List (Bool × Nat)
  /-- Flash bytes that differ from zero, by flash offset (R210). -/
  flash : List Host.Cell
  key : Enclave
  trust : Trust
  start : Start
  net : Net
  ser : List Ser
  /-- The TX timestamp queue, oldest first (R318). -/
  txq : List TxStamp
  /-- The second, plus one, in which an event limited to once per second was last raised, by event number and item. -/
  evSec : List (Nat × Nat)
  twn : Twn
  tim : Tim
  ptp : List PtpPort
  svi : Svi
  aln : Aln
  /-- AAP: high-path samples below the switching threshold in a row, by channel (R353), and channels whose low path is stuck (R354). -/
  aapBelow : List (Nat × Nat)
  aapLowStuck : List Nat
  spk : Spk
  fld : FieldSt
  phe : Phe
  bio : Bio
  pub : Pub
  sch : Sch
  lgr : Lgr
  vim : Vim
  /-- The descriptors in the DMA engine, in the order they were fetched. -/
  dma : List DmaDesc
  /-- Lines of each DDR5 device with a corrected error lately: subchannel, device, line, when (R34). -/
  ddrHits : List ((Nat × Nat) × (Nat × Nat))
  /-- Flash remap records: block and the spare it lies in (R76). -/
  remap : List (Nat × Nat)
  mtr : Mtr
  deriving DecidableEq, Repr

/-! ### What a reset leaves in the units' own state -/

/-- EVR after reset. -/
def Evr.init : Evr := ⟨[], [], [], [], 0, []⟩
/-- ELG after reset. -/
def Elg.init : Elg := ⟨[], [], 0, [], none, none, none, 0, []⟩
/-- PWR before VIN first rises. -/
def Pwr.init : Pwr := ⟨.off, 0, 0, 0, false, false, 0, none, .none, false, false, false, 0xFFFF, 0, false, 0, false⟩
/-- BNK after reset. -/
def Bnk.init : Bnk := ⟨none, none, false, false, [], true⟩
/-- KEY before anything is written. -/
def Enclave.init : Enclave := ⟨⟨[], 0⟩, ⟨[], 0⟩, [], [], none, List.replicate 8 (List.replicate 32 0#8), false, [], []⟩
/-- TMP and DBG before anything is written. -/
def Trust.init : Trust := ⟨[], [], false, 0, 0, 0, 0, false, false⟩
/-- The start sequence before S01. -/
def Start.init : Start := ⟨false, 0, 0, 0, 0, List.replicate 18 0, [], false, false, none, none, false, none⟩

/-- A block with nothing written. -/
def Block.init (p : Part) : Block :=
  { part := p, time := 0, free := 0, regs := [], tabs := [], bankB := [], instB := [], mem := [], poisoned := [],
    uncorr := [], corr := [], errs := [], hiLatch := [], heldLow := [], resp := ⟨.ok, 0⟩, out := [], actFifo := [], memFifo := [],
    evr := Evr.init, elg := Elg.init, pwr := Pwr.init, bnk := Bnk.init, shareB := false, granHold := [],
    flash := [], key := Enclave.init, trust := Trust.init, start := Start.init
    , net := Net.init, ser := [Ser.init, Ser.init], txq := [], evSec := []
    , twn := Twn.init
    , tim := Tim.init, ptp := List.replicate 12 PtpPort.init
    , svi := Svi.init, aln := Aln.init, aapBelow := [], aapLowStuck := []
    , spk := Spk.init
    , fld := FieldSt.init
    , phe := Phe.init
    , bio := Bio.init, pub := Pub.init, sch := Sch.init, lgr := Lgr.init
    , vim := Vim.init, dma := []
    , ddrHits := [], remap := []
    , mtr := Mtr.init
    }

end Sys2Proof.Machine
end

