-- ==== Sys2Proof/Syntax.lean ====
section
/-! DEFINITION. The commands of the block: one constructor per row of the table of operations and events, with what each carries.
Each docstring names the row and the rule that governs it. -/

namespace Sys2Proof

/-- A command. -/
inductive Instr where
  /-- VIN_START_RISE (R59): `aoKept`: the always-on domain kept its content. -/
  | vinStartRise (aoKept : Bool)
  /-- PWR_OK_RISE (R59): what TWIN_SIDE reads, open being side Y (R42). -/
  | pwrOkRise (side : Bool := false)
  /-- VIN_ABANDON (R59). -/
  | vinAbandon
  /-- HOLDUP_READY (R59): the capacitance measured, µF. -/
  | holdupReady (cap : Nat)
  /-- RAIL_FAULT (R60): the number of the rail. -/
  | railFault (rail : Nat)
  /-- MOD_RST_N_LOW (R43). -/
  | modRstNLow
  /-- MOD_RST_N_RISE (R43): what TWIN_SIDE reads (R42). -/
  | modRstNRise (side : Bool := false)
  /-- PWR_MEASURE (R82): the measurements in their registers' units; `vsense`, `tsense`: the sensors disagree. -/
  | pwrMeasure (vin iin tj tplate varray ratio : Nat) (vsense tsense : Bool)
  /-- VIN_WARNING_CROSS (R63): `k`: the commit step a running MORDANT is in. -/
  | vinWarningCross (k : Nat)
  /-- SAVE_SET_COMPLETE (R62): `good`: every write of the set verified. -/
  | saveSetComplete (good : Bool)
  /-- METERING_SAVE_REPEAT (R63). -/
  | meteringSaveRepeat
  /-- VIN_RECOVERY_CROSS (R62). -/
  | vinRecoveryCross
  /-- VIN_RESET_CROSS (R62): `k`: the commit step a running MORDANT is in. -/
  | vinResetCross (k : Nat)
  /-- HOLDUP_ARRAY_FLOOR (R64). -/
  | holdupArrayFloor
  /-- JUNCTION_HOT (R70). -/
  | junctionHot
  /-- JUNCTION_COOL (R70). -/
  | junctionCool
  /-- JUNCTION_TRIP (R70): `k`: the commit step a running MORDANT is in. -/
  | junctionTrip (k : Nat)
  /-- THERMAL_RESTART (R70). -/
  | thermalRestart
  /-- LIFE_UPDATE (R73). -/
  | lifeUpdate
  /-- CLEAR_MIN (R81): `rqid` writes CMD. -/
  | clearMin (rqid : Nat)
  /-- TALLY_PERIOD_END (R91). -/
  | tallyPeriodEnd
  /-- TALLY_SPEED_REFRESH (R90): the least and the mean speed of the sites. -/
  | tallySpeedRefresh (mn mean : Nat)
  /-- PWR_TALLYCTL_WRITE (R94): `rqid` writes `v`. -/
  | pwrTallyctlWrite (rqid v : Nat)
  /-- MEMORY_PATROL (R32): the kind of memory (0 on-die SRAM, 1 DDR5, 2 MRAM) and the errors that have arisen in it. -/
  | memoryPatrol (kind : Nat) (us : List Machine.Upset)
  /-- FLASH_PATROL (R76): what the patrol read of the blocks that need a rewrite. -/
  | flashPatrol (l : List Machine.FlashBlk)
  /-- MEM_POP (R149): `rqid` writes CMD. -/
  | memPop (rqid : Nat)
  /-- MEM_INJECT (R149): `rqid` writes CMD; `n` symbol errors, or poison. -/
  | memInject (rqid n : Nat) (pz : Bool)
  /-- REGISTER_WRITE (R106): `rqid` writes `v` at `a`. -/
  | registerWrite (rqid a v : Nat)
  /-- LO_REGISTER_READ (R104): `rqid` reads `a`. -/
  | loRegisterRead (rqid a : Nat)
  /-- LOCK_WRITE (R108): `rqid` writes `v` to LOCK of page `p`. -/
  | lockWrite (rqid p v : Nat)
  /-- UNKNOWN_COMMAND (R107): `rqid` writes `v` to CMD of page `p`. -/
  | unknownCommand (rqid p v : Nat)
  /-- ACCESS_ENTRY_WRITE (R127): `rqid` writes `v` at the word `a` of a table. -/
  | accessEntryWrite (rqid a v : Nat)
  /-- CORE_MEMORY_ACCESS (R128): `rqid` makes the access `op` at `a`. -/
  | coreMemoryAccess (rqid a : Nat) (op : Machine.CoreOp)
  /-- BNK_SWAP (R115): `rqid` writes CMD. -/
  | bnkSwap (rqid : Nat) (copyback atidx : Bool)
  /-- BNK_CANCEL (R123): `rqid` writes CMD. -/
  | bnkCancel (rqid : Nat)
  /-- BNK_COPYBACK (R145): `rqid` writes CMD. -/
  | bnkCopyback (rqid : Nat)
  /-- COPYBACK_DONE (R121). -/
  | copybackDone
  /-- BNK_I_SWAP (R122): `rqid` writes BNK_I_CMD of instance `n`. -/
  | bnkISwap (rqid n : Nat)
  /-- BNK_I_CANCEL (R147): `rqid` writes BNK_I_CMD of instance `n`. -/
  | bnkICancel (rqid n : Nat)
  /-- ACT_POP (R141): `rqid` writes CMD. -/
  | actPop (rqid : Nat)
  /-- ACT_LOOKUP (R141): `rqid` writes CMD; the operation judged. -/
  | actLookup (rqid op : Nat)
  /-- EVENT_ASSERT (R136): event number and recorder payload. -/
  | eventAssert (ev : Nat) (pl : List Byte)
  /-- IEVTEN_WRITE (R136): `rqid` writes `v` to IEVTEN of page `p` of instance `n`. -/
  | ievtenWrite (rqid p n v : Nat)
  /-- EVR_QUEUE_LATCH (R142): `rqid` reads EVR_SQ0 or EVR_MQ0. -/
  | evrQueueLatch (rqid : Nat) (sq : Bool)
  /-- EVR_QUEUE_POP (R142): `rqid` reads EVR_SQ1 or EVR_MQ1. -/
  | evrQueuePop (rqid : Nat) (sq : Bool)
  /-- START_STEP (R154): whether the next step begins or the one in progress is done, ms from tp, and the step's detail. -/
  | startStep (begins : Bool) (ms detail : Nat)
  /-- STEP_LIMIT (R154). -/
  | stepLimit
  /-- HARROW_PASS_DONE (R152): the words that failed their verify twice, and µs. -/
  | harrowPassDone (fails : List Machine.Upset) (us : Nat)
  /-- STL_CLEAR (R160): `rqid` writes CMD; the step, 0 for all. -/
  | stlClear (rqid n : Nat)
  /-- SPK_HANDOVER (R165). -/
  | spkHandover
  /-- SPK_FALLBACK (R165). -/
  | spkFallback
  /-- SPK_EVALUATE (R161). -/
  | spkEvaluate
  /-- WATCHDOG_EXPIRY (R172). -/
  | watchdogExpiry
  /-- WATCHDOG_AUTOWARM (R172). -/
  | watchdogAutowarm
  /-- SYS_WDOGKICK (R174): `rqid` writes SYS_WDOGKICK. -/
  | sysWdogkick (rqid : Nat)
  /-- SYS_WARM (R173): `rqid` writes CMD. -/
  | sysWarm (rqid : Nat) (force : Bool)
  /-- SYS_COLD (R173): `rqid` writes CMD. -/
  | sysCold (rqid : Nat) (force : Bool)
  /-- SYS_FALLOW (R167): `rqid` writes CMD. -/
  | sysFallow (rqid : Nat)
  /-- SYS_FALLBACK (R173): `rqid` writes CMD. -/
  | sysFallback (rqid : Nat)
  /-- SYS_RESUME (R173): `rqid` writes CMD. -/
  | sysResume (rqid : Nat)
  /-- SYS_SPKSET (R173): `rqid` writes CMD; the copy. -/
  | sysSpkset (rqid copy : Nat)
  /-- FALLOW_WAKE (R167). -/
  | fallowWake
  /-- KEY_MORDANT (R194): `rqid` writes CMD. -/
  | keyMordant (rqid : Nat)
  /-- KEY_IDREAD (R202): `rqid` writes CMD. -/
  | keyIdread (rqid : Nat)
  /-- KEY_ATTEST (R219): `rqid` writes CMD. -/
  | keyAttest (rqid : Nat)
  /-- KEY_KEX (R190): `rqid` writes CMD. -/
  | keyKex (rqid : Nat)
  /-- KEY_LEAFLOAD (R190): `rqid` writes CMD; the SA handle. -/
  | keyLeafload (rqid h : Nat)
  /-- KEY_LEAFDROP (R202): `rqid` writes CMD; the handle. -/
  | keyLeafdrop (rqid h : Nat)
  /-- KEY_LEAFPERSIST (R191): `rqid` writes CMD; the source handle and the cell. -/
  | keyLeafpersist (rqid h n : Nat)
  /-- KEY_DERIVELEAF (R185): `rqid` writes CMD; the kind of leaf. -/
  | keyDeriveleaf (rqid kind : Nat)
  /-- KEY_LEAFINFO (R187): `rqid` writes CMD; the handle. -/
  | keyLeafinfo (rqid h : Nat)
  /-- KEY_REKEY (R183): `rqid` writes CMD. -/
  | keyRekey (rqid : Nat)
  /-- KEY_ANCHORSET (R202): `rqid` writes CMD. -/
  | keyAnchorset (rqid : Nat)
  /-- KEY_ZEROISE (R202): `rqid` writes CMD. -/
  | keyZeroise (rqid : Nat)
  /-- ENTROPY_HEALTH_TEST (R177): whether the test passed. -/
  | entropyHealthTest (ok : Bool)
  /-- LEAF_EXPIRY (R189): the handle. -/
  | leafExpiry (h : Nat)
  /-- RXGRACE_EXPIRY (R189): the handle. -/
  | rxgraceExpiry (h : Nat)
  /-- TMP_CLEAR (R228): `rqid` writes CMD. -/
  | tmpClear (rqid : Nat)
  /-- TMP_VERIFY (R211): `rqid` writes CMD; the use and the instance. -/
  | tmpVerify (rqid use m : Nat)
  /-- TMP_RAISE (R228): `rqid` writes CMD; the level. -/
  | tmpRaise (rqid lvl : Nat)
  /-- TMP_MEASURE (R218): `rqid` writes CMD. -/
  | tmpMeasure (rqid : Nat)
  /-- TAMPER_DETECT (R224): the source, whether its condition is over at once, goes on or ends, whether it is that of an always-on rail (source
  3), whether its self-test at S05 found it, and the commit step a running MORDANT is in. -/
  | tamperDetect (src : Nat) (sign : Machine.TamperSign) (selftest : Bool) (k : Nat)
  /-- TAMPER_LOOP_MEASURE (R45): the resistance, none for an open loop, and a short of a pin to GND. -/
  | tamperLoopMeasure (ohm : Option Nat) (short : Bool)
  /-- TAP_INSTRUCTION (R51): IDCODE, BYPASS or another. -/
  | tapInstruction (ir : Machine.TapIr)
  /-- DBG_CHALLENGE (R221): `rqid` writes CMD. -/
  | dbgChallenge (rqid : Nat)
  /-- DBG_AUTH (R221): `rqid` writes CMD. -/
  | dbgAuth (rqid : Nat)
  /-- DBG_CLOSE (R221): `rqid` writes CMD. -/
  | dbgClose (rqid : Nat)
  /-- LINK_UP (R54): the MAC (0–11 P1–P12, 12 and 13 S1 and S2, 14 H) and the rate code. -/
  | linkUp (m rate : Nat)
  /-- LINK_DOWN (R239): the MAC. -/
  | linkDown (m : Nat)
  /-- SGMII_CONTROL_WORD (R234): port, link, half duplex and rate code. -/
  | sgmiiControlWord (m : Nat) (up half : Bool) (rate : Nat)
  /-- MAC_RECEIVE (R237): the port and the frame. -/
  | macReceive (m : Nat) (f : Machine.Frame)
  /-- PAUSE_RECEIVE (R243): the port and the quanta. -/
  | pauseReceive (m quanta : Nat)
  /-- PAUSE_TIMER_EXPIRY (R243): the port. -/
  | pauseTimerExpiry (m : Nat)
  /-- OUTPUT_TRANSMIT (R280): the output, and whether an express frame interrupts the frame in transmission. -/
  | outputTransmit (o : Nat) (preempt : Bool)
  /-- VERIFY_INTERVAL (R248): the port. -/
  | verifyInterval (m : Nat)
  /-- VERIFY_RESPONSE (R248): the port. -/
  | verifyResponse (m : Nat)
  /-- DOWNSHIFT_WINDOW_END (R251): the port. -/
  | downshiftWindowEnd (m : Nat)
  /-- DOWNSHIFT_HOLD_END (R251): the port. -/
  | downshiftHoldEnd (m : Nat)
  /-- DOWNSHIFT_FAIL (R252): the port. -/
  | downshiftFail (m : Nat)
  /-- DOWNSHIFT_BLOCK_END (R251): the port. -/
  | downshiftBlockEnd (m : Nat)
  /-- MAC_CLRCNT (R255): `rqid` writes MAC_CMD of MAC `m`. -/
  | macClrcnt (rqid m : Nat)
  /-- MAC_ANRESTART (R255): `rqid` writes MAC_CMD of MAC `m`. -/
  | macAnrestart (rqid m : Nat)
  /-- MAC_VERIFY (R255): `rqid` writes MAC_CMD of MAC `m`. -/
  | macVerify (rqid m : Nat)
  /-- H_INGRESS (R240): the frame, its class, the checksums requested, the ID of a requested stamp, and the instance it comes from. -/
  | hIngress (f : Machine.Frame) (cls : Nat) (ipReq udpReq : Bool) (sid inst : Option Nat)
  /-- SER_SEND (R264): `rqid` writes SER_CMD, or SER_I_CMD of an instance, for port `p`. -/
  | serSend (rqid : Nat) (inst : Option Nat) (p : Nat)
  /-- SER_RXPOP (R265): `rqid` writes SER_CMD, or SER_I_CMD of an instance, for port `p`. -/
  | serRxpop (rqid : Nat) (inst : Option Nat) (p : Nat)
  /-- SER_ABORT (R266): `rqid` writes SER_CMD, or SER_I_CMD of an instance, for port `p`. -/
  | serAbort (rqid : Nat) (inst : Option Nat) (p : Nat)
  /-- SER_CHARACTER_RECEIVE (R262): port, byte, parity bit, framing error, break. -/
  | serCharacterReceive (p : Nat) (x : Byte) (pbit framing brk : Bool)
  /-- SER_GAP_SILENCE (R263): the port. -/
  | serGapSilence (p : Nat)
  /-- SER_END_SILENCE (R263): the port. -/
  | serEndSilence (p : Nat)
  /-- SER_IDLE_READY (R264): the port. -/
  | serIdleReady (p : Nat)
  /-- SER_LEAD_END (R264): the port. -/
  | serLeadEnd (p : Nat)
  /-- SER_LAG_END (R264): the port. -/
  | serLagEnd (p : Nat)
  /-- SER_REPLY_TIMEOUT (R264): the port. -/
  | serReplyTimeout (p : Nat)
  /-- SWITCH_FORWARD (R275). -/
  | switchForward
  /-- CUT_THROUGH (R282): the port and the frame arriving. -/
  | cutThrough (m : Nat) (f : Machine.Frame)
  /-- CUT_THROUGH_END (R284): the ring output, and how the frame ended. -/
  | cutThroughEnd (o : Nat) (e : Machine.CtEnd)
  /-- FDB_AGEING (R276). -/
  | fdbAgeing
  /-- FILTER_WINDOW (R278). -/
  | filterWindow
  /-- SWC_TREAD (R293): `rqid` writes CMD; the table. -/
  | swcTread (rqid t : Nat)
  /-- SWC_TWRITE (R293): `rqid` writes CMD; the table. -/
  | swcTwrite (rqid t : Nat)
  /-- SWC_FLUSH (R293): `rqid` writes CMD; the VID, 0 for all. -/
  | swcFlush (rqid vid : Nat)
  /-- SWC_CLRCNT (R293): `rqid` writes CMD. -/
  | swcClrcnt (rqid : Nat)
  /-- PRP_SUPERVISION (R287): the pair. -/
  | prpSupervision (p : Nat)
  /-- PRP_NODE_FORGET (R288). -/
  | prpNodeForget
  /-- PRP_FORGET (R288). -/
  | prpForget
  /-- PRP_CLRCNT (R297): `rqid` writes CMD. -/
  | prpClrcnt (rqid : Nat)
  /-- PRP_FLUSHNODES (R288): `rqid` writes CMD. -/
  | prpFlushnodes (rqid : Nat)
  /-- PPS_IN_EDGE (R305): the instant captured, ns. -/
  | ppsInEdge (t : Nat)
  /-- IRIG_FRAME (R315): the instant of the reference marker, ns, and the fields decoded. -/
  | irigFrame (t : Nat) (f : Machine.Irig)
  /-- PTP_RECEIVE (R312): the port, the receive stamp, ns, and the message. -/
  | ptpReceive (o rx : Nat) (m : Machine.PtpMsg)
  /-- PTP_INTERVAL (R312): the port and the interval. -/
  | ptpInterval (o : Nat) (tick : Machine.PtpTick)
  /-- SOURCE_LOSS (R306). -/
  | sourceLoss
  /-- HOLDOVER_BOUND (R311). -/
  | holdoverBound
  /-- TIM_STEP (R323): `rqid` writes CMD. -/
  | timStep (rqid : Nat)
  /-- TIM_STEPCANCEL (R323): `rqid` writes CMD. -/
  | timStepcancel (rqid : Nat)
  /-- TIM_TXQCLR (R323): `rqid` writes CMD. -/
  | timTxqclr (rqid : Nat)
  /-- TIM_RELOCK (R323): `rqid` writes CMD. -/
  | timRelock (rqid : Nat)
  /-- TIM_CMPTGT_WRITE (R319): `rqid` writes the target of compare `i` in the TIM page or in a sub-page. -/
  | timCmptgtWrite (rqid : Nat) (inst : Option Nat) (i v : Nat)
  /-- TIM_CMPPER_WRITE (R321): `rqid` writes the period of compare `i` in the TIM page or in a sub-page. -/
  | timCmpperWrite (rqid : Nat) (inst : Option Nat) (i v : Nat)
  /-- COMPARE_FIRE (R319): the compare. -/
  | compareFire (i : Nat)
  /-- COMPARE_PULSE_END (R320): the compare. -/
  | comparePulseEnd (i : Nat)
  /-- PPS_OUT_RISE (R316). -/
  | ppsOutRise
  /-- PPS_OUT_FALL (R316). -/
  | ppsOutFall
  /-- TIM_SEC_LO_READ (R324): `rqid` reads TIM_SEC_LO. -/
  | timSecLoRead (rqid : Nat)
  /-- TIM_TXQ0_READ (R324): `rqid` reads TIM_TXQ0. -/
  | timTxq0Read (rqid : Nat)
  /-- TIM_TXQ2_READ (R324): `rqid` reads TIM_TXQ2. -/
  | timTxq2Read (rqid : Nat)
  /-- SVI_STREAM_FRAME (R332): the frame, its input and its receive stamp, ns. -/
  | sviStreamFrame (f : Machine.Frame) (port rx : Nat)
  /-- SVI_RELAY_FRAME (R343): the frame, its input and its receive stamp, ns. -/
  | sviRelayFrame (f : Machine.Frame) (port rx : Nat)
  /-- SVI_GOOSE_FRAME (R346): the frame and its receive stamp, ns. -/
  | sviGooseFrame (f : Machine.Frame) (rx : Nat)
  /-- GOOSE_STALE (R347): the subscription. -/
  | gooseStale (i : Nat)
  /-- SVI_TREAD (R359): `rqid` writes CMD; the table. -/
  | sviTread (rqid t : Nat)
  /-- SVI_TWRITE (R359): `rqid` writes CMD; the table. -/
  | sviTwrite (rqid t : Nat)
  /-- SVI_CLRCNT (R359): `rqid` writes CMD; the entry, and whether it is a subscription. -/
  | sviClrcnt (rqid entry : Nat) (goose : Bool)
  /-- SVI_SIM_WRITE (R337): `rqid` writes `v` to SVI_CTL. -/
  | sviSimWrite (rqid v : Nat)
  /-- AAP_SAMPLE (R351): the virtual stream, the grid index and the channels' samples. -/
  | aapSample (vs k : Nat) (l : List Machine.AapIn)
  /-- AAP_STUCK (R354): the channel and the path. -/
  | aapStuck (i : Nat) (low : Bool)
  /-- AAP_RECOVER (R354): the channel and the path. -/
  | aapRecover (i : Nat) (low : Bool)
  /-- AAP_CLRCNT (R363): `rqid` writes CMD. -/
  | aapClrcnt (rqid : Nat)
  /-- SLOT_CLAIM (R380): the grid: primary or secondary. -/
  | slotClaim (sec : Bool)
  /-- SAMPLE_PLACE (R368). -/
  | samplePlace
  /-- LOCAL_RELEASE (R371): the grid. -/
  | localRelease (sec : Bool)
  /-- SPAN_PH1_RECEIVE (R374): grid, sheaf, presence bitmap and revisions. -/
  | spanPh1Receive (sec : Bool) (k bm : Nat) (revs : List Machine.RevRec)
  /-- SPAN_PH2_RECEIVE (R374): grid, sheaf, entries, and whether more follow. -/
  | spanPh2Receive (sec : Bool) (k : Nat) (runs : List Machine.Run) (more : Bool)
  /-- SPAN_PH3_RECEIVE (R374): grid, sheaf and digest. -/
  | spanPh3Receive (sec : Bool) (k digest : Nat)
  /-- AGREEMENT_TIMEOUT (R25): the grid. -/
  | agreementTimeout (sec : Bool)
  /-- GLEAN_CLOSE (R378): the grid. -/
  | gleanClose (sec : Bool)
  /-- SPAN_SETTLE_RECEIVE (R378): grid, sheaf and the part of the exchange. -/
  | spanSettleReceive (sec : Bool) (k : Nat) (part : Machine.SettlePart)
  /-- SETTLE_TIMEOUT (R378): the grid. -/
  | settleTimeout (sec : Bool)
  /-- ALN_CLRCNT (R389): `rqid` writes CMD. -/
  | alnClrcnt (rqid : Nat)
  /-- PHE_LIST_COMPLETE (R397): the unit, and the first slot written after the due instant where that has passed. -/
  | pheListComplete (u first : Nat)
  /-- PHE_TREAD (R417): `rqid` writes PHE_CMD, or PHE_I_CMD of an instance, for table `t`. -/
  | pheTread (rqid : Nat) (inst : Option Nat) (t : Nat)
  /-- PHE_TWRITE (R417): `rqid` writes PHE_CMD, or PHE_I_CMD of an instance, for table `t`. -/
  | pheTwrite (rqid : Nat) (inst : Option Nat) (t : Nat)
  /-- PHE_CLRCNT (R417): `rqid` writes CMD. -/
  | pheClrcnt (rqid : Nat)
  /-- WINDOW_OPEN (R427): the core, and the context of the task stopped there. -/
  | windowOpen (core : Nat) (ctx : List Byte)
  /-- WINDOW_CLOSE (R427): the core, and the instructions its task has retired. -/
  | windowClose (core insns : Nat)
  /-- IMAGE_COPY_DONE (R434): the core. -/
  | imageCopyDone (core : Nat)
  /-- ZDONE (R422): the core, the completion code and the instructions retired. -/
  | zdone (core code insns : Nat)
  /-- ZYIELD (R422): the core and the instructions retired. -/
  | zyield (core insns : Nat)
  /-- TASK_TRAP (R423): the core and the instructions retired. -/
  | taskTrap (core insns : Nat)
  /-- DEADLINE_GUARD (R437): the task and the instructions retired. -/
  | deadlineGuard (t insns : Nat)
  /-- L_RELEASE (R428): the task. -/
  | lRelease (t : Nat)
  /-- SCH_START (R445): `rqid` writes CMD. -/
  | schStart (rqid : Nat)
  /-- SCH_STOP (R445): `rqid` writes CMD. -/
  | schStop (rqid : Nat)
  /-- SCH_TREAD (R448): `rqid` writes CMD; the table. -/
  | schTread (rqid t : Nat)
  /-- SCH_TWRITE (R448): `rqid` writes CMD; the table. -/
  | schTwrite (rqid t : Nat)
  /-- SCH_CLRCNT (R448): `rqid` writes CMD; the task, or all. -/
  | schClrcnt (rqid t : Nat) (all : Bool)
  /-- VIM_SHARE (R457): `rqid` writes CMD. -/
  | vimShare (rqid : Nat)
  /-- VIM_CANCELSHARE (R457): `rqid` writes CMD. -/
  | vimCancelshare (rqid : Nat)
  /-- VIM_START (R454): `rqid` writes CMD; the instance. -/
  | vimStart (rqid n : Nat)
  /-- VIM_QUIESCE (R466): `rqid` writes CMD; the instance. -/
  | vimQuiesce (rqid n : Nat)
  /-- VIM_RESUME (R454): `rqid` writes CMD; the instance. -/
  | vimResume (rqid n : Nat)
  /-- VIM_RESET (R468): `rqid` writes CMD; the instance. -/
  | vimReset (rqid n : Nat)
  /-- VIM_FORCE_RESET (R470): `rqid` writes CMD; the instance, and the bursts in progress: channel and bytes. -/
  | vimForceReset (rqid n : Nat) (begun : List (Nat × Nat))
  /-- VIM_MAP (R458): `rqid` writes CMD. -/
  | vimMap (rqid : Nat)
  /-- VIM_UNMAP (R458): `rqid` writes CMD. -/
  | vimUnmap (rqid : Nat)
  /-- VIM_TREAD (R477): `rqid` writes CMD; the table. -/
  | vimTread (rqid t : Nat)
  /-- VIM_TWRITE (R477): `rqid` writes CMD; the table. -/
  | vimTwrite (rqid t : Nat)
  /-- SHARE_HARROW_DONE (R459): the words that failed, and µs. -/
  | shareHarrowDone (fails : List Machine.Upset) (us : Nat)
  /-- QUIESCE_DRAINED (R467): the instance. -/
  | quiesceDrained (n : Nat)
  /-- QUIESCE_TIMEOUT (R467): the instance. -/
  | quiesceTimeout (n : Nat)
  /-- INSTANCE_RESET_DONE (R468): the instance, the words that failed, and µs. -/
  | instanceResetDone (n : Nat) (fails : List Machine.Upset) (us : Nat)
  /-- DMA_DOORBELL (R482): `rqid` writes TAIL of a ring (64 the manager's). -/
  | dmaDoorbell (rqid ring tail : Nat)
  /-- DMA_FETCH (R463): the ring. -/
  | dmaFetch (ring : Nat)
  /-- DMA_DESCRIPTOR_START (R463): the ring. -/
  | dmaDescriptorStart (ring : Nat)
  /-- DMA_BURST (R464): the channel. -/
  | dmaBurst (chan : Nat)
  /-- DMA_CLRCNT (R481): `rqid` writes CMD. -/
  | dmaClrcnt (rqid : Nat)
  /-- DPL_CLRCNT (R483): `rqid` writes CMD. -/
  | dplClrcnt (rqid : Nat)
  /-- GOOSE_RETRANSMIT (R497): the publication. -/
  | gooseRetransmit (p : Nat)
  /-- MINON_EXPIRY (R486): the output. -/
  | minonExpiry (j : Nat)
  /-- BIN_ACCEPT (R489): the input. -/
  | binAccept (i : Nat)
  /-- CHATTER_WINDOW_END (R490): the input. -/
  | chatterWindowEnd (i : Nat)
  /-- SUPERVISION_FILTER (R488): the output. -/
  | supervisionFilter (j : Nat)
  /-- PUB_TREAD (R506): `rqid` writes CMD; the table. -/
  | pubTread (rqid t : Nat)
  /-- PUB_TWRITE (R506): `rqid` writes CMD; the table. -/
  | pubTwrite (rqid t : Nat)
  /-- PUB_CLRCNT (R506): `rqid` writes CMD. -/
  | pubClrcnt (rqid : Nat)
  /-- BIO_CLRCNT (R508): `rqid` writes CMD. -/
  | bioClrcnt (rqid : Nat)
  /-- BIO_BINQ0_READ (R508): `rqid` reads BIO_BINQ0. -/
  | bioBinq0Read (rqid : Nat)
  /-- BIO_BINQ2_READ (R508): `rqid` reads BIO_BINQ2. -/
  | bioBinq2Read (rqid : Nat)
  /-- HEARTBEAT_SEND (R515). -/
  | heartbeatSend
  /-- SPAN_HEARTBEAT_RECEIVE (R515): the lane and the heartbeat. -/
  | spanHeartbeatReceive (lane : Nat) (h : Machine.Heartbeat)
  /-- LANE_TIMEOUT (R516): the lane. -/
  | laneTimeout (lane : Nat)
  /-- SPAN_LOST (R516). -/
  | spanLost
  /-- HELLO_SEND (R517). -/
  | helloSend
  /-- HELLO_RECEIVE (R517): the message. -/
  | helloReceive (h : Machine.Hello)
  /-- PAIRED_JOIN (R523). -/
  | pairedJoin
  /-- RESYNC_RECEIVE (R523): the peer's twin sequence, absence counts and publication states. -/
  | resyncReceive (seq : Nat) (abs : List (Nat × Nat)) (pubs : List Machine.PubSync)
  /-- FRAMEDIG_RECEIVE (R521): the records. -/
  | framedigReceive (l : List Machine.FrameRec)
  /-- DIGEST_PARTNER_TIMEOUT (R522). -/
  | digestPartnerTimeout
  /-- TIME_SEND (R524). -/
  | timeSend
  /-- SPAN_TIME_RECEIVE (R524): the stamps of the exchange, ns. -/
  | spanTimeReceive (t1 echo t2 t3 : Nat)
  /-- NOTICE_RECEIVE (R525): the code and its detail. -/
  | noticeReceive (code : Nat) (detail : List Byte)
  /-- TUNNEL_RECEIVE (R514): the lane and the frame. -/
  | tunnelReceive (lane : Nat) (f : Machine.Frame)
  /-- AGREE_RECEIVE (R116): 1 swap request, 2 swap answer, 3 share request, 4 share answer, 5 index past; the copy-back choice, the
  answer, the index and the digest. -/
  | agreeReceive (kind : Nat) (copyback good : Bool) (idx digest : Nat)
  /-- AGREE_TIMEOUT (R116). -/
  | agreeTimeout
  /-- RENEW_DUE (R528): the lease. -/
  | renewDue (lease : Nat)
  /-- RENEW_RETRY (R528): the lease. -/
  | renewRetry (lease : Nat)
  /-- GRANT_RECEIVE (R528): the datagram. -/
  | grantReceive (f : Machine.Frame)
  /-- STATUS_RECEIVE (R528): the datagram. -/
  | statusReceive (f : Machine.Frame)
  /-- LEASE_EXPIRY (R528): the lease. -/
  | leaseExpiry (lease : Nat)
  /-- PRESENT_SEND (R529). -/
  | presentSend
  /-- REQUEST_REPEAT (R529). -/
  | requestRepeat
  /-- STATUS_REMAINING_EXPIRY (R529). -/
  | statusRemainingExpiry
  /-- WITNESS_MESSAGE (R530): the datagram. -/
  | witnessMessage (f : Machine.Frame)
  /-- WITNESS_QUARANTINE_END (R531). -/
  | witnessQuarantineEnd
  /-- TWN_CHECK (R533): `rqid` writes TWN_CMD, or TWN_I_CMD of an instance, with a margin in ms. -/
  | twnCheck (rqid : Nat) (inst : Option Nat) (margin : Nat)
  /-- TWN_RELEASE (R543): `rqid` writes CMD. -/
  | twnRelease (rqid : Nat)
  /-- TWN_REJOIN (R543): `rqid` writes CMD. -/
  | twnRejoin (rqid : Nat)
  /-- TWN_CLRCNT (R543): `rqid` writes CMD. -/
  | twnClrcnt (rqid : Nat)
  /-- NOLEASE_WRITE (R534): `rqid` writes `v` to TWN_CTL. -/
  | noleaseWrite (rqid v : Nat)
  /-- ANNOUNCE_SEND (R535). -/
  | announceSend
  /-- CANDIDATE_SEND (R535). -/
  | candidateSend
  /-- ANNOUNCE_ABSENT (R535). -/
  | announceAbsent
  /-- FIELD_ANNOUNCE_RECEIVE (R536): the frame. -/
  | fieldAnnounceReceive (f : Machine.Frame)
  /-- EPOCH_GRACE_END (R536). -/
  | epochGraceEnd
  /-- FLD_TREAD (R548): `rqid` writes CMD; the table. -/
  | fldTread (rqid t : Nat)
  /-- FLD_TWRITE (R548): `rqid` writes CMD; the table. -/
  | fldTwrite (rqid t : Nat)
  /-- FLD_CLRCNT (R548): `rqid` writes CMD. -/
  | fldClrcnt (rqid : Nat)
  /-- RETENTIVE_SAVE_DONE (R563): the program, and whether the read-back compared equal. -/
  | retentiveSaveDone (p : Nat) (good : Bool)
  /-- LGR_TREAD (R574): `rqid` writes CMD; the table. -/
  | lgrTread (rqid t : Nat)
  /-- LGR_TWRITE (R574): `rqid` writes CMD; the table. -/
  | lgrTwrite (rqid t : Nat)
  /-- LGR_CLRCNT (R574): `rqid` writes CMD. -/
  | lgrClrcnt (rqid : Nat)
  /-- LGR_RETCLR (R574): `rqid` writes CMD; the program. -/
  | lgrRetclr (rqid p : Nat)
  /-- METERING_SHEAF (R579). -/
  | meteringSheaf
  /-- MTR_PERIODIC_SAVE (R587). -/
  | mtrPeriodicSave
  /-- MTR_SAVE_DONE (R587): whether the read-back compared equal. -/
  | mtrSaveDone (good : Bool)
  /-- MTR_SNAP (R585): `rqid` writes MTR_CMD, or MTR_I_CMD of an instance, for `count` points from `first`. -/
  | mtrSnap (rqid : Nat) (inst : Option Nat) (first count : Nat)
  /-- MTR_TREAD (R596): `rqid` writes CMD; the table. -/
  | mtrTread (rqid t : Nat)
  /-- MTR_TWRITE (R596): `rqid` writes CMD; the table. -/
  | mtrTwrite (rqid t : Nat)
  /-- MTR_ZERO (R596): `rqid` writes CMD; the point. -/
  | mtrZero (rqid p : Nat)
  /-- MTR_CLRCNT (R596): `rqid` writes CMD. -/
  | mtrClrcnt (rqid : Nat)
  /-- PULSE_START (R593): the output. -/
  | pulseStart (j : Nat)
  /-- PULSE_END (R593): the output. -/
  | pulseEnd (j : Nat)
  /-- PLS_CLRCNT (R601): `rqid` writes CMD. -/
  | plsClrcnt (rqid : Nat)
  /-- RECORD_WRITE (R607): whether each attempt to write fails its read-back, in order. -/
  | recordWrite (fails : List Bool)
  /-- ELG_LOG (R615): `rqid` writes ELG_I_CMD of instance `n`. -/
  | elgLog (rqid n code sev : Nat)
  /-- ELG_CLEAR (R612): `rqid` writes CMD. -/
  | elgClear (rqid : Nat)
  /-- ELG_CLEAR_DONE (R612): whether each attempt to write fails its read-back, in order. -/
  | elgClearDone (fails : List Bool)
  /-- ELG_CLRCNT (R618): `rqid` writes CMD. -/
  | elgClrcnt (rqid : Nat)
  /-- HOLD_WRITE (R612): `rqid` writes `v` to ELG_CTL, and whether each attempt to write a held record fails. -/
  | holdWrite (rqid v : Nat) (fails : List Bool)
  /-- HOLD_EXPIRY (R612): whether each attempt to write a held record fails. -/
  | holdExpiry (fails : List Bool)
  /-- ENCLAVE_COMMAND_DONE (R203). -/
  | enclaveCommandDone
  /-- SWAP_CHECKS_DONE (R115). -/
  | swapChecksDone
  /-- BIN_LEVEL_CHANGE (R489): the input and its level. -/
  | binLevelChange (i : Nat) (level : Bool)
  /-- DRAIN_LEVEL_CHANGE (R488): the output and the sensed drain. -/
  | drainLevelChange (j : Nat) (high : Bool)
  deriving DecidableEq, Repr

end Sys2Proof
end

