-- ==== Sys2Proof/Crc.lean ====
section
/-! DEFINITION. The cyclic redundancy checks that the manual names: CRC-32C (R605 and its users), CRC-32 of IEEE 802.3,
and CRC-64/ECMA-182. Each takes its standard's parameters, which the manual does not restate (PRESUMED, log entry 7). -/

namespace Sys2Proof.Crc

/-- One bit of a reflected CRC. -/
def refStep (poly c : Nat) : Nat := if c % 2 = 1 then (c / 2) ^^^ poly else c / 2

/-- Fold `f` over itself `n` times. -/
def times (f : Nat → Nat) : Nat → Nat → Nat
  | 0, c => c
  | n + 1, c => times f n (f c)

/-- A reflected CRC register after the bytes of a message. -/
def refBytes (poly : Nat) : List Byte → Nat → Nat
  | [], c => c
  | b :: l, c => refBytes poly l (times (refStep poly) 8 (c ^^^ b.toNat))

/-- CRC-32C (Castagnoli): reflected polynomial 0x82F63B78, initial value and final inversion all ones. -/
def crc32c (l : List Byte) : Nat := refBytes 0x82F63B78 l 0xFFFFFFFF ^^^ 0xFFFFFFFF

/-- CRC-32 of IEEE 802.3: reflected polynomial 0xEDB88320, initial value and final inversion all ones. -/
def crc32 (l : List Byte) : Nat := refBytes 0xEDB88320 l 0xFFFFFFFF ^^^ 0xFFFFFFFF

/-- One bit of an unreflected 64-bit CRC. -/
def msbStep (poly c : Nat) : Nat :=
  if c / 2 ^ 63 % 2 = 1 then ((c * 2) % 2 ^ 64) ^^^ poly else (c * 2) % 2 ^ 64

/-- An unreflected 64-bit CRC register after the bytes of a message. -/
def msbBytes (poly : Nat) : List Byte → Nat → Nat
  | [], c => c
  | b :: l, c => msbBytes poly l (times (msbStep poly) 8 (c ^^^ (b.toNat * 2 ^ 56)))

/-- CRC-64/ECMA-182: polynomial 0x42F0E1EBA9EA3693, initial value 0, no final inversion. -/
def crc64 (l : List Byte) : Nat := msbBytes 0x42F0E1EBA9EA3693 l 0

end Sys2Proof.Crc
end

