-- ==== Sys2Proof/Config.lean ====
section
/-! DEFINITION. What the manual leaves open and the model leaves free: constants without a body, so that nothing can
be proved about a value the manual does not fix. Each is named in the assumption log. -/

namespace Sys2Proof.Config

/-- A fresh open 32-bit value for each draw (DESIGN CHOICE, log entry 2). -/
opaque freeWord : Nat → BitVec 32

/-- SHAKE256 of a message, `n` bytes (R176 and its users): computed by a standard the manual does not restate (DESIGN CHOICE, log entry 3). -/
opaque shake256 : (n : Nat) → (msg : List (BitVec 8)) → List (BitVec 8)

/-- KMAC256 under a key with a customisation string, `n` bytes (DESIGN CHOICE, log entry 3). -/
opaque kmac256 : (key : List (BitVec 8)) → (cust : String) → (n : Nat) → (msg : List (BitVec 8)) → List (BitVec 8)

/-- Whether an Ed448 signature over a message verifies under a public key (DESIGN CHOICE, log entry 3). -/
opaque ed448Ok : (key : List (BitVec 8)) → (msg sig : List (BitVec 8)) → Bool

/-- Whether an ML-DSA-87 signature over a message verifies under a public key (DESIGN CHOICE, log entry 3). -/
opaque mldsa87Ok : (key : List (BitVec 8)) → (msg sig : List (BitVec 8)) → Bool

/-- An Ed448 signature by a private key derived from a seed (DESIGN CHOICE, log entry 3). -/
opaque ed448Sign : (seed msg : List (BitVec 8)) → List (BitVec 8)

/-- An ML-DSA-87 signature by a private key derived from a seed (DESIGN CHOICE, log entry 3). -/
opaque mldsa87Sign : (seed msg : List (BitVec 8)) → List (BitVec 8)

/-- The X448 public key of a private key (DESIGN CHOICE, log entry 3). -/
opaque x448Pub : (priv : List (BitVec 8)) → List (BitVec 8)

/-- The X448 shared secret of a private key and a peer's public key (DESIGN CHOICE, log entry 3). -/
opaque x448Shared : (priv pub : List (BitVec 8)) → List (BitVec 8)

/-- The Ed448 public key of a private key (DESIGN CHOICE, log entry 3). -/
opaque ed448Pub : (priv : List (BitVec 8)) → List (BitVec 8)

/-- The ML-DSA-87 public key of a seed (DESIGN CHOICE, log entry 3). -/
opaque mldsa87Pub : (seed : List (BitVec 8)) → List (BitVec 8)

/-- The ML-KEM-1024 encapsulation key of the seeds d and z (DESIGN CHOICE, log entry 3). -/
opaque mlkemPub : (seed : List (BitVec 8)) → List (BitVec 8)

/-- The ML-KEM-1024 shared secret of a ciphertext under the seeds d and z (DESIGN CHOICE, log entry 3). -/
opaque mlkemShared : (seed ct : List (BitVec 8)) → List (BitVec 8)

/-- AES-256-GCM opening: the plaintext, or none when the tag is wrong (DESIGN CHOICE, log entry 3). -/
opaque gcmOpen : (key nonce aad ct tag : List (BitVec 8)) → Option (List (BitVec 8))

/-- The keystream of AES-256-GCM under a key and nonce, `n` bytes: its ciphertext is the plaintext XORed with it (DESIGN CHOICE, log entry 3). -/
opaque gcmStream : (key nonce : List (BitVec 8)) → (n : Nat) → List (BitVec 8)

/-- The 16-byte tag of AES-256-GCM over a ciphertext (DESIGN CHOICE, log entry 3). -/
opaque gcmTag : (key nonce ct : List (BitVec 8)) → List (BitVec 8)

/-- The first 32-byte codeword of a slot's share in the enclave's MRAM, before the permutation: the manual gives no layout (R178; DESIGN
CHOICE, log entry 8). -/
opaque cellWord : (cell slot share : Nat) → Nat

/-- The keyed permutation of codeword addresses of the enclave's MRAM (R179; DESIGN CHOICE, log entry 8). -/
opaque cwPermute : (scramble : List (BitVec 8)) → (word : Nat) → Nat

/-- The keystream byte XORed into byte `i` of a codeword of the enclave's MRAM (R179; DESIGN CHOICE, log entry 8). -/
opaque cwStream : (scramble : List (BitVec 8)) → (word i : Nat) → BitVec 8

/-- A GDOI message opened under an IKE SA key (R190): for each TEK its kind, key ID, not-before, not-after and key; none
when the message does not decrypt (DESIGN CHOICE, log entry 3). -/
opaque gdoiOpen : (key msg : List (BitVec 8)) → Option (List (Nat × Nat × Nat × Nat × List (BitVec 8)))

/-- The device identification that IDCODE reads, which the manual does not give (R51; DESIGN CHOICE, log entry 2). -/
opaque idcode : Nat

/-- The rate correction of the discipline loop after a measured offset, in 1/256 ppb, before the slew limit (R307; DESIGN CHOICE, log entry 5). -/
opaque disciplineRate : (rate offset : Int) → Int

/-- The hash that chooses a bucket of the forwarding database (R276), which the manual does not give (DESIGN CHOICE, log entry 13). -/
opaque fdbHash : (vid mac : Nat) → Nat

/-- CRC-64/ECMA-182 over the bytes of a frame (R521); frames are symbolic in the model (DESIGN CHOICE, log entry 12). -/
opaque frameDigest : Machine.Frame → Nat

/-- The module's own MAC, fixed at manufacture (R287; DESIGN CHOICE, log entry 14). -/
opaque ownMac : Nat

/-- The module's device ID, fixed at manufacture (R181; DESIGN CHOICE, log entry 14). -/
opaque deviceId : Nat

/-- Whether a PTP domain other than the profile's reset value lies in the profile's allowed range (R328), which the manual
does not give (PRESUMED, log entry 15). -/
opaque ptpDomainOk : (profile domain : Nat) → Bool

/-- The content of the ALTERNATE_TIME_OFFSET_INDICATOR TLV that a module of the C37.238 profile sends (R312), which the manual does not give
(DESIGN CHOICE, log entry 15). -/
opaque ptpAlternateOffset : Nat

/-- The offsetScaledLogVariance advertised (R312), which the manual does not give (PRESUMED, log entry 15). -/
opaque ptpVariance : Nat

/-- Whether the tag of a frame or message verifies under a leaf key (R341, R342, R343, R527, R537); frames are symbolic in
the model (DESIGN CHOICE, log entry 3; DESIGN CHOICE, log entry 12). -/
opaque tagOk : (key : List (BitVec 8)) → Machine.Frame → Bool

/-- The destination MAC of a witness datagram to an IPv4 address: the manual does not say how it is found (DESIGN CHOICE, log entry 16). -/
opaque macOfIp : Nat → Nat

/-- The KMAC256 digest that BNK forms over banked views (R116, R517): its key, customisation and byte order are not given
(DESIGN CHOICE, log entry 17). -/
opaque bankDigest : List (Nat × Nat) → Nat

/-- Length of the IEC 61850-90-5 session header of an R-GOOSE or R-SV frame, which the manual takes from that standard (R499; log
entry 12). -/
opaque sessionLen : Nat

/-- Length of the IEC 62351-6 extension under authentication mode `auth` (R500; DESIGN CHOICE, log entry 12). -/
opaque extLen : (auth : Nat) → Nat

/-- The quality that a commit-status source gives while its task has not committed, which R485 does not state (DESIGN CHOICE, log entry 18). -/
opaque noCommitQuality : (task : Nat) → Nat

/-- The IDMT operate time in ns of a curve (R161, R163) for a TMS in 0.001, a pickup and a magnitude in mA: the manual names the
curves by their standards and does not restate them (DESIGN CHOICE, log entry 19). -/
opaque idmtNs : (curve tms pickup mag : Nat) → Nat

/-- The angle of the zero vector (R400, R401), which no rule states (DESIGN CHOICE, log entry 49). -/
opaque angleOfZero : BitVec 32

/-- R, X, |Z| (`what` 0–2) and the ratio of HRAT (`what` 3) over a divisor of 0, which R403 does not state (DESIGN CHOICE, log entry 49). -/
opaque overZero : (what : Nat) → (re im : Int) → BitVec 32

/-- The DDR5 subchannel that holds a line, taken modulo 4: no rule gives the interleave (R33, R34; DESIGN CHOICE, log entry 57). -/
opaque subchannel : (line : Nat) → Nat

end Sys2Proof.Config
end

