-- ==== Sys2Proof/Machine/Ops.lean ====
section
/-! DEFINITION. The named operations over the register store, the table store and memory; module time; events and
their delivery; error records; the judgement of an access; and the acceptance and completion of commands. -/

namespace Sys2Proof.Machine

/-! ### Sparse stores -/

/-- The value at key `a` of a sparse store whose unlisted keys read `d`. -/
def sget {β : Type} (d : Nat → β) : List (Nat × β) → Nat → β
  | [], a => d a
  | (k, v) :: t, a => if a = k then v else sget d t a

/-- Drop what a sparse store lists at key `a`. -/
def sdel {β : Type} (a : Nat) : List (Nat × β) → List (Nat × β)
  | [] => []
  | (k, w) :: t => if a = k then sdel a t else (k, w) :: sdel a t

/-- List `v` at key `a`, in front of the first greater key. -/
def sins {β : Type} (a : Nat) (v : β) : List (Nat × β) → List (Nat × β)
  | [] => [(a, v)]
  | (k, w) :: t => if a < k then (a, v) :: (k, w) :: t else (k, w) :: sins a v t

/-- Store `v` at key `a`, keeping keys strictly rising and listing no entry equal to the default. -/
def sset {β : Type} [DecidableEq β] (d : Nat → β) (l : List (Nat × β)) (a : Nat) (v : β) : List (Nat × β) :=
  if v = d a then sdel a l else sins a v (sdel a l)

/-- The canonical form of a sparse store: keys strictly rising from at least `lo`, no entry equal to the default. -/
def swf {β : Type} [DecidableEq β] (d : Nat → β) : Nat → List (Nat × β) → Bool
  | _, [] => true
  | lo, (k, v) :: t => decide (lo ≤ k) && decide (v ≠ d k) && swf d (k + 1) t

/-- `f` when `c` holds, else nothing. -/
def cond (c : Bool) (f : Block → Block) (b : Block) : Block := if c then f b else b

/-- Fold `f` over a list. -/
def each {α : Type} (f : α → Block → Block) : List α → Block → Block
  | [], b => b
  | x :: l, b => each f l (f x b)

/-! ### Registers -/

/-- Map a MAC page (R103) to the first of them, whose layout all share. -/
def layoutPage (p : Nat) : Nat := if 0x10 ≤ p ∧ p ≤ 0x1E then 0x10 else p

/-- Whether a register definition covers offset `o`. -/
def RegDef.hit (d : RegDef) (o : Nat) : Bool :=
  decide (d.off ≤ o) &&
    (let x := o - d.off
     decide (x / d.s1 < d.n1) && decide (x % d.s1 / d.s2 < d.n2) && decide (x % d.s1 % d.s2 = 0))

/-- `CAP` of page `p` (each block's registers text). -/
def capOf (t : Part) (p : Nat) : Nat :=
  if 0x10 ≤ p ∧ p ≤ 0x13 then (if t.portQ ∨ p ≤ 0x11 then 0x306 else 0x304)
  else if 0x14 ≤ p ∧ p ≤ 0x1B then 0x778
  else if p = 0x1C ∨ p = 0x1D then 0x002
  else match p with
  | 0x00 => t.stepping * 256 + b2n t.optS * 64 + b2n t.optA * 32 + b2n t.optM * 16 + b2n t.portQ * 2 + b2n t.ddr32
  | 0x01 => 0x2EE | 0x04 => 0x02400800 | 0x05 => 0x80A | 0x20 => 0x1800080F | 0x21 => 0x04000006
  | 0x24 => 0x00104005 | 0x25 => 0xC | 0x28 => 0x04000200 | 0x29 => 0x01001000 | 0x2A => 0x10
  | 0x2C => 0x20000008 | 0x30 => 0x04004010 | 0x31 => 0x00400400 | 0x32 => 0x20 | 0x33 => 0x40
  | 0x34 => 0x01002040 | 0x35 => 0x1020 | 0x36 => 0x2 | 0x38 => 0x1002 | 0x39 => 0x00800010
  | 0x3C => 0x10000100 | 0x3E => 0x00170080 | 0x3F => 0x10 | 0x40 => 0x01000800
  | _ => 0

/-- Reset word of an access table at offset `o` from its base: entries (R127, R132) and, from 0x400, region descriptors
(R126, R132). `lim` holds the first and last address and the granule of a memory target, `none` for a block page. Bits of a limit below
the granule read as ones; the other words of a descriptor that is off are 0 (DESIGN CHOICE, log entry 28). -/
def tblReset (lim : Option (Nat × Nat × Nat)) (o : Nat) : Nat :=
  if o < 0x400 then
    let e := o / 8
    if e = 65 ∨ e = 68 then 0xFFFFFFFF
    else if e = 67 ∧ lim.isSome then 0x33333333 else 0
  else
    let r := (o - 0x400) / 16
    let w := (o - 0x400) % 16 / 4
    match lim with
    | some (base, last, g) =>
      if r = 0 then
        (match w with | 0 => base % 2 ^ 32 | 1 => base / 2 ^ 32 | 2 => last % 2 ^ 32 | _ => 0x10000 + last / 2 ^ 32)
      else if w = 2 then g - 1 else 0
    | none =>
      let d (base last : Nat) : Nat := match w with | 0 => base | 1 => 0 | 2 => last | _ => 0x10000
      match r with
      | 0 => d 0x0000 0x00FF | 1 => d 0x0100 0x0FFF | 2 => d 0x1000 0x3FFF | 3 => d 0x5000 0x7FFF
      | 4 => d 0x8000 0xEFFF | 5 => d 0xF000 0xF4FF
      | 15 => if w = 3 then 0x30000 else if w = 2 then 0xFF else 0
      | _ => if w = 2 then 0xFF else 0

/-- First and last address of memory target `m` (R102, R4, R125): 0 DDR5, 1 cluster SRAM, 2 sheaf ring, 3 phasor engine
state, 4 MRAM window. -/
def memSpan (t : Part) (m : Nat) : Nat × Nat :=
  match m with
  | 0 => (0, if t.ddr32 then 0x07FFFFFFFF else 0x03FFFFFFFF)
  | 1 => (0x1000000000, 0x1003FFFFFF)
  | 2 => (0x1100000000, 0x1100FFFFFF)
  | 3 => (0x1200000000, 0x12003FFFFF)
  | _ => (0x1800000000, 0x1803FFFFFF)

/-- Writable bits, write-1-to-clear bits and reset value of a register. -/
structure RegInfo where
  wr : Nat
  w1c : Nat
  rst : Nat
  deriving DecidableEq, Repr

/-- What an offset the block does not define holds: it reads 0 and ignores writes (R105). -/
def RegInfo.none : RegInfo := ⟨0, 0, 0⟩

/-- The definition of the register among `l` that covers offset `o`. -/
def findReg (l : List RegDef) (o : Nat) : RegInfo :=
  match l.find? (fun d => d.hit o) with
  | some d => ⟨d.wr, d.w1c, d.rst⟩
  | none => RegInfo.none

/-- Resets that depend on the port or entry: MAC_PORTCFG (R257), PTP_PORTCFG (R328), SWC_ETCLS (R295). -/
def rstByIndex (t : Part) (p o rst : Nat) : Nat :=
  if 0x10 ≤ p ∧ p ≤ 0x1E ∧ o = 0x1000 then
    let m := p - 0x10
    rst + (if m < 4 then 32 + (if t.portQ ∨ m < 2 then 1 else 2) else 0)
  else if p = 0x25 ∧ 0x1040 ≤ o ∧ o < 0x1050 then rst + 1
  else if p = 0x20 ∧ 0x10C0 ≤ o ∧ o < 0x10E0 then
    (match (o - 0x10C0) / 4 with | 0 => 0x800788B8 | 1 => 0x800688BA | 2 => 0x800688B5 | 3 => 0x800588F7 | _ => 0)
  else rst

/-- The register at offset `o` of block page `p`, `o` taken in the active view (R106, R125, R126, R127). -/
def pageInfo (t : Part) (p o : Nat) : RegInfo :=
  let q := layoutPage p
  if 0xF000 ≤ o ∧ o < 0xF500 then ⟨0xFFFFFFFF, 0, tblReset none (o - 0xF000)⟩
  else if p = 0x06 ∧ 0x8000 ≤ o ∧ o < 0xA800 then
    let m := (o - 0x8000) / 0x800
    let r := (o - 0x8000) % 0x800
    if r < 0x500 then ⟨0xFFFFFFFF, 0, tblReset (some ((memSpan t m).1, (memSpan t m).2, if m = 3 then 256 else 4096)) r⟩ else RegInfo.none
  else if o < 0x100 then
    match o with
    | 0x00 => ⟨0, 0, p * 0x10000 + 0x100⟩
    | 0x04 => ⟨0, 0, capOf t p⟩
    | 0x08 => ⟨(ctlDef q).1, 0, (ctlDef q).2⟩
    | 0x0C => ⟨0, 0, (statDef q).2⟩
    | 0x10 => ⟨0, 0xFFFFFFFF, 0⟩
    | 0x14 => ⟨if p = 0x01 then 0x1FF else 0xFFFFFFFF, 0, 0⟩
    | 0x18 => ⟨0, 0xFFFFFFFF, 0⟩
    | _ => RegInfo.none
  else
    let i := findReg (pageRegs q) o
    ⟨i.wr, i.w1c, rstByIndex t p o i.rst⟩

/-- The register at offset `o` of the sub-page of page `p` of instance `n`, `o` taken in the active view (R113). -/
def subInfo (p n o : Nat) : RegInfo :=
  match o with
  | 0x000 => ⟨0, 0, p * 0x10000 + n⟩
  | 0x004 => ⟨0x73F, 0, 0x300⟩
  | 0x008 => ⟨1, 0, 0⟩
  | 0x010 => ⟨0, 0xFFFFFFFF, 0⟩
  | 0x014 => ⟨0xFFFFFFFF, 0, 0⟩
  | 0x018 => ⟨0, 0xFF, 0⟩
  | _ => findReg (subRegs p) o

/-- The block page of a physical address in the page space. -/
abbrev pageOf (a : Nat) : Nat := (a - 0x2000000000) / 0x10000

/-- The register at physical key `a`, in either physical copy. -/
def regInfo (t : Part) (a : Nat) : RegInfo :=
  let a := a % 2 ^ 40
  if 0x3000000000 ≤ a then
    let x := a - 0x3000000000
    subInfo (x % 0x100000 / 0x1000) (x / 0x100000) (x % 0x1000)
  else if 0x2000000000 ≤ a then pageInfo t (pageOf a) ((a - 0x2000000000) % 0x10000)
  else RegInfo.none

/-- The reset value of the register at physical key `a`. -/
def regReset (t : Part) (a : Nat) : Word := w32 (regInfo t a).rst

/-- The value of the register at physical key `a`. -/
def rd (b : Block) (a : Nat) : Nat := (sget (regReset b.part) b.regs a).toNat

/-- Set the register at physical key `a` to `v`. -/
def wr (a v : Nat) (b : Block) : Block := { b with regs := sset (regReset b.part) b.regs a (w32 v) }

/-- Insert `v` into bits `hi:lo` of `w`. -/
def putBits (w hi lo v : Nat) : Nat :=
  w % 2 ^ lo + (v % 2 ^ (hi + 1 - lo)) * 2 ^ lo + (w / 2 ^ (hi + 1)) * 2 ^ (hi + 1)

/-- The value of a field. -/
def fget (b : Block) (f : Fld) : Nat := bitsOf (rd b f.addr) f.hi f.lo

/-- Set a field. -/
def fset (f : Fld) (v : Nat) (b : Block) : Block := wr f.addr (putBits (rd b f.addr) f.hi f.lo v) b

/-- Whether a one-bit field is set. -/
def fon (b : Block) (f : Fld) : Bool := fget b f != 0

/-- The module is twin Y: TWIN_SIDE as it was sampled when the module left reset (R42, R78). -/
def isY (b : Block) : Bool := fon b F.PWR_STAT_side

/-- The module runs: PWR_OK is high and MOD_RST_N is not low (R43, R59). -/
def running (b : Block) : Bool := b.pwr.phase == .on && !b.pwr.rstLow

/-- The J1 outputs are not held in their inactive states: the module runs, and no reset is decided (R41). -/
def outputsOn (b : Block) : Bool := running b && fget b F.PWR_STAT_state != 2

/-- Step `n` of this start is done, so what it brings up serves (R37, R154). -/
def isUp (b : Block) (n : Nat) : Bool := decide (n ≤ b.start.last)

/-- Add `n` to a counter register, wrapping. -/
def cnt (a : Nat) (b : Block) : Block := wr a (rd b a + 1) b

/-- Add `n` to a counter register, wrapping at 2³². -/
def cntN (a n : Nat) (b : Block) : Block := wr a (rd b a + n) b

/-- Add 1 to a field, saturating at its largest value. -/
def fcntSat (f : Fld) (b : Block) : Block :=
  let m := 2 ^ (f.hi + 1 - f.lo) - 1
  fset f (min m (fget b f + 1)) b

/-- Add 1 to a register, saturating at 2³² − 1. -/
def cntSat (a : Nat) (b : Block) : Block := wr a (min 0xFFFFFFFF (rd b a + 1)) b

/-- A 64-bit value kept in a _LO register at `a` and a _HI register at `a + 4`. -/
def rd64 (b : Block) (a : Nat) : Nat := rd b a + rd b (a + 4) * 2 ^ 32

/-- Set a _LO and _HI pair. -/
def wr64 (a v : Nat) (b : Block) : Block := b |> wr a v |> wr (a + 4) (v / 2 ^ 32)

/-! ### Banks -/

/-- The physical key of the copy in force of banked address `a` (active view) (R114). -/
def actKey (b : Block) (a : Nat) : Nat := if (pageOf a) ∈ b.bankB then a + 2 ^ 40 else a

/-- The physical key of the other copy, which the shadow view shows (R114). -/
def shdKey (b : Block) (a : Nat) : Nat := if (pageOf a) ∈ b.bankB then a else a + 2 ^ 40

/-- A banked field in force. -/
def cfg (b : Block) (f : Fld) : Nat := bitsOf (rd b (actKey b f.addr)) f.hi f.lo

/-- A banked field of the shadow view. -/
def shd (b : Block) (f : Fld) : Nat := bitsOf (rd b (shdKey b f.addr)) f.hi f.lo

/-- A banked one-bit field in force. -/
def cfgOn (b : Block) (f : Fld) : Bool := cfg b f != 0

/-- A banked one-bit field of the shadow view. -/
def shdOn (b : Block) (f : Fld) : Bool := shd b f != 0

/-- A banked whole register in force. -/
def cfgR (b : Block) (a : Nat) : Nat := rd b (actKey b a)

/-- A banked whole register of the shadow view. -/
def shdR (b : Block) (a : Nat) : Nat := rd b (shdKey b a)

/-! ### Indirect tables -/

/-- The key of word `w` of entry `i` of table `t` of page `p`. Shadow and active form one table with two copies. -/
abbrev tkey (p t i w : Nat) : Nat := ((p * 16 + t) * 65536 + i) * 256 + w

/-- Reset words of indirect tables: the VLAN entry of VID 1 (R293), latmin of the stream counters (R355), and the least headland of
the task statistics (R448, R449); every other word is 0. -/
def tabReset (k : Nat) : Word :=
  let k := k % 2 ^ 48
  if k = tkey 0x20 0 1 0 then 0x80007FFF#32 else
  if k = tkey 0x20 0 1 1 then 0xE#32 else
  if k / 16777216 = 0x28 * 16 + 4 ∧ k % 256 = 12 then 0xFFFFFFFF#32 else
  if k / 16777216 = 0x30 * 16 + 4 ∧ k % 256 = 0 then 0x7FFFFFFF#32 else 0#32

/-- A table word by physical key. -/
def tget (b : Block) (k : Nat) : Nat := (sget tabReset b.tabs k).toNat

/-- Set a table word by physical key. -/
def tset (k v : Nat) (b : Block) : Block := { b with tabs := sset tabReset b.tabs k (w32 v) }

/-- Offset of the second physical copy of a table word. -/
abbrev copyB : Nat := 2 ^ 48

/-- Word `w` of entry `i` of banked table `t` of page `p`, copy in force. -/
def tact (b : Block) (p t i w : Nat) : Nat := tget b (tkey p t i w + if p ∈ b.bankB then copyB else 0)

/-- Word `w` of entry `i` of banked table `t` of page `p`, shadow copy. -/
def tshd (b : Block) (p t i w : Nat) : Nat := tget b (tkey p t i w + if p ∈ b.bankB then 0 else copyB)

/-- The shadow view of page `p` has been written: BNKSTAT.dirty (R120). -/
def markDirty (p : Nat) (b : Block) : Block := wr (pg p 0x20) (rd b (pg p 0x20) ||| 1) b

/-- Set word `w` of the shadow copy of entry `i` of banked table `t` of page `p`. -/
def tsetShd (p t i w v : Nat) (b : Block) : Block :=
  b |> tset (tkey p t i w + if p ∈ b.bankB then 0 else copyB) v |> markDirty p

/-- A bit field of a table word. -/
abbrev tf (v hi lo : Nat) : Nat := bitsOf v hi lo

/-- Write the words `l` to table entry words `w0, w0 + 1, …` by a setter. -/
def tsetList (set : Nat → Nat → Block → Block) : Nat → List Nat → Block → Block
  | _, [], b => b
  | w, v :: l, b => tsetList set (w + 1) l (set w v b)

/-! ### Memory -/

/-- What a byte of memory that nothing has written reads as. -/
abbrev memReset : Nat → Byte := fun _ => 0#8

/-- The byte at `a`. -/
def mget (b : Block) (a : Nat) : Byte := sget memReset b.mem a

/-- Set the byte at `a`. -/
def mset (a : Nat) (v : Byte) (b : Block) : Block := { b with mem := sset memReset b.mem a v }

/-- The canonical form of memory: addresses strictly rising, no entry equal to what an unlisted address reads as. -/
abbrev Memory.wf (m : List Host.Cell) : Bool := swf memReset 0 m

/-- The `n` bytes from `a`. -/
def mread (b : Block) (a : Nat) : Nat → List Byte
  | 0 => []
  | n + 1 => mget b a :: mread b (a + 1) n

/-- The little-endian number in the `n` bytes from `a`. -/
def mnat (b : Block) (a n : Nat) : Nat := leNat (mread b a n)

/-- Write bytes from `a` on. -/
def mwrite : Nat → List Byte → Block → Block
  | _, [], b => b
  | a, v :: l, b => mwrite (a + 1) l (mset a v b)

/-- Write `v` as `n` little-endian bytes from `a` on. -/
def mput (a n v : Nat) (b : Block) : Block := mwrite a (leBytes n v) b

/-- Remove every listed byte in `[a, a + n)`: the whole range reads zero. -/
def mzero (a n : Nat) (b : Block) : Block :=
  { b with mem := b.mem.filter (fun c => decide (c.1 < a ∨ a + n ≤ c.1)) }

/-- The first address and size of the codeword that holds `a`: a 64-byte line in DDR5, a 32-byte word elsewhere (R31, R33). -/
def cwOf (a : Nat) : Nat × Nat := if a < 0x0800000000 then (a / 64 * 64, 64) else (a / 32 * 32, 32)

/-- Where the model keeps the on-die SRAM that no address reaches, above the 40-bit address space (R21; DESIGN CHOICE, log entry 57): here the
24 MiB packet buffer; from `enclaveSram` on the 512 KiB of the enclave; from `otherSram` on the 3.5 MiB of tables and other, whose first
MiB is the standby core's. The words here hold only errors and poison: what the owning units keep in them stands in fields of its own. -/
abbrev packetSram : Nat := 2 ^ 40
/-- The enclave SRAM (R21). -/
abbrev enclaveSram : Nat := packetSram + 0x1800000
/-- The 3.5 MiB of tables and other, which begin with the standby core's private SRAM (R21). -/
abbrev otherSram : Nat := packetSram + 0x1880000

/-- The codeword addresses that `[a, a + n)` touches. -/
def cwsOf (a n : Nat) : List Nat :=
  if n = 0 then [] else
  let (c0, s) := cwOf a
  let last := (cwOf (a + n - 1)).1
  (List.range ((last - c0) / s + 1)).map (fun i => c0 + s * i)

/-- Put a codeword into the poisoned state (R35). -/
def poison (a : Nat) (b : Block) : Block :=
  let c := (cwOf a).1
  { b with poisoned := if c ∈ b.poisoned then b.poisoned else c :: b.poisoned
           uncorr := b.uncorr.filter (· != c), corr := b.corr.filter (· != c), errs := b.errs.filter (fun e => e.addr != c) }

/-- A codeword written whole is valid again (R36). -/
def cleanse (c : Nat) (b : Block) : Block :=
  { b with poisoned := b.poisoned.filter (· != c), uncorr := b.uncorr.filter (· != c), corr := b.corr.filter (· != c)
           errs := b.errs.filter (fun e => e.addr != c) }

/-- A harrow pass over `[a, a + n)`: valid-coded zeros everywhere (R36, R152). -/
def wipe (a n : Nat) (b : Block) : Block :=
  let keep := fun c => decide (c < a ∨ a + n ≤ c)
  let b := mzero a n b
  { b with poisoned := b.poisoned.filter keep, uncorr := b.uncorr.filter keep, corr := b.corr.filter keep
           errs := b.errs.filter (fun e => keep e.addr) }

/-! ### Module time -/

/-- Nanoseconds since the PTP epoch (R299, R300). -/
abbrev ns (b : Block) : Nat := b.time / 65536

/-- The half-ns bit of a stamp taken now (R317). -/
def halfNs (b : Block) : Bool := decide (32768 ≤ b.time % 65536)

/-- Fast time: the low 32 bits of the nanosecond count (R300). -/
abbrev fast (b : Block) : Nat := ns b % 2 ^ 32

/-- TAI seconds. -/
abbrev secOf (b : Block) : Nat := ns b / 1000000000

/-- Every compare of the module: true when (int32)(now − target) ≥ 0 (R301). -/
def reached (now target : Nat) : Bool := decide ((now + 2 ^ 32 - target % 2 ^ 32) % 2 ^ 32 < 2 ^ 31)

/-- Module time reaches `t` ns: a command that names an instant ahead stands for the time up to it (DESIGN CHOICE, log entry 6). -/
def advanceTo (t : Nat) (b : Block) : Block := { b with time := max b.time (t * 65536) }

/-- Grid instant of index `k` at `rate` per second, ns since the epoch (R302). -/
def gridNs (rate k : Nat) : Nat := (k / rate) * 1000000000 + (k % rate) * 1000000000 / rate

/-- A fresh open value (DESIGN CHOICE, log entry 2). -/
def fresh (b : Block) : Nat := (Config.freeWord b.free).toNat

/-- Advance to the next open value. -/
def freshNext (b : Block) : Block := { b with free := b.free + 1 }

/-! ### Options -/

/-- Whether page `p` belongs to an option that is not fitted (R7). -/
def absentPage (t : Part) (p : Nat) : Bool :=
  match p with
  | 0x3E => !t.optM | 0x3F => !t.optM | 0x2A => !t.optA | 0x36 => !t.optS | _ => false

/-! ### Instances -/

/-- State code of instance `n` (R453). -/
def instState (b : Block) (n : Nat) : Nat := fget b (F.VIM_ISTATE_state n)

/-- Whether instance `n` exists (R453). -/
def instExists (b : Block) (n : Nat) : Bool := decide (n < 64) && decide (instState b n ≠ 0)

/-! ### Events -/

/-- Deliver vector `v` of instance `n` with source event number `ev` and priority `prio` (R136, R137). -/
def instVector (n v ev prio : Nat) (b : Block) : Block :=
  let a := if v < 32 then R.EVR_I_PEND0 n else R.EVR_I_PEND1 n
  let b := wr a (rd b a ||| 2 ^ (v % 32)) b
  let b := fset (F.EVR_I_SRC_ev n v) ev b
  { b with evr := { b.evr with prio := sset (fun _ => 0) b.evr.prio (64 * n + v) prio } }

/-- Set IEVT bit `bit` in the sub-page of page `p` of instance `n`; a change from 0 to 1 of an enabled bit is delivered
to the instance's vector (R136). -/
def ievt (p n bit : Nat) (b : Block) : Block :=
  let a := sp n p 0x010
  let old := rd b a
  let b := wr a (old ||| 2 ^ bit) b
  if !bitOf old bit && bitOf (rd b (sp n p 0x014)) bit then
    let iv := rd b (sp n p 0x004)
    instVector n (iv % 64) (match evBase p with | some (e, _) => e | none => 0) (iv / 256 % 8) b
  else b

/-- A record joins the recorder's intake (R608, R612): answers the block and whether it was lost. -/
def elgTake (it : ElgItem) (b : Block) : Block × Bool :=
  if fon b F.ELG_STAT_dead then (cntSat R.ELG_LOST b, true)
  else if fon b F.ELG_CTL_hold then
    if b.elg.held.length < 2048 then ({ b with elg := { b.elg with held := b.elg.held ++ [it] } }, false)
    else (cntSat R.ELG_LOST { b with elg := { b.elg with lostSince := b.elg.lostSince + 1 } }, true)
  else if b.elg.queue.length < 256 then ({ b with elg := { b.elg with queue := b.elg.queue ++ [it] } }, false)
  else (cntSat R.ELG_LOST { b with elg := { b.elg with lostSince := b.elg.lostSince + 1 } }, true)

/-- What delivery met: nothing, a full manager level, a full SPK queue, an absent instance. -/
inductive Drop where
  | none | mq | sq | inst
  deriving DecidableEq, Repr

/-- The route word of event `ev` (R135). -/
def route (b : Block) (ev : Nat) : Nat := rd b (R.EVR_ROUTE ev)

/-- Deliver event `ev` where its route word says: to a priority level of the manager queue, to the SPK queue, or to an instance (R136,
R137). Answers the block and what was dropped. -/
def evRoute (ev : Nat) (b : Block) : Block × Drop :=
  let r := route b ev
  let prio := bitsOf r 30 28
  let ent : EvEnt := ⟨b.evr.nextId, fast b, prio, ev⟩
  match bitsOf r 17 16 with
  | 1 =>
    if (b.evr.mq.filter (fun e => e.prio == prio)).length < 32 then
      ({ b with evr := { b.evr with mq := b.evr.mq ++ [ent], nextId := b.evr.nextId + 1 } }, Drop.none)
    else (cnt R.EVR_MQOVF b, Drop.mq)
  | 2 =>
    if b.evr.sq.length < 64 then
      ({ b with evr := { b.evr with sq := b.evr.sq ++ [ent], nextId := b.evr.nextId + 1 } }, Drop.none)
    else (cnt R.EVR_SQOVF b, Drop.sq)
  | 3 =>
    if instExists b (bitsOf r 13 8) then (instVector (bitsOf r 13 8) (bitsOf r 5 0) ev prio b, Drop.none)
    else (cnt R.EVR_DROPCNT b, Drop.inst)
  | _ => (b, Drop.none)

/-- Deliver event `ev` by its route (R136, R137); the recorder copy carries `pl` and the source's RQID `rq`. Answers the
block, what was dropped, and whether the recorder lost the copy. -/
def evDeliver (ev : Nat) (rq : Nat) (pl : List Byte) (b : Block) : Block × Drop × Bool :=
  let r := route b ev
  let x := evRoute ev b
  if bitOf r 31 && ev != EV.ELG_DEAD then
    let y := elgTake ⟨0, ev, rq, bitsOf r 30 28, ns x.1, padTo 0#8 32 pl, fon x.1 F.PWR_STAT_state⟩ x.1
    (y.1, x.2, y.2)
  else (x.1, x.2, false)

/-- Set the EVT bit of event `ev` at its block; answer whether the event passes to EVR (R106, R137, R10). -/
def evLatch (ev : Nat) (b : Block) : Block × Bool :=
  match evLoc ev with
  | none => (b, false)
  | some (p, off) =>
    if absentPage b.part p then (b, false)
    else if off < 32 then
      (wr (pg p 0x10) (rd b (pg p 0x10) ||| 2 ^ off) b, bitOf (rd b (pg p 0x14)) off)
    else (b, true)

/-- Raise event `ev` with recorder payload `pl` from requester `rq`, and by `self` what its delivery brings (R106, R136, R137, R608): a full
queue sets its sticky bit and raises one overflow event until that is cleared; an overflow event's own full queue only sets the bit; a
copy the recorder loses raises EV_ELG_LOST once until ELG_EVT.lost is cleared. EV_EVR_DROP with an absent destination of its own is only
counted (DESIGN CHOICE, log entry 58). -/
def raiseStep (self : Nat → Nat → Block → Block) (ev rq : Nat) (pl : List Byte) (b : Block) : Block :=
  let (b, go) := evLatch ev b
  if go then
    let (b, d, lost) := evDeliver ev rq pl b
    let ovf (f : Fld) (e : Nat) : Block :=
      if fon b f then b
      else if ev = EV.EVR_MQOVF ∨ ev = EV.EVR_SQOVF then fset f 1 b
      else self e 0x3FF (fset f 1 b)
    let b := match d with
      | .none => b
      | .mq => ovf F.EVR_STAT_mqovf EV.EVR_MQOVF
      | .sq => ovf F.EVR_STAT_sqovf EV.EVR_SQOVF
      | .inst => if ev = EV.EVR_DROP then b else self EV.EVR_DROP 0x3FF b
    if lost && !bitOf (rd b (pg 0x40 0x10)) 2 then self EV.ELG_LOST 0x0C5 b else b
  else b

/-- Raise an event that another one's delivery brings; the first argument bounds the chain, which the rules above end within 6. -/
def raiseIn : Nat → Nat → Nat → Block → Block
  | 0, _, _, b => b
  | k + 1, ev, rq, b => raiseStep (raiseIn k) ev rq [] b

/-- Raise event `ev` with recorder payload `pl` from requester `rq` (R106, R136, R137). -/
def raiseBy (ev rq : Nat) (pl : List Byte) (b : Block) : Block := raiseStep (raiseIn 8) ev rq pl b

/-- The recorder lost a copy: EV_ELG_LOST is raised once until ELG_EVT.lost is cleared (R608). -/
def elgLostEv (b : Block) : Block :=
  if bitOf (rd b (pg 0x40 0x10)) 2 then b else raiseBy EV.ELG_LOST 0x0C5 [] b

/-- The RQID that a block acts under on its own behalf (R124); 0x3FF where the manual names none. -/
def ownRqid (p : Nat) : Nat :=
  match p with
  | 0x28 => 0x0C0 | 0x29 => 0x0C1 | 0x2C => 0x0C2 | 0x34 => 0x0C3 | 0x3E => 0x0C4 | 0x40 => 0x0C5 | 0x3C => 0x0C6
  | 0x33 => 0x0C7 | 0x03 => 0x083 | 0x04 => 0x082 | _ => 0x3FF

/-- Raise an event of a block on its own behalf, with recorder payload `pl`. -/
def raiseP (ev : Nat) (pl : List Byte) (b : Block) : Block :=
  raiseBy ev (match evLoc ev with | some (p, _) => ownRqid p | none => 0x3FF) pl b

/-- Raise an event of a block on its own behalf. -/
def raise (ev : Nat) (b : Block) : Block := raiseP ev [] b

/-- Set bit `bit` of ERR of page `p` and record it with `detail` in ERRINFO (R109); PWR_ERRINFO holds only the rail of the last rail
fault, and PWR_ERR has no common bits: its bits 31:3 read 0 (R80; DEDUCED, log entry 56). -/
def setErr (p bit detail : Nat) (b : Block) : Block :=
  if p = 0x01 then (if bit < 3 then wr (pg p 0x18) (rd b (pg p 0x18) ||| 2 ^ bit) b else b)
  else
    let b := wr (pg p 0x18) (rd b (pg p 0x18) ||| 2 ^ bit) b
    wr (pg p 0x1C) (bit * 2 ^ 24 + detail % 2 ^ 24) b

/-- An error attributable to instance `n`, found by block page `p`: IERR and IERRINFO of the sub-page, and the
instance-error event of VIM with the instance in payload bits 5:0 and the class in bits 10:8 (R111, R462). -/
def instErr (p n cls code detail : Nat) (b : Block) : Block :=
  b |> wr (sp n p 0x018) (rd b (sp n p 0x018) ||| 2 ^ cls)
    |> wr (sp n p 0x01C) (cls * 2 ^ 24 + code % 256 * 2 ^ 16 + detail % 2 ^ 16)
    |> raiseP EV.VIM_IERROR (leBytes 4 (n + cls * 256))

/-- Raise an event limited to once in each module-time second for each `item` (R238, R276, R285, R522). -/
def raiseSec (ev item : Nat) (pl : List Byte) (b : Block) : Block :=
  let k := ev * 65536 + item
  if sget (fun _ => 0) b.evSec k = secOf b + 1 then b
  else raiseP ev pl { b with evSec := sset (fun _ => 0) b.evSec k (secOf b + 1) }

/-! ### Fault records -/

/-- Record a denial in the ACT fault FIFO of 16 (R140); a full FIFO drops and counts the newest. -/
def actDeny (addr kind region op target rqid : Nat) (b : Block) : Block :=
  let b := raise EV.ACT_DENY b
  if b.actFifo.length < 16 then
    { b with actFifo := b.actFifo ++ [⟨addr, kind, region, op, target, rqid, fast b⟩] }
  else b |> cntSat R.ACT_FLTOVF |> raise EV.ACT_FIFOOVF

/-- Record a fault of class 1 or 2 in the MEM fault FIFO of 32 (R148), raising its event. -/
def memFault (addr kind mem op rqid : Nat) (b : Block) : Block :=
  let b := match kind with
    | 0 => raise EV.MEM_ADDRFAULT b
    | 2 => raise EV.MEM_POISON b
    | 3 => raise EV.MEM_POISON b
    | _ => raise EV.MEM_UE b
  if b.memFifo.length < 32 then
    { b with memFifo := b.memFifo ++ [⟨addr, kind, mem, op, rqid, fast b⟩] }
  else b |> cntSat R.MEM_FLTOVF |> raise EV.MEM_FIFOOVF

/-! ### Shares -/

/-- Word 0 and up of the active share record of instance `n` (R456). -/
def shareW (b : Block) (n w : Nat) : Nat := tget b (tkey 0x31 0 n w + if b.shareB then copyB else 0)

/-- Word 0 and up of the shadow share record of instance `n` (R456). -/
def shareWShd (b : Block) (n w : Nat) : Nat := tget b (tkey 0x31 0 n w + if b.shareB then 0 else copyB)

/-- The active owner-table entry of granule `g` (`ddr` for DDR5) (R456). -/
def ownerW (b : Block) (ddr : Bool) (g : Nat) : Nat :=
  tget b (tkey 0x31 (if ddr then 6 else 4) g 0 + if b.shareB then copyB else 0)

/-- Whether slot `s` lies in a slot range of instance `n`'s share (R456). -/
def slotOf (b : Block) (n s : Nat) : Bool :=
  let w := shareW b n (2 + s / 1024)
  let first := bitsOf w 9 0
  decide (first ≤ s % 1024) && decide (s % 1024 < first + bitsOf w 26 16)

/-- Whether granule `g` awaits the harrow of a share change or an instance reset (R459). -/
def granHeld (b : Block) (ddr : Bool) (g : Nat) : Bool := b.granHold.contains (ddr, g)

/-- Whether VIM's share tables assign the granule of `a` to the instance `rqid` (R126). -/
def shareHit (b : Block) (rqid a : Nat) : Bool :=
  if 64 ≤ rqid then false
  else if a < 0x0800000000 then
    let w := ownerW b true (a / 0x200000)
    bitOf w 31 && decide (w % 64 = rqid) && !granHeld b true (a / 0x200000)
  else if 0x1000000000 ≤ a ∧ a ≤ 0x1003FFFFFF then
    let g := (a - 0x1000000000) / 0x10000
    let w := ownerW b false g
    bitOf w 31 && decide (w % 64 = rqid) && !granHeld b false g
  else if 0x1200000000 ≤ a ∧ a ≤ 0x12001FFFFF then slotOf b rqid ((a - 0x1200000000) / 256)
  else false

/-! ### Judgement of an access -/

/-- The access-table entry of a requester (R124); none for an unlisted RQID. -/
def entryOf (rqid : Nat) : Option Nat :=
  if rqid < 64 then some rqid
  else if 0x080 ≤ rqid ∧ rqid ≤ 0x084 then some (rqid - 0x080 + 64)
  else if rqid = 0x090 ∨ rqid = 0x091 then some (rqid - 0x090 + 72)
  else if rqid = 0x0A0 then some 80
  else if 0x0C0 ≤ rqid ∧ rqid ≤ 0x0C7 then some (rqid - 0x0C0 + 96)
  else none

/-- The operation of an access: read, write, instruction fetch, atomic. -/
structure Need where
  r : Bool
  w : Bool
  x : Bool
  a : Bool
  deriving DecidableEq, Repr

/-- A plain read. -/
abbrev Need.read : Need := ⟨true, false, false, false⟩
/-- A plain write. -/
abbrev Need.write : Need := ⟨false, true, false, false⟩

/-- The operation bits of a fault record: bit 0 read, 1 write, 2 fetch, 3 atomic (R140, R148). -/
def Need.bits (n : Need) : Nat := b2n n.r + 2 * b2n n.w + 4 * b2n n.x + 8 * b2n n.a

/-- The permission bits the operations need: rd 1, wr 2, ex 4, lk 8 (R128). -/
def Need.perms (n : Need) : Nat :=
  (if n.r then 1 else 0) ||| (if n.w then 2 else 0) ||| (if n.x then 5 else 0) ||| (if n.a then 11 else 0)

/-- What an address selects: a memory target, a block page, an instance sub-page, or nothing. -/
inductive Target where
  | mem (m : Nat)
  | page (p o : Nat)
  | sub (p n o : Nat)
  | unmapped
  deriving DecidableEq, Repr

/-- The target of a physical address (R102, R103, R112, R4). -/
def targetOf (t : Part) (a : Nat) : Target :=
  if a ≤ (memSpan t 0).2 then .mem 0
  else if 0x1000000000 ≤ a ∧ a ≤ 0x1003FFFFFF then .mem 1
  else if 0x1100000000 ≤ a ∧ a ≤ 0x1100FFFFFF then .mem 2
  else if 0x1200000000 ≤ a ∧ a ≤ 0x12003FFFFF then .mem 3
  else if 0x1800000000 ≤ a ∧ a ≤ 0x1803FFFFFF then .mem 4
  else if 0x2000000000 ≤ a ∧ a ≤ 0x2000FFFFFF then
    let p := pageOf a
    if p ∈ allPages then .page p (a % 0x10000) else .unmapped
  else if 0x3000000000 ≤ a ∧ a ≤ 0x3003FFFFFF then
    let n := (a - 0x3000000000) / 0x100000
    let p := a % 0x100000 / 0x1000
    if p ∈ subPages then .sub p n (a % 0x1000) else .unmapped
  else .unmapped

/-- The number a fault record gives a target: the page, or 0xF0 + m (R140); 0xFF for an address that is not mapped (R141 gives a LOOKUP of
one no number; DESIGN CHOICE, log entry 59). -/
def Target.num : Target → Nat
  | .mem m => 0xF0 + m
  | .page p _ => p
  | .sub p _ _ => p
  | .unmapped => 0xFF

/-- The base of a target's access table (R125). -/
def Target.table : Target → Nat
  | .mem m => pg 0x06 (0x8000 + m * 0x800)
  | .page p _ => pg p 0xF000
  | .sub p _ _ => pg p 0xF000
  | .unmapped => 0

/-- The granule of a target's region descriptors (R126). -/
def Target.granule : Target → Nat
  | .mem 3 => 256
  | .mem _ => 4096
  | _ => 256

/-- Whether descriptor `r` of a target's table matches an access by `rqid` at `a` (R126). -/
def regionHit (b : Block) (t : Target) (rqid a r : Nat) : Bool :=
  let d := t.table + 0x400 + 16 * r
  let w3 := rd b (d + 12)
  let g := t.granule
  match bitsOf w3 17 16 with
  | 0 => false
  | 3 => (match t with | .sub .. => true | _ => false)
  | 2 => (match t with | .mem _ => shareHit b rqid a | _ => false)
  | _ =>
    match t with
    | .sub .. => false
    | _ =>
      let x := match t with | .page _ o => o | _ => a
      let base := (rd b d + (rd b (d + 4) % 256) * 2 ^ 32) / g * g
      let lim := (rd b (d + 8) + (w3 % 256) * 2 ^ 32) / g * g + (g - 1)
      decide (base ≤ x) && decide (x ≤ lim)

/-- The lowest-numbered region that matches (R128). -/
def regionOf (b : Block) (t : Target) (rqid a : Nat) : Option Nat :=
  (List.range 16).find? (fun r => regionHit b t rqid a r)

/-- The four permission bits of entry `e` in region `r` of a target's table (R127). -/
def permOf (b : Block) (t : Target) (e r : Nat) : Nat :=
  let w := rd b (t.table + 8 * e + 4 * (r / 8))
  w / 2 ^ (4 * (r % 8)) % 16

/-- The judgement of an access (R128): its outcome, the region matched (0xF for none), the permissions of the entry in that
region, and the fault kind of a denial (R140). -/
structure Judged where
  status : Status
  region : Nat
  perm : Nat
  kind : Nat
  deriving DecidableEq, Repr

/-- Whether an access of `w` bytes at `a` keeps the width and alignment rules of its target (R104, R621). `line` marks a
cache-line fill or write-back, `burst` a DMA or engine burst. -/
inductive Width where
  | word (n : Nat)
  | line
  | burst (n : Nat)
  deriving DecidableEq, Repr

/-- The width rules of R104 and R621. -/
def widthOk (t : Target) (a : Nat) : Width → Bool
  | .word n =>
    (match t with
     | .mem _ => decide (n = 1 ∨ n = 2 ∨ n = 4 ∨ n = 8) && decide (a % n = 0)
     | _ => decide (n = 4 ∨ n = 8) && decide (a % n = 0))
  | .line => (match t with | .mem _ => decide (a % 64 = 0) | _ => false)
  | .burst n => (match t with
     | .mem _ => decide (0 < n) && decide (n ≤ 256) && decide (a / 256 = (a + n - 1) / 256)
     | _ => false)

/-- A granule that belongs to no instance until its harrow completes: every access but the harrow's is denied (R459). -/
def heldGranule (b : Block) (t : Target) (a : Nat) : Bool :=
  match t with
  | .mem 0 => granHeld b true (a / 0x200000)
  | .mem 1 => granHeld b false ((a - 0x1000000000) / 0x10000)
  | _ => false

/-- An instance's access to another instance's aperture (R129). -/
def foreignAperture (t : Target) (rqid : Nat) : Bool :=
  match t with | .sub _ n _ => decide (rqid < 64) && decide (rqid ≠ n) | _ => false

/-- A write of an access table by a requester other than the manager and the boot sequencer (R131). -/
def tableGuard (t : Target) (rqid : Nat) : Bool :=
  match t with
  | .page p o => decide (rqid ≠ 0x081 ∧ rqid ≠ 0x084) &&
      (decide (0xF000 ≤ o ∧ o < 0xF500) || decide (p = 0x06 ∧ 0x8000 ≤ o ∧ o < 0xA800))
  | _ => false

/-- A write to the sheaf ring or the phasor engine state by anyone but its single writer and the harrow (R622), or to the KEY page by
anyone but the manager and the boot sequencer (R176); and a write by any requester to the STL partition, which only the module itself
writes (R623). -/
def singleWriter (t : Target) (rqid a : Nat) : Bool :=
  match t with
  | .mem 2 => decide (rqid ≠ 0x0C1 ∧ rqid ≠ 0x083)
  | .mem 3 => decide (rqid ≠ 0x0C2 ∧ rqid ≠ 0x083)
  | .mem 4 => decide (0x1801000000 ≤ a ∧ a ≤ 0x18010FFFFF)
  | .page p _ => decide (p = 0x04 ∧ rqid ≠ 0x081 ∧ rqid ≠ 0x084)
  | _ => false

/-- A read of the SPK queue by anyone but the SPK (R142). -/
def singleReader (t : Target) (rqid : Nat) : Bool :=
  match t with
  | .page p o => decide (p = 0x07 ∧ (o = 0x108 ∨ o = 0x10C) ∧ rqid ≠ 0x080)
  | _ => false

/-- Debug is open and its token's scope holds bit `i` (R220). In MANUFACTURE, where debug is open without a token (R222), nothing limits
the scope (DESIGN CHOICE, log entry 58). -/
def debugMay (b : Block) (i : Nat) : Bool :=
  fon b F.SYS_STAT_dbg && (fget b F.SYS_STAT_lcs == 0 || bitOf (fget b F.DBG_STAT_scope) i)

/-- Steps 1 to 4 of R128 with R127 (LOCK), R129, R131, R142, R176, R622, R623 and the debug rules of R124 and R220. -/
def judge (b : Block) (rqid a : Nat) (wd : Width) (need : Need) : Judged :=
  let t := targetOf b.part a
  if t = .unmapped ∨ !widthOk t a wd then ⟨.address, 0xF, 0, 0⟩
  else if (match t with | .page p _ => absentPage b.part p | .sub p _ _ => absentPage b.part p | _ => false) then
    ⟨.absent, 0xF, 0, 0⟩
  else match entryOf rqid with
  | none => ⟨.denied, (regionOf b t rqid a).getD 0xF, 0, 1⟩
  | some e =>
    match regionOf b t rqid a with
    | none => ⟨.denied, 0xF, 0, 0⟩
    | some r =>
      let perm := permOf b t e r
      if rqid == 0x0A0 && !debugMay b 2 then ⟨.denied, r, perm, 3⟩
      else if foreignAperture t rqid || heldGranule b t a then ⟨.denied, r, perm, 0⟩
      else if perm &&& need.perms ≠ need.perms then ⟨.denied, r, perm, 0⟩
      else if need.w && tableGuard t rqid then ⟨.denied, r, perm, 2⟩
      else if need.w && t = .page t.num 0x24 && !bitOf perm 3 then ⟨.denied, r, perm, 0⟩
      else if (need.w && singleWriter t rqid a) || (need.r && singleReader t rqid) then ⟨.denied, r, perm, 0⟩
      else ⟨.ok, r, perm, 0⟩

/-- The kind of memory a fault record names: 0 on-die SRAM, 1 DDR5, 2 MRAM, 3 data path (R148); an address in no memory, as of an address
fault on a block page, takes 0 (DESIGN CHOICE, log entry 59). -/
def memKind (a : Nat) : Nat := if a < 0x0800000000 then 1 else if 0x1800000000 ≤ a ∧ a ≤ 0x1803FFFFFF then 2 else 0

/-- Record the outcome of a refused access (R110): ACT for a denial, MEM for an address fault; an absent option records
nothing (R8). -/
def recordFault (j : Judged) (rqid a : Nat) (need : Need) (b : Block) : Block :=
  match j.status with
  | .denied => actDeny a j.kind j.region need.bits (targetOf b.part a).num rqid b
  | .address => memFault a 0 (memKind a) need.bits rqid b
  | _ => b

/-- The page whose sub-page records an instance's refused access to a target: the page that found it, or VIM's where that page has no
sub-pages and for memory (R111; DEDUCED, log entry 25). -/
def errPage (t : Target) : Nat :=
  match t with
  | .page p _ => if p ∈ subPages then p else 0x31
  | .sub p _ _ => p
  | _ => 0x31

/-- An access by a core of an instance that ends with an outcome other than granted or absent is an error of that instance (R110, R111). -/
def accessErr (st : Status) (rqid a : Nat) (b : Block) : Block :=
  if 64 ≤ rqid then b
  else
    let p := errPage (targetOf b.part a)
    match st with
    | .ok => b
    | .absent => b
    | .denied => instErr p rqid 0 0 0 b
    | .address => instErr p rqid 1 0 0 b
    | _ => instErr p rqid 2 0 0 b

/-- A register access by a requester is refused: the fault record, and the instance's error (R110). -/
def accessFault (j : Judged) (rqid a : Nat) (need : Need) (b : Block) : Block :=
  b |> recordFault j rqid a need |> accessErr j.status rqid a

/-! ### Symbol errors (R31, R33, R34) -/

/-- The DDR5 subchannel of a line. -/
def subchannelOf (c : Nat) : Nat := Config.subchannel c % 4

/-- The symbol errors of codeword `c`. -/
def cwErr (b : Block) (c : Nat) : CwErr := (b.errs.find? (fun e => e.addr == c)).getD ⟨c, []⟩

/-- Symbol errors of a codeword in all. -/
def CwErr.total (e : CwErr) : Nat := (e.syms.map (·.2)).sum

/-- Symbol errors of a codeword in device `d`. -/
def CwErr.inDev (e : CwErr) (d : Nat) : Nat := ((e.syms.filter (fun x => x.1 == d)).map (·.2)).sum

/-- Whether a codeword decodes with these errors: 2 symbols on the die and in MRAM; 8 in a DDR5 line, or 4 beside those of the device that
its subchannel has marked as failed, which are erasures (R31, R33, R34). Three or more on the die are taken as detected (log entry 57). -/
def decodes (b : Block) (e : CwErr) : Bool :=
  if memKind e.addr ≠ 1 then decide (e.total ≤ 2)
  else
    let s := subchannelOf e.addr
    if fon b (F.MEM_DEVMARK_marked s) then decide (e.total - e.inDev (fget b (F.MEM_DEVMARK_dev s)) ≤ 4) else decide (e.total ≤ 8)

/-- Whether the codeword at `c` decodes is judged again, from the errors it holds. -/
def judgeCw (c : Nat) (b : Block) : Block :=
  let e := cwErr b c
  let ok := decodes b e
  { b with uncorr := if ok then b.uncorr.filter (· != c) else c :: b.uncorr.filter (· != c)
           corr := if ok && decide (e.total ≠ 0) then c :: b.corr.filter (· != c) else b.corr.filter (· != c) }

/-- Symbol errors arise in a codeword, beside those it holds; a device has 8 symbols in a line (R31, R33). A codeword that holds no
decodable word stays as it is. -/
def upset (u : Upset) (b : Block) : Block :=
  let c := (cwOf u.addr).1
  let e := cwErr b c
  if b.poisoned.contains c || (b.uncorr.contains c && e.syms.isEmpty) || u.n = 0 then b
  else
    let k := if memKind c = 1 ∧ u.dev < 10 then min 8 (e.inDev u.dev + u.n) else e.inDev u.dev + u.n
    let e := { e with syms := (u.dev, k) :: e.syms.filter (fun x => x.1 != u.dev) }
    judgeCw c { b with errs := e :: b.errs.filter (fun x => x.addr != c) }

/-- Device `d` of subchannel `s` is marked as failed, unless the subchannel has a mark already; the mark is kept in MRAM. From then on its
symbols are erasures in every line of the subchannel (R34). -/
def markDevice (s d : Nat) (b : Block) : Block :=
  if fon b (F.MEM_DEVMARK_marked s) then b
  else
    let b := b |> fset (F.MEM_DEVMARK_marked s) 1 |> fset (F.MEM_DEVMARK_dev s) d
    each judgeCw ((b.errs.map (·.addr)).filter (fun c => memKind c == 1 && subchannelOf c == s)) b |> raiseP EV.MEM_DEVFAIL (leBytes 4 s ++ leBytes 4 d)

/-- A DDR5 line was corrected that holds errors in device `x.1`: 64 such lines within 24 h, or one with all 8 symbols of the device wrong,
mark it (R34). -/
def deviceHit (c : Nat) (x : Nat × Nat) (b : Block) : Block :=
  if 10 ≤ x.1 then b
  else
    let s := subchannelOf c
    let keep := b.ddrHits.filter (fun h => decide (ns b < h.2.2 + 86400000000000) && !(h.1 == (s, x.1) && h.2.1 == c))
    let l := ((s, x.1), (c, ns b)) :: keep
    let b := { b with ddrHits := l }
    if 8 ≤ x.2 ∨ 64 ≤ (l.filter (fun h => h.1 == (s, x.1))).length then markDevice s x.1 b else b

/-- The codewords `cs` of memory kind `m` were corrected: they are counted and reported, and those of DDR5 count towards the failure of a
device (R31, R34, R134, R148). -/
def corrected (m : Nat) (cs : List Nat) (b : Block) : Block :=
  if cs = [] then b
  else
    let a := match m with | 1 => R.MEM_CEDDR | 2 => R.MEM_CEMRAM | _ => R.MEM_CESRAM
    let b := b |> wr a (min 0xFFFFFFFF (rd b a + cs.length)) |> raise EV.MEM_CE
    if m = 1 then each (fun c b => each (deviceHit c) (cwErr b c).syms b) cs b else b

/-- Whether the channel subscription mask of instance `n` in force holds primary channel `c` (R377, R384, R456). -/
def chanSub (b : Block) (n c : Nat) : Bool := bitOf (tget b (tkey 0x31 2 n (c / 32) + if b.shareB then copyB else 0)) (c % 32)

/-- Bytes of the primary ring from `a` on as instance `n` sees them: an entry of a channel outside its mask reads as zeros (R384). -/
def ringView (b : Block) (n : Nat) : Nat → List Byte → List Byte
  | _, [] => []
  | a, v :: l => (if chanSub b n ((a - 0x1100000000) % 0x8000 / 8) then v else 0#8) :: ringView b n (a + 1) l

/-- The `n` bytes from `a` as `rqid` reads them. -/
def mview (b : Block) (rqid a n : Nat) : List Byte :=
  if rqid < 64 ∧ 0x1100000000 ≤ a ∧ a ≤ 0x1100FFFFFF then ringView b rqid a (mread b a n) else mread b a n

/-- A checked read of memory bytes: outcome, bytes and block. A correctable word is corrected and counted; an
uncorrectable or poisoned one is recorded (R31, R36), under the first address of its codeword (R148 says only 'address'; DESIGN CHOICE, log
entry 59). -/
def busRead (rqid a n : Nat) (wd : Width) (need : Need) (b : Block) : Status × List Byte × Block :=
  let j := judge b rqid a wd need
  if j.status ≠ .ok then (j.status, [], recordFault j rqid a need b)
  else
    let cs := cwsOf a n
    match cs.find? (fun c => b.poisoned.contains c || b.uncorr.contains c) with
    | some c =>
      if b.poisoned.contains c then (.poison, [], memFault c 2 (memKind a) need.bits rqid b)
      else (.ue, [], memFault c 1 (memKind a) need.bits rqid b)
    | none =>
      (.ok, mview b rqid a n, corrected (memKind a) (cs.filter (fun c => b.corr.contains c)) b)

/-- Store bytes, codeword by codeword: a full-word write replaces poison; a partial write to a poisoned word leaves it
poisoned; a partial write to an uncorrectable word poisons it; both are reported to the writer (R36). A partial write to a word with a
correctable error decodes, corrects and encodes it again (R31, R621). -/
def storeWords (rqid : Nat) (need : Need) (a : Nat) (l : List Byte) : List Nat → Block → Status × Block
  | [], b => (.ok, b)
  | c :: cs, b =>
    let sz := (cwOf c).2
    let lo := max a c
    let hi := min (a + l.length) (c + sz)
    let part := (l.drop (lo - a)).take (hi - lo)
    if part.length = sz then
      storeWords rqid need a l cs (cleanse c (mwrite lo part b))
    else if b.poisoned.contains c then
      (.poison, (storeWords rqid need a l cs (memFault c 3 (memKind c) need.bits rqid b)).2)
    else if b.uncorr.contains c then
      (.ue, (storeWords rqid need a l cs (memFault c 1 (memKind c) need.bits rqid (poison c b))).2)
    else
      let b := if b.corr.contains c then cleanse c (corrected (memKind c) [c] b) else b
      storeWords rqid need a l cs (mwrite lo part b)

/-- A checked write of memory bytes (R36, R128, R622). -/
def busWrite (rqid a : Nat) (l : List Byte) (wd : Width) (need : Need) (b : Block) : Status × Block :=
  let j := judge b rqid a wd need
  if j.status ≠ .ok then (j.status, recordFault j rqid a need b)
  else storeWords rqid need a l (cwsOf a l.length) b

/-- The bursts of at most 256 bytes, none crossing a 256-byte boundary, that cover `n` bytes from `a` (R464). -/
def burstsOf : Nat → Nat → Nat → List (Nat × Nat)
  | 0, _, _ => []
  | fuel + 1, a, n => if n = 0 then [] else
    let k := min n (256 - a % 256)
    (a, k) :: burstsOf fuel (a + k) (n - k)

/-- A checked read by an engine, burst by burst; it stops at the first burst that is refused. -/
def engReadL (rqid : Nat) : List (Nat × Nat) → Block → Status × List Byte × Block
  | [], b => (.ok, [], b)
  | (a, n) :: l, b =>
    match busRead rqid a n (.burst n) Need.read b with
    | (.ok, d, b) => (match engReadL rqid l b with | (st, d', b) => (st, d ++ d', b))
    | (st, _, b) => (st, [], b)

/-- A checked read of `n` bytes by an engine. -/
def engRead (rqid a n : Nat) (b : Block) : Status × List Byte × Block :=
  engReadL rqid (burstsOf (n / 256 + 2) a n) b

/-! ### The dirty-page log -/

/-- Pages of the window of instance `n` that `[a, a + len)` touches; none of them when it lies outside (R472). -/
def dplPages (b : Block) (n a len : Nat) : List Nat :=
  let base := fget b (F.DPL_WIN_base n) * 0x200000
  let pages := fget b (F.DPL_WINSZ_gran n) * 512
  ((List.range ((a % 4096 + len + 4095) / 4096)).filterMap (fun i =>
    let p := a / 4096 + i
    if base / 4096 ≤ p ∧ p < base / 4096 + pages then some (p - base / 4096) else none))

/-- The second half of the atomic OR of R473, after the read of the word at `a` gave `r`: the write with the bit of page `p` set, or what
the refused access leaves. -/
def dplPut (a n p : Nat) (need : Need) (r : Status × List Byte × Block) : Block :=
  match r.1 with
  | .ok => (busWrite 0x0C7 a (leBytes 8 (leNat r.2.1 ||| 2 ^ (p % 64))) (.word 8) need r.2.2).2
  | .ue => setErr 0x33 28 n r.2.2
  | .poison => setErr 0x33 27 n r.2.2
  | _ => r.2.2 |> fset (F.DPL_BMP_HI_en n) 0 |> setErr 0x33 0 n |> raiseP EV.DPL_BMPERR (leBytes 4 n)

/-- Set the bit of page `p` of instance `n` by an atomic OR with RQID 0x0C7; a denial ends the logging (R473). -/
def dplSet (n p : Nat) (b : Block) : Block :=
  if !fon b (F.DPL_BMP_HI_en n) then b
  else
    let a := fget b (F.DPL_BMP_LO_addr n) * 4096 + fget b (F.DPL_BMP_HI_addr n) * 2 ^ 32 + p / 64 * 8
    let need : Need := ⟨true, true, false, true⟩
    dplPut a n p need (busRead 0x0C7 a 8 (.word 8) need b)

/-- Log an engine's write with RQID `n` before it is performed (R472, R473). -/
def dplLog (n a len : Nat) (b : Block) : Block :=
  if 64 ≤ n ∨ fon b (F.DPL_BMP_HI_en n) = false then b
  else
    match dplPages b n a len with
    | [] => b |> cnt (R.DPL_OUTSIDE n) |> raiseSec EV.DPL_OUTSIDE 0 (leBytes 4 n)
    | l => each (dplSet n) l b

/-- A checked write by an engine, burst by burst, logged for DPL; it stops at the first burst that is refused. -/
def engWriteL (rqid : Nat) : List (Nat × Nat) → List Byte → Block → Status × Block
  | [], _, b => (.ok, b)
  | (a, n) :: l, d, b =>
    let b := if (judge b rqid a (.burst n) Need.write).status = .ok then dplLog rqid a n b else b
    match busWrite rqid a (d.take n) (.burst n) Need.write b with
    | (.ok, b) => engWriteL rqid l (d.drop n) b
    | (st, b) => (st, b)

/-- A checked write of bytes by an engine. -/
def engWrite (rqid a : Nat) (d : List Byte) (b : Block) : Status × Block :=
  engWriteL rqid (burstsOf (d.length / 256 + 2) a d.length) d b

/-- The error class of an access that was not granted (R110, R111). -/
def statusClass (s : Status) : Nat := match s with | .address => 1 | .ue => 2 | .poison => 2 | _ => 0

/-- The code of a command whose access to memory was not granted (R107; DEDUCED, log entry 43). -/
def statusCode (s : Status) : Nat := match s with | .address => 0x12 | .ue => 0x20 | .poison => 0x20 | _ => 0x11

/-- An uncorrectable or poisoned word met by the block of page `p` on its own behalf (R36, R109). -/
def ownData (p : Nat) (st : Status) (b : Block) : Block :=
  match st with
  | .ue => setErr p 28 0 b
  | .poison => setErr p 27 0 b
  | _ => b

/-- `MEM_FLTINFO` of the head record (R148). -/
def memHeadInfo (b : Block) : Nat :=
  match b.memFifo with
  | r :: _ => 2 ^ 31 + r.kind * 2 ^ 28 + r.mem * 2 ^ 26 + r.op * 2 ^ 12 + r.rqid
  | [] => 0

/-! ### Conditions several units share -/

/-- The module counts as paired (R518). -/
def paired (b : Block) : Bool := fon b F.TWN_STAT_paired

/-- This module holds the control lease (R528). -/
def holder (b : Block) : Bool := fon b F.TWN_STAT_holder

/-- A single-actor function is refused for want of the lease (R526). -/
def noLease (b : Block) : Bool := paired b && !holder b

/-- Paired release runs: state AGREED (R518). -/
def agreed (b : Block) : Bool := fget b F.TWN_STAT_state == 3

/-! ### Locks and commands -/

/-- Whether LOCK.cfg of page `p` is set (R108). -/
def cfgLocked (b : Block) (p : Nat) : Bool := bitOf (rd b (pg p 0x24)) 0

/-- A write refused by a lock: ignored, ERR.lockedwr set (R108). -/
def lockedWrite (p : Nat) (b : Block) : Block := setErr p 30 0 b

/-- A shadow write refused while a swap is pending or a copy-back runs (R118). -/
def pendWrite (p : Nat) (b : Block) : Block := setErr p 29 0 b

/-- Whether every shadow view on the die is read-only (R118). -/
def shadowsFrozen (b : Block) : Bool := b.bnk.check.isSome || b.bnk.pend.isSome || b.bnk.copying

/-- Accept a command at the CMDSTAT register `a`: tag advances, code busy (R107). -/
def accept (a : Nat) (b : Block) : Block := wr a (((rd b a / 65536 + 1) % 65536) * 65536 + 1) b

/-- Complete the running command at CMDSTAT `a` with `code` (R107). -/
def complete (a code : Nat) (b : Block) : Block := wr a (rd b a / 65536 * 65536 + code % 256) b

/-- Whether a command runs at CMDSTAT `a`. -/
def cmdBusy (b : Block) (a : Nat) : Bool := rd b a % 256 == 1

/-- A command write at a block page (R107): ignored with ERR.cmdbusy while one runs; otherwise accepted, carried out by `f`,
and completed with the code `f` answers; code 1 leaves it running. -/
def pageCmd (p : Nat) (f : Block → Nat × Block) (b : Block) : Block :=
  let a := pg p 0x2C
  if cmdBusy b a then setErr p 31 0 b
  else
    let (c, b) := f (accept a b)
    if c = 1 then b else complete a c b

/-- A command write at an instance sub-page's CMD, with its CMDSTAT at offset `o` (R107, R147). -/
def subCmd (p n o : Nat) (f : Block → Nat × Block) (b : Block) : Block :=
  let a := sp n p o
  if cmdBusy b a then b
  else
    let (c, b) := f (accept a b)
    if c = 1 then b else complete a c b

/-- Carry out a command write by `rqid` to the CMD register of page `p`, after the checks of R128; an absent page ignores
it (R8). -/
def cmdWrite (rqid p : Nat) (f : Block → Nat × Block) (b : Block) : Block :=
  let a := pg p 0x28
  let j := judge b rqid a (.word 4) Need.write
  let b := { b with resp := ⟨j.status, 0⟩ }
  if j.status = .ok then pageCmd p f b else accessFault j rqid a Need.write b

/-- Carry out a command write by `rqid` to the CMD register at offset `o` of the sub-page of page `p` of instance `n`. -/
def subCmdWrite (rqid p n o so : Nat) (f : Block → Nat × Block) (b : Block) : Block :=
  let a := sp n p o
  let j := judge b rqid a (.word 4) Need.write
  let b := { b with resp := ⟨j.status, 0⟩ }
  if j.status = .ok then subCmd p n so f b else accessFault j rqid a Need.write b

/-- Zero every register of a list. -/
def zeroRegs : List Nat → Block → Block
  | [], b => b
  | a :: l, b => zeroRegs l (wr a 0 b)

/-- Append an output. -/
def emit (o : Output) (b : Block) : Block := { b with out := b.out ++ [o] }

end Sys2Proof.Machine
end

