-- ==== Sys2Proof/Machine/Keys.lean ====
section
/-! DEFINITION. Key cells as the enclave's MRAM stores them, the two-slot commit, derivation of keys, leaves, tag-unit keys and their
zeroisation (R175–R201). -/

namespace Sys2Proof.Machine

/-- `n` bytes of open values from the entropy source (R175). -/
def entropy : Nat → Block → List Byte × Block
  | 0, b => ([], b)
  | n + 1, b => match entropy n (freshNext b) with | (l, b') => (BitVec.ofNat 8 (fresh b) :: l, b')

/-- Byte-wise XOR of two strings, as long as the shorter. -/
def xorBytes : List Byte → List Byte → List Byte
  | x :: l, y :: m => (x ^^^ y) :: xorBytes l m
  | _, _ => []

/-! ### Scrambling and masking (R179, R180) -/

/-- The keystream byte for byte `i` of an image that starts at codeword `w`, whose addresses the keyed permutation places (R179). -/
def scrambleByte (sk : List Byte) (w i : Nat) : Byte := Config.cwStream sk (Config.cwPermute sk (w + i / 32)) (i % 32)

/-- An image scrambled from its byte `i` on, or unscrambled: the keystream is XORed in (R179). -/
def scrambled (sk : List Byte) (w : Nat) : Nat → List Byte → List Byte
  | _, [] => []
  | i, x :: l => (x ^^^ scrambleByte sk w i) :: scrambled sk w (i + 1) l

/-- Whether cell `c` is secret (R178). -/
def secretCell (c : Nat) : Bool := decide (c ≤ 2) || decide (8 ≤ c)

/-- Value `v` as slot `i` of cell `c` stores it, `r` the random share of a secret one (R179, R180). -/
def Slot.store (sk : List Byte) (c i : Nat) (v r : List Byte) : Slot :=
  if secretCell c then ⟨scrambled sk (Config.cellWord c i 0) 0 (xorBytes v r), scrambled sk (Config.cellWord c i 1) 0 r⟩
  else ⟨scrambled sk (Config.cellWord c i 0) 0 v, []⟩

/-- The value that slot `i` of cell `c` stores. -/
def Slot.load (sk : List Byte) (c i : Nat) (s : Slot) : List Byte :=
  let x := scrambled sk (Config.cellWord c i 0) 0 s.s0
  if secretCell c then xorBytes x (scrambled sk (Config.cellWord c i 1) 0 s.s1) else x

/-- A slot with a fresh `r` on both shares (R180). -/
def Slot.remask (r : List Byte) (s : Slot) : Slot := ⟨xorBytes s.s0 r, xorBytes s.s1 r⟩

/-- The digest of a slot's stored, masked and scrambled image (R197). -/
def Slot.digest (s : Slot) : List Byte := Config.shake256 32 (s.s0 ++ s.s1)

/-- Whether a slot holds zeros. -/
def Slot.isZero (s : Slot) : Bool := s.s0.isEmpty

/-! ### Commit records (R197) -/

/-- The commit record of cell `c` that names slot `live`. -/
def Site.make (c live ctr : Nat) (s : Slot) : Site := ⟨0x434B4C5A, 1, c, live, ctr, s.digest, 0xFFFFFFFFFFFFFFFF - ctr % 2 ^ 64⟩

/-- Whether magic, version and valid mark are correct. -/
def Site.valid (s : Site) : Bool := s.magic == 0x434B4C5A && s.version == 1 && s.mark == 0xFFFFFFFFFFFFFFFF - s.ctr % 2 ^ 64

/-- The site in force: the valid one with the higher counter, with its number. -/
def KCell.force (c : KCell) : Option (Nat × Site) :=
  if c.site0.valid = true ∧ ¬(c.site1.valid = true ∧ c.site0.ctr < c.site1.ctr) then some (0, c.site0)
  else if c.site1.valid then some (1, c.site1) else none

/-- The record that was in force before the one that is. -/
def KCell.former (c : KCell) : Option (Nat × Site) :=
  match c.force with
  | some (0, _) => if c.site1.valid then some (1, c.site1) else none
  | some _ => if c.site0.valid then some (0, c.site0) else none
  | none => none

/-- The content of slot `i`. -/
def KCell.slot (c : KCell) (i : Nat) : Slot := if i = 0 then c.slot0 else c.slot1

/-- Set slot `i`. -/
def KCell.setSlot (c : KCell) (i : Nat) (v : Slot) : KCell := if i = 0 then { c with slot0 := v } else { c with slot1 := v }

/-- Set site `i`. -/
def KCell.setSite (c : KCell) (i : Nat) (v : Site) : KCell := if i = 0 then { c with site0 := v } else { c with site1 := v }

/-- The value that a record of cell `n` names; none while the cell is damaged or the slot is empty (R197). -/
def KCell.named (sk : List Byte) (n : Nat) (c : KCell) (r : Option (Nat × Site)) : Option (List Byte) :=
  match r with
  | some (_, s) => if c.bad || (c.slot s.live).isZero then none else some ((c.slot s.live).load sk n s.live)
  | none => none

/-- The slot the next update writes: the one the record in force does not name. -/
def KCell.slotB (c : KCell) : Nat := match c.force with | some (_, s) => 1 - s.live | none => 0

/-- Step 1 of a commit: the value goes, masked, into slot B (R198). -/
def KCell.step1 (sk : List Byte) (n : Nat) (v r : List Byte) (c : KCell) : KCell := c.setSlot c.slotB (Slot.store sk n c.slotB v r)

/-- Step 2 of a commit: the site not in force names slot B (R198). -/
def KCell.step2 (n ctr : Nat) (c : KCell) : KCell :=
  let s := Site.make n c.slotB ctr (c.slot c.slotB)
  let c' := { c with bad := false }
  match c.force with
  | some (0, _) => c'.setSite 1 s
  | _ => c'.setSite 0 s

/-- Step 4 of a commit: harrow slot A, the one the record in force does not name (R198). -/
def KCell.step4 (c : KCell) : KCell := c.setSlot c.slotB Slot.zero

/-- A whole commit of one cell (R198). -/
def KCell.commit (sk : List Byte) (n : Nat) (v r : List Byte) (ctr : Nat) (c : KCell) : KCell :=
  ((c.step1 sk n v r).step2 n ctr).step4

/-- A cell written without a message: slot 0 holds the value, and site 0 names it. -/
def KCell.written (sk : List Byte) (n : Nat) (v r : List Byte) (ctr : Nat) : KCell :=
  let s := Slot.store sk n 0 v r
  ⟨s, Slot.zero, Site.make n 0 ctr s, Site.zero, false⟩

/-- A read of a secret cell writes its two shares back under a fresh `r`; its record takes the digest of the new image (R180, R197; DEDUCED,
log entry 8). -/
def KCell.remask (r : List Byte) (c : KCell) : KCell :=
  match c.force with
  | some (i, s) =>
    let v := (c.slot s.live).remask r
    (c.setSlot s.live v).setSite i { s with digest := v.digest }
  | none => c

/-! ### Cell sets -/

/-- Whether the test set is in use: while debug is authorised. MANUFACTURE runs with debug open without an authorisation, under the ochre root,
and its cells are the production ones (R183, R186, R202, R222; DEDUCED, log entry 65). -/
def testSet (b : Block) : Bool := fon b F.SYS_STAT_dbg && decide (mnat b 0x1801000400 1 ≠ 0)

/-- The cell set in use (R186). -/
def store (b : Block) : KeyStore := if testSet b then b.key.test else b.key.prod

/-- Replace the cell set in use. -/
def setStore (k : KeyStore) (b : Block) : Block :=
  if testSet b then { b with key := { b.key with test := k } } else { b with key := { b.key with prod := k } }

/-- Cell `c` of a cell set. -/
def KeyStore.cell (k : KeyStore) (c : Nat) : KCell := sget (fun _ => KCell.empty) k.cells c

/-- Set cell `c` of a cell set. -/
def KeyStore.put (k : KeyStore) (c : Nat) (v : KCell) : KeyStore := { k with cells := sset (fun _ => KCell.empty) k.cells c v }

/-- Whether a commit to cell `c` runs that has named slot B and is not complete: until it is, the old value is used (R198). -/
def committing (b : Block) (c : Nat) : Bool :=
  match b.key.run with
  | some (.commit c' _ _ _) => c' == c && decide (2 ≤ fget b F.KEY_STAT_step)
  | _ => false

/-- The value of cell `c` of the set in use. -/
def cellVal (b : Block) (c : Nat) : Option (List Byte) :=
  let x := (store b).cell c
  x.named b.key.scramble c (if committing b c then x.former else x.force)

/-- The value of cell `c` of the production set, whatever debug does. -/
def prodVal (b : Block) (c : Nat) : Option (List Byte) :=
  let x := b.key.prod.cell c
  x.named b.key.scramble c (if committing b c && !testSet b then x.former else x.force)

/-- Cell `c` of the set in use is read: re-masked (R180). -/
def readCell (c : Nat) (b : Block) : Block :=
  let x := (store b).cell c
  match x.force with
  | some (_, s) => match entropy (x.slot s.live).s0.length b with | (r, b) => setStore ((store b).put c (x.remask r)) b
  | none => b

/-- Cell `c` of the set in use, written without a message; its record carries the stored counter (R183, R202; DEDUCED, log entry 41). -/
def cellReplace (c : Nat) (v : List Byte) (b : Block) : Block :=
  match entropy (if secretCell c then v.length else 0) b with
  | (r, b) => setStore ((store b).put c (KCell.written b.key.scramble c v r (store b).ctr)) b

/-- Fleet root, service root and device root of the set in use (R178). -/
def fleetRoot (b : Block) : Option (List Byte) := (cellVal b 1).map (·.take 32)

/-- The anchor `i` of the set in use: its Ed448 and ML-DSA-87 public keys (R195). -/
def anchor (b : Block) (i : Nat) : Option (List Byte × List Byte) :=
  (cellVal b (5 + i)).map (fun v => ((v.drop 8).take 57, (v.drop 65).take 2592))

/-- Production anchor `i`, whatever debug does (R220). -/
def prodAnchor (b : Block) (i : Nat) : Option (List Byte × List Byte) :=
  (prodVal b (5 + i)).map (fun v => ((v.drop 8).take 57, (v.drop 65).take 2592))

/-- Whether both signatures over `body` verify under an anchor: 0 both do, 3 Ed448 fails, 4 ML-DSA-87 fails (codes of R231). -/
def sigReason (k : Option (List Byte × List Byte)) (body ed ml : List Byte) : Nat :=
  match k with
  | none => 3
  | some (ke, km) => if !Config.ed448Ok ke body ed then 3 else if !Config.mldsa87Ok km body ml then 4 else 0

/-- The module's DID as 16 bytes (R181). -/
def didBytes (b : Block) : List Byte := leBytes 16 b.part.did

/-- The fleet ID: 0 while cell 1 is empty (R181). -/
def fleetId (b : Block) : Nat := match cellVal b 1 with | some v => leNat ((v.drop 32).take 4) | none => 0

/-- The module index: 0 while cell 1 is empty (R181). -/
def modIdx (b : Block) : Nat := match cellVal b 1 with | some v => leNat ((v.drop 36).take 2) | none => 0

/-- The life-cycle state that cell 3 of the production set holds, if any (R196). -/
def cellLcs (b : Block) : Option Nat := (prodVal b 3).map (fun v => leNat (v.take 1))

/-! ### Derivation -/

/-- ASCII bytes of a string. -/
def ascii (s : String) : List Byte := s.toList.map (fun c => BitVec.ofNat 8 c.toNat)

/-- The ochre root of the module (R186). -/
def ochreRoot (b : Block) : List Byte :=
  Config.kmac256 (List.replicate 32 0#8) "ZL48KDF" 32 (ascii "zl48/ochre/" ++ didBytes b)

/-- A parent of the catalogue: the ochre root in its place while debug is authorised (R186). -/
def parent (b : Block) (v : Option (List Byte)) : Option (List Byte) :=
  if fon b F.SYS_STAT_dbg then some (ochreRoot b) else v

/-- The device root is read, unless the ochre root stands in its place (R180, R186). -/
def readRoot (b : Block) : Block := cond (!fon b F.SYS_STAT_dbg) (readCell 0) b

/-- The device root as a parent. -/
def deviceRoot (b : Block) : Option (List Byte) := parent b (cellVal b 0)

/-- A child key (R184). -/
def derive (root : List Byte) (label : List Byte) (size : Nat) : List Byte := Config.kmac256 root "ZL48KDF" size label

/-- A child of the device root. -/
def deviceKey (b : Block) (label : String) (size : Nat) : List Byte :=
  match deviceRoot b with | some r => derive r (ascii label) size | none => []

/-- Whether a byte is a lower-case hexadecimal digit. -/
def isHex (x : Byte) : Bool := (decide (0x30 ≤ x.toNat) && decide (x.toNat ≤ 0x39)) || (decide (0x61 ≤ x.toNat) && decide (x.toNat ≤ 0x66))

/-- The labels of leaves in the catalogue (R185): the kind of leaf a label gives (3 or 4) and its parent cell. -/
def leafLabel (l : List Byte) : Option (Nat × Nat) :=
  let hex (x : List Byte) (n : Nat) : Bool := decide (x.length = n) && x.all isHex
  if l.take 17 = ascii "zl48/witness/svc/" then (if hex (l.drop 17) 4 then some (3, 2) else none)
  else if l.take 13 = ascii "zl48/witness/" then
    (if l.length = 22 ∧ hex ((l.drop 13).take 4) 4 ∧ (l.drop 17).take 1 = ascii "/" ∧ hex (l.drop 18) 4 then some (3, 1) else none)
  else if l.take 11 = ascii "zl48/field/" then (if hex (l.drop 11) 8 then some (4, 1) else none)
  else none

/-! ### Leaves -/

/-- Leaf of handle `h`. -/
def leaf (b : Block) (h : Nat) : Leaf := sget (fun _ => Leaf.free) b.key.leaves h

/-- The key of a leaf, which its two shares give (R180). -/
def Leaf.key (l : Leaf) : List Byte := xorBytes l.key0 l.key1

/-- A valid leaf of a key, whose second share is still zero. -/
def Leaf.make (kind keyId nb na : Nat) (key : List Byte) : Leaf := ⟨kind, 1, keyId, nb, na, key, List.replicate key.length 0#8, false⟩

/-- The leaf re-shared with a fresh random share `r` (R180). -/
def Leaf.share (r : List Byte) (l : Leaf) : Leaf := { l with key0 := xorBytes l.key r, key1 := r }

/-- The leaf with its key zeroised. -/
def Leaf.wiped (l : Leaf) : Leaf := { l with key0 := [], key1 := [] }

/-- The units whose tag-unit key registers hold leaves of a kind: 0 SVI and 1 PUB for IEC 62351-6 keys, 2 TWN for witness keys, 3 FLD for field
keys (R175, R187). -/
def tagUnits (kind : Nat) : List Nat := match kind with | 1 => [0, 1] | 2 => [0, 1] | 3 => [2] | 4 => [3] | _ => []

/-- The tag-unit key registers of handle `h`: those of the leaf's units take its key, the others are cleared. -/
def tagLoad (h : Nat) (l : Leaf) (t : List (Nat × List Byte)) : List (Nat × List Byte) :=
  (List.range 4).foldl (fun t u => sset (fun _ => []) t (2048 * u + h) (if (tagUnits l.kind).contains u then l.key else [])) t

/-- The key that the tag unit `u` holds for handle `h` (R175). -/
def tagKey (b : Block) (u h : Nat) : List Byte := sget (fun _ => []) b.key.tags (2048 * u + h)

/-- Set the leaf of handle `h`, which is loaded into its tag units and re-shared (R180, R188; DESIGN CHOICE, log entry 65). -/
def setLeaf (h : Nat) (l : Leaf) (b : Block) : Block :=
  match entropy l.key.length b with
  | (r, b) => { b with key := { b.key with leaves := sset (fun _ => Leaf.free) b.key.leaves h (l.share r), tags := tagLoad h l b.key.tags } }

/-- The 32-byte attribute record of a leaf (R187). -/
def leafRecord (h : Nat) (l : Leaf) : List Byte :=
  leBytes 1 l.kind ++ leBytes 1 l.state ++ leBytes 2 h ++ leBytes 4 l.keyId ++ leBytes 8 l.nb ++ leBytes 8 l.na ++
    (Config.shake256 32 (ascii "zl48/leafid" ++ l.key)).take 8

/-- The lowest free handle among 64–2,047 (R187). -/
def freeHandle (b : Block) : Option Nat := ((List.range 1984).map (· + 64)).find? (fun h => (leaf b h).state == 0)

/-- Whether the leaf of handle `h` may be used to send at TAI second `t` (R188). -/
def leafTx (b : Block) (h t : Nat) : Bool :=
  let l := leaf b h
  l.state == 1 && decide (l.nb ≤ t) && (l.na == 0xFFFFFFFFFFFFFFFF || decide (t < l.na))

/-- Whether the leaf of handle `h` verifies a frame received at TAI second `t` (R188, R189). -/
def leafRx (b : Block) (h t : Nat) : Bool :=
  let l := leaf b h
  (l.state == 1 || l.grace) && decide (l.nb ≤ t) && (l.na == 0xFFFFFFFFFFFFFFFF || decide (t < l.na) || l.grace)

/-- Zeroise the working-key cache and every tag-unit key register (R202 ZEROISE, R224 level 2). -/
def zeroiseCache (b : Block) : Block := { b with key := { b.key with leaves := [], next := [], tags := [] } }

/-- The scramble key is set from the entropy source where the die's one-time cells hold none yet, at the first start (R179). -/
def setScramble (b : Block) : Block :=
  match entropy (if b.key.scramble.isEmpty then 32 else 0) b with
  | (r, b) => { b with key := { b.key with scramble := b.key.scramble ++ r } }

/-- Zeroise cells 0, 1, 2 and 8–71 of a cell set (R178, R224 level 3). -/
def KeyStore.zeroise (k : KeyStore) : KeyStore :=
  { k with cells := k.cells.filter (fun c => !(decide (c.1 ≤ 2) || decide (8 ≤ c.1))) }

/-- Extend measure register `i` with `d` (R217). -/
def measExtend (i : Nat) (d : List Byte) (b : Block) : Block :=
  { b with key := { b.key with meas := modAt [] b.key.meas i (fun m => Config.shake256 32 (m ++ d)) } }

/-- Complete a KEY command with a reason: KEY_RESULT, and EV_KEY_DONE at its completion (R202, R204). -/
def keyResult (reason len : Nat) (b : Block) : Block :=
  b |> fset F.KEY_RESULT_reason reason |> fset F.KEY_RESULT_len len |> raise EV.KEY_DONE

end Sys2Proof.Machine
end

