-- ==== Sys2Proof/Machine/Elg.lean ====
section
/-! DEFINITION. The event recorder (R604–R620): the layout of a record, its write with verify, repeats, the switch to the
reserve log, holding, the clear, the search at start and instance records. -/

namespace Sys2Proof.Machine

/-- The address of the main-log slot of sequence `s` (R604). -/
abbrev elgSlot (s : Nat) : Nat := 0x1800000000 + 64 * (s % 262144)

/-- The fields of a record (R605). -/
structure ElgRec where
  time : Nat
  seq : Nat
  code : Nat
  typ : Nat
  sev : Nat
  rqid : Nat
  flags : Nat
  rep : Nat
  payload : List Byte
  deriving DecidableEq, Repr

/-- The 64 bytes of a record (R605). -/
def ElgRec.bytes (r : ElgRec) : List Byte :=
  let head := leBytes 8 r.time ++ leBytes 4 r.seq ++ leBytes 2 (r.code % 1024) ++ leBytes 1 r.typ ++ leBytes 1 (r.sev % 8) ++
    leBytes 2 (r.rqid % 1024) ++ leBytes 2 r.flags
  let pl := padTo 0#8 32 r.payload
  head ++ leBytes 4 r.rep ++ pl ++ leBytes 4 (Crc.crc32c (head ++ leBytes 4 0 ++ pl)) ++ leBytes 4 (2 ^ 32 - 1 - r.seq % 2 ^ 32)

/-- Whether 64 bytes hold a valid record (R605). -/
def recValid (l : List Byte) : Bool :=
  decide (leNat ((l.drop 60).take 4) = 2 ^ 32 - 1 - leNat ((l.drop 8).take 4)) &&
    decide (leNat ((l.drop 56).take 4) = Crc.crc32c (l.take 20 ++ leBytes 4 0 ++ (l.drop 24).take 32))

/-- Severity of a record of types 2–6: the prio of the event's route at the time of writing (R606). -/
def routePrio (b : Block) (ev : Nat) : Nat := bitsOf (route b ev) 30 28

/-- One attempt to write 64 bytes at a main-log slot and read them back with RQID 0x0C5 (R607): whether it verified. A
failed attempt leaves the second codeword uncorrectable, so that no valid record appears (DEDUCED, log entry 9). -/
def elgTry (a : Nat) (l : List Byte) (fail : Bool) (b : Block) : Bool × Block :=
  match busWrite 0x0C5 a (l.take 32) (.burst 32) Need.write b with
  | (.ok, b) =>
    match busWrite 0x0C5 (a + 32) (l.drop 32) (.burst 32) Need.write b with
    | (.ok, b) =>
      if fail then (false, setErr 0x40 0 0 { b with uncorr := (a + 32) :: b.uncorr })
      else
        match busRead 0x0C5 a 64 (.burst 64) Need.read b with
        | (.ok, l', b) => if l' = l then (true, b) else (false, setErr 0x40 0 0 b)
        | (_, _, b) => (false, setErr 0x40 0 0 b)
    | (_, b) => (false, setErr 0x40 0 0 b)
  | (_, b) => (false, setErr 0x40 0 0 b)

/-- Take the outcome of the next read-back from the list a command carries: `true` when it fails. -/
def popFail (f : List Bool) : Bool × List Bool := match f with | [] => (false, []) | x :: t => (x, t)

/-- Both logs are lost (R614): later records count as lost. -/
def elgDead (b : Block) : Block :=
  b |> fset F.ELG_STAT_dead 1 |> fset F.SYS_STAT_logdead 1 |> cntSat R.ELG_LOST |> raise EV.ELG_DEAD

/-- Write a record into the reserve log at index s mod 2,048, once more after a failed verify; a second failure ends the
log (R614). -/
def elgReserve (r : ElgRec) (f : List Bool) (b : Block) : List Bool × Block :=
  let r := { r with flags := r.flags ||| 1 }
  let (x, f) := popFail f
  let (y, f) := if x then popFail f else (false, f)
  if fon b F.ELG_STAT_dead then (f, cntSat R.ELG_LOST b)
  else if x && y then (f, elgDead (setErr 0x40 0 0 b))
  else
    let b := if x then setErr 0x40 0 0 b else b
    let b := { b with elg := { b.elg with
      reserve := sset (fun _ => []) b.elg.reserve (r.seq % 2048) r.bytes
      last := some ⟨r.typ, r.code, r.rqid, r.time, padTo 0#8 32 r.payload, true, r.seq, r.rep⟩ } }
    (f, b)

/-- Flags of a record written now (R605). -/
def elgFlags (gasp : Bool) (b : Block) : Nat := 2 * b2n gasp + 4 * b2n (!fon b F.TIM_STAT_synced)

/-- The record of a type 2–6 written now under the next sequence number (R606). -/
def elgOwn (typ ev : Nat) (pl : List Byte) (gasp : Bool) (b : Block) : ElgRec :=
  ⟨ns b, rd b R.ELG_NEXT, ev, typ, routePrio b ev, 0x0C5, elgFlags gasp b, 0, pl⟩

/-- NOTICE code 3 to the peer, sent when the span is up (R613, R525): module index, failing sequence, failing slot. -/
def noticeFail (seq slot : Nat) (b : Block) : Block :=
  if b.twn.hbAt.isSome && (fon b F.TWN_STAT_lane1 || fon b F.TWN_STAT_lane2) then
    emit (.span (.notice 3 (leBytes 2 (modIdx b) ++ leBytes 2 0 ++ leBytes 4 seq ++ leBytes 4 slot))) b
  else b

/-- Write a record to the log in force and advance ELG_NEXT (R607, R613). A switch to the reserve ends a hold: the held
records wait in the intake queue (DEDUCED, log entry 55). -/
def elgWrite (r : ElgRec) (f : List Bool) (b : Block) : List Bool × Block :=
  let s := r.seq
  let b := wr R.ELG_NEXT (s + 1) b
  if fon b F.ELG_STAT_reserve || fon b F.ELG_STAT_dead then elgReserve r f b
  else
    let (x, f) := popFail f
    let b := cleanse (elgSlot s) (cleanse (elgSlot s + 32) b)
    let (ok, b) := elgTry (elgSlot s) r.bytes x b
    let (ok, f, b) := if ok then (true, f, b) else
      let (y, f) := popFail f
      let (ok, b) := elgTry (elgSlot s) r.bytes y (cleanse (elgSlot s + 32) b)
      (ok, f, b)
    if ok then
      let first := rd b R.ELG_FIRST
      let b := if (s + 2 ^ 32 - first) % 2 ^ 32 = 262144 then wr R.ELG_FIRST (first + 1) b else b
      (f, { b with elg := { b.elg with last := some ⟨r.typ, r.code, r.rqid, r.time, padTo 0#8 32 r.payload, false, s, r.rep⟩ } })
    else
      let slot := s % 262144
      let b := b |> wr R.ELG_FAILSLOT slot |> fset F.ELG_STAT_reserve 1 |> fset F.ELG_CTL_hold 0
      let b := { b with elg := { b.elg with queue := b.elg.queue ++ b.elg.held, held := [], holdAt := none } }
      let t3 := elgOwn 3 EV.ELG_FAIL (leBytes 4 slot ++ leBytes 4 s ++ leBytes 4 (memHeadInfo b)) false b
      let b := wr R.ELG_NEXT (t3.seq + 1) b
      let (f, b) := elgReserve t3 f b
      let (f, b) := elgReserve r f b
      (f, b |> noticeFail s slot |> raise EV.ELG_FAIL)

/-- Whether `it` repeats the most recent record of the log it would be written in (R609). -/
def elgRepeats (it : ElgItem) (b : Block) : Bool :=
  match b.elg.last with
  | none => false
  | some l =>
    decide (it.typ ≤ 1) && decide (l.typ = it.typ ∧ l.code = it.code ∧ l.rqid = it.rqid ∧ l.payload = padTo 0#8 32 it.payload) &&
      decide (l.time ≤ it.time ∧ it.time < l.time + cfg b F.ELG_CFG_coalesce * 1000000) && (l.reserve == fon b F.ELG_STAT_reserve)

/-- Raise the repeat count of the most recent record by rewriting its first codeword (R609). -/
def elgRepeat (l : ElgLast) (b : Block) : Block :=
  let n := min 0xFFFFFFFF (l.rep + 1)
  let b := { b with elg := { b.elg with last := some { l with rep := n } } }
  if l.reserve then
    let old := sget (fun _ => []) b.elg.reserve (l.seq % 2048)
    { b with elg := { b.elg with reserve := sset (fun _ => []) b.elg.reserve (l.seq % 2048) (old.take 20 ++ leBytes 4 n ++ old.drop 24) } }
  else
    let a := elgSlot l.seq
    (busWrite 0x0C5 a (mread b a 20 ++ leBytes 4 n ++ mread b (a + 24) 8) (.burst 32) Need.write b).2

/-- Write one item: a repeat, a loss once the log is dead, or a record under the next sequence number (R607–R609). -/
def elgPut (it : ElgItem) (f : List Bool) (b : Block) : List Bool × Block :=
  if fon b F.ELG_STAT_dead then (f, cntSat R.ELG_LOST b)
  else if elgRepeats it b then (f, match b.elg.last with | some l => elgRepeat l b | none => b)
  else
    let own := decide (2 ≤ it.typ)
    elgWrite ⟨if own then ns b else it.time, rd b R.ELG_NEXT, it.code, it.typ, if own then routePrio b it.code else it.sev,
      if own then 0x0C5 else it.rqid, elgFlags it.gasp b, 0, it.payload⟩ f b

/-- Write a list of items in order. -/
def elgPutAll : List ElgItem → List Bool → Block → List Bool × Block
  | [], f, b => (f, b)
  | it :: l, f, b => match elgPut it f b with | (f, b) => elgPutAll l f b

/-- With room in the queue again, one type 6 record gives the count lost (R608). -/
def elgLostRecord (f : List Bool) (b : Block) : List Bool × Block :=
  if b.elg.lostSince = 0 ∨ fon b F.ELG_STAT_dead then (f, b)
  else
    let r := elgOwn 6 EV.ELG_LOST (leBytes 4 b.elg.lostSince) (fon b F.PWR_STAT_state) b
    elgWrite r f { b with elg := { b.elg with lostSince := 0 } }

/-- RECORD_WRITE: the item at the head of the intake queue is written; nothing is until the search has completed (R607,
R608, R611). -/
def elgStep (f : List Bool) (b : Block) : Block :=
  if !fon b F.ELG_STAT_ready || fon b F.ELG_STAT_clearing then b
  else match b.elg.queue with
  | [] => b
  | it :: q =>
    let (f, b) := elgPut it f { b with elg := { b.elg with queue := q } }
    (elgLostRecord f b).2

/-- Write every item that waits: what a save set does (R63), within 1 ms by the floor of R607. -/
def elgFlush (b : Block) : Block :=
  if !fon b F.ELG_STAT_ready || fon b F.ELG_STAT_clearing then b
  else
    let q := b.elg.queue
    let (f, b) := elgPutAll q [] { b with elg := { b.elg with queue := [] } }
    (elgLostRecord f b).2

/-! ### Hold and clear -/

/-- A hold ends without a clear: the records that arrived before it, then the held ones, are written (R612). -/
def elgEndHold (f : List Bool) (b : Block) : Block :=
  let q := b.elg.queue ++ b.elg.held
  let b := { (fset F.ELG_CTL_hold 0 b) with elg := { b.elg with queue := [], held := [], holdAt := none } }
  if fon b F.ELG_STAT_ready then (elgPutAll q f b).2 else { b with elg := { b.elg with queue := q } }

/-- A write of ELG_CTL.hold (R612, R616): it starts or ends a hold, and is ignored in reserve, dead or during a clear. -/
def elgHold (v : Bool) (f : List Bool) (b : Block) : Block :=
  if fon b F.ELG_STAT_reserve || fon b F.ELG_STAT_dead || fon b F.ELG_STAT_clearing then b
  else if v == fon b F.ELG_CTL_hold then b
  else if v then { (fset F.ELG_CTL_hold 1 b) with elg := { b.elg with holdAt := some (ns b) } }
  else elgEndHold f b

/-- The instant at which a hold expires (R612). -/
def holdDeadline (b : Block) : Option Nat := b.elg.holdAt.map (· + cfg b F.ELG_CFG_holdmax * 1000000000)

/-- HOLD_EXPIRY: hold has lasted holdmax (R612). -/
def holdExpire (f : List Bool) (b : Block) : Block :=
  match holdDeadline b with
  | none => b
  | some t => if fon b F.ELG_STAT_clearing then b else b |> advanceTo t |> elgEndHold f |> raise EV.ELG_HOLDEXP

/-- Refuse a clear with a code and a reason in ELG_ERRINFO bits 7:0 (R612). -/
def elgClearFail (code reason : Nat) (b : Block) : Nat × Block :=
  (code, wr (pg 0x40 0x1C) (rd b (pg 0x40 0x1C) / 256 * 256 + reason) b)

/-- ELG_CMD CLEAR (R612). -/
def elgClear (b : Block) : Nat × Block :=
  if noLease b then (0x13, b)
  else if !fon b F.ELG_CTL_hold || fon b F.ELG_STAT_clearing || fon b F.ELG_STAT_reserve || fon b F.ELG_STAT_dead then
    elgClearFail 0x10 7 b
  else
    let a := rd b R.ELG_TOKADDR_LO + rd b R.ELG_TOKADDR_HI % 256 * 2 ^ 32
    match engRead 0x0C5 a 4869 b with
    | (.ok, l, b) =>
      let n (o k : Nat) : Nat := leNat ((l.drop o).take k)
      let body := l.take 128
      if n 0 4 ≠ 0x54434C5A ∨ n 4 2 ≠ 1 ∨ n 6 2 ≠ 0 ∨ n 36 4 ≠ 0 ∨ n 80 48 ≠ 0 then elgClearFail 0x12 1 b
      else if n 8 16 ≠ b.part.did ∨ n 24 4 ≠ fleetId b then elgClearFail 0x12 6 b
      else if n 40 8 < secOf b then elgClearFail 0x12 0x0B b
      else if (n 32 4 + 1) % 2 ^ 32 ≠ rd b R.ELG_NEXT then elgClearFail 0x12 8 b
      else
        let sr := sigReason (anchor b 0) body ((l.drop 128).take 114) (l.drop 242)
        if sr ≠ 0 then elgClearFail 0x20 sr b
        else (1, { (fset F.ELG_STAT_clearing 1 b) with elg := { b.elg with
          clearing := some (rd b R.ELG_FIRST, n 32 4, n 28 4, (l.drop 48).take 16) } })
    | (st, _, b) => elgClearFail 0x20 0x0C (ownData 0x40 st b)

/-- ELG_CLEAR_DONE: the harrow of the log is complete; the log-cleared record and the held records follow (R612). -/
def elgCleared (f : List Bool) (b : Block) : Block :=
  match b.elg.clearing with
  | none => b
  | some (first, upto, auth, name) =>
    let b := wipe 0x1800000000 0x1000000 b
    let b := { (fset F.ELG_STAT_clearing 0 b) with elg := { b.elg with clearing := none, last := none } }
    let r := elgOwn 2 EV.ELG_CLEARED (leBytes 4 first ++ leBytes 4 upto ++ leBytes 4 auth ++ leBytes 4 0 ++ name) false b
    let b := b |> wr R.ELG_FIRST r.seq |> mput 0x1801000860 4 r.seq
    let (f, b) := elgWrite r f b
    b |> elgEndHold f |> raise EV.ELG_CLEARED |> complete (pg 0x40 0x2C) 0

/-- ELG_CMD CLRCNT (R618). -/
def elgClrcnt (b : Block) : Nat × Block := (0, zeroRegs (R.ELG_LOST :: (List.range 64).map R.ELG_I_DROP) b)

/-! ### Start -/

/-- The 64-byte slots of the main log that hold a listed byte, in rising order: every other slot is all zero. -/
def elgUsed (b : Block) : List Nat :=
  (b.mem.filterMap (fun c => if 0x1800000000 ≤ c.1 ∧ c.1 < 0x1801000000 then some ((c.1 - 0x1800000000) / 64) else none)).eraseDups

/-- The sequence numbers of the valid records of the main log. -/
def elgValid (b : Block) : List Nat :=
  (elgUsed b).filterMap (fun i =>
    let a := 0x1800000000 + 64 * i
    let l := mread b a 64
    let s := leNat ((l.drop 8).take 4)
    if recValid l && decide (s % 262144 = i) && !b.uncorr.contains a && !b.uncorr.contains (a + 32) &&
      !b.poisoned.contains a && !b.poisoned.contains (a + 32) then some s else none)

/-- The later of two sequence numbers, which lie within 2³¹ of one another (R605, R610). -/
def seqAfter (x y : Nat) : Bool := decide (0 < (x + 2 ^ 32 - y) % 2 ^ 32 ∧ (x + 2 ^ 32 - y) % 2 ^ 32 < 2 ^ 31)

/-- The newest and oldest of a list of sequence numbers. -/
def seqEnds : List Nat → Option (Nat × Nat)
  | [] => none
  | s :: l => some (l.foldl (fun m x => if seqAfter x m then x else m) s, l.foldl (fun m x => if seqAfter m x then x else m) s)

/-- LOG_SEARCH at S04 (R611): ELG_NEXT and ELG_FIRST, the sequence word, and a cut record at ELG_NEXT harrowed. The slot
of a full log's ELG_NEXT holds its oldest valid record, which stays. -/
def elgSearch (b : Block) : Block :=
  let valid := elgValid b
  let (next, first) := match seqEnds valid with
    | some (hi, lo) => ((hi + 1) % 2 ^ 32, lo)
    | none => (mnat b 0x1801000860 4, mnat b 0x1801000860 4)
  let b := if valid.any (fun s => s % 262144 = next % 262144) then b else wipe (elgSlot next) 64 b
  b |> wr R.ELG_NEXT next |> wr R.ELG_FIRST first |> mput 0x1801000860 4 next
    |> fset F.ELG_STAT_ready 1

/-! ### Instance records -/

/-- ELG_I_CMD LOG of instance `n` with its code and severity (R615). -/
def elgLog (n code sev : Nat) (b : Block) : Nat × Block :=
  let b := if b.elg.instSec = secOf b then b else { b with elg := { b.elg with instSec := secOf b, instCnt := [] } }
  let k := sget (fun _ => 0) b.elg.instCnt n
  if cfg b F.ELG_IRATE_rate ≤ k then (0x10, b |> cnt (R.ELG_I_DROP n) |> ievt 0x40 n 0)
  else
    let pl := ((List.range 8).map (fun i => leBytes 4 (rd b (R.ELG_I_PAYLOAD n i)))).flatten
    let b := { b with elg := { b.elg with instCnt := sset (fun _ => 0) b.elg.instCnt n (k + 1) } }
    let (b, lost) := elgTake ⟨1, code, n, sev, ns b, pl, fon b F.PWR_STAT_state⟩ b
    if lost then (0, b |> elgLostEv |> ievt 0x40 n 0) else (0, b)

/-- A record of the module's own (types 4 and 5) joins the intake queue (R606). -/
def elgOwnQueue (typ ev : Nat) (pl : List Byte) (b : Block) : Block :=
  let (b, lost) := elgTake ⟨typ, ev, 0x0C5, 0, ns b, pl, fon b F.PWR_STAT_state⟩ b
  if lost then elgLostEv b else b

end Sys2Proof.Machine
end

