-- ==== Sys2Proof/Machine/Reset.lean ====
section
/-! DEFINITION. Resets (R150, R151): what a reset of each class leaves, and what survives it. -/

namespace Sys2Proof.Machine

/-- Registers that a reset leaves as they are: those the manual keeps in MRAM or in the always-on domain, and the present
measurements of the always-on domain (R60, R82, R229, R304, R308, R232, R34, R531). -/
def keptRegs : List Nat :=
  [R.TMP_LATCH, R.TMP_LASTSRC, R.TMP_LASTSEC, R.TMP_LASTNS, R.TMP_CNT, R.TMP_LOOP, R.TMP_STAT, R.MEM_DEVMARK,
   R.DBG_STAT, R.PWR_ERR, R.PWR_ERRINFO, R.PWR_VIN, R.PWR_TEMP, R.PWR_HOLDUP, R.PWR_AGEMON, R.PWR_TALLYSPD]
  ++ [R.TIM_STAT, R.TIM_STEPSEC, R.TIM_STEPNS] ++ [R.TWN_EPOCH, R.MTR_GAPCNT]

/-- The registers that a reset of class `cls` leaves: a warm one also the ports' links (R155). -/
def keptOf (cls : Nat) : List Nat := keptRegs ++ if cls = 1 then (List.range 14).map (fun m => pg (0x10 + m) 0x0C) else []

/-- Bits of a kept register that survive: the others return to their reset value. -/
def keptMask (a : Nat) : Nat :=
  if a = R.TMP_STAT then 0x0FFF0000
  else if a = R.DBG_STAT then 0x0000FF02
  else if a = R.PWR_ERR then 4
  else if a = R.PWR_HOLDUP then 0xFFFF0000
  else if a = R.TIM_STAT then 0x18
  else if 0x10 ≤ pageOf a ∧ pageOf a < 0x1E then 0x3F0F   -- MAC_STAT: link, rate, negotiation and steps below the configured rate
  else 0xFFFFFFFF

/-- Carry the kept registers of `old` over into `b`. -/
def keepRegs (old : Block) : List Nat → Block → Block
  | [], b => b
  | a :: l, b =>
    let m := keptMask a
    keepRegs old l (wr a ((rd old a &&& m) ||| (rd b a &&& (0xFFFFFFFF ^^^ m))) b)

/-- The step in progress when a start ended, 0 once S18 had been done (R174). -/
def prevStep (b : Block) : Nat := if fon b F.STL_STAT_complete then 0 else fget b F.STL_STAT_step

/-- The life-cycle state (R166), which the life-cycle record of the STL partition holds (R623). -/
def lcs (b : Block) : Nat := mnat b 0x1801000400 1

/-- Port `m` after a warm start: its PCS keeps a link that is up, in its mode and at its step (R155). -/
def keptPort (b : Block) (m : Nat) : Port :=
  let p := b.net.ports.getD m Port.init
  let run := match p.kept with | some x => x | none => (cfg b (F.MAC_PORTCFG_mode m), cfg b (F.MAC_PORTCFG_fec m))
  if fon b (F.MAC_STAT_link m) then { Port.init with kept := some run, goal := p.goal } else Port.init

/-- The block at the start of a reset of class `cls`, the links of a warm one up (R155), before registers are carried over: memory keeps its content until the harrow of the
start wipes it (R151); MRAM, flash, the enclave's MRAM and the always-on domain keep theirs. -/
def resetBlock (cls : Nat) (b : Block) : Block :=
  let z := Block.init b.part
  let z := { z with
    time := b.time, free := b.free, mem := b.mem, poisoned := b.poisoned, uncorr := b.uncorr, corr := b.corr, errs := b.errs
    resp := b.resp, out := b.out, flash := b.flash, remap := b.remap
    key := { z.key with prod := b.key.prod, test := b.key.test, noLoad := b.key.noLoad, scramble := b.key.scramble }
    trust := { z.trust with fallowLevel := b.trust.fallowLevel, dbgScope := b.trust.dbgScope, dbgNotAfter := b.trust.dbgNotAfter,
                              dbgStarts := b.trust.dbgStarts, dbgOpen := b.trust.dbgOpen, dbgClosing := b.trust.dbgClosing }
    pwr := { z.pwr with phase := b.pwr.phase, t0 := b.pwr.t0, tp := ns b, rstLow := b.pwr.rstLow, strap := b.pwr.strap, aoValid := b.pwr.aoValid,
                        nextCause := b.pwr.nextCause }
    start := { z.start with warm := decide (cls = 1) }
    bio := { z.bio with ins := b.bio.ins.map (fun (x : BioIn) => { BioIn.init with pin := x.pin }) } }
  let z := { z with net := { z.net with ports := if cls = 1 then (List.range 15).map (keptPort b) else z.net.ports } }
  let z := { z with tim := { z.tim with step := b.tim.step } }
  let z := { z with twn := { z.twn with
    serves := if cls = 2 then [] else b.twn.serves.map (fun (x : Nat × Serve) => (x.1, { Serve.init with epoch := x.2.epoch })) } }
  let z := { z with mtr := { z.mtr with ao := b.mtr.ao } }
  z

/-- A reset with `cause` and `cls` (R150): every register and table returns to its reset value and every unit to its reset
state; memory keeps its content until the harrow of the start wipes it (R151); MRAM, flash, the enclave's MRAM and the
always-on domain keep theirs. -/
def doReset (cause cls : Nat) (b : Block) : Block :=
  resetBlock cls b |> keepRegs b (keptOf cls) |> cond (decide (cls = 2)) (fun b => b |> wr R.TWN_EPOCH 0 |> wr R.MTR_GAPCNT 0)
    |> fset F.SYS_RSTCAUSE_cause cause |> fset F.SYS_RSTCAUSE_class cls |> fset F.SYS_RSTCAUSE_origcause cause
    |> fset F.SYS_RSTCAUSE_prevstep (prevStep b)
    |> fset F.STL_STAT_cause cause |> fset F.STL_STAT_class cls
    |> fset F.SYS_STAT_lcs (lcs b)
    |> fset F.PWR_STAT_side (if b.pwr.phase = .on ∧ b.pwr.rstLow = false then b2n b.pwr.strap else fget b F.PWR_STAT_side)
    |> fset F.PWR_STAT_rstpin (b2n (!b.pwr.rstLow))
    |> fset F.PWR_STAT_pwrok (b2n (b.pwr.phase == .on))

/-- Whether a save of the last gasp runs (R63). -/
def gaspBusy (b : Block) : Bool := b.pwr.saving || (fget b F.PWR_STAT_state != 0 && b.mtr.save.isSome)

/-- The class of a start by its cause where the reset has no class of its own: life-cycle for a tamper response, else cold (R150, R224). -/
def classOf (cause : Nat) : Nat := if cause = 0x0B then 2 else 0

/-- The start of a level 3 response (R224): at once; with the rails still rising, when they are up; with a save of the last gasp running,
after it. -/
def tamperStart (b : Block) : Block :=
  if gaspBusy b then { b with pwr := { b.pwr with deferred := .cold 0x0B } }
  else
    let b := doReset 0x0B 2 b
    if b.pwr.phase = .rising then { b with pwr := { b.pwr with nextCause := 0x0B } } else b

/-- Write the life-cycle state to STL and to the ledger header, raising EV_SYS_LCS (R166, R157, R623); the change clears the cells of
persisted leaves (R191). -/
def setLcs (v : Nat) (b : Block) : Block :=
  { b with key := { b.key with prod := { b.key.prod with cells := b.key.prod.cells.filter (fun c => decide (c.1 < 8)) } } }
    |> mput 0x1801000400 32 v |> mput 0x180100000D 1 v |> fset F.SYS_STAT_lcs v |> raise EV.SYS_LCS

end Sys2Proof.Machine
end

