-- ==== Sys2Proof/Machine/Mac.lean ====
section
/-! DEFINITION. The Ethernet MACs (R233–R261): links, reception checks, PAUSE, preemption verification and light-traffic
downshift. Port index m is the output index of R270: 0–11 P1–P12, 12 and 13 S1 and S2, 14 H. -/

namespace Sys2Proof.Machine

/-! ### Ports -/

/-- The state of port `m`. -/
def port (b : Block) (m : Nat) : Port := b.net.ports.getD m Port.init

/-- Change the state of port `m`. -/
def modPort (m : Nat) (f : Port → Port) (b : Block) : Block := { b with net := { b.net with ports := modAt Port.init b.net.ports m f } }

/-- Whether the link of port `m` is up; H has no link. -/
def linkUp (b : Block) (m : Nat) : Bool := m == 14 || fon b (F.MAC_STAT_link m)

/-- Picoseconds per bit of a rate code of MAC_STAT.rate (R254). -/
def psPerBit (r : Nat) : Nat :=
  match r with | 1 => 40 | 2 => 100 | 3 => 400 | 4 => 1000 | 5 => 10000 | 6 => 100000 | _ => 10

/-- Rate code of port `m`. -/
def rateOf (b : Block) (m : Nat) : Nat := if m = 14 then 7 else fget b (F.MAC_STAT_rate m)

/-- Wire time in ns, with preamble and SFD, of `n` bytes at port `m`, rounded up. -/
def wireNs (b : Block) (m n : Nat) : Nat := ceilDiv ((n + 8) * 8 * psPerBit (rateOf b m)) 1000

/-- The time in ns that `n` bytes take on the wire of port `m`, rounded up. -/
def bytesNs (b : Block) (m n : Nat) : Nat := ceilDiv (n * 8 * psPerBit (rateOf b m)) 1000

/-- Bytes after the preamble that port `m` has sent by now of the frame or fragment that began at `Port.txFrom`. -/
def sentBytes (b : Block) (m : Nat) : Nat :=
  (ns b - (port b m).txFrom) * 1000 / (8 * psPerBit (rateOf b m)) - 8

/-- The frame that port `m` is transmitting now. -/
def sending (b : Block) (m : Nat) : Option QFrame := if ns b < (port b m).txEnd then (port b m).cur else none

/-- Take `n` back from a counter that counted it too early. -/
def uncount (a n : Nat) (b : Block) : Block := if rd b a < n then b else wr a (rd b a - n) b

/-- MAXLEN of port `m`: fixed at 2,048 on H and on the span lanes (R237, R260). -/
def maxLen (b : Block) (m : Nat) : Nat := if 12 ≤ m then 2048 else cfg b (F.MAC_PORTCFG_maxlen m)

/-- The mode in force on port `m`: 1 on the span lanes (R260), that of before a warm start until the first swap (R155). -/
def portMode (b : Block) (m : Nat) : Nat :=
  if m = 12 ∨ m = 13 then 1 else match (port b m).kept with | some x => x.1 | none => cfg b (F.MAC_PORTCFG_mode m)

/-- The FEC in force on port `m`. -/
def portFec (b : Block) (m : Nat) : Nat := match (port b m).kept with | some x => x.2 | none => cfg b (F.MAC_PORTCFG_fec m)

/-- The start has brought port `m` up: P1–P4 at S06, the others and the span lanes at S13 (R37, R154). -/
def portUp (b : Block) (m : Nat) : Bool := isUp b (if m < 4 then 6 else 13)

/-- Add to a 64-bit counter pair. -/
def oct (a n : Nat) (b : Block) : Block := wr64 a (rd64 b a + n) b

/-- The frames of output `o` in class `c`, oldest first. -/
def queueOf (b : Block) (o c : Nat) : List QFrame := sget (fun _ => []) b.net.queues (8 * o + c)

/-- Set the queue of output `o` and class `c`. -/
def setQueue (o c : Nat) (l : List QFrame) (b : Block) : Block :=
  { b with net := { b.net with queues := sset (fun _ => []) b.net.queues (8 * o + c) l } }

/-- Cells that a frame of `n` bytes occupies (R271). -/
abbrev cellsOf (n : Nat) : Nat := ceilDiv n 256

/-! ### Links -/

/-- The frame cut through to output `m` is cut off there (R284). -/
def cutGone (m : Nat) (b : Block) : Block :=
  { b with net := { b.net with ct := b.net.ct.map (fun x => if x.2.1 = m then (x.1, m, true) else x) } }

/-- Mark the stamp of a frame that is preempted (R318). -/
def stampFrag (o : Nat) (q : QFrame) (b : Block) : Block :=
  match q.stampId with
  | none => b
  | some id => { b with txq := b.txq.map (fun e => if e.id = id ∧ e.out = o then { e with flags := 1 } else e) }

/-- Whether class `c` is express at output `o` (R247). -/
def isExpress (b : Block) (o c : Nat) : Bool := decide (o < 12) && bitOf (cfg b (F.MAC_PREEMPT_express o)) c

/-- A frame cut off on the wire is not a frame transmitted: MAC_TXOK and MAC_TXOCT, which counted it when it began, give it
back; a frame that is cut through counts there only at its end (R284, R291). -/
def cutShort (m : Nat) (x : Option QFrame) (b : Block) : Block :=
  match x with
  | some q =>
    if q.noRing then b
    else
      let n := max 64 q.f.len
      let oct := rd64 b (R.MAC_TXOCT_LO m)
      b |> uncount (R.MAC_TXOK m) 1 |> cond (decide (n ≤ oct)) (wr64 (R.MAC_TXOCT_LO m) (oct - n))
  | none => b

/-- Empty the queues of port `m`; the frames in them, the one on the wire and a preempted remainder count in TXLINKDROP, and
the one on the wire is cut off (R239, R291). -/
def flushPort (m : Nat) (b : Block) : Block :=
  let n := ((List.range 8).map (fun c => (queueOf b m c).length)).sum
  let cur := sending b m
  let rest := (port b m).rest
  b |> cond cur.isSome (emit (.txEnd m (sentBytes b m) none)) |> cutShort m cur |> cutShort m rest
    |> each (fun c b => setQueue m c [] b) (List.range 8) |> cntN (R.MAC_TXLINKDROP m) (n + b2n cur.isSome + b2n rest.isSome)
    |> modPort m (fun p => { p with cur := none, rest := none, restNs := 0, txEnd := 0, drr := [0, 0, 0, 0, 0] }) |> cutGone m

/-- End a pause and account the time held (R246). -/
def endPause (m t : Nat) (b : Block) : Block :=
  let p := port b m
  if p.pauseEnd.isNone then b
  else b |> cntN (R.MAC_PAUSEDUS m) ((t - p.holdFrom) / 1000) |> fset (F.MAC_STAT_paused m) 0
    |> modPort m (fun p => { p with pauseEnd := none })

/-- A span lane whose link has gone is down (R516). -/
def laneDown (m : Nat) (b : Block) : Block :=
  let f := if m = 12 then F.TWN_STAT_lane1 else F.TWN_STAT_lane2
  if !fon b f then b
  else { b with twn := if m = 12 then { b.twn with lane1At := none } else { b.twn with lane2At := none } } |> fset f 0 |> raise EV.TWN_LANE

/-- Take the link of port `m` down (R239, R246). -/
def takeDown (m : Nat) (b : Block) : Block :=
  if !fon b (F.MAC_STAT_link m) then b
  else b |> endPause m (ns b) |> fset (F.MAC_STAT_link m) 0 |> fset (F.MAC_STAT_rate m) 0 |> fset (F.MAC_STAT_an m) 0
    |> fset (F.MAC_STAT_verify m) 0 |> fset (F.MAC_STAT_pactive m) 0 |> flushPort m
    |> modPort m (fun p => { p with verAt := none, winOk := false }) |> raise (EV.MAC m 1) |> cond (decide (12 ≤ m)) (laneDown m)

/-- Restart verification of preemption (R248). -/
def verifyStart (m : Nat) (b : Block) : Block :=
  if 12 ≤ m ∨ !cfgOn b (F.MAC_PREEMPT_en m) then
    b |> fset (F.MAC_STAT_verify m) 0 |> fset (F.MAC_STAT_pactive m) 0 |> modPort m (fun p => { p with verAt := none })
  else if cfgOn b (F.MAC_PREEMPT_vdis m) then
    b |> fset (F.MAC_STAT_verify m) 0 |> fset (F.MAC_STAT_pactive m) 1 |> modPort m (fun p => { p with verAt := none })
  else
    let t := ns b + cfg b (F.MAC_PREEMPT_verifyms m) * 1000000
    b |> fset (F.MAC_STAT_verify m) 1 |> fset (F.MAC_STAT_pactive m) 0 |> emit (.verify m)
      |> modPort m (fun p => { p with verTries := 1, verAt := some t })

/-- Whether rate code `r` belongs to the mode and step of port `m` (R233, R250). -/
def rateFits (b : Block) (m r : Nat) : Bool :=
  match portMode b m with
  | 1 => r == 1 | 2 => r == 2 | 3 => r == 3 + (port b m).goal | 4 => r == 4 | 5 => r == 5
  | 6 => decide (4 + (port b m).goal ≤ r ∧ r ≤ 6) | _ => false

/-- LINK_UP of port `m` at rate code `r`, once the start has brought the port up (R37, R54, R235, R248, R251). -/
def linkUpEv (m r : Nat) (b : Block) : Block :=
  if !portUp b m || fon b (F.MAC_STAT_link m) || fon b (F.MAC_CTL_txdis m) || fon b (F.MAC_STAT_halfdup m) || !rateFits b m r
    || (port b m).dropEnd.isSome then b
  else
    let g := (port b m).goal
    let w := (secOf b + 2) * 1000000000
    b |> fset (F.MAC_STAT_link m) 1 |> fset (F.MAC_STAT_rate m) r
      |> fset (F.MAC_STAT_an m) (b2n (decide (portMode b m = 3 ∨ portMode b m = 4 ∨ portMode b m = 6)))
      |> cond (fget b (F.MAC_STAT_dshift m) != 3) (fset (F.MAC_STAT_dshift m) (b2n (g != 0)))
      |> fset (F.MAC_STAT_dlevel m) g
      |> modPort m (fun p => { p with winRx := 0, winTx := 0, winOk := true, winEnd := w, failAt := none })
      |> verifyStart m |> raise (EV.MAC m 0)

/-- Advertise the highest rate that port `m` aims at: Clause 37 in modes 3 and 4, with symmetric PAUSE as MAC_PORTCFG.obey
says, the SGMII word in mode 6; the other modes negotiate nothing (R233, R234, R250). -/
def negotiate (m : Nat) (b : Block) : Block :=
  let md := portMode b m
  let g := (port b m).goal
  if md = 3 then emit (.advertise m (3 + g) (cfgOn b (F.MAC_PORTCFG_obey m))) b
  else if md = 4 then emit (.advertise m 4 (cfgOn b (F.MAC_PORTCFG_obey m))) b
  else if md = 6 then emit (.advertise m (4 + g) false) b
  else b

/-- LINK_DOWN (R239): the port negotiates again, at its present step when it is downshifted (R252). -/
def linkDownEv (m : Nat) (b : Block) : Block := if fon b (F.MAC_STAT_link m) then b |> takeDown m |> negotiate m else b

/-- Return to the configured rate after a failed downshift (R252). -/
def downshiftFail (m : Nat) (b : Block) : Block :=
  b |> takeDown m |> fset (F.MAC_STAT_dshift m) 3 |> fset (F.MAC_STAT_dlevel m) 0
    |> modPort m (fun p => { p with goal := 0, dropEnd := none, failAt := none, dsOff := true })
    |> negotiate m |> raise (EV.MAC m 4)

/-- SGMII_CONTROL_WORD: link, half duplex and the rate code the PHY reports (R234, R252). -/
def sgmiiWord (m : Nat) (up half : Bool) (r : Nat) (b : Block) : Block :=
  if portMode b m ≠ 6 then b
  else if half then b |> fset (F.MAC_STAT_halfdup m) 1 |> takeDown m |> raise (EV.MAC m 9)
  else
    let b := fset (F.MAC_STAT_halfdup m) 0 b
    if r < 4 + (port b m).goal then downshiftFail m b
    else if !up then takeDown m b
    else if fon b (F.MAC_STAT_link m) && fget b (F.MAC_STAT_rate m) != r then b |> takeDown m |> linkUpEv m r
    else linkUpEv m r b

/-! ### Verification -/

/-- VERIFY_INTERVAL (R248). -/
def verifyInterval (m : Nat) (b : Block) : Block :=
  match (port b m).verAt with
  | none => b
  | some t =>
    let b := advanceTo t b
    if (port b m).verTries < 3 then
      let t' := t + cfg b (F.MAC_PREEMPT_verifyms m) * 1000000
      b |> emit (.verify m) |> modPort m (fun p => { p with verTries := p.verTries + 1, verAt := some t' })
    else b |> modPort m (fun p => { p with verAt := none }) |> fset (F.MAC_STAT_verify m) 3 |> raise (EV.MAC m 6)

/-- VERIFY_RESPONSE (R248). -/
def verifyResponse (m : Nat) (b : Block) : Block :=
  if fget b (F.MAC_STAT_verify m) ≠ 1 then b
  else b |> modPort m (fun p => { p with verAt := none }) |> fset (F.MAC_STAT_verify m) 2 |> fset (F.MAC_STAT_pactive m) 1
    |> raise (EV.MAC m 5)

/-! ### Downshift -/

/-- The step below the present rate of port `m`, if the configuration allows one (R250, R251). -/
def lowerStep (b : Block) (m : Nat) : Option Nat :=
  let p := port b m
  if decide (4 ≤ m ∧ m ≤ 11) && cfgOn b (F.MAC_PORTCFG_dshift m) && !cfgOn b (F.MAC_PORTCFG_prot m) && !p.dsOff && p.blockEnd.isNone then
    match portMode b m with
    | 3 => if p.goal = 0 then some 1 else none
    | 6 => if rateOf b m < 6 ∧ rateOf b m + 1 ≤ cfg b (F.MAC_DSHIFT_floor m) then some (rateOf b m + 1 - 4) else none
    | _ => none
  else none

/-- Re-advertise step `g` and hold the link down (R251). -/
def changeRate (m g : Nat) (b : Block) : Block :=
  let t := ns b + cfg b (F.MAC_DSHIFT_hold m) * 1000000
  b |> takeDown m |> fset (F.MAC_STAT_dshift m) 2 |> modPort m (fun p => { p with goal := g, dropEnd := some t }) |> negotiate m

/-- DOWNSHIFT_WINDOW_END: the one-second window of port `m` ends (R251). Utilisation is rounded down to 0.1 %. -/
def windowEnd (m : Nat) (b : Block) : Block :=
  let p := port b m
  if !p.winOk then b
  else
    let b := b |> advanceTo p.winEnd |> modPort m (fun p => { p with winRx := 0, winTx := 0, winEnd := p.winEnd + 1000000000 })
    let used (n : Nat) : Nat := n * 8 * psPerBit (rateOf b m)
    let u := max (used p.winRx) (used p.winTx)
    let b := wr (R.MAC_UTIL m) (used p.winTx / 1000000000 * 65536 + used p.winRx / 1000000000) b
    if u < 50 * 1000000000 ∧ (lowerStep b m).isSome then
      b |> cnt (R.MAC_DSHCNT m) |> changeRate m ((lowerStep b m).getD 0) |> raise (EV.MAC m 2)
    else if p.goal ≠ 0 ∧ 400 * 1000000000 < u then
      let e := ns b + 60000000000
      b |> changeRate m 0 |> modPort m (fun p => { p with blockEnd := some e }) |> raise (EV.MAC m 3)
    else b

/-- DOWNSHIFT_HOLD_END: the link drop of a rate change ends; LINK_UP then brings the link up at the rate advertised (R251), or the
10 s of R252 pass. -/
def holdEnd (m : Nat) (b : Block) : Block :=
  match (port b m).dropEnd with
  | none => b
  | some t =>
    let g := (port b m).goal
    b |> advanceTo t |> fset (F.MAC_STAT_dshift m) (b2n (g != 0)) |> fset (F.MAC_STAT_dlevel m) g
      |> modPort m (fun p => { p with dropEnd := none, failAt := if g = 0 then none else some (t + 10000000000) })

/-- DOWNSHIFT_FAIL: no link at the lower rate within 10 s of the end of the hold (R252). -/
def shiftTimeout (m : Nat) (b : Block) : Block :=
  match (port b m).failAt with
  | none => b
  | some t => if fon b (F.MAC_STAT_link m) then b else b |> advanceTo t |> downshiftFail m

/-- DOWNSHIFT_BLOCK_END: the 60 s after a restore end (R251). -/
def blockEnds (m : Nat) (b : Block) : Block :=
  match (port b m).blockEnd with
  | none => b
  | some t => b |> advanceTo t |> modPort m (fun p => { p with blockEnd := none })

/-! ### Reception -/

/-- Receive stamp of port `m` (R317). -/
def rxStamp (b : Block) (m : Nat) : Nat := if m < 12 then ns b - cfg b (F.PTP_PORTLAT_rxlat m) else ns b

/-- EV_MAC_STOMPRX, at most once per second (R238). -/
def stompEv (m : Nat) (b : Block) : Block := raiseSec (EV.MAC m 7) 0 [] b

/-- EV_MAC_RUNTOVS, at most once per second (R238). -/
def runtEv (m : Nat) (b : Block) : Block := raiseSec (EV.MAC m 8) 0 [] b

/-- Account a frame of `n` bytes to the utilisation window of port `m` (R251). -/
def useRx (m n : Nat) (b : Block) : Block :=
  if m < 12 then
    let now := ns b
    modPort m (fun p => if p.winEnd ≤ now + 1000000000 then { p with winRx := p.winRx + n + 20 } else p) b
  else b

/-- As `useRx`, for a frame sent. -/
def useTx (m n : Nat) (b : Block) : Block :=
  if m < 12 then
    let now := ns b
    modPort m (fun p => if p.winEnd ≤ now + 1000000000 then { p with winTx := p.winTx + n + 20 } else p) b
  else b

/-- The outcome of R237 on a frame. -/
inductive RxCheck where
  | runt | oversize | stomped | fcsErr | ok
  deriving DecidableEq, Repr

/-- The checks of R237 in their order. -/
def rxCheck (b : Block) (m : Nat) (f : Frame) : RxCheck :=
  if f.len ≤ 63 then .runt
  else if maxLen b m + 1 ≤ f.len then .oversize
  else if f.fcs = .stomped then .stomped
  else if f.fcs = .bad ∨ f.sym then .fcsErr
  else .ok

/-- Count the outcome of R237, and code errors whatever it is (R238, R256, R260). -/
def rxCount (m : Nat) (f : Frame) (c : RxCheck) (b : Block) : Block :=
  let span := decide (m = 12 ∨ m = 13)
  let b := cond f.sym (cnt (R.MAC_RXSYMERR m)) b
  match c with
  | .runt => if span then b else b |> cnt (R.MAC_RXRUNT m) |> runtEv m
  | .oversize => if span then b else b |> cnt (R.MAC_RXOVERSIZE m) |> runtEv m
  | .stomped => if span then b else b |> cnt (R.MAC_RXSTOMPED m) |> stompEv m
  | .fcsErr => cnt (R.MAC_RXFCSERR m) b
  | .ok => b |> cnt (R.MAC_RXOK m) |> oct (R.MAC_RXOCT_LO m) f.len

/-- The first instant from now at which the fragment that port `m` transmits may end: the fragment carries at least
64 × (1 + addfrag) − 4 bytes, and at least 64 bytes remain, which is what makes the longest wait that of 143 + 64n bytes (R249). -/
def fragPoint (b : Block) (m : Nat) : Option Nat :=
  let p := port b m
  let t := max (ns b) (p.txFrom + bytesNs b m (8 + 64 * (1 + cfg b (F.MAC_PREEMPT_addfrag m)) - 4))
  if t + bytesNs b m 64 ≤ p.txEnd then some t else none

/-- Preempt frame `q` on port `m` at instant `t`: the remainder waits, and the fragment ends with its 4-byte mCRC (R249). A frame
cut through is held from there on in cells of its class queue (R284). -/
def splitAt (m t : Nat) (q : QFrame) (b : Block) : Block :=
  let left := (port b m).txEnd - t
  let q' := if q.noRing then { q with cells := cellsOf (left * 1000 / (8 * psPerBit (rateOf b m))) } else q
  let e := t + bytesNs b m 4
  b |> modPort m (fun p => { p with cur := none, rest := some q', restNs := left, txEnd := e }) |> stampFrag m q

/-- Under a PAUSE, the fragment of a preemptable frame in transmission ends where preemption is active; the remainder waits (R246). -/
def endFragment (m : Nat) (b : Block) : Block :=
  match sending b m with
  | none => b
  | some q =>
    if !fon b (F.MAC_STAT_pactive m) || isExpress b m q.cls || (port b m).rest.isSome then b
    else match fragPoint b m with | some t => splitAt m t q b | none => b

/-- A PAUSE of `q` quanta received on port `m` (R243, R244, R246). -/
def pauseRx (m q : Nat) (b : Block) : Block :=
  let b := cnt (R.MAC_RXPAUSE m) b
  if !cfgOn b (F.MAC_PORTCFG_obey m) then b
  else if q = 0 then endPause m (ns b) b
  else
    let t := ns b + q * 512 * psPerBit (rateOf b m) / 1000
    let b := endFragment m b
    let p := port b m
    let busy := decide (ns b < p.txEnd)
    let h := if p.pauseEnd.isSome then p.holdFrom else if busy then p.txEnd else ns b
    b |> cond (!busy) (fset (F.MAC_STAT_paused m) 1) |> modPort m (fun p => { p with pauseEnd := some t, holdFrom := h })

/-- PAUSE_TIMER_EXPIRY (R243). -/
def pauseExpire (m : Nat) (b : Block) : Block :=
  match (port b m).pauseEnd with
  | none => b
  | some t => b |> advanceTo t |> endPause m t

/-- MAC control frames end here (R242); on H, which has no PAUSE, they are only counted. -/
def macControl (m : Nat) (f : Frame) (b : Block) : Block :=
  match f.body with
  | .macctl 1 q =>
    if f.dst = 0x0180C2000001 ∨ f.dst = b.part.mac then (if m = 14 then cnt (R.MAC_RXPAUSE 14) b else pauseRx m q b)
    else cnt (R.MAC_RXCTLUNK m) b
  | _ => cnt (R.MAC_RXCTLUNK m) b

/-- Put a frame among those accepted and not yet forwarded. -/
def pushRx (f : Frame) (cls inp stamp : Nat) (half mark : Bool) (pub : Nat) (sid : Option Nat) (noRing : Bool) (b : Block) : Block :=
  { b with net := { b.net with
      rx := b.net.rx ++ [⟨b.net.nextId, f, cls, inp, stamp, mark, pub, sid, noRing, cellsOf f.len, half⟩], nextId := b.net.nextId + 1 } }

/-- MAC_RECEIVE on port `m` (R237, R242, R249). On a span lane it is the MAC's account of a frame, whose content the rows of the
span link carry (R260). A code error with no frame around it, length 0, counts in MAC_RXSYMERR alone (R256). -/
def macReceive (m : Nat) (f : Frame) (b : Block) : Block :=
  if !linkUp b m || !portUp b m then b
  else if f.len = 0 then cond f.sym (cnt (R.MAC_RXSYMERR m)) b
  else
    let b := useRx m f.len b
    if f.asmErr then (if m < 12 then cnt (R.MAC_RXASMERR m) b else b)
    else
      let c := rxCheck b m f
      let b := rxCount m f c b
      if c ≠ .ok then b
      else if f.etype = 0x8808 then (if m < 12 then macControl m f b else b)
      else if m < 12 then pushRx f 0 m (rxStamp b m) (halfNs b) false 0x3FF none false b
      else b

/-- PAUSE_RECEIVE: a PAUSE frame of 64 bytes with time `q` (R242, R243). -/
def pauseReceive (m q : Nat) (b : Block) : Block :=
  macReceive m ⟨0x0180C2000001, 0, none, 0x8808, 64, .good, false, false, none, none, none, none, .macctl 1 q⟩ b

/-! ### Commands -/

/-- The counters of a MAC page (R256). -/
def macCounters (m : Nat) : List Nat :=
  [R.MAC_RXOK m, R.MAC_RXOCT_LO m, R.MAC_RXOCT_HI m, R.MAC_RXFCSERR m, R.MAC_RXRUNT m, R.MAC_RXOVERSIZE m, R.MAC_RXSTOMPED m,
   R.MAC_RXSYMERR m, R.MAC_RXPAUSE m, R.MAC_RXCTLUNK m, R.MAC_RXASMERR m, R.MAC_CSUMBADIP m, R.MAC_CSUMBADUDP m,
   R.MAC_CSUMSKIP m, R.MAC_TXOK m, R.MAC_TXOCT_LO m, R.MAC_TXOCT_HI m, R.MAC_TXOVERSIZE m, R.MAC_TXLINKDROP m,
   R.MAC_TXSTOMP m, R.MAC_TXFRAG m, R.MAC_PAUSEDUS m, R.MAC_DSHCNT m]

/-- MAC_CMD CLRCNT (R255). -/
def macClrcnt (m : Nat) (b : Block) : Nat × Block := (0, zeroRegs (macCounters m) b)

/-- MAC_CMD ANRESTART: the link goes down until negotiation completes again (R255). -/
def macAnrestart (m : Nat) (b : Block) : Nat × Block :=
  let md := portMode b m
  if m < 12 ∧ (md = 3 ∨ md = 4 ∨ md = 6) then (0, b |> takeDown m |> fset (F.MAC_STAT_an m) 0 |> negotiate m) else (0x10, b)

/-- MAC_CMD VERIFY (R255). -/
def macVerify (m : Nat) (b : Block) : Nat × Block :=
  if 12 ≤ m ∨ !cfgOn b (F.MAC_PREEMPT_en m) then (0x10, b) else (0, if linkUp b m then verifyStart m b else b)

/-! ### Swaps -/

/-- Whether a MAC shadow view breaks R259. -/
def macRefuses (b : Block) (m : Nat) : Bool :=
  let md := shd b (F.MAC_PORTCFG_mode m)
  let fec := shd b (F.MAC_PORTCFG_fec m)
  let ml := shd b (F.MAC_PORTCFG_maxlen m)
  let vm := shd b (F.MAC_PREEMPT_verifyms m)
  let h := shd b (F.MAC_DSHIFT_hold m)
  let fl := shd b (F.MAC_DSHIFT_floor m)
  let ds := shdOn b (F.MAC_PORTCFG_dshift m)
  (md != 0 && !bitOf (capOf b.part (0x10 + m)) md) || decide (ml < 1518 ∨ 2048 < ml) || decide (vm < 1 ∨ 128 < vm) ||
    decide (h < 1000 ∨ 3000 < h) || decide (fl < 4 ∨ 6 < fl) || (decide (3 ≤ md ∧ md ≤ 6) && fec != 0) || fec == 3 ||
    (ds && (shdOn b (F.MAC_PORTCFG_prot m) || decide (m < 4) || decide (md = 1 ∨ md = 2 ∨ md = 4 ∨ md = 5)))

/-- What a port's configuration was before a swap: mode, fec, obey, prot, dshift and PREEMPT. -/
def portBefore (b : Block) (m : Nat) : Nat × Nat × Bool × Bool × Bool × Nat :=
  (portMode b m, portFec b m, cfgOn b (F.MAC_PORTCFG_obey m), cfgOn b (F.MAC_PORTCFG_prot m),
    cfgOn b (F.MAC_PORTCFG_dshift m), cfgR b (R.MAC_PREEMPT m))

/-- What a swap does to port `m`, given its configuration before (R235, R246, R248, R252). -/
def portSwapped (m : Nat) (o : Nat × Nat × Bool × Bool × Bool × Nat) (b : Block) : Block :=
  let b := modPort m (fun p => { p with kept := none }) b
  let n := portBefore b m
  let b := if (port b m).dsOff ∧ n.2.2.2.2.1 then b |> modPort m (fun p => { p with dsOff := false }) |> fset (F.MAC_STAT_dshift m) 0 else b
  let b := if n.1 ≠ o.1 ∨ n.2.1 ≠ o.2.1 then
      b |> takeDown m |> fset (F.MAC_STAT_dshift m) 0 |> fset (F.MAC_STAT_dlevel m) 0 |> fset (F.MAC_STAT_halfdup m) 0
        |> modPort m (fun p => { p with goal := 0, dropEnd := none, failAt := none }) |> negotiate m
    else b
  let b := if o.2.2.1 ∧ !n.2.2.1 then endPause m (ns b) b else b
  let b := if (port b m).goal ≠ 0 ∧ (n.2.2.2.1 ∨ !n.2.2.2.2.1) then changeRate m 0 b else b
  if n.2.2.2.2.2 ≠ o.2.2.2.2.2 ∧ linkUp b m then verifyStart m b else b

end Sys2Proof.Machine
end

