-- ==== Sys2Proof/Machine/PtpWire.lean ====
section
/-! DEFINITION. What the PTP block does to frames as they start on a port: egress stamps of its own messages and the
transparent-clock correction of forwarded ones (R312, R313, R317). -/

namespace Sys2Proof.Machine

/-- A PTP port beyond its registers. -/
def ptpPort (b : Block) (o : Nat) : PtpPort := b.ptp.getD o PtpPort.init

/-- Change a PTP port. -/
def modPtp (o : Nat) (f : PtpPort → PtpPort) (b : Block) : Block := { b with ptp := modAt PtpPort.init b.ptp o f }

/-- clockIdentity: the module's own MAC with 0xFFFE after its third byte (R312). -/
def clockId (b : Block) : Nat := b.part.mac / 2 ^ 24 * 2 ^ 40 + 0xFFFE * 2 ^ 24 + b.part.mac % 2 ^ 24

/-- State of port `o` (R327). -/
def ptpState (b : Block) (o : Nat) : Nat := if o < 8 then fget b (F.PTP_PSTATE0_st o) else fget b (F.PTP_PSTATE1_st (o - 8))

/-- Whether PTP is enabled on port `o` in force. -/
def ptpOn (b : Block) (o : Nat) : Bool := decide (o < 12) && cfgOn b (F.PTP_PORTCFG_en o)

/-- Picoseconds from the start of a frame at output `o` to the start of its SFD. -/
def sfdPs (b : Block) (o : Nat) : Nat := 56 * psPerBit (rateOf b o)

/-- The transmit stamp of a frame that starts now at output `o`, ns and half-ns bit (R317). -/
def txTime (b : Block) (o : Nat) : Nat × Bool :=
  (ns b + sfdPs b o / 1000 + (if o < 12 then cfg b (F.PTP_PORTLAT_txlat o) else 0), decide (500 ≤ sfdPs b o % 1000))

/-- A PTP message as it leaves output `o`: an own Sync carries its egress stamp, an own Pdelay_Resp the turnaround, and a
forwarded Sync or Follow_Up of types 0–2 the residence time and the ingress port's mean link delay (R313). -/
def ptpWire (b : Block) (o : Nat) (q : QFrame) : Frame :=
  match q.f.body with
  | .ptp m =>
    let out := (txTime b o).1
    if m.srcId = clockId b then
      (match m.kind with
       | .sync => { q.f with body := .ptp { m with t := out } }
       | .pdelayResp => { q.f with body := .ptp { m with corr := m.corr + ((out : Int) - (m.t : Int)), t := 0 } }
       | _ => q.f)
    else if (m.kind = .sync ∨ m.kind = .followUp) ∧ cfg b F.PTP_CFG_type ≤ 2 ∧ ptpOn b q.inp = true ∧ ptpOn b o = true then
      let d := fget b (F.PTP_PDELAY_ns q.inp)
      { q.f with body := .ptp { m with corr := m.corr + ((out : Int) - (q.stamp : Int)) + (if d = 0xFFFFFFFF then 0 else (d : Int)) } }
    else q.f
  | _ => q.f

/-- Remember when an own Pdelay_Req leaves. -/
def ptpSent (o : Nat) (q : QFrame) (b : Block) : Block :=
  match q.f.body with
  | .ptp m => if m.srcId = clockId b ∧ m.kind = .pdelayReq then modPtp o (fun p => { p with pdSent := some (txTime b o).1 }) b else b
  | _ => b

end Sys2Proof.Machine
end

