-- ==== Sys2Proof/Machine/Switch.lean ====
section
/-! DEFINITION. The switch core and the redundancy unit (R270–R298): classification, forwarding, queues and quotas,
scheduling, cut-through on the ring, duplicate discard, and their commands. -/

namespace Sys2Proof.Machine

/-! ### Redundant pairs -/

/-- Kind of pair `i` in force (R286). -/
def pairKind (b : Block) (i : Nat) : Nat := cfg b (F.PRP_PAIR_w0_kind i)

/-- Port a and port b of pair `i`. -/
def pairA (b : Block) (i : Nat) : Nat := cfg b (F.PRP_PAIR_w0_porta i)
/-- Port b of pair `i`. -/
def pairB (b : Block) (i : Nat) : Nat := cfg b (F.PRP_PAIR_w0_portb i)

/-- The active pair that port `m` belongs to. -/
def pairOf (b : Block) (m : Nat) : Option Nat :=
  if 12 ≤ m then none else (List.range 6).find? (fun i => pairKind b i != 0 && (pairA b i == m || pairB b i == m))

/-- Shared virtual MAC of the twin (R520). -/
def vmac (b : Block) : Nat := cfg b F.TWN_VMAC_LO_mac + cfg b F.TWN_VMAC_HI_mac * 2 ^ 32

/-- Marked frames go to both ports (R289, R518). -/
def bothLan (b : Block) : Bool :=
  let s := fget b F.TWN_STAT_state
  s == 0 || s == 4 || (s == 2 && (b.twn.joinFrom == 0 || b.twn.joinFrom == 4))

/-- The ports of a twin pair that a marked frame is sent on: port a, port b (R289, R518). -/
def markedPorts (b : Block) : Bool × Bool :=
  if fget b F.TWN_STAT_state = 2 ∧ b.twn.joinMute then (false, false)
  else if bothLan b then (true, true)
  else (!isY b, (isY b))

/-- The active HSR ring pair. -/
def ringPair (b : Block) : Option Nat := (List.range 6).find? (fun i => pairKind b i == 2)

/-! ### Duplicate discard -/

/-- The node entry of a source on a pair. -/
def findNode (b : Block) (i src : Nat) : Option Node := b.net.nodes.find? (fun n => n.pair == i && n.src == src)

/-- The remembered numbers of direction `d`. -/
def Node.dirRecs (n : Node) (d : Nat) : List SeqRec := sget (fun _ => []) n.recs d

/-- Whether sequence number `s` is remembered in direction `d` at `now` (R288). -/
def Node.remembers (n : Node) (d s now : Nat) : Bool := (n.dirRecs d).any (fun r => r.seq == s && decide (now < r.til))

/-- `x` is ahead of `y` by 1 to 32,767 in 16-bit modular order (R288). -/
def seqAhead (x y : Nat) : Bool := let k := (x + 65536 - y) % 65536; decide (1 ≤ k ∧ k ≤ 32767)

/-- Remember an accepted number until `til`: earlier ones that 256 later numbers have followed are dropped (R288). -/
def Node.accept (n : Node) (d s til : Nat) : Node :=
  let l := ((n.dirRecs d).map (fun r => if seqAhead s r.seq then { r with later := r.later + 1 } else r)).filter (fun r => decide (r.later < 256))
  let h := sget (fun _ => 65536) n.high d
  { n with recs := sset (fun _ => []) n.recs d (⟨s, til, 0⟩ :: l)
           high := if h = 65536 ∨ seqAhead s h then sset (fun _ => 65536) n.high d s else n.high }

/-- Whether an accepted number lies more than 255 behind the highest one (R288, R290). -/
def Node.outWin (n : Node) (d s : Nat) : Bool :=
  let h := sget (fun _ => 65536) n.high d
  h != 65536 && decide (255 < (h + 65536 - s) % 65536) && !seqAhead s h

/-- Store a node entry, replacing that of its source. -/
def putNode (n : Node) (b : Block) : Block :=
  { b with net := { b.net with nodes := n :: b.net.nodes.filter (fun m => !(m.pair == n.pair && m.src == n.src)) } }

/-- When an entry that receives a frame now is freed (R288). -/
def nodeTil (b : Block) : Nat := ns b + cfg b F.PRP_DDCFG_nodeforget * 1000000000

/-- A frame of a source that finds no free node entry (R288). -/
def nodeFull (b : Block) : Block := b |> cnt R.PRP_NODEFULL |> raise EV.PRP_NODEFULL

/-- Duplicate check of a frame of pair `i` with number `s` in the directions `ds`: in which of them it is accepted. The frame counts
once in each counter (R288). A frame `again` was judged before, in direction `ring`, when it was cut through: what it counted then
it does not count again. -/
def dupCheck (i src : Nat) (ds : List Nat) (s : Nat) (again : Option Nat) (b : Block) : List Nat × Block :=
  let til := ns b + cfg b F.PRP_DDCFG_forget * 1000000
  match findNode b i src with
  | none =>
    if 1024 ≤ b.net.nodes.length then (ds, if again.isSome then b else nodeFull b)
    else (ds, putNode (ds.foldl (fun n d => n.accept d s til) ⟨i, src, nodeTil b, [], []⟩) b)
  | some n =>
    let ok := ds.filter (fun d => !n.remembers d s (ns b))
    let late := ok.any (fun d => n.outWin d s) && !(match again with | some d => n.outWin d s | none => false)
    let b := putNode (ok.foldl (fun n d => n.accept d s til) { n with til := nodeTil b }) b
    let b := if ok.length < ds.length then cnt (R.PRP_DUPDROP i) b else b
    (ok, if late then b |> cnt (R.PRP_OUTWIN i) |> raiseSec EV.PRP_OUTWIN 0 [] else b)

/-- A supervision frame enters its source into the node table (R287); `counted` when the duplicate check found no room for it. -/
def supervisionRx (i src : Nat) (counted : Bool) (b : Block) : Block :=
  match findNode b i src with
  | some n => putNode { n with til := nodeTil b } b
  | none => if 1024 ≤ b.net.nodes.length then (if counted then b else nodeFull b) else putNode ⟨i, src, nodeTil b, [], []⟩ b

/-! ### Queues -/

/-- The copies that output `o` holds outside its queues: the one on the wire and a preempted remainder. -/
def onWire (b : Block) (o : Nat) : List QFrame := (sending b o).toList ++ (port b o).rest.toList

/-- Every frame copy in the switch: queued, in transmission, or preempted. -/
def allCopies (b : Block) : List QFrame := (b.net.queues.map (·.2)).flatten ++ ((List.range 15).map (onWire b)).flatten

/-- Cells in use: a frame stored once whatever the number of its copies, until the last one has been transmitted (R271). -/
def cellsUsed (b : Block) : Nat :=
  (((allCopies b).map (fun q => (q.id, q.cells))).eraseDups.map (·.2)).sum

/-- Occupancy of the queue of output `o` and class `c`, cells: each copy it holds, the one on the wire and a preempted remainder
included, is charged the cells of its stored frame (R271, R284). -/
def qocc (b : Block) (o c : Nat) : Nat :=
  ((queueOf b o c).map (·.cells)).sum + (((onWire b o).filter (fun q => q.cls == c)).map (·.cells)).sum

/-- Occupancy of instance `n` at the host port, cells (R272). -/
def instCells (b : Block) (n : Nat) : Nat :=
  ((List.range 8).map (fun c => ((queueOf b 14 c).filter (fun q => q.f.inst == some n)).map (·.cells) |>.sum)).sum

/-- What became of one copy of a frame at one output. -/
inductive Admit where
  | queued | quota | other
  deriving DecidableEq, Repr

/-- A quota drop (R285). -/
def qdrop (o c : Nat) (b : Block) : Block := b |> cnt (R.SWC_QDROP o c) |> raiseSec EV.SWC_QDROP 0 []

/-- Whether the host-port queue share of the frame's instance admits a copy at output `o` (R272, R455). -/
def shareAdmits (b : Block) (o : Nat) (q : QFrame) : Bool :=
  match q.f.inst with
  | some i => o != 14 || (instState b i == 2 && !fon b (F.VIM_ISTATE_overshare i) && decide (instCells b i + q.cells ≤ shareW b i 0 % 2 ^ 17))
  | none => true

/-- Admission of one copy at output `o` (R239, R271, R272, R455); a frame over its instance's share is a class 4 error of the instance
(R110). `room` tells whether free cells suffice (R273). -/
def offer (room : Bool) (o : Nat) (q : QFrame) (b : Block) : Admit × Block :=
  let n := q.cells
  if !linkUp b o then (.other, cnt (R.MAC_TXLINKDROP o) b)
  else
    if !shareAdmits b o q then (.other, match q.f.inst with | some i => b |> cnt (sp i 0x1E 0x108) |> instErr 0x1E i 4 0 0 | none => b)
    else if cfg b (F.SWC_QUOTA_cells o q.cls) < qocc b o q.cls + n then (.quota, qdrop o q.cls b)
    else if !room then (.other, qdrop o q.cls b)
    else (.queued, setQueue o q.cls (queueOf b o q.cls ++ [q]) b)

/-- Whether a copy would pass its link, its share and its quota, for the judgement of R273. -/
def wouldAdmit (b : Block) (o : Nat) (q : QFrame) : Bool :=
  linkUp b o && shareAdmits b o q && decide (qocc b o q.cls + q.cells ≤ cfg b (F.SWC_QUOTA_cells o q.cls))

/-- Queue the copies of a frame at their outputs (R285). -/
def enqueueAll (room : Bool) : List (Nat × QFrame) → Block → List Admit × Block
  | [], b => ([], b)
  | (o, q) :: l, b =>
    let (x, b) := offer room o q b
    let (xs, b) := enqueueAll room l b
    (x :: xs, b)

/-- Queue a frame's copies and count a delivery beside which a copy was dropped, for whatever reason (R273, R285). -/
def enqueue (l : List (Nat × QFrame)) (b : Block) : Block :=
  let need := (l.filter (fun x => wouldAdmit b x.1 x.2)).map (fun x => x.2.cells)
  let room := match need with | [] => true | n :: _ => decide (cellsUsed b + n ≤ 98304)
  let b := if room then b else cnt R.SWC_NOCELL b
  let (r, b) := enqueueAll room l b
  if r.any (fun x => x != .queued) && r.contains .queued then b |> cnt R.SWC_PARTIALMC |> raiseSec EV.SWC_PARTIALMC 0 [] else b

/-! ### Classification and lookup -/

/-- The class of a frame received at input `i` (R274). -/
def classify (b : Block) (i : Nat) (f : Frame) : Nat :=
  match (List.range 8).find? (fun k => cfgOn b (F.SWC_ETCLS_en k) && cfg b (F.SWC_ETCLS_etype k) == f.etype) with
  | some k => cfg b (F.SWC_ETCLS_cls k)
  | none => match f.tag with
    | some (p, _) => cfg b (F.SWC_PCPMAP_cls i p)
    | none => cfg b (F.SWC_PORTCFG_dclass i)

/-- VID of a frame at input `i` (R275 step 1). -/
def vidOf (b : Block) (i : Nat) (f : Frame) : Nat :=
  match f.tag with | some (_, v) => if v = 0 then cfg b (F.SWC_PORTCFG_pvid i) else v | none => cfg b (F.SWC_PORTCFG_pvid i)

/-- Word `w` of the VLAN entry of `v` in force. -/
def vlanW (b : Block) (v w : Nat) : Nat := if v = 0 ∨ 4095 ≤ v then 0 else tact b 0x20 0 v w

/-- The bucket of a VID and MAC (R276). -/
def fdbBucket (v m : Nat) : Nat := Config.fdbHash v m % 2048

/-- The slot of a VID and MAC in the forwarding database. -/
def fdbFind (b : Block) (v m : Nat) : Option (Nat × FdbEnt) :=
  b.net.fdb.find? (fun e => e.1 / 8 == fdbBucket v m && e.2.mac == m && e.2.vid == v)

/-- Store an entry at a slot. -/
def fdbPut (s : Nat) (e : FdbEnt) (b : Block) : Block :=
  { b with net := { b.net with fdb := (s, e) :: b.net.fdb.filter (fun x => x.1 != s) } }

/-- Remove the entry at a slot. -/
def fdbDel (s : Nat) (b : Block) : Block := { b with net := { b.net with fdb := b.net.fdb.filter (fun x => x.1 != s) } }

/-- The ways of a bucket. -/
def fdbWays (k : Nat) : List Nat := (List.range 8).map (fun j => 8 * k + j)

/-- The entry at a slot. -/
def fdbAt (b : Block) (s : Nat) : Option FdbEnt := (b.net.fdb.find? (fun e => e.1 == s)).map (·.2)

/-- Learn a source MAC and VID against input `i` (R276). -/
def learn (v m i : Nat) (b : Block) : Block :=
  match fdbFind b v m with
  | some (s, e) => if e.static then b else fdbPut s { e with mask := 2 ^ i, seen := ns b } b
  | none =>
    match (fdbWays (fdbBucket v m)).find? (fun s => (fdbAt b s).isNone) with
    | some s => fdbPut s ⟨m, v, 2 ^ i, false, ns b⟩ b
    | none => b |> cnt R.SWC_LEARNFULL |> raiseSec EV.SWC_LEARNFULL 0 []

/-- A frame from an address keeps its learned entry from ageing, whether or not this frame is one to learn from (R276). -/
def fdbSeen (v m : Nat) (b : Block) : Block :=
  match fdbFind b v m with
  | some (s, e) => fdbPut s { e with seen := ns b } b
  | none => b

/-- Start the 1 ms window of the present instant when it is a new one (R278). -/
def filterWindow (b : Block) : Block :=
  if b.net.filtWin = ns b / 1000000 then b else { b with net := { b.net with filtWin := ns b / 1000000, filtCnt := [] } }

/-- Word `w` of stream filter `k` in force. -/
def filtW (b : Block) (k w : Nat) : Nat := tact b 0x20 3 k w

/-- Whether filter `k` matches a frame (R278). -/
def filtHit (b : Block) (k i v : Nat) (f : Frame) : Bool :=
  let w1 := filtW b k 1
  let im := filtW b k 2 % 2 ^ 15
  bitOf w1 31 && (filtW b k 0 + w1 % 65536 * 2 ^ 32 == f.dst) && bitsOf w1 27 16 == v && (im == 0 || bitOf im i)

/-- The stream filter on a frame: whether it passes (R278). -/
def streamFilter (i v : Nat) (f : Frame) (b : Block) : Bool × Block :=
  match (List.range 512).find? (fun k => filtHit b k i v f) with
  | none => (true, b)
  | some k =>
    let b := filterWindow b
    let n := sget (fun _ => 0) b.net.filtCnt k + 1
    let b := { b with net := { b.net with filtCnt := sset (fun _ => 0) b.net.filtCnt k n } }
    let maxl := bitsOf (filtW b k 2) 27 16
    let lim := filtW b k 3 % 65536
    if (maxl ≠ 0 ∧ maxl < f.len) ∨ (lim ≠ 0 ∧ lim < n) then
      let d := min 0xFFFF (sget (fun _ => 0) b.net.filtDrop k + 1)
      let b := { b with net := { b.net with filtDrop := sset (fun _ => 0) b.net.filtDrop k d } }
      (false, b |> cnt (R.SWC_FILTDROP i) |> raiseSec EV.SWC_FILTER k [])
    else (true, b)

/-- The port mask that step 4 of R275 gives. -/
def destMask (b : Block) (v : Nat) (f : Frame) : Nat :=
  let w0 := vlanW b v 0
  let w1 := vlanW b v 1
  let flood := w0 % 2 ^ 15
  if f.dst = 0xFFFFFFFFFFFF then flood
  else match fdbFind b v f.dst with
    | some (_, e) => e.mask
    | none => if bitOf f.dst 40 then (if bitOf w1 3 then flood else 0) else (if bitOf w1 2 then flood else 0)

/-- The outputs whose bit is set in a mask. -/
def maskOuts (m : Nat) : List Nat := (List.range 15).filter (fun o => bitOf m o)

/-- The frame as it leaves output `o`: its tag removed where the VLAN says so (R275). -/
def egressTag (b : Block) (v o : Nat) (f : Frame) : Frame :=
  if o ≠ 14 ∧ bitOf (bitsOf (vlanW b v 0) 30 16) o ∧ f.tag.isSome then { f with tag := none, len := f.len - 4 } else f

/-! ### The redundancy unit -/

/-- Advance the pair sequence number and answer the one to use (R287). -/
def takeSeq (i : Nat) (b : Block) : Nat × Block :=
  let s := fget b (F.PRP_TXSEQ_seq i)
  (s, fset (F.PRP_TXSEQ_seq i) (s + 1) b)

/-- Advance the twin sequence number and answer the one to use (R289). -/
def takeTwin (i : Nat) (b : Block) : Nat × Block :=
  let s := fget b (F.PRP_TXSEQ_twin i)
  (s, fset (F.PRP_TXSEQ_twin i) (s + 1) b)

/-- A divergence of `kind` at sheaf `k` with its channel or entry (R522). -/
def diverge (kind k item : Nat) (b : Block) : Block :=
  b |> cnt (R.TWN_DIVCNT (kind - 1)) |> wr R.TWN_DIVLAST (kind * 2 ^ 28 + item % 4096) |> wr64 R.TWN_DIVIDX_LO k
    |> raiseSec EV.TWN_DIVERGE kind (leBytes 4 kind ++ leBytes 8 k ++ leBytes 4 item)

/-- Whether divergences of kinds 3 and 4 count for publication entry `item`, which neither twin may suppress (R522, R523). -/
def countsDiv (b : Block) (item : Nat) : Bool :=
  agreed b && !b.twn.suppress.contains item && !b.twn.unsynced.any (fun x => x.1 == item) && decide (rd64 b R.TWN_JOINIDX_LO + 16 ≤ rd64 b R.ALN_CURIDX_LO)

/-- Compare an own record with the peer's (R522 kind 3). -/
def compareRecs (x y : FrameRec) (b : Block) : Block :=
  if (x.item = y.item ∧ x.digest = y.digest) ∨ countsDiv b x.item = false then b else diverge 3 (rd64 b R.ALN_CURIDX_LO) x.item b

/-- Record a marked frame emitted with twin sequence number `s` (R521). -/
def twinRecord (s item : Nat) (f : Frame) (b : Block) : Block :=
  if !agreed b then b
  else
    let r : FrameRec := ⟨s, item, Config.frameDigest f⟩
    match b.twn.precs.find? (fun x => x.1.seq == s) with
    | some x => compareRecs r x.1 { b with twn := { b.twn with precs := b.twn.precs.filter (fun x => x.1.seq != s), recs := b.twn.recs ++ [⟨r, ns b, false, true⟩] } }
    | none => { b with twn := { b.twn with recs := b.twn.recs ++ [⟨r, ns b, false, false⟩] } }

/-- One port of a PRP pair is down: the other sends alone, and nothing is lost (R290). -/
def lanCopies (b : Block) (l : List (Nat × QFrame)) : List (Nat × QFrame) :=
  if l.length = 2 ∧ (l.any (fun x => linkUp b x.1)) = true then l.filter (fun x => linkUp b x.1) else l

/-- The copies of a frame from H with VID `v` on pair `i`, each with its tag as its own port sends it (R275, R287, R289); a
suppressed publication only advances the twin sequence (R523). -/
def pairCopies (v i : Nat) (q : QFrame) (b : Block) : List (Nat × QFrame) × Block :=
  let pa := pairA b i
  let pb := pairB b i
  let out (p : Nat) (f : Frame → Frame) : Nat × QFrame := (p, { q with f := let g := egressTag b v p q.f; f { g with len := g.len + 6 } })
  if pairKind b i = 2 then
    let (s, b) := takeSeq i b
    let c (p path : Nat) : Nat × QFrame := out p (fun f => { f with hsr := some (s, path) })
    ([c pa 0, c pb 1], b)
  else
    let c (s p lan src : Nat) : Nat × QFrame := out p (fun f => { f with src := src, rct := some (s, lan, true) })
    if q.mark && pairKind b i == 3 then
      let (s, b) := takeTwin i b
      if b.twn.suppress.contains q.pub then ([], b)
      else
      let (ua, ub) := markedPorts b
      let b := twinRecord s q.pub { (egressTag b v (if isY b then pb else pa) q.f) with src := vmac b } b
      (lanCopies b <| (if ua then [c s pa 0xA (vmac b)] else []) ++ (if ub then [c s pb 0xB (vmac b)] else []), b)
    else
      let (s, b) := takeSeq i b
      (lanCopies b [c s pa 0xA q.f.src, c s pb 0xB q.f.src], b)

/-- The copies of a frame at the outputs `outs`: an output of a pair stands for both its ports, once (R279, R287). -/
def copiesAt (v : Nat) (q : QFrame) : List Nat → List Nat → Block → List (Nat × QFrame) × Block
  | [], _, b => ([], b)
  | o :: l, done, b =>
    match pairOf b o with
    | none =>
      let (r, b) := copiesAt v q l done b
      ((o, { q with f := egressTag b v o q.f }) :: r, b)
    | some i =>
      if done.contains i then copiesAt v q l done b
      else
        let (c, b) := pairCopies v i q b
        let (r, b) := copiesAt v q l (i :: done) b
        (c ++ r, b)

/-- What the redundancy unit lets pass of a received frame: a copy toward H, a copy for the other ring port (R286–R289). -/
structure PairRx where
  toH : Option Frame
  ring : Option (Nat × Frame)
  deriving DecidableEq, Repr

/-- PRP receive (R287, R288). -/
def prpRx (i m : Nat) (f : Frame) (b : Block) : PairRx × Block :=
  if pairKind b i = 3 ∧ f.src = vmac b then (⟨none, none⟩, cnt (R.PRP_OWNSRC i) b)
  else match f.rct with
    | some (s, lan, true) =>
      let b := if (m = pairA b i ∧ lan = 0xB) ∨ (m = pairB b i ∧ lan = 0xA) then b |> cnt (R.PRP_LANERR i) |> raiseSec EV.PRP_LANERR 0 [] else b
      let (ok, b) := dupCheck i f.src [0] s none b
      (⟨if ok.contains 0 then some { f with rct := none, len := f.len - 6 } else none, none⟩, b)
    | _ => (⟨some f, none⟩, cnt (R.PRP_NORCT i) b)

/-- HSR receive (R287, R288). `noRing`: the ring copy has been cut through already. -/
def hsrRx (i m : Nat) (noRing : Bool) (f : Frame) (b : Block) : PairRx × Block :=
  if f.src = b.part.mac then (⟨none, none⟩, cnt (R.PRP_OWNSRC i) b)
  else match f.hsr with
    | none => (⟨some f, none⟩, cnt (R.PRP_NORCT i) b)
    | some (s, _) =>
      let alone := f.dst == b.part.mac
      let other := if m = pairA b i then pairB b i else pairA b i
      let dir := if other = pairA b i then 1 else 2
      let ds := (if alone || bitOf f.dst 40 then [0] else []) ++ (if alone || noRing then [] else [dir])
      let (ok, b) := dupCheck i f.src ds s (if noRing then some dir else none) b
      let h := ok.contains 0
      let r := ok.contains dir
      let b := if r then cnt (R.PRP_RINGFWD i) b else b
      (⟨if h then some { f with hsr := none, len := f.len - 6 } else none, if r then some (other, f) else none⟩, b)

/-- A received frame at the redundancy unit of its input, if it has one (R286): a supervision frame goes through the same checks and
round the ring, and is consumed where another frame would go to H (R287). -/
def redundancyRx (q : QFrame) (b : Block) : PairRx × Block :=
  match pairOf b q.inp with
  | none => (⟨some q.f, none⟩, b)
  | some i =>
    let (r, b) := if pairKind b i = 2 then hsrRx i q.inp q.noRing q.f b else prpRx i q.inp q.f b
    match q.f.body, r.toH with
    | .supervision s, some _ => ({ r with toH := none }, supervisionRx i s (s == q.f.src && (q.f.rct.isSome || q.f.hsr.isSome)) b)
    | _, _ => (r, b)

/-! ### Forwarding -/

/-- Steps 1 to 5 of R275 for a frame at its input: the outputs that take it. -/
def forwardMask (i v : Nat) (f : Frame) (b : Block) : Nat × Block :=
  let w0 := vlanW b v 0
  if !bitOf w0 31 || !bitOf w0 i || (f.tag.isNone && cfgOn b (F.SWC_PORTCFG_tagonly i)) then (0, cnt (R.SWC_VLANDROP i) b)
  else
    let b := if fon b F.SWC_CTL_lrnen && bitOf (vlanW b v 1) 1 && cfgOn b (F.SWC_PORTCFG_learn i) && (pairOf b i).isNone
      then learn v f.src i b else fdbSeen v f.src b
    if 0x0180C2000000 ≤ f.dst ∧ f.dst ≤ 0x0180C200000F then
      (if i = 14 then (0, cnt (R.SWC_NODEST i) b) else (2 ^ 14, b))
    else
      let (pass, b) := streamFilter i v f b
      if !pass then (0, b)
      else
        let m := destMask b v f &&& (w0 % 2 ^ 15)
        let m := ((List.range 15).filter (fun o => bitOf m o && o != i && (i == 14 || (pairOf b o).isNone) && ((pairOf b i).isNone || o == 14))).map (fun o => 2 ^ o) |>.sum
        (m, if m = 0 then cnt (R.SWC_NODEST i) b else b)

/-- The output of the SPK's GOOSE: its twin PRP pair, or without one its PRP pair of kind 1 (R501). -/
def spkOut (b : Block) : Nat :=
  match (List.range 6).find? (fun i => pairKind b i == 3) with
  | some i => 2 ^ pairA b i
  | none => match (List.range 6).find? (fun i => pairKind b i == 1) with
    | some i => 2 ^ pairA b i
    | none => 0

/-- Forward one frame from its input (R275). -/
def forward (q : QFrame) (b : Block) : Block :=
  let i := q.inp
  let v := vidOf b i q.f
  let q := { q with cls := if i = 14 then q.cls else classify b i q.f }
  let (m, b) := if q.pub = 352 then (spkOut b, b) else forwardMask i v q.f b
  if m = 0 then b
  else
    let (l, b) := copiesAt v q (maskOuts m) [] b
    enqueue l b

/-- SWITCH_FORWARD: the oldest frame accepted at an input (R275, R286), once S06 has brought SWC and PRP up (R37, R154). -/
def switchForward (b : Block) : Block :=
  match b.net.rx with
  | [] => b
  | q :: l =>
    if !isUp b 6 then b
    else
    let b := { b with net := { b.net with rx := l } }
    let (r, b) := redundancyRx q b
    let b := match r.ring with
      | some (o, f) => enqueue [(o, { q with f := f, cls := classify b q.inp f })] b
      | none => b
    match r.toH with | some f => forward { q with f := f } b | none => b

/-! ### Cut-through -/

/-- Output `o` transmits a frame or holds the remainder of one, or a PAUSE holds class `c` there (R243, R245, R282). -/
def outputBusy (b : Block) (o c : Nat) : Bool :=
  let p := port b o
  (p.cur.isSome && decide (ns b < p.txEnd)) || p.rest.isSome ||
    (p.pauseEnd.isSome && !(cfgOn b (F.MAC_PORTCFG_etp o) && isExpress b o c))

/-- A frame of class `c` received earlier on port `m` is still on its way to the queues (R281). -/
def earlierRx (b : Block) (m c : Nat) : Bool := b.net.rx.any (fun q => q.inp == m && classify b m q.f == c)

/-- CUT_THROUGH: 64 bytes into a frame on ring port `m`, the conditions of R282 hold and it is cut through. -/
def cutThrough (m : Nat) (f : Frame) (b : Block) : Block :=
  match pairOf b m with
  | none => b
  | some i =>
    if pairKind b i ≠ 2 ∨ !portUp b m then b
    else
      let o := if m = pairA b i then pairB b i else pairA b i
      let dir := if o = pairA b i then 1 else 2
      let c := classify b m f
      match f.hsr with
      | none => b
      | some (s, _) =>
        let seen : Bool := match findNode b i f.src with
          | some n => n.remembers dir s (ns b) | none => false
        if f.len < 64 ∨ f.src = b.part.mac ∨ f.dst = b.part.mac ∨ seen ∨ outputBusy b o c ∨ !(queueOf b o c).isEmpty ∨ earlierRx b m c
          ∨ !linkUp b o ∨ !linkUp b m then b
        else
          let (_, b) := dupCheck i f.src [dir] s none b
          let q : QFrame := ⟨b.net.nextId, f, c, m, rxStamp b m, false, 0x3FF, none, true, 0, halfNs b⟩
          let t := ns b
          let e := t + wireNs b o (min f.len (maxLen b m))
          { b with net := { b.net with ct := (q, o, false) :: b.net.ct.filter (fun x => x.2.1 != o), nextId := b.net.nextId + 1 } }
            |> modPort o (fun p => { p with cur := some q, txEnd := e, txFrom := t }) |> cnt R.SWC_CTFWD |> cnt (R.PRP_RINGFWD i) |> emit (.tx o f)

/-- The stomp at egress after `n` bytes (R284). -/
def stomp (m o n : Nat) (b : Block) : Block :=
  b |> useTx o n |> cnt (R.MAC_TXSTOMP o) |> cnt R.SWC_CTSTOMP |> stompEv m |> emit (.txEnd o n (some .stomped))

/-- The frame cut through to output `o` is no longer on the wire there. -/
def cutOff (o : Nat) (q : QFrame) (b : Block) : Block :=
  let is (x : Option QFrame) : Bool := match x with | some y => y.id == q.id | none => false
  modPort o (fun p => { p with cur := if is p.cur then none else p.cur, rest := if is p.rest then none else p.rest }) b

/-- A frame cut through proves bad (R284): it ends stomped after `n` bytes at egress unless it was cut off there. -/
def cutBad (m o n : Nat) (q : QFrame) (gone : Bool) (b : Block) : Block :=
  if gone then b else b |> stomp m o n |> cutOff o q

/-- CUT_THROUGH_END: the frame cut through to output `o` ends at its input, or is cut off or preempted at its output (R284). -/
def cutEnd (o : Nat) (r : CtEnd) (b : Block) : Block :=
  match b.net.ct.find? (fun x => x.2.1 == o) with
  | none => b
  | some (q, _, gone) =>
    let m := q.inp
    let r := if r = .good ∧ maxLen b m < q.f.len then .oversize else r
    let b := if r = .linkDrop ∨ r = .preempted then b else useRx m q.f.len b
    let done (b : Block) : Block := { b with net := { b.net with ct := b.net.ct.filter (fun x => x.2.1 != o) } }
    match r with
    | .good =>
      let b := b |> cnt (R.MAC_RXOK m) |> oct (R.MAC_RXOCT_LO m) q.f.len |> done
      let b := if gone then b
        else
          let b := b |> useTx o q.f.len |> cnt (R.MAC_TXOK o) |> oct (R.MAC_TXOCT_LO o) q.f.len |> emit (.txEnd o q.f.len (some .good))
          if (port b o).rest.isSome then b else cutOff o q b
      pushRx q.f 0 m q.stamp q.half false 0x3FF none true b
    | .fcs => b |> cnt (R.MAC_RXFCSERR m) |> cutBad m o q.f.len q gone |> done
    | .stomped => b |> cnt (R.MAC_RXSTOMPED m) |> stompEv m |> cutBad m o q.f.len q gone |> done
    | .oversize => b |> cnt (R.MAC_RXOVERSIZE m) |> runtEv m |> cutBad m o (maxLen b m) q gone |> done
    | .code => b |> cnt (R.MAC_RXFCSERR m) |> cnt (R.MAC_RXSYMERR m) |> cutBad m o (sentBytes b o) q gone |> done
    | .linkDrop => if gone then b
      else b |> emit (.txEnd o (sentBytes b o) none) |> cnt (R.MAC_TXLINKDROP o) |> cutOff o q |> cutGone o
    | .preempted =>
      match sending b o with
      | some x => if x.id ≠ q.id then b else b |> cnt (R.MAC_TXFRAG o) |> splitAt o (ns b) q
      | none => b

/-! ### Transmission -/

/-- The frames of output `o` in class `c` that may leave: toward an instance only while it is RUNNING (R453). -/
def sendQ (b : Block) (o c : Nat) : List QFrame :=
  if o = 14 then (queueOf b o c).filter (fun q => match q.f.inst with | some n => instState b n == 2 | none => true) else queueOf b o c

/-- Deficit round robin over classes 4–0: the class served next, with at most `fuel` visits (R280). -/
def drrPick (b : Block) (o : Nat) (ok : Nat → Bool) : Nat → Nat → List Nat → Option (Nat × List Nat)
  | 0, _, _ => none
  | fuel + 1, c, d =>
    let next := if c = 0 then 4 else c - 1
    let give (d : List Nat) : List Nat := d.set next (d.getD next 0 + cfg b (F.SWC_WEIGHT_wc o next) * 2048)
    match sendQ b o c with
    | [] => drrPick b o ok fuel next (give (d.set c 0))
    | q :: l =>
      if ok c && decide (q.f.len ≤ d.getD c 0) then some (c, d.set c (if l.isEmpty then 0 else d.getD c 0 - q.f.len))
      else drrPick b o ok fuel next (give d)

/-- The class that output `o` serves next among those `ok` allows, with the deficits it leaves (R280). -/
def pickClass (b : Block) (o : Nat) (ok : Nat → Bool) : Option (Nat × List Nat) :=
  match [7, 6, 5].find? (fun c => ok c && !(sendQ b o c).isEmpty) with
  | some c => some (c, (port b o).drr)
  | none => drrPick b o ok 12 (port b o).drrAt (port b o).drr

/-- Take a transmit stamp (R318). -/
def txStamp (o id : Nat) (b : Block) : Block :=
  let (t, half) := txTime b o
  if b.txq.length < 64 then { b with txq := b.txq ++ [⟨t, half, id, o, 0⟩] }
  else
    let b := cnt R.TIM_TXQOVF b
    if fon b F.TIM_STAT_txqovf then b else b |> fset F.TIM_STAT_txqovf 1 |> raise EV.TIM_TXQOVF

/-- The check of R241 on a frame toward an on-die endpoint: whether it is delivered. -/
def hEgress (f : Frame) (b : Block) : Bool × Block :=
  let bad (a : Nat) (b : Block) : Block :=
    b |> cnt a |> (fun b => match f.inst with | some n => cnt (sp n 0x1E 0x10C) b | none => b)
  match f.ip with
  | none => (true, b)
  | some p =>
    if !p.hdrOk || !p.lenOk then (false, bad (R.MAC_CSUMBADIP 14) b)
    else if !p.frag && p.udp && p.udpSum == 0 then (false, bad (R.MAC_CSUMBADUDP 14) b)
    else (true, b)

/-- Start one frame at output `o`, padded to 64 bytes on a wire (R236, R238, R280, R318). -/
def startFrame (o : Nat) (q : QFrame) (b : Block) : Block :=
  if maxLen b o < q.f.len then cnt (R.MAC_TXOVERSIZE o) b
  else
    let n := max 64 q.f.len
    let t := ns b
    let e := t + wireNs b o n
    let q := if o = 14 then q else { q with f := { q.f with len := n } }
    if o = 14 then
      let (ok, b) := hEgress q.f b
      if !ok then b
      else b |> cnt (R.MAC_TXOK 14) |> oct (R.MAC_TXOCT_LO 14) n
        |> (fun b => match q.f.inst with | some i => cnt (sp i 0x1E 0x104) b | none => b) |> emit (.host q.f q.stamp q.half)
    else
      let b := b |> useTx o n |> cnt (R.MAC_TXOK o) |> oct (R.MAC_TXOCT_LO o) n
        |> modPort o (fun p => { p with cur := some q, txEnd := e, txFrom := t })
      let b := if o = 12 ∨ o = 13 then emit (.span (.tunnel q.f)) b else b |> ptpSent o q |> emit (.tx o (ptpWire b o q))
      match q.stampId with | some id => if o < 12 then txStamp o id b else b | none => b

/-- The occupancy of instance `n` first falls below its share (R461). -/
def clearOvershare (n : Nat) (b : Block) : Block :=
  if fon b (F.VIM_ISTATE_overshare n) ∧ instCells b n < shareW b n 0 % 2 ^ 17 then fset (F.VIM_ISTATE_overshare n) 0 b else b

/-- Take the head of a class queue and start it. -/
def startClass (o c : Nat) (d : List Nat) (b : Block) : Block :=
  match sendQ b o c with
  | [] => b
  | q :: _ => b |> setQueue o c ((queueOf b o c).erase q)
    |> modPort o (fun p => { p with drr := d, drrAt := if 5 ≤ c then p.drrAt else c })
    |> (fun b => match q.f.inst with | some n => clearOvershare n b | none => b) |> startFrame o q

/-- The inter-frame gap of 12 bytes after the frame or fragment on output `o` has passed (R236, DESIGN CHOICE exactly 12, log entry 62). -/
def gapPassed (o : Nat) (b : Block) : Block := advanceTo ((port b o).txEnd + bytesNs b o 12) b

/-- OUTPUT_TRANSMIT at output `o` (R243–R249, R280): `preempt` when an express frame interrupts the frame in transmission at the
first point allowed, else the next frame starts when the present one and its gap have ended. -/
def outputTransmit (o : Nat) (preempt : Bool) (b : Block) : Block :=
  if !linkUp b o then b
  else
    let p := port b o
    let paused := p.pauseEnd.isSome && decide (o < 12)
    let etp := cfgOn b (F.MAC_PORTCFG_etp o)
    if preempt then
      match sending b o, fragPoint b o with
      | some q, some t =>
        if !fon b (F.MAC_STAT_pactive o) || isExpress b o q.cls || p.rest.isSome || (paused && !etp) then b
        else match pickClass b o (isExpress b o) with
          | none => b
          | some (c, d) => b |> cnt (R.MAC_TXFRAG o) |> splitAt o t q |> gapPassed o |> startClass o c d
      | _, _ => b
    else
      let b := if 0 < p.txEnd then b |> gapPassed o |> modPort o (fun p => { p with cur := none, txEnd := 0 }) else b
      let b := cond paused (fset (F.MAC_STAT_paused o) 1) b
      let ok (c : Nat) : Bool := !paused || (etp && isExpress b o c)
      match p.rest with
      | some q =>
        match pickClass b o (fun c => ok c && isExpress b o c) with
        | some (c, d) => startClass o c d b
        | none =>
          if paused then b
          else
            let t := ns b
            let e := t + bytesNs b o 8 + p.restNs
            modPort o (fun p => { p with cur := some q, rest := none, restNs := 0, txEnd := e, txFrom := t }) b
      | none =>
        match pickClass b o ok with
        | some (c, d) => startClass o c d b
        | none => b

/-! ### Host port -/

/-- The checksums requested of an endpoint's frame (R240): whether MAC_CSUMSKIP counts, and the frame with those computed. Another
protocol under a UDP request leaves the frame unchanged; a fragment still takes its header checksum. -/
def checksums (f : Frame) (ipReq udpReq : Bool) : Bool × Frame :=
  match f.ip with
  | none => (ipReq || udpReq, f)
  | some p =>
    if p.frag then (ipReq || udpReq, { f with ip := some { p with hdrOk := p.hdrOk || ipReq } })
    else if udpReq && !p.udp then (true, f)
    else (false, { f with ip := some { p with hdrOk := p.hdrOk || ipReq, udpSum := if udpReq then 1 else p.udpSum } })

/-- H_INGRESS: a frame from an on-die endpoint, with its class, the checksums it requests (IPv4 header, UDP), the ID of a
requested transmit stamp and the instance it comes from (R240, R274, R318). The endpoint supplies no FCS of its own; a frame above
2,048 bytes is OVERSIZE and a MAC control frame ends here (R237, R242, R260). -/
def hIngress (f : Frame) (cls : Nat) (ipReq udpReq : Bool) (sid inst : Option Nat) (mark : Bool) (pub : Nat) (b : Block) : Block :=
  let f := { f with fcs := .good, sym := false, asmErr := false }
  if maxLen b 14 < f.len then b |> cnt (R.MAC_RXOVERSIZE 14) |> runtEv 14
  else
    let (skip, f) := checksums f ipReq udpReq
    let b := b |> cond skip (cnt (R.MAC_CSUMSKIP 14)) |> cnt (R.MAC_RXOK 14) |> oct (R.MAC_RXOCT_LO 14) f.len
      |> (fun b => match inst with | some n => cnt (sp n 0x1E 0x100) b | none => b)
    if f.etype = 0x8808 then macControl 14 f b else pushRx f cls 14 (ns b) (halfNs b) mark pub sid false b

/-- H_INGRESS as a command: the endpoints outside the engines use H once S13 has brought it up (R37, R154). -/
def hostFrame (f : Frame) (cls : Nat) (ipReq udpReq : Bool) (sid inst : Option Nat) (b : Block) : Block :=
  if isUp b 13 then hIngress f cls ipReq udpReq sid inst false 0 b else b

/-! ### Commands and timed events -/

/-- FDB_AGEING: the oldest learned entry not seen for agesec seconds is removed at that instant (R276). -/
def fdbAge (b : Block) : Block :=
  let age := cfg b F.SWC_CFG_agesec
  let l := (b.net.fdb.filter (fun e => !e.2.static)).map (fun e => (e.2.seen, e.1))
  match l with
  | [] => b
  | x :: l =>
    if age = 0 then b
    else
      let m := l.foldl (fun m y => if y.1 < m.1 then y else m) x
      b |> advanceTo (m.1 + age * 1000000000) |> fdbDel m.2

/-- SWC_CMD TREAD of table `t` (R293). -/
def swcTread (t : Nat) (b : Block) : Nat × Block :=
  let k := fget b F.SWC_TIDX_idx
  let out (l : List Nat) (b : Block) : Block := tsetList (fun i v b => wr (R.SWC_TDATA i) v b) 0 l b
  match t with
  | 0 => if k = 0 ∨ 4095 ≤ k then (0x12, b) else (0, out [tshd b 0x20 0 k 0, tshd b 0x20 0 k 1, 0, 0] b)
  | 1 => if k = 0 ∨ 4095 ≤ k then (0x12, b) else (0, out [tact b 0x20 0 k 0, tact b 0x20 0 k 1, 0, 0] b)
  | 2 =>
    match fdbAt b k with
    | some e => (0, out [e.mac % 2 ^ 32, 2 ^ 31 + e.vid * 65536 + e.mac / 2 ^ 32, b2n (!e.static) * 2 ^ 17 + b2n e.static * 2 ^ 16 + e.mask,
        if e.static then 0 else min 0xFFF ((ns b - e.seen) / 1000000000)] b)
    | none => (0, out [0, 0, 0, 0] b)
  | 3 => if 512 ≤ k then (0x12, b) else (0, out [tshd b 0x20 3 k 0, tshd b 0x20 3 k 1, tshd b 0x20 3 k 2, tshd b 0x20 3 k 3 % 65536] b)
  | 4 => if 512 ≤ k then (0x12, b)
    else (0, out [tact b 0x20 3 k 0, tact b 0x20 3 k 1, tact b 0x20 3 k 2, tact b 0x20 3 k 3 % 65536 + sget (fun _ => 0) b.net.filtDrop k * 65536] b)
  | _ => (0x12, b)

/-- Insert or replace a forwarding entry by its key, or delete it (R276, R293). -/
def fdbWrite (b : Block) : Nat × Block :=
  let d (i : Nat) : Nat := rd b (R.SWC_TDATA i)
  let mac := d 0 + d 1 % 65536 * 2 ^ 32
  let vid := bitsOf (d 1) 27 16
  let e : FdbEnt := ⟨mac, vid, d 2 % 2 ^ 15, bitOf (d 2) 16, ns b⟩
  let put (s : Nat) (b : Block) : Nat × Block := (0, b |> fdbPut s e |> fset F.SWC_TIDX_idx s)
  match fdbFind b vid mac with
  | some (s, _) => if bitOf (d 1) 31 then put s b else (0, b |> fdbDel s |> fset F.SWC_TIDX_idx s)
  | none =>
    if !bitOf (d 1) 31 then (0, b)
    else
      let ways := fdbWays (fdbBucket vid mac)
      match ways.find? (fun s => (fdbAt b s).isNone) with
      | some s => put s b
      | none =>
        let old := ways.filterMap (fun s => (fdbAt b s).bind (fun x => if x.static then none else some (x.seen, s)))
        match old with
        | [] => (0x12, b)
        | x :: l => put (l.foldl (fun m y => if y.1 < m.1 then y else m) x).2 b

/-- SWC_CMD TWRITE of table `t` (R108, R118, R293). -/
def swcTwrite (t : Nat) (b : Block) : Nat × Block :=
  let k := fget b F.SWC_TIDX_idx
  let d (i : Nat) : Nat := rd b (R.SWC_TDATA i)
  let banked (ok : Bool) (f : Block → Block) : Nat × Block :=
    if !ok then (0x12, b)
    else if cfgLocked b 0x20 then (0x10, lockedWrite 0x20 b)
    else if shadowsFrozen b then (0x10, pendWrite 0x20 b)
    else (0, b |> f |> wr (pg 0x20 0x20) (rd b (pg 0x20 0x20) ||| 1))
  match t with
  | 0 => banked (decide (1 ≤ k ∧ k < 4095)) (fun b => b |> tsetShd 0x20 0 k 0 (d 0 &&& 0xFFFF7FFF) |> tsetShd 0x20 0 k 1 (d 1 &&& 0xF))
  | 1 => (0x11, b)
  | 2 => if cfgLocked b 0x20 then (0x10, lockedWrite 0x20 b) else fdbWrite b
  | 3 => banked (decide (k < 512)) (fun b => b |> tsetShd 0x20 3 k 0 (d 0) |> tsetShd 0x20 3 k 1 (d 1 &&& 0x8FFFFFFF)
      |> tsetShd 0x20 3 k 2 (d 2 &&& 0x0FFF7FFF) |> tsetShd 0x20 3 k 3 (d 3 &&& 0xFFFF))
  | 4 => (0x11, b)
  | _ => (0x12, b)

/-- SWC_CMD FLUSH of a VID, 0 for all (R293). -/
def swcFlush (v : Nat) (b : Block) : Nat × Block :=
  (0, { b with net := { b.net with fdb := b.net.fdb.filter (fun e => e.2.static || (v != 0 && e.2.vid != v)) } })

/-- SWC_CMD CLRCNT (R293). -/
def swcClrcnt (b : Block) : Nat × Block :=
  let l := [R.SWC_PARTIALMC, R.SWC_LEARNFULL, R.SWC_CTFWD, R.SWC_CTSTOMP, R.SWC_NOCELL] ++
    ((List.range 15).map (fun i => [R.SWC_VLANDROP i, R.SWC_NODEST i, R.SWC_FILTDROP i] ++ (List.range 8).map (fun c => R.SWC_QDROP i c))).flatten
  (0, { (zeroRegs l b) with net := { (zeroRegs l b).net with filtDrop := [] } })

/-- PRP_SUPERVISION of pair `i` (R287): a supervision frame on both ports, lifecheck after the one before. -/
def supervision (i : Nat) (b : Block) : Block :=
  if pairKind b i = 0 then b
  else
    let b := advanceTo (sget (fun _ => 0) b.net.supAt i + cfg b (F.PRP_PAIR_w1_lifecheck i) * 1000000) b
    let b := { b with net := { b.net with supAt := sset (fun _ => 0) b.net.supAt i (ns b) } }
    let f : Frame := ⟨0x01154E000100, b.part.mac, none, 0x88FB, 64, .good, false, false, none, none, none, none, .supervision b.part.mac⟩
    let q : QFrame := ⟨b.net.nextId, f, cfg b (F.SWC_PORTCFG_dclass 14), 14, ns b, false, 0x3FF, none, false, 1, halfNs b⟩
    let (l, b) := pairCopies 0 i q { b with net := { b.net with nextId := b.net.nextId + 1 } }
    enqueue l b

/-- The number that is forgotten next: when, pair, source, direction and number (R288). -/
def nextForget (b : Block) : Option (Nat × Nat × Nat × Nat × Nat) :=
  let l := (b.net.nodes.map (fun n => (n.recs.map (fun r => r.2.map (fun s => (s.til, n.pair, n.src, r.1, s.seq)))).flatten)).flatten
  match l with
  | [] => none
  | x :: l => some (l.foldl (fun m y => if y.1 < m.1 then y else m) x)

/-- PRP_FORGET: the remembered number accepted longest ago is forgotten when forget has passed (R288). -/
def prpForget (b : Block) : Block :=
  match nextForget b with
  | none => b
  | some (t, i, src, d, s) =>
    let b := advanceTo t b
    match findNode b i src with
    | none => b
    | some n => putNode { n with recs := sset (fun _ => []) n.recs d ((n.dirRecs d).filter (fun r => !(r.seq == s && r.til == t))) } b

/-- PRP_NODE_FORGET: the node entry without a frame for longest is freed when nodeforget has passed (R288). -/
def nodeForget (b : Block) : Block :=
  match b.net.nodes with
  | [] => b
  | x :: l =>
    let m := l.foldl (fun m y => if y.til < m.til then y else m) x
    let b := advanceTo m.til b
    { b with net := { b.net with nodes := b.net.nodes.filter (fun n => !(n.pair == m.pair && n.src == m.src)) } }

/-- PRP_CMD CLRCNT (R297). -/
def prpClrcnt (b : Block) : Nat × Block :=
  (0, zeroRegs (R.PRP_NODEFULL :: ((List.range 6).map (fun i =>
    [R.PRP_DUPDROP i, R.PRP_OUTWIN i, R.PRP_OWNSRC i, R.PRP_NORCT i, R.PRP_RINGFWD i, R.PRP_LANERR i])).flatten) b)

/-- PRP_CMD FLUSHNODES (R297). -/
def prpFlushnodes (b : Block) : Nat × Block := (0, { b with net := { b.net with nodes := [] } })

/-! ### Swaps -/

/-- Whether the shadow of SWC breaks R271, R277 or R295. -/
def swcRefuses (b : Block) : Bool :=
  let age := shd b F.SWC_CFG_agesec
  let quota := ((List.range 15).map (fun o => ((List.range 8).map (fun c => shd b (F.SWC_QUOTA_cells o c))).sum)).sum
  decide ((1 ≤ age ∧ age ≤ 9) ∨ 3600 < age) ||
    (List.range 15).any (fun o => shd b (F.SWC_PORTCFG_pvid o) == 0 || decide (4094 < shd b (F.SWC_PORTCFG_pvid o)) ||
      (List.range 5).any (fun c => shd b (F.SWC_WEIGHT_wc o c) == 0)) ||
    decide (98304 < quota) ||
    (List.range 4095).any (fun v => 1 ≤ v && bitOf (tshd b 0x20 0 v 0) 31 && bitOf (tshd b 0x20 0 v 1) 0 &&
      (List.range 12).any (fun m => bitOf (tshd b 0x20 0 v 0) m && !shdOn b (F.MAC_PORTCFG_prot m)))

/-- Whether the shadow of PRP breaks R283, R286 or R298. -/
def prpRefuses (b : Block) : Bool :=
  let k (i : Nat) : Nat := shd b (F.PRP_PAIR_w0_kind i)
  let a (i : Nat) : Nat := shd b (F.PRP_PAIR_w0_porta i)
  let p (i : Nat) : Nat := shd b (F.PRP_PAIR_w0_portb i)
  let on := (List.range 6).filter (fun i => k i != 0)
  let ports := (on.map (fun i => [a i, p i])).flatten
  let f := shd b F.PRP_DDCFG_forget
  let nf := shd b F.PRP_DDCFG_nodeforget
  decide (1 < (on.filter (fun i => k i == 2)).length) || decide (1 < (on.filter (fun i => k i == 3)).length) ||
    decide (ports.eraseDups.length ≠ ports.length) ||
    (List.range 6).any (fun i => decide (11 < a i ∨ 11 < p i) ||
      decide (shd b (F.PRP_PAIR_w1_lifecheck i) < 100 ∨ 10000 < shd b (F.PRP_PAIR_w1_lifecheck i))) ||
    decide (f < 1 ∨ 4000 < f) || decide (nf < 1 ∨ 3600 < nf) ||
    on.any (fun i => k i == 2 && (shd b (F.MAC_PORTCFG_mode (a i)) != shd b (F.MAC_PORTCFG_mode (p i)) ||
      shd b (F.MAC_PORTCFG_maxlen (a i)) != shd b (F.MAC_PORTCFG_maxlen (p i))))

/-- The pairs before a swap: kind, port a and port b of each (R290). -/
def pairsBefore (b : Block) : List (Nat × Nat × Nat) := (List.range 6).map (fun i => (pairKind b i, pairA b i, pairB b i))

/-- A swap that changes a pair's kind or ports frees its node entries and begins its supervision anew (R287, R290). -/
def pairsSwapped (old : List (Nat × Nat × Nat)) (b : Block) : Block :=
  let new := pairsBefore b
  let same (i : Nat) : Bool := old.getD i (0, 0, 0) == new.getD i (0, 0, 0)
  { b with net := { b.net with
      nodes := b.net.nodes.filter (fun n => same n.pair)
      supAt := (List.range 6).foldl (fun l i => if same i then l else sset (fun _ => 0) l i (ns b)) b.net.supAt } }

end Sys2Proof.Machine
end

