-- ==== Sys2Proof/Machine/Tim.lean ====
section
/-! DEFINITION. The time base (R299–R326): start of module time, sources and discipline, holdover, IRIG-B, PPS, the transmit
stamp queue and the compare outputs. -/

namespace Sys2Proof.Machine

/-- Change TIM's own state. -/
def modTim (f : Tim → Tim) (b : Block) : Block := { b with tim := f b.tim }

/-- Nanoseconds of a second. -/
abbrev nsec : Nat := 1000000000

/-! ### Sources and discipline -/

/-- S14 was skipped in this start: time runs free, disciplined by no source (R154). -/
def timeFree (b : Block) : Bool := isUp b 14 && b.start.ways.getD 13 0 == 2

/-- The listed sources in order of preference (R305). -/
def listedSrc (b : Block) : List Nat :=
  if timeFree b then [] else ((List.range 4).map (fun j => cfg b (F.TIM_SRCSEL_src j))).filter (· != 0)

/-- Whether source `s` is valid: a measurement within lossto, and for code 4 a module time that is set (R305). -/
def srcValid (b : Block) (s : Nat) : Bool :=
  match b.tim.meas.find? (fun x => x.1 == s) with
  | none => false
  | some (_, t) => decide (ns b < t + cfg b F.TIM_DISC2_lossto * nsec) && (s != 4 || fon b F.TIM_STAT_set)

/-- The first listed source that is valid, 0 for none (R305). -/
def chooseSrc (b : Block) : Nat := ((listedSrc b).find? (srcValid b)).getD 0

/-- TAI − UTC in force (R326). -/
def taiUtc (b : Block) : Nat := b.tim.utc.getD (cfg b F.TIM_UTCOFF_taiutc)

/-- The mean rate of the final 16 s, weighted by time, rates newest first (R310). -/
def meanRate (now : Nat) : List (Nat × Int) → Nat → Int × Nat → Int
  | [], _, (sum, n) => if n = 0 then 0 else sum / (n : Int)
  | (t, r) :: l, e, (sum, n) =>
    let s := max t (now - 16 * nsec)
    if e ≤ s then (if n = 0 then (if l.isEmpty then r else meanRate now l e (sum, n)) else sum / (n : Int))
    else meanRate now l s (sum + r * ((e - s : Nat) : Int), n + (e - s))

/-- Change the state of the discipline (R306): `bySrc` when a change of source causes it. -/
def timState (s : Nat) (bySrc : Bool) (b : Block) : Block :=
  let old := fget b F.TIM_STAT_state
  if s = old then b
  else
    let keep := fon b F.TIM_STAT_synced && (s == 3 || (s == 1 && (old == 3 || (old == 2 && bySrc))))
    let b := if old = 2 then modTim (fun t => { t with lockedAt := some (ns b) }) b else b
    let b := fset F.TIM_STAT_state s b
    let b := match s with
      | 2 =>
        b |> fset F.TIM_STAT_synced 1 |> fset F.TIM_STAT_hexp 0 |> modTim (fun t => { t with lockedAt := none })
          |> cond ([1, 2, 3, 5].contains (fget b F.TIM_STAT_src)) (fset F.TIM_STAT_set 1)
      | 3 =>
        let r := meanRate (ns b) b.tim.rates (ns b) (0, 0)
        b |> fset F.TIM_STAT_synced (b2n keep) |> wr R.TIM_FREQ (uInt 32 r) |> modTim (fun t => { t with holdAt := ns b, rates := [(ns b, r)] })
      | _ => fset F.TIM_STAT_synced (b2n keep) b
    raise EV.TIM_STATE b

/-- Use source `s` from now on; `again` restarts selection though the source is the same (R306, R309, R323). -/
def useSrc (s : Nat) (again : Bool) (b : Block) : Block :=
  let old := fget b F.TIM_STAT_src
  if s = old && (!again || s == 0) then b
  else
    let b := b |> fset F.TIM_STAT_src s |> modTim (fun t => { t with good := 0 })
    let b := if s = old then b else raise EV.TIM_SRCCHG b
    let st := fget b F.TIM_STAT_state
    if s ≠ 0 then timState 1 true b
    else if st = 2 then timState 3 true b
    else if st = 1 then timState (if b.tim.lockedAt.isSome then 3 else 0) true b
    else b

/-- Select the source anew. -/
def selectSrc (again : Bool) (b : Block) : Block := useSrc (chooseSrc b) again b

/-- A step of `d` ns in TIM_STEPSEC and TIM_STEPNS, both with the sign of `d` (R308, R324). -/
def putStep (d : Int) (b : Block) : Block :=
  b |> wr R.TIM_STEPSEC (uInt 32 (Int.tdiv d nsec)) |> wr R.TIM_STEPNS (uInt 32 (Int.tmod d nsec))

/-- Record the pending step `d` (R308, R309). -/
def recordStep (d : Int) (b : Block) : Block :=
  let b := modTim (fun t => { t with step := some d }) b
  if fon b F.TIM_STAT_offbig then b else b |> fset F.TIM_STAT_offbig 1 |> raise EV.TIM_OFFBIG

/-- The slew limit in 1/256 ppb (R307). -/
def slewMax (b : Block) : Int := (cfg b F.TIM_DISC_slew * 256000 : Nat)

/-- Limit `x` to ±`m`. -/
def clampI (m x : Int) : Int := if x < -m then -m else if m < x then m else x

/-- Correct the rate toward the source (R307). -/
def correct (off : Int) (b : Block) : Block :=
  let r := clampI (slewMax b) (Config.disciplineRate (sNat 32 (rd b R.TIM_FREQ)) off)
  b |> wr R.TIM_FREQ (uInt 32 r) |> modTim (fun t => { t with rates := (ns b, r) :: t.rates.filter (fun x => decide (ns b ≤ x.1 + 64 * nsec)) })

/-- A measurement of offset `off` (module minus source, ns) from source `s` (R305–R309); the discipline runs from S05 on (R154). -/
def measure (s : Nat) (off : Int) (b : Block) : Block :=
  if !isUp b 5 then b else
  let b := modTim (fun t => { t with meas := (s, ns b) :: t.meas.filter (fun x => x.1 != s) }) b
  if !(listedSrc b).contains s then b
  else
    let b := selectSrc false b
    if fget b F.TIM_STAT_src ≠ s then b
    else
      let b := wr R.TIM_OFFSET (uInt 32 (clampI 2147483647 off)) b
      if (cfg b F.TIM_DISC2_stepthr * 1000 : Nat) < off.natAbs ∧ fon b F.TIM_CTL_slewbig = false then
        b |> modTim (fun t => { t with good := 0 }) |> putStep (-off) |> recordStep (-off) |> timState 1 false
      else
        let b := correct off b
        if fget b F.TIM_STAT_state = 1 then
          let g := if off.natAbs ≤ cfg b F.TIM_DISC_lockns then b.tim.good + 1 else 0
          let b := modTim (fun t => { t with good := g }) b
          if cfg b F.TIM_DISC2_lockcnt ≤ g then timState 2 false b else b
        else b

/-- SOURCE_LOSS: lossto has passed since the last measurement of the source in use (R305, R306, R309). -/
def sourceLoss (b : Block) : Block :=
  let s := fget b F.TIM_STAT_src
  if s = 0 then b
  else match b.tim.meas.find? (fun x => x.1 == s) with
    | none => selectSrc false b
    | some (_, t) => b |> advanceTo (t + cfg b F.TIM_DISC2_lossto * nsec) |> selectSrc false

/-- HOLDOVER_BOUND: TIM_HOLD.bound seconds have passed since the state was last LOCKED (R306, R311). -/
def holdoverBound (b : Block) : Block :=
  match b.tim.lockedAt with
  | none => b
  | some t =>
    let st := fget b F.TIM_STAT_state
    if st == 2 || fon b F.TIM_STAT_hexp || !(fon b F.TIM_STAT_synced || st == 3) then b
    else b |> advanceTo (t + cfg b F.TIM_HOLD_bound * nsec) |> fset F.TIM_STAT_hexp 1 |> fset F.TIM_STAT_synced 0 |> raise EV.TIM_HOLDEXP

/-- TIM_HOLDSEC: seconds in the present holdover (R310, R324). -/
def holdSec (b : Block) : Nat := if fget b F.TIM_STAT_state = 3 then (ns b - b.tim.holdAt) / nsec else 0

/-! ### Start of module time -/

/-- S05 starts module time (R304): from the always-on count, with a pending step applied, or from the tp of the previous
start `tp` (ns). -/
def timStart (tp : Nat) (b : Block) : Block :=
  let clear := fun b => b |> modTim (fun t => { t with step := none }) |> fset F.TIM_STAT_offbig 0 |> wr R.TIM_STEPSEC 0 |> wr R.TIM_STEPNS 0
  if b.pwr.aoValid then
    match b.tim.step with
    | none => b
    | some d => clear { b with time := ((b.time : Int) + d * 65536).toNat } |> fset F.TIM_STAT_set 1
  else clear { b with time := tp / nsec * nsec * 65536 } |> fset F.TIM_STAT_set 0

/-! ### PPS and IRIG-B -/

/-- The whole second nearest to `t` ns. -/
def nearestSec (t : Nat) : Nat := (t + nsec / 2) / nsec

/-- PPS_IN_EDGE: a rising edge captured at `t` ns is a measurement of source 2, with the label of the IRIG frame that
ends there, and of source 4, placed at the nearest whole second (R305). -/
def ppsInEdge (t : Nat) (b : Block) : Block :=
  let b := advanceTo t b
  let b := match b.tim.irig with
    | some (label, e) =>
      if e ≤ t + nsec / 2 ∧ t ≤ e + nsec / 2 then measure 2 ((t : Int) - (label * nsec : Nat)) b else b
    | none => b
  measure 4 ((t : Int) - (nearestSec t * nsec : Nat)) b

/-- Days from 1970-01-01 to 1 January of year `y`. -/
def yearDays (y : Nat) : Int :=
  let p : Int := (y : Int) - 1
  365 * ((y : Int) - 1970) + (p / 4 - p / 100 + p / 400) - 477

/-- The UTC seconds that a frame's fields name in year `y`. -/
def Irig.secIn (f : Irig) (y : Nat) : Int :=
  (yearDays y + (f.day : Int) - 1) * 86400 + (f.hour * 3600 + f.minute * 60 + f.sec : Nat)

/-- The element of `l` nearest to `x`. -/
def nearest (x : Int) : List Int → Option Int
  | [] => none
  | y :: l => match nearest x l with
    | none => some y
    | some z => if (z - x).natAbs < (y - x).natAbs then some z else some y

/-- TAI seconds of the reference marker of a frame (R315): the year given, or the one nearest to module time. -/
def irigTai (b : Block) (f : Irig) : Option Int :=
  let e := if cfgOn b F.TIM_UTCOFF_ext1344 then f.ext else none
  let yy := match e with | some (y, _, _) => some y | none => if 4 ≤ f.fmt then f.year else none
  let off : Int := match e with | some (_, m, _) => m * 60 | none => 0
  let y0 := 1970 + secOf b / 31556952
  let ys := match yy with
    | some y => [y0 / 100 * 100 + y, y0 / 100 * 100 + y + 100, y0 / 100 * 100 + y - 100]
    | none => [y0, y0 + 1, y0 - 1]
  nearest (secOf b : Int) (ys.map (fun y => f.secIn y - off + (taiUtc b : Int)))

/-- Whether a frame is a measurement (R315). -/
def irigGood (b : Block) (f : Irig) : Bool :=
  f.ok && (match f.ext with | some (_, _, q) => !cfgOn b F.TIM_UTCOFF_ext1344 || decide (q ≤ cfg b F.TIM_UTCOFF_qmax) | none => true)

/-- IRIG_FRAME: a frame whose reference marker was captured at `t` ns has been decoded (R305, R315). -/
def irigFrame (t : Nat) (f : Irig) (b : Block) : Block :=
  let b := advanceTo t b
  if !irigGood b f then cnt R.TIM_IRIGERR b
  else match irigTai b f with
    | none => b
    | some s =>
      b |> modTim (fun x => { x with irig := some (s.toNat + 1, t + nsec) }) |> measure 3 ((t : Int) - s * (nsec : Int))

/-- Level of PPS_OUT (R316). -/
def ppsOut (b : Block) : Bool :=
  outputsOn b && b.tim.pps.isSome && cfgOn b F.TIM_PPSCFG_en && (!cfgOn b F.TIM_PPSCFG_squelch || fon b F.TIM_STAT_synced)

/-- PPS_OUT_RISE: the next whole second of module time, which S05 starts (R304, R316). -/
def ppsRise (b : Block) : Block :=
  if !isUp b 5 then b else
  let b := advanceTo (ceilDiv (ns b) nsec * nsec) b
  modTim (fun t => { t with pps := if cfgOn b F.TIM_PPSCFG_en then some (ns b + cfg b F.TIM_PPSCFG_width * 1000) else none }) b

/-- PPS_OUT_FALL: the end of the pulse (R316). -/
def ppsFall (b : Block) : Block :=
  match b.tim.pps with
  | none => b
  | some e => b |> advanceTo e |> modTim (fun t => { t with pps := none })

/-! ### Commands -/

/-- TIM_CMD STEP (R323). -/
def timStep (b : Block) : Nat × Block :=
  let n := sNat 32 (rd b R.TIM_STEPNS)
  if 999999999 < n.natAbs then (0x12, b)
  else (0, recordStep (sNat 32 (rd b R.TIM_STEPSEC) * nsec + n) b)

/-- TIM_CMD STEPCANCEL (R323). -/
def timStepcancel (b : Block) : Nat × Block :=
  if b.tim.step.isNone then (0x10, b)
  else (0, b |> modTim (fun t => { t with step := none }) |> fset F.TIM_STAT_offbig 0 |> putStep 0)

/-- TIM_CMD TXQCLR (R323). -/
def timTxqclr (b : Block) : Nat × Block := (0, { b with txq := [] })

/-- TIM_CMD RELOCK (R323). -/
def timRelock (b : Block) : Nat × Block := (0, selectSrc true b)

/-! ### Latched reads -/

/-- Set the value that requester `rqid` next reads at `a` (R104, R324). -/
def latch (rqid a v : Nat) (b : Block) : Block :=
  { b with hiLatch := ((rqid, a), w32 v) :: b.hiLatch.filter (fun e => e.1 != (rqid, a)) }

/-- The value latched for `rqid` at `a`, if any. -/
def latchOf (b : Block) (rqid a : Nat) : Option Nat := (b.hiLatch.find? (fun e => e.1 == (rqid, a))).map (fun e => e.2.toNat)

/-- Forget the value latched for `rqid` at `a`. -/
def unlatch (rqid a : Nat) (b : Block) : Block := { b with hiLatch := b.hiLatch.filter (fun e => e.1 != (rqid, a)) }

/-- The value latched for `rqid` at `a`; 0 before any latching. -/
def latched (b : Block) (rqid a : Nat) : Nat := (latchOf b rqid a).getD 0

/-- A checked 32-bit register read by `rqid` whose effect and value `f` gives (R110). -/
def regRead (rqid a : Nat) (f : Block → Nat × Block) (b : Block) : Block :=
  let j := judge b rqid a (.word 4) Need.read
  if j.status = .ok then (let (v, b) := f b; { b with resp := ⟨.ok, v⟩ })
  else accessFault j rqid a Need.read { b with resp := ⟨j.status, 0⟩ }

/-- TIM_SEC_LO_READ (R324). -/
def timSecRead (rqid : Nat) (b : Block) : Block :=
  regRead rqid R.TIM_SEC_LO (fun b =>
    (secOf b % 2 ^ 32, b |> latch rqid R.TIM_SEC_HI (secOf b / 2 ^ 32 % 65536) |> latch rqid R.TIM_NS (ns b % nsec)
      |> latch rqid R.TIM_FRAC (b.time % 65536))) b

/-- TIM_TXQ2 of a stamp (R324). -/
def TxStamp.word2 (s : TxStamp) : Nat := 2 ^ 31 + b2n s.half * 2 ^ 27 + s.flags % 2 * 2 ^ 26 + s.out % 16 * 2 ^ 20 + s.id % 65536

/-- TIM_TXQ0_READ (R318, R324). -/
def timTxq0Read (rqid : Nat) (b : Block) : Block :=
  regRead rqid R.TIM_TXQ0 (fun b => match b.txq with
    | [] => (0, b |> latch rqid R.TIM_TXQ1 0 |> latch rqid R.TIM_TXQ2 0)
    | s :: _ => (s.t % 2 ^ 32, b |> latch rqid R.TIM_TXQ1 (s.t / 2 ^ 32) |> latch rqid R.TIM_TXQ2 s.word2)) b

/-- TIM_TXQ1 as `rqid` reads it: the latched word, or the head entry's before any latching (R324; DEDUCED, log entry 30). -/
def txq1Val (b : Block) (rqid : Nat) : Nat :=
  (latchOf b rqid R.TIM_TXQ1).getD (match b.txq with | s :: _ => s.t / 2 ^ 32 % 2 ^ 32 | [] => 0)

/-- TIM_TXQ2_READ: answers the latched word and pops its entry; without a latch, those of the head entry (R324; DEDUCED, log entry 30). -/
def timTxq2Read (rqid : Nat) (b : Block) : Block :=
  regRead rqid R.TIM_TXQ2 (fun b =>
    let b' := unlatch rqid R.TIM_TXQ2 b
    match latchOf b rqid R.TIM_TXQ2, b.txq with
    | some v, s :: l => (v, if s.word2 = v ∧ s.t / 2 ^ 32 % 2 ^ 32 = latched b rqid R.TIM_TXQ1 then { b' with txq := l } else b')
    | some v, [] => (v, b')
    | none, s :: l => (s.word2, { b' with txq := l })
    | none, [] => (0, b')) b

/-! ### Compare outputs -/

/-- The instance that owns compare `i`, if any (R321). -/
def cmpOwner (b : Block) (i : Nat) : Option Nat :=
  if cfgOn b (F.TIM_CMPCFG_owner i) then some (cfg b (F.TIM_CMPCFG_inst i)) else none

/-- End of the pin pulse of compare `i`, 0 for none. -/
def cmpPulse (b : Block) (i : Nat) : Nat := sget (fun _ => 0) b.tim.pulse i

/-- Level of TOUT pin `i` (R320). -/
def tout (b : Block) (i : Nat) : Bool :=
  let act := if cfgOn b (F.TIM_CMPCFG_toggle i) then sget (fun _ => false) b.tim.tog i else decide (cmpPulse b i ≠ 0)
  outputsOn b && (act != cfgOn b (F.TIM_CMPCFG_pol i))

/-- Arm compare `i` at `t` (R319). -/
def cmpArm (i t : Nat) (b : Block) : Block :=
  let b := wr (R.TIM_CMPTGT i) t b
  if !cfgOn b (F.TIM_CMPCFG_en i) then b
  else
    let b := fset (F.TIM_CMPSTAT_armed i) 1 b
    if reached (fast b) t then b |> fset (F.TIM_CMPSTAT_late i) 1 |> raise EV.TIM_LATE else b

/-- Disarm compare `i`, its pin going inactive (R320, R321). -/
def cmpDisarm (i : Nat) (b : Block) : Block :=
  b |> fset (F.TIM_CMPSTAT_armed i) 0
    |> modTim (fun t => { t with pulse := sset (fun _ => 0) t.pulse i 0, tog := sset (fun _ => false) t.tog i false })

/-- The owner's reset (R321). -/
def cmpOwnerReset (n : Nat) (b : Block) : Block :=
  each (fun i b => if cmpOwner b i = some n then b |> cmpDisarm i |> fset (F.TIM_CMPSTAT_missed i) 0 else b) (List.range 16) b

/-- The address a compare register is written at: the TIM page, or the sub-page of an instance (R324, R325). -/
def cmpAddr (inst : Option Nat) (i o : Nat) : Nat :=
  match inst with | none => pg 0x24 (0x200 + 16 * i + o) | some n => sp n 0x24 (0x100 + 16 * i + o)

/-- A checked write of a compare register by `rqid`, carried out by `f` when it comes from the compare's owner (R321, R325). -/
def cmpWrite (rqid : Nat) (inst : Option Nat) (i o : Nat) (f : Block → Block) (b : Block) : Block :=
  let a := cmpAddr inst i o
  let j := judge b rqid a (.word 4) Need.write
  let b := { b with resp := ⟨j.status, 0⟩ }
  if j.status ≠ .ok then accessFault j rqid a Need.write b
  else if cmpOwner b i = inst then f b
  else if inst.isNone then lockedWrite 0x24 b else b

/-- TIM_CMPTGT_WRITE (R319, R321, R325). -/
def cmpTgtWrite (rqid : Nat) (inst : Option Nat) (i t : Nat) (b : Block) : Block := cmpWrite rqid inst i 0 (cmpArm i t) b

/-- TIM_CMPPER_WRITE (R319, R321, R325). -/
def cmpPerWrite (rqid : Nat) (inst : Option Nat) (i p : Nat) (b : Block) : Block :=
  cmpWrite rqid inst i 4 (fun b => if p = 0 ∨ (1000 ≤ p ∧ p ≤ 2000000000) then wr (R.TIM_CMPPER i) p b else setErr 0x24 0 0 b) b

/-- The pin's answer to a firing (R320). -/
def cmpPin (i : Nat) (b : Block) : Block :=
  if 4 ≤ i then b
  else if cfgOn b (F.TIM_CMPCFG_toggle i) then
    modTim (fun t => { t with tog := sset (fun _ => false) t.tog i (!sget (fun _ => false) t.tog i) }) b
  else
    let w := cfg b (F.TIM_CMPCFG_width i) * 10
    let p := rd b (R.TIM_CMPPER i)
    let w := if p ≠ 0 ∧ p ≤ 2 * w then p / 2 else w
    modTim (fun t => { t with pulse := sset (fun _ => 0) t.pulse i (max (cmpPulse b i) (ns b + w)) }) b

/-- COMPARE_FIRE: armed compare `i` becomes true (R301, R319). -/
def cmpFire (i : Nat) (b : Block) : Block :=
  if !fon b (F.TIM_CMPSTAT_armed i) then b
  else
    let tgt := rd b (R.TIM_CMPTGT i)
    let b := if reached (fast b) tgt then b else advanceTo (ns b + (tgt + 2 ^ 32 - fast b) % 2 ^ 32) b
    let b := b |> raise (EV.TIM_CMP i) |> cmpPin i
    let p := rd b (R.TIM_CMPPER i)
    if p = 0 then fset (F.TIM_CMPSTAT_armed i) 0 b
    else
      let d := (fast b + 2 ^ 32 - tgt) % 2 ^ 32
      let k := d / p + 1
      b |> wr (R.TIM_CMPTGT i) (tgt + k * p)
        |> fset (F.TIM_CMPSTAT_missed i) (min 65535 (fget b (F.TIM_CMPSTAT_missed i) + (k - 1)))

/-- COMPARE_PULSE_END (R320). -/
def cmpPulseEnd (i : Nat) (b : Block) : Block :=
  if cmpPulse b i = 0 then b
  else b |> advanceTo (cmpPulse b i) |> modTim (fun t => { t with pulse := sset (fun _ => 0) t.pulse i 0 })

/-! ### Swaps -/

/-- A shadow that TIM refuses (R326). -/
def timRefuses (b : Block) : Bool :=
  let out (f : Fld) (lo hi : Nat) : Bool := decide (shd b f < lo ∨ hi < shd b f)
  (List.range 4).any (fun j => decide (5 < shd b (F.TIM_SRCSEL_src j))) || out F.TIM_DISC_slew 10 500 || out F.TIM_DISC_lockns 10 10000
    || out F.TIM_DISC2_stepthr 1 65535 || out F.TIM_DISC2_lossto 1 60 || out F.TIM_DISC2_lockcnt 1 255 || out F.TIM_HOLD_bound 1 3600
    || out F.TIM_PPSCFG_width 1 900000 || (List.range 16).any (fun i => out (F.TIM_CMPCFG_width i) 1 1048575)

/-- What TIM compares across a swap: the source list, TAI − UTC and the compares' owners and enables (R309, R321). -/
def timBefore (b : Block) : Nat × Nat × List (Option Nat × Bool) :=
  (cfgR b R.TIM_SRCSEL, taiUtc b, (List.range 16).map (fun i => (cmpOwner b i, cfgOn b (F.TIM_CMPCFG_en i))))

/-- What a swap does to TIM (R309, R321). -/
def timSwapped (old : Nat × Nat × List (Option Nat × Bool)) (b : Block) : Block :=
  let b := if old.1 ≠ cfgR b R.TIM_SRCSEL then selectSrc true b else b
  let b := if old.2.1 ≠ taiUtc b then raise EV.TIM_LEAP b else b
  each (fun i b =>
    let o := old.2.2.getD i (none, false)
    if o.1 ≠ cmpOwner b i ∨ (o.2 = true ∧ cfgOn b (F.TIM_CMPCFG_en i) = false) then cmpDisarm i b else b) (List.range 16) b

/-! ### The counter -/

/-- One step of the counter: 2 ns and the discipline's correction, in units of 1/256 ppb, which accumulates (R299, R324); no module
time runs while the module has no supply. -/
def timTick (b : Block) : Block :=
  if b.pwr.phase = .off then b
  else
    let d : Int := 131072 * sNat 32 (rd b R.TIM_FREQ) + (b.tim.tickRem : Int)
    { b with time := (((b.time + 131072 : Nat) : Int) + d / 256000000000).toNat
             tim := { b.tim with tickRem := (d % 256000000000).toNat } }

end Sys2Proof.Machine
end

