-- ==== Sys2Proof/Machine/Ptp.lean ====
section
/-! DEFINITION. The PTP block (R312–R314, R327, R328): best master clock algorithm, port states, Sync and peer delay. What
R312 takes from IEEE 1588-2008 by reference follows that standard's rules for the data set comparison, the state decision,
a foreign master qualified by two Announces within four intervals, and an announce receipt timeout of three (PRESUMED, log entry 15). -/

namespace Sys2Proof.Machine

/-- The Announce, Sync and Pdelay_Req interval, ns (R312). -/
abbrev ptpInterval : Nat := 1000000000

/-- clockClass of the module's own time (R314). -/
def ownClass (b : Block) : Nat :=
  match fget b F.TIM_STAT_state with
  | 2 => if fget b F.TIM_STAT_src = 1 then 248 else cfg b F.PTP_CFG2_cclass
  | 3 => if fon b F.TIM_STAT_hexp then 52 else 7
  | _ => 248

/-- The module's own data set, as an Announce message. -/
def ownAnn (b : Block) : PtpMsg :=
  { kind := .announce, domain := cfg b F.PTP_CFG_domain, srcId := clockId b, srcPort := 0, seq := 0, corr := 0, t := 0, twoStep := false
    reqId := 0, reqPort := 0, prio1 := cfg b F.PTP_CFG_prio1, cls := ownClass b, acc := cfg b F.PTP_CFG2_acc
    var := Config.ptpVariance % 65536, prio2 := cfg b F.PTP_CFG_prio2, gmId := clockId b, steps := 0, utc := some (taiUtc b)
    gmTlv := if cfg b F.PTP_CFG_profile = 1 then some (cfg b F.PTP_CFG2_gmid) else none
    ato := if cfg b F.PTP_CFG_profile = 1 then some Config.ptpAlternateOffset else none }

/-- Lexicographic order of data sets. -/
def lexLt : List Nat → List Nat → Bool
  | x :: l, y :: m => decide (x < y) || (decide (x = y) && lexLt l m)
  | _, _ => false

/-- How two data sets compare: 0 the first is better, 1 better by topology only, 2 not better. -/
def dsCompare (x y : PtpMsg) : Nat :=
  let q (m : PtpMsg) := [m.prio1, m.cls, m.acc, m.var, m.prio2, m.gmId]
  let t (m : PtpMsg) := [m.steps, m.srcId, m.srcPort]
  if x.gmId = y.gmId then (if lexLt (t x) (t y) then 1 else 2)
  else if lexLt (q x) (q y) then 0 else 2

/-- The better of two. -/
def dsBest (x y : PtpMsg) : PtpMsg := if dsCompare y x ≤ 1 then y else x

/-- The best of a list. -/
def dsBestOf : List PtpMsg → Option PtpMsg
  | [] => none
  | x :: l => match dsBestOf l with | none => some x | some y => some (dsBest x y)

/-- Whether a foreign master counts at `now`. -/
def Foreign.ok (f : Foreign) (now : Nat) : Bool :=
  decide (now ≤ f.last + 3 * ptpInterval) && (match f.prev with | some p => decide (f.last ≤ p + 4 * ptpInterval) | none => false)

/-- The best foreign data set of port `o` (Erbest). -/
def portBest (b : Block) (o : Nat) : Option PtpMsg := dsBestOf (((ptpPort b o).foreign.filter (·.ok (ns b))).map (·.ann))

/-- The port that takes part when the type is ordinary: the enabled one (R313). -/
def ordinaryPort (b : Block) : Option Nat := (List.range 12).find? (ptpOn b)

/-- Whether port `o` takes a state (R313). -/
def takesState (b : Block) (o : Nat) : Bool :=
  match cfg b F.PTP_CFG_type with
  | 0 => ptpOn b o && ordinaryPort b == some o
  | 2 => false
  | _ => ptpOn b o

/-- The best foreign data set of all ports and its port (Ebest); a port whose peer delay has failed cannot be chosen (R314). -/
def clockBest (b : Block) : Option (Nat × PtpMsg) :=
  let l := (List.range 12).filterMap (fun o =>
    if takesState b o ∧ fget b (F.PTP_PDELAY_ns o) ≠ 0xFFFFFFFF then (portBest b o).map (fun m => (o, m)) else none)
  match dsBestOf (l.map (·.2)) with
  | none => none
  | some m => (l.find? (fun x => x.2 == m))

/-- What the state decision gives port `o`: 3 DISABLED, 4 LISTENING, 6 MASTER, 7 PASSIVE, 9 SLAVE (R313). -/
def ptpDecide (b : Block) (o : Nat) : Nat :=
  if !takesState b o then 3
  else
    let typ := cfg b F.PTP_CFG_type
    if typ = 3 ∧ noLease b then 7
    else
      let d0 := ownAnn b
      let er := portBest b o
      let master := if typ ≠ 3 ∧ cfgOn b F.PTP_CFG_slaveonly then 4 else 6
      if d0.cls ≤ 127 then
        (match er with | none => master | some e => if dsCompare d0 e ≤ 1 then master else 7)
      else match clockBest b with
        | none => (match er with | none => master | some e => if dsCompare d0 e ≤ 1 then master else 7)
        | some (p, e) =>
          if dsCompare d0 e ≤ 1 then master
          else if p = o then (if typ = 3 then 7 else 9)
          else match er with
            | none => master
            | some r => if dsCompare e r = 1 then 7 else master

/-- Set the state of port `o`, raising EV_PTP_PSTATE when it changes. -/
def setPtpState (o s : Nat) (b : Block) : Block :=
  if ptpState b o = s then b
  else (if o < 8 then fset (F.PTP_PSTATE0_st o) s b else fset (F.PTP_PSTATE1_st (o - 8)) s b) |> raiseP EV.PTP_PSTATE (leBytes 4 o ++ leBytes 4 s)

/-- Move port `o` toward its decided state: MASTER by way of PRE_MASTER, SLAVE by way of UNCALIBRATED, DISABLED ends first
in LISTENING. -/
def ptpMove (o : Nat) (b : Block) : Block :=
  let s := ptpState b o
  match ptpDecide b o with
  | 3 => setPtpState o 3 b
  | 6 =>
    if s = 6 ∨ s = 5 then b
    else if s = 3 then setPtpState o 4 b
    else
      let n := match clockBest b with | some (_, e) => if dsCompare (ownAnn b) e ≤ 1 then 0 else e.steps + 2 | none => 0
      b |> modPtp o (fun p => { p with pre := n }) |> setPtpState o 5
  | 9 => if s = 9 ∨ s = 8 then b else setPtpState o 8 b
  | d => setPtpState o d b

/-- The slave port, when there is one. -/
def slavePort (b : Block) : Option Nat := (List.range 12).find? (fun o => ptpState b o == 9 || ptpState b o == 8)

/-- The data set of the grandmaster in force: the parent's through the slave port, or the module's own. -/
def parentAnn (b : Block) : PtpMsg :=
  match slavePort b with
  | some o => (portBest b o).getD (ownAnn b)
  | none => ownAnn b

/-- Show the grandmaster (R327), raising EV_PTP_GMCHG when it changes. -/
def showGm (b : Block) : Block :=
  if (List.range 12).all (fun o => !takesState b o) then b
  else
    let m := parentAnn b
    let b := if rd64 b R.PTP_GMID_LO = m.gmId then b else b |> wr64 R.PTP_GMID_LO m.gmId |> raise EV.PTP_GMCHG
    let n := match slavePort b with | some _ => m.steps + 1 | none => 0
    b |> wr R.PTP_GMQ (m.cls * 2 ^ 24 + m.acc * 2 ^ 16 + m.var % 65536) |> wr R.PTP_STEPS (n % 65536)

/-- Run the best master clock algorithm on every port (R312, R313). -/
def ptpRefresh (b : Block) : Block := b |> each ptpMove (List.range 12) |> showGm

/-- currentUtcOffset from the parent replaces the register when valid (R326), raising EV_TIM_LEAP when TAI − UTC changes (R309). -/
def takeUtc (m : PtpMsg) (b : Block) : Block :=
  match m.utc with
  | none => b
  | some u =>
    let was := taiUtc b
    let b := modTim (fun t => { t with utc := some u }) b
    if was = taiUtc b then b else raise EV.TIM_LEAP b

/-- A PTP frame of the module on port `o` (R312). -/
def ptpFrame (b : Block) (o len : Nat) (m : PtpMsg) : Frame :=
  let peer := m.kind = .pdelayReq ∨ m.kind = .pdelayResp ∨ m.kind = .pdelayRespFollowUp
  { dst := if peer then 0x0180C200000E else 0x011B19000000, src := b.part.mac, tag := none, etype := 0x88F7, len := max 64 len, fcs := .good
    sym := false, asmErr := false, rct := none, hsr := none, ip := none, inst := none, body := .ptp { m with srcPort := o + 1 } }

/-- Queue a PTP message at output `o`. -/
def ptpSend (o len : Nat) (m : PtpMsg) (b : Block) : Block :=
  let f := ptpFrame b o len m
  let q : QFrame := ⟨b.net.nextId, f, classify b 14 f, 14, ns b, false, 0x3FF, none, false, 1, halfNs b⟩
  enqueue [(o, q)] { b with net := { b.net with nextId := b.net.nextId + 1 } }

/-- A Sync with its path delay is a measurement of source 1 (R305): `t` origin, `corr` corrections, `rx` receive stamp. -/
def ptpMeasure (o t : Nat) (corr : Int) (rx : Nat) (b : Block) : Block :=
  let d := fget b (F.PTP_PDELAY_ns o)
  if d = 0xFFFFFFFF then b
  else b |> measure 1 ((rx : Int) - ((t : Int) + corr + (d : Int))) |> (fun b => if ptpState b o = 8 then setPtpState o 9 b else b)

/-- A path delay of port `o` has been measured (R314). -/
def ptpDelay (o : Nat) (d : Int) (b : Block) : Block :=
  b |> fset (F.PTP_PDELAY_ns o) d.toNat |> modPtp o (fun p => { p with pdMiss := 0, pdWait := false, pdResp := none })

/-- An Announce on port `o`. -/
def rxAnnounce (o : Nat) (m : PtpMsg) (b : Block) : Block :=
  let keep := (ptpPort b o).foreign
  let prev := (keep.find? (fun f => f.ann.srcId == m.srcId && f.ann.srcPort == m.srcPort)).map (·.last)
  let b := modPtp o (fun p => { p with foreign := ⟨m, ns b, prev⟩ :: keep.filter (fun f => !(f.ann.srcId == m.srcId && f.ann.srcPort == m.srcPort)) }) b
  let b := ptpRefresh b
  if slavePort b = some o ∧ (parentAnn b).srcId = m.srcId then takeUtc m b else b

/-- Whether a message comes from the parent of slave port `o`. -/
def fromParent (b : Block) (o : Nat) (m : PtpMsg) : Bool :=
  (ptpState b o == 8 || ptpState b o == 9) && (match portBest b o with | some a => a.srcId == m.srcId && a.srcPort == m.srcPort | none => false)

/-- PTP_RECEIVE: a message accepted on port `o` with receive stamp `rx` (R312–R314), from S14 on, which establishes the roles (R154). -/
def ptpReceive (o rx : Nat) (m : PtpMsg) (b : Block) : Block :=
  if !isUp b 13 || !ptpOn b o || m.domain != cfg b F.PTP_CFG_domain || m.srcId == clockId b then b
  else match m.kind with
    | .announce => if takesState b o then rxAnnounce o m b else b
    | .sync =>
      if !fromParent b o m then b
      else if m.twoStep then modPtp o (fun p => { p with sync2 := some (m.srcId, m.seq, rx, m.corr) }) b
      else ptpMeasure o m.t m.corr rx b
    | .followUp =>
      (match (ptpPort b o).sync2 with
       | some (s, n, r, c) =>
         if fromParent b o m && s == m.srcId && n == m.seq then
           b |> modPtp o (fun p => { p with sync2 := none }) |> ptpMeasure o m.t (c + m.corr) r
         else b
       | none => b)
    | .pdelayReq =>
      ptpSend o 72 { ownAnn b with kind := .pdelayResp, seq := m.seq, corr := m.corr, t := rx, reqId := m.srcId, reqPort := m.srcPort } b
    | .pdelayResp =>
      let p := ptpPort b o
      (match p.pdSent with
       | some t1 =>
         if m.reqId ≠ clockId b ∨ m.reqPort ≠ o + 1 ∨ m.seq ≠ p.pdSeq then b
         else if m.twoStep then modPtp o (fun p => { p with pdResp := some (m.t, m.corr, rx), pdWait := false, pdMiss := 0 }) b
         else ptpDelay o (((rx : Int) - (t1 : Int) - m.corr) / 2) b
       | none => b)
    | .pdelayRespFollowUp =>
      let p := ptpPort b o
      (match p.pdSent, p.pdResp with
       | some t1, some (t2, c, t4) =>
         if m.reqId ≠ clockId b ∨ m.reqPort ≠ o + 1 ∨ m.seq ≠ p.pdSeq then b
         else ptpDelay o (((t4 : Int) - (t1 : Int) - ((m.t : Int) - (t2 : Int)) - c - m.corr) / 2) b
       | _, _ => b)

/-- What port `o` announces: its own data set, or the parent's one step further, with the parent's profile TLVs where it sent them (R312). -/
def advertised (b : Block) : PtpMsg :=
  match slavePort b with
  | some o => (match portBest b o with
    | some p =>
      let own := ownAnn b
      { own with prio1 := p.prio1, cls := p.cls, acc := p.acc, var := p.var, prio2 := p.prio2, gmId := p.gmId, steps := p.steps + 1
                 gmTlv := own.gmTlv.map (fun x => p.gmTlv.getD x), ato := own.ato.map (fun x => p.ato.getD x) }
    | none => ownAnn b)
  | none => ownAnn b

/-- PTP_INTERVAL on port `o` (R312, R314). -/
def ptpTick (o : Nat) (k : PtpTick) (b : Block) : Block :=
  if !isUp b 13 || !ptpOn b o then b
  else match k with
    | .announce =>
      let b := ptpRefresh b
      let b := if ptpState b o = 5 then
          (if (ptpPort b o).pre = 0 then setPtpState o 6 b else modPtp o (fun p => { p with pre := p.pre - 1 }) b)
        else b
      if ptpState b o = 6 then
        let n := ((ptpPort b o).annSeq + 1) % 65536
        b |> modPtp o (fun p => { p with annSeq := n }) |> (fun b => ptpSend o 82 { advertised b with seq := n } b)
      else b
    | .sync =>
      if ptpState b o = 6 then
        let n := ((ptpPort b o).syncSeq + 1) % 65536
        b |> modPtp o (fun p => { p with syncSeq := n }) |> (fun b => ptpSend o 62 { ownAnn b with kind := .sync, seq := n } b)
      else b
    | .pdelay =>
      let p := ptpPort b o
      let miss := if p.pdWait then p.pdMiss + 1 else p.pdMiss
      let b := if miss = 3 then b |> fset (F.PTP_PDELAY_ns o) 0xFFFFFFFF |> raiseP EV.PTP_PDFAIL (leBytes 4 o) else b
      let n := (p.pdSeq + 1) % 65536
      b |> modPtp o (fun p => { p with pdSeq := n, pdWait := true, pdMiss := min miss 3, pdSent := none, pdResp := none })
        |> (fun b => ptpSend o 72 { ownAnn b with kind := .pdelayReq, seq := n } b)

/-- A shadow that PTP refuses (R328). -/
def ptpRefuses (b : Block) : Bool :=
  let p := shd b F.PTP_CFG_profile
  let d := shd b F.PTP_CFG_domain
  decide (1 < p) || (shd b F.PTP_CFG_type == 0 && decide (1 < ((List.range 12).filter (fun o => shdOn b (F.PTP_PORTCFG_en o))).length))
    || !(d == (if p = 1 then 254 else 0) || Config.ptpDomainOk p d)
    || (List.range 12).any (fun o => decide (10000 < shd b (F.PTP_PORTLAT_txlat o)) || decide (10000 < shd b (F.PTP_PORTLAT_rxlat o)))

end Sys2Proof.Machine
end

