-- ==== Sys2Proof/Machine/SpkRec.lean ====
section
/-! DEFINITION. The SPK settings record (R163) and the configuration that SVI and ALN run before the first global swap (R348,
R387). -/

namespace Sys2Proof.Machine

/-- The number in bytes `o` to `o + n − 1` of a record. -/
def recN (r : List Byte) (o n : Nat) : Nat := leNat ((r.drop o).take n)

/-- Streams of a record. -/
def recNstr (r : List Byte) : Nat := recN r 6 1
/-- Elements of a record. -/
def recNel (r : List Byte) : Nat := recN r 7 1
/-- Rate of a record: 1 for 14,400 Hz. -/
def recRate (r : List Byte) : Nat := recN r 23 1
/-- Offset of stream `i`. -/
abbrev recStr (i : Nat) : Nat := 0x40 + 32 * i
/-- Offset of element `i`. -/
abbrev recEl (i : Nat) : Nat := 0x440 + 32 * i
/-- Dataset position `j` (0–3: Ia, Ib, Ic, In) of stream `i`. -/
def recPos (r : List Byte) (i j : Nat) : Nat := recN r (recStr i + 10 + j) 1

/-- The header and field ranges of R163 and the fleet. -/
def recFields (b : Block) (r : List Byte) : Bool :=
  let nstr := recNstr r
  let nel := recNel r
  let zero (o n : Nat) : Bool := recN r o n == 0
  recN r 0 4 == 0x50534C5A && recN r 4 2 == 1 && decide (1 ≤ nstr ∧ nstr ≤ 32) && decide (1 ≤ nel ∧ nel ≤ 64) && recN r 16 4 == fleetId b
    && (recN r 22 1 == 50 || recN r 22 1 == 60) && decide (recRate r ≤ 1) && decide (80 ≤ recN r 24 2 ∧ recN r 24 2 ≤ 2000)
    && (List.range nstr).all (fun i => (List.range 4).all (fun j => decide (recPos r i j ≤ 31) || recPos r i j == 0xFF) && decide (recN r (recStr i + 14) 1 ≤ 2))
    && zero 26 38 && (List.range 32).all (fun i => if i < nstr then zero (recStr i + 26) 6 else zero (recStr i) 32)
    && (List.range 64).all (fun i => if i < nel then zero (recEl i + 19) 1 && zero (recEl i + 30) 2 else zero (recEl i) 32)
    && zero (0xC40 + 10) 2 && zero (0xC40 + 21) 11 && zero (0xC40 + 224) 32
    && (List.range nel).all (fun i => let o := recEl i
        (decide (recN r (o + 18) 1 ≤ 31) || recN r (o + 18) 1 == 0xFF) && decide (1 ≤ recN r o 1 ∧ recN r o 1 ≤ 5) && decide (recN r (o + 1) 1 < nstr) && decide (recN r (o + 2) 1 ≤ 6) && decide (recN r (o + 3) 1 ≤ 1))
    && decide (recN r (0xC40 + 20) 1 ≤ 2)

/-- The MAC in bytes `o` to `o + 5`, first byte most significant. -/
def recMac (r : List Byte) (o : Nat) : Nat := ((r.drop o).take 6).foldl (fun x y => x * 256 + y.toNat) 0

/-- Words 0 to 9 of the stream entry of record stream `i` (R348). -/
def spkEntry (r : List Byte) (i : Nat) : List Nat :=
  let o := recStr i
  let ps := ((List.range 4).map (recPos r i)).filter (· ≤ 31)
  let nch := ps.foldl max 0 + 1
  let mac := recMac r (o + 4)
  let rate := if recRate r = 1 then 14400 else 4800
  [2 ^ 31 + 2 * 2 ^ 26 + 2 ^ 22 + nch * 2 ^ 16 + recN r o 2, mac % 2 ^ 32, recN r (o + 2) 2 % 4096 * 2 ^ 16 + mac / 2 ^ 32, recN r (o + 16) 4,
   rate, 0, 32 * i * 2 ^ 16 + recN r (o + 24) 2, (ps.eraseDups.map (fun p => 2 ^ p)).sum, recN r (o + 15) 1 % 16 * 2 ^ 16, 0]

/-- Set the words of an active stream entry. -/
def setActive (p t i : Nat) (l : List Nat) (b : Block) : Block :=
  tsetList (fun w v b => tset (tkey p t i w + if p ∈ b.bankB then copyB else 0) v b) 0 l b

/-- SVI and ALN take the record's configuration (R348, R387, R392) with the running rate `rate`, which also shows in the shadow
(R366, R391). -/
def spkConfigure (r : List Byte) (rate : Nat) (b : Block) : Block :=
  let n := if r.isEmpty then 0 else recNstr r
  let h := if r.isEmpty then 250000 else recN r 24 2 * 1000
  b |> each (fun i b => b |> setActive 0x28 0 i (spkEntry r i)
        |> wr (actKey b (R.ALN_STRM i)) (recN r (recStr i + 14) 1)) (List.range n)
    |> (fun b => wr (actKey b R.ALN_CFG) rate (wr (shdKey b R.ALN_CFG) rate b))
    |> (fun b => wr (actKey b R.ALN_HORIZON) h (wr (actKey b R.ALN_GLEAN) 1000000 b))
    |> fset F.ALN_STAT_rate rate

end Sys2Proof.Machine
end

