-- ==== Sys2Proof/Machine/TwnBase.lean ====
section
/-! DEFINITION. What other units use of the twin link: sending span messages, divergence (R514, R522, R525). -/

namespace Sys2Proof.Machine

/-- Whether a lane of the span is up (R516). -/
def laneUp (b : Block) : Bool := fon b F.TWN_STAT_lane1 || fon b F.TWN_STAT_lane2

/-- Send a span message on the lanes that are up (R514). -/
def spanSend (m : SpanMsg) (b : Block) : Block := if laneUp b then emit (.span m) b else b

/-- Whether table `t` of page `p` is banked by the global swap. -/
def bankedTab (p t : Nat) : Bool :=
  [(0x20, 0), (0x20, 3), (0x28, 0), (0x28, 2), (0x30, 0), (0x30, 2), (0x34, 0), (0x39, 0), (0x3C, 0), (0x3C, 2), (0x3E, 0)].contains (p, t)

/-- Whether offset `o` of page `p` is a module-local banked register (R117). -/
def moduleLocal (p o : Nat) : Bool :=
  (p == 0x38 && (o == 0x1014 || (decide (0x1100 ≤ o) && decide (o < 0x1300)))) || (p == 0x25 && decide (0x1080 ≤ o) && decide (o < 0x10B0))
    || (p == 0x2A && decide (0x10C0 ≤ o) && decide (o < 0x1140))

/-- Address of the active or shadow entry of slot `s` in the phasor-state window. -/
def jobAddr (act : Bool) (s : Nat) : Nat := (if act then 0x1200200000 else 0x1200240000) + 32 * s

/-- The instance that owns slot `s` (R395); none for the manager and the SPK. -/
def slotOwner (b : Block) (s : Nat) : Option Nat := if s < 160 then none else (List.range 64).find? (fun n => slotOf b n s)

/-- What differs from reset in the banked views, active or shadow, in a canonical order: register offsets and table words with
their values, the module-local registers left out, and the manager-owned job entries (R116, R117, R410, R517). -/
def bankView (b : Block) (shadow : Bool) : List (Nat × Nat) :=
  let other (p : Nat) : Bool := decide (p ∈ b.bankB) != shadow
  (b.regs.filterMap (fun x =>
    let a := x.1 % 2 ^ 40
    let p := pageOf a
    let o := (a - 0x2000000000) % 0x10000
    if 0x2000000000 ≤ a ∧ a < 0x3000000000 ∧ 0x1000 ≤ o ∧ o < 0x4000 ∧ decide (2 ^ 40 ≤ x.1) = other p ∧ moduleLocal p o = false
    then some (a, x.2.toNat) else none)) ++
  (b.tabs.filterMap (fun x =>
    let k := x.1 % 2 ^ 48
    let p := k / 2 ^ 28
    if bankedTab p (k / 2 ^ 24 % 16) = true ∧ decide (2 ^ 48 ≤ x.1) = other p then some (k, x.2.toNat) else none)) ++
  (b.mem.filterMap (fun x =>
    let base := jobAddr (!shadow) 0
    let s := (x.1 - base) / 32
    if base ≤ x.1 ∧ x.1 < base + 0x40000 ∧ 160 ≤ s ∧ slotOwner b s = none then some (0x1200000000 + x.1 - base, x.2.toNat) else none))

/-- The share tables in force (R517, R456). -/
def shareView (b : Block) : List (Nat × Nat) :=
  b.tabs.filterMap (fun x =>
    let k := x.1 % 2 ^ 48
    if k / 2 ^ 28 = 0x31 ∧ decide (2 ^ 48 ≤ x.1) = b.shareB then some (k, x.2.toNat) else none)

/-- Number of the present start, in the ledger (R157). -/
def startNo (b : Block) : Nat := mnat b 0x1801000008 4

end Sys2Proof.Machine
end

