-- ==== Sys2Proof/Machine/Svi.lean ====
section
/-! DEFINITION. Process-bus ingest (R329–R362): matching, checks, placing samples in time, sample histories, GOOSE
subscriptions, field relay streams, and the SVI commands. -/

namespace Sys2Proof.Machine

/-! ### Stream entries -/

/-- A stream entry (R331): slot, physical copy of the table, words 0–9. -/
structure Str where
  slot : Nat
  copy : Bool
  w : List Nat
  deriving DecidableEq, Repr

/-- Bits `hi:lo` of word `i` of a stream entry. -/
def Str.f (e : Str) (i hi lo : Nat) : Nat := bitsOf (e.w.getD i 0) hi lo
/-- Kind: 0 SV, 1 R-SV, 2 field relay, 3 AAP virtual stream. -/
def Str.kind (e : Str) : Nat := e.f 0 30 29
/-- Grid: true for the secondary. -/
def Str.sec (e : Str) : Bool := e.f 0 28 28 == 1
/-- Channels in the dataset. -/
def Str.nch (e : Str) : Nat := e.f 0 21 16
/-- Samples per second. -/
def Str.rate (e : Str) : Nat := e.f 4 15 0
/-- Sheaf channel of position 0. -/
def Str.base (e : Str) : Nat := e.f 6 27 16
/-- Nominal latency, µs. -/
def Str.latency (e : Str) : Nat := e.f 6 15 0
/-- Positions taken. -/
def Str.mask (e : Str) : Nat := e.w.getD 7 0
/-- Destination MAC (kind 0). -/
def Str.mac (e : Str) : Nat := e.w.getD 1 0 + e.f 2 15 0 * 2 ^ 32
/-- Positions whose mask bit is set. -/
def Str.positions (e : Str) : List Nat := (List.range 32).filter (fun i => bitOf e.mask i)
/-- Channels the entry feeds. -/
def Str.channels (e : Str) : List Nat := e.positions.map (fun i => e.base + i)

/-- The physical copy of SVI's tables in force. -/
def sviCopy (b : Block) : Bool := decide (0x28 ∈ b.bankB)

/-- The entry of `slot` in physical copy `c`. -/
def strAt (b : Block) (c : Bool) (slot : Nat) : Str :=
  ⟨slot, c, (List.range 10).map (fun w => tget b (tkey 0x28 0 slot w + if c then copyB else 0))⟩

/-- Enabled stream entries of physical copy `c`, in slot order. -/
def streams (b : Block) (c : Bool) : List Str :=
  ((List.range 512).filter (fun s => bitOf (tget b (tkey 0x28 0 s 0 + if c then copyB else 0)) 31)).map (strAt b c)

/-- Rate of the primary grid (R365). -/
def primRate (b : Block) : Nat := if fon b F.ALN_STAT_rate then 14400 else 4800

/-- Rate of a grid. -/
def gridRate (b : Block) (sec : Bool) : Nat := if sec then 14400 else primRate b

/-- Index of the first grid instant at or after `t` ns. -/
def gridAt (rate t : Nat) : Nat :=
  let s := t / nsec
  let r := t % nsec
  let j := r * rate / nsec
  s * rate + (if j * nsec / rate = r then j else j + 1)

/-- The physical copy of SVI's tables that governs the instant `t` (R340, R119). -/
def governs (b : Block) (t : Nat) : Bool :=
  match b.bnk.pend with
  | some p => if t ≤ gridNs (primRate b) p.idx then sviCopy b else !sviCopy b
  | none => sviCopy b

/-! ### Counters, reasons and events -/

/-- Key of word `w` of the stream counters of `slot` (R355). -/
abbrev sviC (slot w : Nat) : Nat := tkey 0x28 4 slot w
/-- Key of word `w` of the GOOSE counters of subscription `i` (R356). -/
abbrev gooC (i w : Nat) : Nat := tkey 0x28 5 i w

/-- Add `n` to a counter word. -/
def tcnt (k n : Nat) (b : Block) : Block := tset k (tget b k + n) b

/-- Set bits `hi:lo` of the status word of a stream. -/
def sviStatus (slot hi lo v : Nat) (b : Block) : Block := tset (sviC slot 14) (putBits (tget b (sviC slot 14)) hi lo v) b

/-- Raise an SVI event for a slot with its reason (R357). -/
def sviEv (ev slot reason goose : Nat) (b : Block) : Block :=
  raiseSec ev (slot + 4096 * goose) (leBytes 4 (slot + reason * 65536 + goose * 2 ^ 24)) b

/-- A check failed: its counter, its reason, and its event (R332, R356, R357). -/
structure Bad where
  word : Nat
  reason : Nat
  ev : Nat
  deriving DecidableEq, Repr

/-- Count a failed check of a stream. -/
def streamBad (slot : Nat) (x : Bad) (b : Block) : Block :=
  let b := b |> tcnt (sviC slot x.word) 1 |> sviStatus slot 15 8 x.reason
  let b := if x.reason = 9 then sviStatus slot 2 2 1 b else b
  sviEv x.ev slot x.reason 0 b

/-- The failures of R332 and R341. -/
def Bad.cfg (reason : Nat) : Bad := ⟨6, reason, EV.SVI_CFGERR⟩
/-- A decode failure. -/
def Bad.dec (reason : Nat) : Bad := ⟨7, reason, EV.SVI_DECODE⟩
/-- An authentication failure. -/
def Bad.auth (reason : Nat) : Bad := ⟨8, reason, if reason = 9 then EV.SVI_NOKEY else EV.SVI_AUTHFAIL⟩

/-! ### Authentication -/

/-- The outcome of R341: accepted (unsigned or not), or the failing reason. -/
inductive Auth where
  | ok (unsigned : Bool)
  | fail (reason : Nat)
  deriving DecidableEq, Repr

/-- Leaves a frame may be verified under: those bound, or persisted leaves 2–63 before the first swap (R341, R348). -/
def boundLeaves (b : Block) (cur next : Nat) : List Nat :=
  if fon b F.SVI_STAT_spkcfg then (List.range 62).map (· + 2) else [cur, next]

/-- Authentication of a frame received at `rx` ns under mode `auth` with the bound leaves `cur` and `next` (R341, R188, R189). -/
def authenticate (b : Block) (auth cur next rx : Nat) (ext : Option Nat) (f : Frame) : Auth :=
  if auth = 0 then .ok false
  else match ext with
  | none => if auth = 1 then .fail 11 else .ok true
  | some id =>
    match (boundLeaves b cur next).find? (fun h => (leaf b h).keyId == id && ((leaf b h).kind == 1 || (leaf b h).kind == 2) && leafRx b h (rx / nsec)) with
    | none => .fail 9
    | some h => if Config.tagOk (tagKey b 0 h) f then .ok false else .fail 10

/-! ### Matching -/

/-- VID match of an entry's word 2 (R331): VID 0 takes untagged and priority-tagged frames. -/
def vidMatch (w2 : Nat) (f : Frame) : Bool :=
  bitOf w2 28 || (match f.tag with | none => bitsOf w2 27 16 == 0 | some (_, v) => bitsOf w2 27 16 == v)

/-- An IPv4 fragment, which never reaches SVI (R241, R329). -/
def fragment (f : Frame) : Bool := match f.ip with | some p => p.frag | none => false

/-- Whether a frame reaches SVI as an SV or R-SV frame (R329). -/
def isStream (b : Block) (f : Frame) (m : SvBody) : Bool :=
  match m.sess with | none => f.etype == 0x88BA | some s => s.port == cfg b F.SVI_CFG_udpport

/-- A session header that SVI cannot take as R-SV (R342). -/
def badSession (s : Session) (sid : Nat) : Bool := !s.ok || s.sid != sid

/-- Whether entry `e` matches an SV or R-SV frame (R332 step 1); of a bad session header only the address is known. -/
def Str.matchSv (e : Str) (f : Frame) (m : SvBody) : Bool :=
  vidMatch (e.w.getD 2 0) f && (match m.sess with
  | none => e.kind == 0 && e.f 0 15 0 == m.appid && e.mac == f.dst
  | some s => e.kind == 1 && e.w.getD 1 0 == s.ip && (badSession s 0xA2 || e.f 0 15 0 == m.appid))

/-- Port check (R332 step 2); `port` is the index of the input, 0 for P1. -/
def Str.portOk (e : Str) (port : Nat) : Bool := e.f 8 27 16 == 0 || bitOf (e.f 8 27 16) port

/-! ### Steps 2 to 5 -/

/-- What the frame-level checks answer: taken (unsigned, first simulated frame), a failure, or a simulation drop. -/
inductive FrameRes where
  | ok (unsigned switch : Bool)
  | bad (x : Bad)
  | sim
  deriving DecidableEq, Repr

/-- The simulation rule of R337 for a stream or subscription in the list `on` of those taking simulated frames: none when the
frame is dropped, else whether it switches. -/
def simRule (b : Block) (on : Bool) (simok sim : Bool) : Option Bool :=
  if !sim then (if on then none else some false)
  else if fon b F.SVI_CTL_sim && simok then some (!on)
  else none

/-- Steps 2–5 of R332. -/
def frameRes (b : Block) (e : Str) (port rx : Nat) (f : Frame) (m : SvBody) : FrameRes :=
  let nasdu := e.f 4 23 20
  if !e.portOk port then .bad (.cfg 4)
  else if (match m.sess with | some s => badSession s 0xA2 | none => false) || !m.wf then .bad (.dec 6)
  else if m.noasdu = 0 ∨ 8 < m.noasdu ∨ m.noasdu ≠ m.asdus.length ∨ (nasdu ≠ 0 ∧ m.noasdu ≠ nasdu) then .bad (.dec 5)
  else match authenticate b (e.f 0 27 26) (e.f 9 10 0) (e.f 9 26 16) rx m.ext f with
  | .fail r => .bad (.auth r)
  | .ok u => match simRule b (b.svi.simOn.contains e.slot) (e.f 0 25 25 == 1) m.sim with
    | none => .sim
    | some s => .ok u s

/-- Count the outcome of the frame-level checks. -/
def countFrame (slot : Nat) (r : FrameRes) (b : Block) : Block :=
  match r with
  | .bad x => streamBad slot x b
  | .sim => tcnt (sviC slot 10) 1 b
  | .ok u s =>
    let b := b |> tcnt (sviC slot 0) 1 |> tset (sviC slot 11) (fast b) |> cond u (tcnt (sviC slot 9) 1) |> sviStatus slot 2 2 0
    if s then { b with svi := { b.svi with simOn := slot :: b.svi.simOn } } |> sviStatus slot 1 1 1 |> sviEv EV.SVI_SIMSWITCH slot 0 0 else b

/-! ### Steps 6 to 9 -/

/-- Steps 6–9 of R332 for one ASDU; before the first swap the svID length and confRev are not compared (R348). -/
def asduRes (b : Block) (e : Str) (a : SvAsdu) : Option Bad :=
  let spk := fon b F.SVI_STAT_spkcfg
  if (!spk && a.svid.length != e.f 4 31 24) || Crc.crc32c a.svid != e.w.getD 3 0 then some (.cfg 1)
  else if !spk && a.confrev != e.w.getD 5 0 then some (.cfg 2)
  else if e.rate ≤ a.smpcnt then some (.dec 8)
  else if a.data.length < e.nch then some (.dec 7)
  else none

/-! ### Placing in time -/

/-- Whether an ASDU is synchronised (R333). -/
def asduSync (b : Block) (e : Str) (a : SvAsdu) : Bool :=
  match e.f 0 23 22 with
  | 0 => false
  | 1 => a.smpsynch == 2
  | 2 =>
    let gm := rd64 b R.PTP_GMID_LO
    a.smpsynch == 2 && (match a.gm with | none => true | some g => gm != 0 && g == gm)
  | _ => decide (1 ≤ a.smpsynch)

/-- Offset of sample `c` within its second at `rate`. -/
def smpOff (rate c : Nat) : Nat := c * nsec / rate

/-- The second that R333 gives a synchronised sample. -/
def smpSecond (b : Block) (rate c rx : Nat) : Nat := (rx + cfg b F.SVI_CFG_ahead * 1000 - smpOff rate c) / nsec

/-- Key of a history. -/
abbrev histKey (slot : Nat) (c : Bool) : Nat := 2 * slot + b2n c

/-- The history of a slot under a physical copy, newest number first. -/
def hist (b : Block) (slot : Nat) (c : Bool) : List HistEnt := sget (fun _ => []) b.svi.hist (histKey slot c)

/-- Replace a history. -/
def setHist (slot : Nat) (c : Bool) (l : List HistEnt) (b : Block) : Block :=
  { b with svi := { b.svi with hist := sset (fun _ => []) b.svi.hist (histKey slot c) l } }

/-- The value congruent to `c` modulo `rate` that is nearest to `n`. -/
def unwrapN (n c rate : Nat) : Nat :=
  let base := n / rate * rate + c
  let l := [base, base + rate] ++ (if rate ≤ base then [base - rate] else [])
  let dist (x : Nat) : Nat := if x < n then n - x else x - n
  l.foldl (fun x y => if dist y < dist x then y else x) base

/-- The words of a sample's channels: value and 16-bit quality (R335). -/
def sampleVals (e : Str) (unsigned : Bool) (a : SvAsdu) : List (Nat × Nat) :=
  (e.positions.filter (· < e.nch)).map (fun i =>
    let (v, q) := a.data.getD i (0, 0)
    (e.base + i, uInt 32 v + (q % 2 ^ 14 + b2n unsigned * 2 ^ 15) * 2 ^ 32))

/-- The sample that ASDU `j` of `n` gives under entry `e` (R333, R334, R335). -/
def makeSample (b : Block) (e : Str) (unsigned : Bool) (rx j n : Nat) (a : SvAsdu) : Sample :=
  let sync := asduSync b e a
  let s := smpSecond b e.rate a.smpcnt rx
  let t := if sync then s * nsec + smpOff e.rate a.smpcnt else rx - e.latency * 1000 - (n - 1 - j) * nsec / e.rate
  let num := if sync then s * e.rate + a.smpcnt else
    match hist b e.slot e.copy with | h :: _ => unwrapN h.n a.smpcnt e.rate | [] => a.smpcnt
  ⟨e.sec, e.slot, e.copy, num, t, sync, sync && e.rate == gridRate b e.sec, none, sampleVals e unsigned a⟩

/-! ### Histories -/

/-- Keep the 128 most recent numbers, newest first. -/
def histInsert (h : HistEnt) : List HistEnt → List HistEnt
  | [] => [h]
  | x :: l => if x.n < h.n then h :: x :: l else x :: histInsert h l

/-- Decide a sample by R334 in the history of its entry: whether it is accepted. -/
def judgeSample (s : Sample) (b : Block) : Bool × Block :=
  let l := hist b s.slot s.copy
  match l.find? (fun h => h.n == s.n) with
  | some h =>
    if h.vals = s.vals then (false, tcnt (sviC s.slot 2) 1 b)
    else (false, b |> tcnt (sviC s.slot 3) 1 |> sviEv EV.SVI_DUPCONF s.slot 0 0)
  | none =>
    match l with
    | h :: _ =>
      if s.n + 128 ≤ h.n then (false, tcnt (sviC s.slot 4) 1 b)
      else
        let b := if h.n + 1 < s.n then tcnt (sviC s.slot 5) (s.n - h.n - 1) b else b
        let top := max h.n s.n
        (true, setHist s.slot s.copy ((histInsert ⟨s.n, s.vals⟩ l).filter (fun x => decide (top < x.n + 128))) b)
    | [] => (true, setHist s.slot s.copy [⟨s.n, s.vals⟩] b)

/-- Hand a sample to ALN. -/
def handOver (s : Sample) (b : Block) : Block := { b with aln := { b.aln with inq := b.aln.inq ++ [s] } }

/-- Take one sample, given under each bank that it matches (R340): it is judged in the entry of the bank that governs the
first grid instant at or after its own, and handed over under every bank it can feed. -/
def takeSample (l : List Sample) (b : Block) : Block :=
  match l.filter (fun x => !x.direct || governs b x.t == x.copy) with
  | [] => b
  | s0 :: r =>
    let l := s0 :: r
    let gov (s : Sample) : Bool :=
      let r := gridRate b s.sec
      governs b (gridNs r (gridAt r s.t)) == s.copy
    let s := (l.find? gov).getD s0
    let (ok, b) := judgeSample s b
    if !ok then b
    else
      let b := tcnt (sviC s.slot 1) 1 b
      each handOver l b

/-! ### Streams -/

/-- Record the latency of a synchronised frame (R333, R355): 0 for a sample placed after its frame's stamp (DESIGN CHOICE, log entry 66). -/
def recordLatency (slot rx t : Nat) (b : Block) : Block :=
  let d := rx - t
  b |> tset (sviC slot 12) (min d (tget b (sviC slot 12))) |> tset (sviC slot 13) (max d (tget b (sviC slot 13)))

/-- Handle ASDU `j` of `n` under the entries whose frame checks passed. -/
def takeAsdu (runs : List (Str × Bool)) (rx n : Nat) (a : SvAsdu) (j : Nat) (b : Block) : Block :=
  match runs with
  | [] => b
  | (e0, _) :: _ =>
    let b := match asduRes b e0 a with
      | some x => streamBad e0.slot x b
      | none =>
        let sync := asduSync b e0 a
        let b := b |> sviStatus e0.slot 31 16 a.smpcnt |> sviStatus e0.slot 0 0 (b2n sync)
        if !sync ∧ 1 ≤ a.smpsynch then sviStatus e0.slot 15 8 3 b else b
    let good := runs.filter (fun r => (asduRes b r.1 a).isNone)
    let l := good.map (fun r => makeSample b r.1 r.2 rx j n a)
    let b := match l with
      | s :: _ => if s.sync && j + 1 == n then recordLatency s.slot rx s.t b else b
      | [] => b
    takeSample l b

/-- Handle the ASDUs of a frame in order. -/
def takeAsdus (runs : List (Str × Bool)) (rx n : Nat) : List SvAsdu → Nat → Block → Block
  | [], _, b => b
  | a :: l, j, b => takeAsdus runs rx n l (j + 1) (takeAsdu runs rx n a j b)

/-- The physical copies a frame is matched against: that in force, and the other while a swap is pending (R340). -/
def matchCopies (b : Block) : List Bool := if b.bnk.pend.isSome then [sviCopy b, !sviCopy b] else [sviCopy b]

/-- Run the frame-level checks under each matching entry; a slot counts once. -/
def runFrames (port rx : Nat) (f : Frame) (m : SvBody) : List Str → List Nat → Block → List (Str × Bool) × Block
  | [], _, b => ([], b)
  | e :: l, seen, b =>
    let r := frameRes b e port rx f m
    let b := if seen.contains e.slot then b else countFrame e.slot r b
    let (rs, b) := runFrames port rx f m l (e.slot :: seen) b
    (match r with | .ok u _ => (e, u) :: rs | _ => rs, b)

/-- SVI_STREAM_FRAME: an SV or R-SV frame delivered by H from input `port`, stamped `rx` ns (R329–R342). -/
def sviStreamFrame (f : Frame) (port rx : Nat) (b : Block) : Block :=
  match f.body with
  | .sv m =>
    if !isStream b f m || !(fon b F.ALN_STAT_running) || fragment f then b
    else
      let es := (matchCopies b).filterMap (fun c => (streams b c).find? (fun e => e.matchSv f m))
      if es.isEmpty then cnt R.SVI_NOSUB b
      else
        let (runs, b) := runFrames port rx f m es [] b
        takeAsdus runs rx m.asdus.length m.asdus 0 b
  | _ => b

/-! ### Field relay streams -/

/-- Whether FLD lets a relay frame pass to SVI (R536, R541). -/
def relayPasses (b : Block) (m : RelayBody) : Bool :=
  let fid := cfg b F.FLD_ID_fid
  fid != 0 && m.fid == fid && !fon b F.FLD_STAT_mismatch
    && (m.epoch == rd b R.FLD_EPOCH || (match b.fld.prev with | some (e, until_) => m.epoch == e && decide (ns b < until_) | none => false))

/-- SVI_RELAY_FRAME: a DATA or REVISION frame from input `port`, stamped `rx` ns (R329, R343, R536). -/
def sviRelayFrame (f : Frame) (port rx : Nat) (b : Block) : Block :=
  match f.body with
  | .relay m =>
    if f.etype ≠ cfg b F.FLD_CFG_etype ∨ (m.typ ≠ 1 ∧ m.typ ≠ 2) ∨ fon b F.ALN_STAT_running = false then b
    else if !relayPasses b m then cnt R.FLD_IMPDROP b
    else match ((matchCopies b).map (fun c => (streams b c).filter (fun e => governs b (gridNs (gridRate b e.sec) m.time) == c))).flatten.find? (fun e =>
        vidMatch (e.w.getD 2 0) f && e.kind == 2 && e.f 0 15 0 == m.expid && e.f 1 15 0 == m.midx) with
    | none => cnt R.SVI_NOSUB b
    | some e =>
      if !e.portOk port then streamBad e.slot (.cfg 4) b
      else if m.entries.length = 0 ∨ 32 < m.entries.length then streamBad e.slot (.dec 6) b
      else
        let ls := [e.f 9 10 0, e.f 9 26 16].filter (fun h => (leaf b h).kind == 4 && leafRx b h (rx / nsec))
        if ls.isEmpty then streamBad e.slot (.auth 9) b
        else if !ls.any (fun h => Config.tagOk (tagKey b 3 h) f) then streamBad e.slot (.auth 10) b
        else
          let vals := (m.entries.filter (fun x => x.1 < e.nch ∧ bitOf e.mask x.1 = true)).map (fun x => (e.base + x.1, x.2))
          let s : Sample := ⟨e.sec, e.slot, e.copy, m.time, gridNs (gridRate b e.sec) m.time, true, true, some (m.time, m.typ == 2), vals⟩
          let b := b |> tcnt (sviC e.slot 0) 1 |> tset (sviC e.slot 11) (fast b)
          if m.typ = 1 then
            let (ok, b) := judgeSample s b
            if ok then b |> tcnt (sviC e.slot 1) 1 |> handOver s else b
          else if sget (fun _ => (0, [])) b.svi.lastRev e.slot = (m.time, vals) then tcnt (sviC e.slot 2) 1 b
          else { b with svi := { b.svi with lastRev := sset (fun _ => (0, [])) b.svi.lastRev e.slot (m.time, vals) } }
            |> tcnt (sviC e.slot 1) 1 |> handOver s
  | _ => b

/-! ### GOOSE subscriptions -/

/-- Word `w` of the active GOOSE entry `i` (R344). -/
def gooW (b : Block) (i w : Nat) : Nat := tact b 0x28 2 i w

/-- State of subscription `i`. -/
def goose (b : Block) (i : Nat) : GooseSub := sget (fun _ => GooseSub.init) b.svi.goose i

/-- Set the state of subscription `i`. -/
def setGoose (i : Nat) (g : GooseSub) (b : Block) : Block :=
  { b with svi := { b.svi with goose := sset (fun _ => GooseSub.init) b.svi.goose i g } }

/-- Owner of an entry whose word 0 is `w0`: 0 manager, 1 instance, 2 logic runtime. -/
def gooOwner (w0 : Nat) : Nat := bitsOf w0 26 25

/-- Address of the record of subscription `i` (R344). -/
def gooRec (b : Block) (i : Nat) : Nat := gooW b i 7 / 64 * 64 + gooW b i 8 % 256 * 2 ^ 32

/-- The record's bytes (R345). -/
def GooseSub.bytes (g : GooseSub) : List Byte :=
  leBytes 4 g.seq ++ leBytes 4 g.stnum ++ leBytes 4 g.sqnum ++ leBytes 4 g.flags ++ leBytes 8 g.t ++ leBytes 8 g.rx ++ leBytes 4 g.ttl ++
    leBytes 4 g.changes ++ List.replicate 24 0#8 ++ ((List.range 32).map (fun m => leBytes 8 (g.vals.getD m 0))).flatten

/-- Write the record of subscription `i` (R345, R349). -/
def gooWrite (i : Nat) (b : Block) : Block :=
  let w0 := gooW b i 0
  let inst := bitsOf w0 21 16
  if gooOwner w0 = 1 ∧ instState b inst ≠ 2 then setGoose i { goose b i with wait := true } b
  else
    let g := { goose b i with seq := ((goose b i).seq + 2) % 2 ^ 32, wait := false }
    let rqid := if gooOwner w0 = 1 then inst else 0x0C0
    let (st, b) := engWrite rqid (gooRec b i) g.bytes b
    let b := setGoose i g b
    if st ≠ .ok ∧ gooOwner w0 = 1 then instErr 0x28 inst (statusClass st) 0 i b else b

/-- Tell the owner of a change (R347, R362): `stale` for GSTALE, else GCHG. -/
def gooNotify (i : Nat) (stale : Bool) (b : Block) : Block :=
  let w0 := gooW b i 0
  let put (a : Nat) (b : Block) : Block := wr a (rd b a ||| 2 ^ (i % 32)) b
  match gooOwner w0 with
  | 0 => put (if stale then R.SVI_GSTALE (i / 32) else R.SVI_GCHG (i / 32)) b
  | 1 =>
    let n := bitsOf w0 21 16
    b |> put (if stale then R.SVI_I_GSTALE n (i / 32) else R.SVI_I_GCHG n (i / 32)) |> ievt 0x28 n (b2n stale)
  | _ => b

/-- Clear the stale bit of subscription `i` at the owner word 0 `w0` names, or (`chg`) its state change bit (R360, R362). -/
def gooClear (w0 : Nat) (chg : Bool) (i : Nat) (b : Block) : Block :=
  let clr (a : Nat) : Block := wr a (rd b a &&& (0xFFFFFFFF - 2 ^ (i % 32))) b
  match gooOwner w0 with
  | 0 => clr (if chg then R.SVI_GCHG (i / 32) else R.SVI_GSTALE (i / 32))
  | 1 => let n := bitsOf w0 21 16
    clr (if chg then R.SVI_I_GCHG n (i / 32) else R.SVI_I_GSTALE n (i / 32))
  | _ => b

/-- The stale bit of subscription `i` clears (R347). -/
def gooFresh (i : Nat) (b : Block) : Block := gooClear (gooW b i 0) false i b

/-- Whether two words 0 name one owner (R344). -/
def sameOwner (v w : Nat) : Bool := gooOwner v == gooOwner w && (gooOwner v != 1 || bitsOf v 21 16 == bitsOf w 21 16)

/-- Whether active entry `i` matches a GOOSE or R-GOOSE frame (R329, R344). -/
def gooMatch (b : Block) (f : Frame) (m : GooseBody) (i : Nat) : Bool :=
  let w0 := gooW b i 0
  bitOf w0 31 && vidMatch (gooW b i 2) f && (match m.sess with
    | none => !bitOf w0 30 && gooW b i 1 + bitsOf (gooW b i 2) 15 0 * 2 ^ 32 == f.dst
    | some s => bitOf w0 30 && gooW b i 1 == s.ip)
    && ((match m.sess with | some s => badSession s 0xA1 | none => false) ||
      (bitsOf w0 15 0 == m.appid && gooW b i 3 == Crc.crc32c m.gocb && bitsOf (gooW b i 6) 23 16 == m.gocb.length))

/-- Type of member `m` of entry `i` (R344). -/
def gooType (b : Block) (i m : Nat) : Nat := bitsOf (gooW b i (16 + m / 8)) (4 * (m % 8) + 3) (4 * (m % 8))

/-- The members a frame stores, none when they do not fit the entry (R345, R346). -/
def gooVals (b : Block) (i : Nat) (m : GooseBody) : Option (List Nat) :=
  let n := bitsOf (gooW b i 6) 29 24
  if m.members.length < n then none
  else if (List.range n).all (fun k => gooType b i k == 0 || (m.members.getD k (0, 0)).1 == gooType b i k) then
    some ((List.range n).map (fun k =>
      let t := gooType b i k
      if t = 0 then 0 else (m.members.getD k (0, 0)).2 % (if t = 7 ∨ t = 9 then 2 ^ 64 else 2 ^ 32)))
  else none

/-- `x` is ahead of `y` in 32-bit modular order. -/
def ahead32 (x y : Nat) : Bool := let d := (x + 2 ^ 32 - y) % 2 ^ 32; decide (0 < d ∧ d < 2 ^ 31)

/-- Discard a frame of subscription `i`, clearing valid and setting flag bit `f` (R346). -/
def gooReject (i flag w ev reason : Nat) (b : Block) : Block :=
  let g := goose b i
  b |> setGoose i { g with flags := (g.flags &&& 0x1FE) ||| flag } |> gooWrite i |> tcnt (gooC i w) 1 |> sviEv ev i reason 1

/-- Decide a frame that has passed matching, authentication and simulation (R346). -/
def gooDecide (i rx : Nat) (unsigned : Bool) (m : GooseBody) (b : Block) : Block :=
  let g := goose b i
  if m.confrev ≠ gooW b i 5 ∨ Crc.crc32c m.datset ≠ gooW b i 4 ∨ m.nds = true then
    gooReject i (0x20 ||| (if m.nds then 0x10 else 0)) 9 EV.SVI_CFGERR 2 b
  else match gooVals b i m with
  | none => gooReject i 0 8 EV.SVI_DECODE 6 b
  | some vals =>
    let base := 1 + 4 * b2n m.test + 8 * b2n m.sim + 64 * b2n unsigned
    let put (g : GooseSub) (b : Block) : Block :=
      b |> setGoose i { g with last := some (ns b), rx := rx, ttl := m.ttl, sqnum := m.sqnum } |> gooFresh i |> gooWrite i
        |> tcnt (gooC i 0) 1 |> tset (gooC i 10) (fast b)
    let restart := g.last.isSome && m.stnum == 1 && m.sqnum == 0
    if restart || g.last.isNone || ahead32 m.stnum g.stnum then
      let fl := base ||| (g.flags &&& 0x100) ||| (if restart then 0x100 else 0)
      b |> put { g with stnum := m.stnum, flags := fl, t := m.t, changes := (g.changes + 1) % 2 ^ 32, vals := vals }
        |> tcnt (gooC i 1) 1 |> gooNotify i false |> cond restart (sviEv EV.SVI_GRESTART i 0 1)
    else if m.stnum = g.stnum then
      if ahead32 m.sqnum g.sqnum then
        let b := b |> put { g with flags := g.flags &&& 0x17D } |> tcnt (gooC i 2) 1
        let b := if vals ≠ g.vals then b |> tcnt (gooC i 5) 1 |> sviEv EV.SVI_GCONFLICT i 0 1 else b
        if g.wait then gooNotify i false b else b
      else tcnt (gooC i 3) 1 b
    else tcnt (gooC i 4) 1 b

/-- SVI_GOOSE_FRAME: a GOOSE or R-GOOSE frame delivered by H, stamped `rx` ns (R329, R341, R342, R345, R346). -/
def sviGooseFrame (f : Frame) (rx : Nat) (b : Block) : Block :=
  if !isUp b 9 then b
  else match f.body with
  | .goose m =>
    if (match m.sess with | none => f.etype != 0x88B8 | some s => s.port != cfg b F.SVI_CFG_udpport) || fragment f then b
    else match (List.range 1024).find? (gooMatch b f m) with
    | none => cnt R.SVI_GNOSUB b
    | some i =>
      let w0 := gooW b i 0
      if (match m.sess with | some s => badSession s 0xA1 | none => false) || !m.wf then b |> tcnt (gooC i 8) 1 |> sviEv EV.SVI_DECODE i 6 1
      else match authenticate b (bitsOf w0 29 28) (gooW b i 9 % 2 ^ 11) (bitsOf (gooW b i 9) 26 16) rx m.ext f with
      | .fail r =>
        let b := if r = 9 then b |> setGoose i { goose b i with flags := (goose b i).flags ||| 0x80 } |> gooWrite i else b
        b |> tcnt (gooC i 7) 1 |> sviEv (Bad.auth r).ev i r 1
      | .ok u => match simRule b (b.svi.gsimOn.contains i) (bitOf w0 27) m.sim with
        | none => b
        | some sw =>
          let b := if sw then { b with svi := { b.svi with gsimOn := i :: b.svi.gsimOn } } |> sviEv EV.SVI_SIMSWITCH i 0 1 else b
          gooDecide i rx u m b
  | _ => b

/-- When subscription `i` becomes stale (R347). -/
def gooDeadline (b : Block) (i : Nat) : Option Nat :=
  let g := goose b i
  if bitOf g.flags 1 then none else g.last.map (fun t => t + (g.ttl + bitsOf (gooW b i 6) 15 0) * 1000000)

/-- GOOSE_STALE: no frame of subscription `i` for timeAllowedtoLive + taladd (R347). -/
def gooseStale (i : Nat) (b : Block) : Block :=
  if !bitOf (gooW b i 0) 31 then b
  else match gooDeadline b i with
  | none => b
  | some t =>
    let b := advanceTo t b
    b |> setGoose i { goose b i with flags := (goose b i).flags ||| 2 } |> gooWrite i |> tcnt (gooC i 6) 1 |> gooNotify i true
      |> sviEv EV.SVI_GSTALE i 0 1

/-- SVI_SIM_WRITE: a write of SVI_CTL by `rqid` (R337, R358). -/
def sviSimWrite (rqid v : Nat) (b : Block) : Block :=
  let j := judge b rqid R.SVI_CTL (.word 4) Need.write
  let b := { b with resp := ⟨j.status, 0⟩ }
  if j.status ≠ .ok then accessFault j rqid R.SVI_CTL Need.write b
  else if cfgLocked b 0x28 then lockedWrite 0x28 b
  else
    let b := fset F.SVI_CTL_sim v b
    if bitOf v 0 then b
    else
      let b := each (fun s b => sviStatus s 1 1 0 b) b.svi.simOn b
      { b with svi := { b.svi with simOn := [], gsimOn := [] } }

/-! ### Commands -/

/-- The number of entries of SVI table `t` (R359). -/
def sviSize (t : Nat) : Nat := if t = 0 ∨ t = 1 ∨ t = 4 then 512 else if t = 2 ∨ t = 3 ∨ t = 5 then 1024 else 0

/-- Word `w` of entry `i` as table `t` shows it (R359). -/
def sviWord (b : Block) (t i w : Nat) : Nat :=
  match t with
  | 0 => if w < 16 then tshd b 0x28 0 i w else 0
  | 1 => if w < 16 then tact b 0x28 0 i w else 0
  | 2 => tshd b 0x28 2 i w
  | 3 => tact b 0x28 2 i w
  | _ => if w < 16 then tget b (tkey 0x28 t i w) else 0

/-- SVI_CMD TREAD (R359). -/
def sviTread (t : Nat) (b : Block) : Nat × Block :=
  let i := rd b R.SVI_TIDX
  if sviSize t ≤ i then (0x12, b)
  else (0, each (fun w b => wr (R.SVI_TDATA w) (sviWord b t i w) b) (List.range 32) b)

/-- Bits of word `w` of a stream entry that a write stores (R331). -/
def strWr (w : Nat) : Nat :=
  match w with
  | 0 => 0xFEFFFFFF | 1 => 0xFFFFFFFF | 2 => 0x1FFFFFFF | 3 => 0xFFFFFFFF | 4 => 0xFFF0FFFF | 5 => 0xFFFFFFFF | 6 => 0x0FFFFFFF
  | 7 => 0xFFFFFFFF | 8 => 0x0FFF0000 | 9 => 0x07FF07FF | _ => 0

/-- Bits of word `w` of a GOOSE entry that a write stores (R344). -/
def gooWr (w : Nat) : Nat :=
  match w with
  | 0 => 0xFE3FFFFF | 1 => 0xFFFFFFFF | 2 => 0x1FFFFFFF | 3 => 0xFFFFFFFF | 4 => 0xFFFFFFFF | 5 => 0xFFFFFFFF | 6 => 0x3FFFFFFF
  | 7 => 0xFFFFFFC0 | 8 => 0xFF | 9 => 0x07FF07FF | 16 => 0xFFFFFFFF | 17 => 0xFFFFFFFF | 18 => 0xFFFFFFFF | 19 => 0xFFFFFFFF | _ => 0

/-- SVI_CMD TWRITE (R359). -/
def sviTwrite (t : Nat) (b : Block) : Nat × Block :=
  let i := rd b R.SVI_TIDX
  if t ≠ 0 ∧ t ≠ 2 then (if t ≤ 5 then 0x11 else 0x12, b)
  else if cfgLocked b 0x28 then (0x10, lockedWrite 0x28 b)
  else if shadowsFrozen b then (0x10, pendWrite 0x28 b)
  else if sviSize t ≤ i then (0x12, b)
  else
    let m := if t = 0 then strWr else gooWr
    (0, each (fun w b => tsetShd 0x28 t i w (rd b (R.SVI_TDATA w) &&& m w) b) (List.range (if t = 0 then 16 else 32)) b)

/-- The counter record of entry `i` of table `t` at its reset values (R355). -/
def sviZero (t i : Nat) (b : Block) : Block :=
  each (fun w b => tset (tkey 0x28 t i w) (if t = 4 ∧ w = 12 then 0xFFFFFFFF else 0) b) (List.range 16) b

/-- SVI_CMD CLRCNT: entry 0x7FF for all; `goose` selects the GOOSE counters (R359). -/
def sviClrcnt (e : Nat) (goose : Bool) (b : Block) : Nat × Block :=
  let t := if goose then 5 else 4
  if e = 0x7FF then (0, each (sviZero t) (List.range (sviSize t)) b)
  else if sviSize t ≤ e then (0x12, b)
  else (0, sviZero t e b)

/-! ### Swaps -/

/-- The enabled shadow stream entries. -/
def shadowStreams (b : Block) : List Str := streams b (!sviCopy b)

/-- Budget units of an entry (R338). -/
def Str.units (e : Str) : Nat := ceilDiv e.nch 8 * ceilDiv e.rate 4800

/-- Budget units and enabled entries in force (R358). -/
def sviUnits (b : Block) : Nat × Nat := let l := streams b (sviCopy b); ((l.map (·.units)).sum, l.length)

/-- The entry among `l` that matches a record's stream `i` (R164, R339, R348): kind 0, primary grid, the record's APPID,
VID, destination MAC and svID CRC, and the positions it names. -/
def spkStreamOf (r : List Byte) (l : List Str) (i : Nat) : Option Str :=
  let w := spkEntry r i
  l.find? (fun e => e.kind == 0 && !e.sec && e.f 0 15 0 == w.getD 0 0 % 65536 && e.mac == w.getD 1 0 + w.getD 2 0 % 65536 * 2 ^ 32
    && (e.f 2 28 28 == 1 || e.f 2 27 16 == bitsOf (w.getD 2 0) 27 16) && e.w.getD 3 0 == w.getD 3 0 && (e.mask &&& w.getD 7 0) == w.getD 7 0)

/-- A shadow that SVI refuses (R339, R343, R361). -/
def sviRefuses (b : Block) : Bool :=
  let l := shadowStreams b
  let chans := l.map (fun e => (e.sec, e.channels))
  let all := (chans.map (fun x => x.2.map (fun c => (x.1, c)))).flatten
  let secen := shdOn b F.ALN_CFG_secen
  let gr (s : Bool) : Nat := if s then 14400 else if shdOn b F.ALN_CFG_rate then 14400 else 4800
  decide (512 < (l.map (·.units)).sum) || decide (all.eraseDups.length < all.length)
    || all.any (fun x => decide ((if x.1 then (if secen then 256 else 0) else 4096) ≤ x.2))
    || l.any (fun e => e.positions.any (fun i => decide (e.nch ≤ i)) || e.nch == 0 || e.rate == 0 || decide (14400 < e.rate)
        || (decide (e.kind ≤ 1) && e.f 4 31 24 == 0) || decide (8 < e.f 4 23 20)
        || (e.kind == 3 && (!b.part.optA || decide (3 < e.f 0 15 0) || e.rate != gr e.sec)) || (e.kind == 2 && e.f 0 27 26 == 0))
    || (List.range 1024).any (fun i =>
        bitOf (tshd b 0x28 2 i 0) 31 && (let n := bitsOf (tshd b 0x28 2 i 6) 29 24
          n == 0 || decide (32 < n) || (List.range 32).any (fun m => decide (9 < bitsOf (tshd b 0x28 2 i (16 + m / 8)) (4 * (m % 8) + 3) (4 * (m % 8))))))
    || (!b.spk.record.isEmpty && (List.range (recNstr b.spk.record)).any (fun i => (spkStreamOf b.spk.record l i).isNone))
    || decide (10000 < shd b F.SVI_CFG_ahead) || shd b F.SVI_CFG_udpport == 0

/-- Whether an entry keeps its history across a swap: match fields, rate and grid unchanged (R340). -/
def sameStream (x y : Str) : Bool :=
  x.f 0 31 28 == y.f 0 31 28 && x.f 0 15 0 == y.f 0 15 0 && x.w.getD 1 0 == y.w.getD 1 0 && x.w.getD 2 0 == y.w.getD 2 0 && x.rate == y.rate

/-- The GOOSE match fields and record of entry `i` in force (R349). -/
def gooFields (b : Block) (i : Nat) : List Nat :=
  [gooW b i 0 &&& 0xC000FFFF, gooW b i 1, gooW b i 2, gooW b i 3, bitsOf (gooW b i 6) 23 16, gooW b i 7, gooW b i 8]

/-- Slots with a history under either copy. -/
def histSlots (b : Block) : List Nat := (b.svi.hist.map (fun x => x.1 / 2)).eraseDups

/-- A subscription whose owner was `w0` is another owner's now: its bits leave the old owner's registers, and a stale one shows at
the new owner (R360, R362). -/
def gooOwnerSwapped (w0 i : Nat) (b : Block) : Block :=
  if sameOwner w0 (gooW b i 0) then b
  else
    let b := b |> gooClear w0 true i |> gooClear w0 false i
    if bitOf (goose b i).flags 1 then gooNotify i true b else b

/-- What a swap does to SVI, seen after the exchange (R340, R349): histories, then GOOSE subscriptions; `old` gives the owner word
and the GOOSE fields before it. -/
def sviSwapped (old : List (Nat × Nat × List Nat)) (b : Block) : Block :=
  let c := sviCopy b
  let b := each (fun s b =>
    let h := if sameStream (strAt b c s) (strAt b (!c) s) then
        (let m := hist b s (!c); if m.isEmpty then hist b s c else (hist b s c ++ m.filter (fun x => !(hist b s c).any (fun y => y.n == x.n))))
      else hist b s c
    b |> setHist s c h |> setHist s (!c) []) (histSlots b) b
  let b := each (fun (x : Nat × Nat × List Nat) b =>
    if gooFields b x.1 = x.2.2 then b
    else
      let b := { b with svi := { b.svi with gsimOn := b.svi.gsimOn.filter (· != x.1) } }
      let b := setGoose x.1 { GooseSub.init with seq := (goose b x.1).seq } b |> gooClear x.2.1 false x.1
      if bitOf (gooW b x.1 0) 31 then gooWrite x.1 b else b) old b
  let b := each (fun (x : Nat × Nat × List Nat) => gooOwnerSwapped x.2.1 x.1) old b
  let (u, n) := sviUnits b
  b |> fset F.SVI_STAT_units u |> fset F.SVI_STAT_streams n |> fset F.SVI_STAT_spkcfg 0

/-- The subscriptions whose fields SVI compares across a swap: those enabled in either copy. -/
def gooBefore (b : Block) : List (Nat × Nat × List Nat) :=
  ((List.range 1024).filter (fun i => bitOf (tact b 0x28 2 i 0) 31 || bitOf (tshd b 0x28 2 i 0) 31)).map (fun i => (i, gooW b i 0, gooFields b i))

end Sys2Proof.Machine
end

