-- ==== Sys2Proof/Machine/Aap.lean ====
section
/-! DEFINITION. The analog acquisition port (R350–R354, R363, R364). -/

namespace Sys2Proof.Machine

/-- AAP_CLK runs; else it is low (R41, R48). -/
def aapClk (b : Block) : Bool := b.part.optA && fon b F.AAP_CTL_clken && outputsOn b

/-- Full scale of channel `i` (R364). -/
def aapFs (b : Block) (i : Nat) : Int := sNat 32 (cfgR b (R.AAP_FS i))

/-- `v = gain × d + offset` in units of 2⁻⁴⁶ (R352). -/
def aapV (gain off : Nat) (d : Int) : Int := (gain : Int) * d + sNat 16 off * 2 ^ 26

/-- The high-path value of channel `i` for density `d` (R352). -/
def aapHigh (b : Block) (i : Nat) (d : Int) : Int :=
  roundDiv (aapV (cfg b (F.AAP_CAL_w0_gainh i)) (cfg b (F.AAP_CAL_w1_offh i)) d * aapFs b i) (2 ^ 46)

/-- The low-path value of channel `i` for density `d` (R352). -/
def aapLow (b : Block) (i : Nat) (d : Int) : Int :=
  roundDiv (aapV (cfg b (F.AAP_CAL_w0_gainl i)) (cfg b (F.AAP_CAL_w1_offl i)) d * aapFs b i) (12 * 2 ^ 46)

/-- Whether a magnitude reaches FS / 16 (R353). -/
def aapReaches (fs v : Int) : Bool := decide (fs ≤ 16 * (v.natAbs : Int))

/-- Whether a magnitude stays below FS / 16 × 10^(−2/20), compared exactly by tenth powers (R353). -/
def aapBelowThr (fs v : Int) : Bool := decide (10 * (16 * v.natAbs) ^ 10 < fs.natAbs ^ 10)

/-- Whether channel `i` is on its low path. -/
def aapOnLow (b : Block) (i : Nat) : Bool := bitOf (fget b F.AAP_STAT_low) i

/-- Whether the high path of channel `i` is stuck. -/
def aapStuckHigh (b : Block) (i : Nat) : Bool := bitOf (fget b F.AAP_STAT_fault) i

/-- Set bit `i` of a 16-bit field. -/
def aapBit (f : Fld) (i : Nat) (v : Bool) (b : Block) : Block :=
  fset f (if v then fget b f ||| 2 ^ i else fget b f &&& (65535 - 2 ^ i)) b

/-- Choose the path of a sample of channel `i` (R353, R354): whether it is the low one. -/
def aapChoose (b : Block) (i : Nat) (x : AapIn) : Bool :=
  let fs := aapFs b i
  match cfg b (F.AAP_CHCFG_range i) with
  | 1 => false
  | 2 => !b.aapLowStuck.contains i
  | _ =>
    if b.aapLowStuck.contains i then false
    else if aapOnLow b i then !aapReaches fs (aapLow b i x.low)
    else decide ((if cfgOn b F.AAP_CFG_fnom then 80 else 96) ≤ sget (fun _ => 0) b.aapBelow i)

/-- Take one channel of a sample: its entry of value and quality (R352–R354). -/
def aapChannel (x : AapIn) (b : Block) : Nat × Block :=
  let i := x.ch
  let fs := aapFs b i
  let h := aapHigh b i x.high
  let low := aapChoose b i x
  let b := if low != aapOnLow b i then b |> aapBit F.AAP_STAT_low i low |> cnt (R.AAP_SWCNT i) else b
  let n := if low then 0 else if aapBelowThr fs h then sget (fun _ => 0) b.aapBelow i + 1 else 0
  let b := { b with aapBelow := sset (fun _ => 0) b.aapBelow i n }
  let clip := decide (fs ≤ (h.natAbs : Int))
  let b := if clip then b |> cnt (R.AAP_CLIP i) |> raiseSec EV.AAP_CLIP i (leBytes 4 i) else b
  let v := clampI 2147483647 (if low then aapLow b i x.low else h)
  let q := (if aapStuckHigh b i then 0x41 else if clip then 7 else 0) + b2n low * 2 ^ 14
  (uInt 32 v + q * 2 ^ 32, b)

/-- Take the channels of a virtual stream's sample: entries by dataset position. -/
def aapChannels (v : Nat) : List AapIn → Block → List (Nat × Nat) × Block
  | [], b => ([], b)
  | x :: l, b =>
    if x.ch < 16 ∧ cfgOn b (F.AAP_CHCFG_en x.ch) = true ∧ cfg b (F.AAP_CHCFG_vstream x.ch) = v then
      let (e, b) := aapChannel x b
      let (es, b) := aapChannels v l b
      ((cfg b (F.AAP_CHCFG_pos x.ch), e) :: es, b)
    else aapChannels v l b

/-- AAP_SAMPLE: the decimated sample of virtual stream `v` for grid instant `k` of its grid (R350, R351). -/
def aapSample (v k : Nat) (l : List AapIn) (b : Block) : Block :=
  if !b.part.optA || !fon b F.AAP_CTL_clken || !fon b F.ALN_STAT_running then b
  else match (streams b (sviCopy b)).find? (fun e => e.kind == 3 && e.f 0 15 0 == v) with
  | none => b
  | some e0 =>
    let t := gridNs (gridRate b e0.sec) k
    let b := advanceTo (t + (if gridRate b e0.sec = 14400 then 60000 else 150000)) b
    let (vals, b) := aapChannels v l b
    match (streams b (governs b t)).find? (fun e => e.kind == 3 && e.f 0 15 0 == v) with
    | none => b
    | some e =>
      let s : Sample := ⟨e.sec, e.slot, e.copy, k, t, true, true, none,
        (vals.filter (fun x => x.1 < e.nch ∧ bitOf e.mask x.1 = true)).map (fun x => (e.base + x.1, x.2))⟩
      b |> tcnt (sviC e.slot 0) 1 |> tset (sviC e.slot 11) (fast b) |> sviStatus e.slot 0 0 1 |> takeSample [s]

/-- AAP_STUCK: the pin of a path of channel `i` has been without a transition for 1,920 bits (R354). -/
def aapStuck (i : Nat) (low : Bool) (b : Block) : Block :=
  if !b.part.optA || !fon b F.AAP_CTL_clken || decide (16 ≤ i) then b
  else
    let b := if low then { b with aapLowStuck := i :: b.aapLowStuck.filter (· != i) } else aapBit F.AAP_STAT_fault i true b
    raiseP EV.AAP_STUCK (leBytes 4 i) b

/-- AAP_RECOVER: the pin has shown transitions again for 1 s (R354). -/
def aapRecover (i : Nat) (low : Bool) (b : Block) : Block :=
  if !b.part.optA || !(if low then b.aapLowStuck.contains i else aapStuckHigh b i) then b
  else
    let b := if low then { b with aapLowStuck := b.aapLowStuck.filter (· != i) } else aapBit F.AAP_STAT_fault i false b
    raiseP EV.AAP_RECOVER (leBytes 4 i) b

/-- AAP_CMD CLRCNT. -/
def aapClrcnt (b : Block) : Nat × Block :=
  (0, zeroRegs ((List.range 16).map R.AAP_SWCNT ++ (List.range 16).map R.AAP_CLIP) b)

/-- A shadow that AAP refuses (R364). -/
def aapRefuses (b : Block) : Bool :=
  let on := (List.range 16).filter (fun i => shdOn b (F.AAP_CHCFG_en i))
  let at_ (i : Nat) := (shd b (F.AAP_CHCFG_vstream i), shd b (F.AAP_CHCFG_pos i))
  on.any (fun i => decide (sNat 32 (shdR b (R.AAP_FS i)) ≤ 0) || decide (shd b (F.AAP_CAL_w0_gainh i) < 0x4000)
    || decide (shd b (F.AAP_CAL_w0_gainl i) < 0x4000) || shd b (F.AAP_CHCFG_range i) == 3 || on.any (fun j => i != j && at_ i == at_ j))

end Sys2Proof.Machine
end

