-- ==== Sys2Proof/Machine/Aln.lean ====
section
/-! DEFINITION. The alignment engine (R365–R394): placing samples, release and fill, paired release, revisions, settlement, and
the sheaf rings with their descriptors. -/

namespace Sys2Proof.Machine

/-! ### Rings, entries and descriptors -/

/-- Slots of a ring (R365). -/
def ringSlots (sec : Bool) : Nat := if sec then 256 else 512

/-- Channels of a grid (R365). -/
def gridChans (sec : Bool) : Nat := if sec then 256 else 4096

/-- Base of the secondary ring in force (R391). -/
def secRing (b : Block) : Nat := cfg b F.ALN_SECRING_LO_addr * 65536 + cfg b F.ALN_SECRING_HI_addr * 2 ^ 32

/-- Base of the secondary ring that holds sheaf `k`: the one in force when its slot was claimed (R28, R380). -/
def secBase (b : Block) (k : Nat) : Nat := ((b.aln.ringOld.find? (fun x => decide (k < x.1))).map (·.2)).getD (secRing b)

/-- First address of the slot of sheaf `k` (R380). -/
def slotAddr (b : Block) (sec : Bool) (k : Nat) : Nat :=
  if sec then secBase b k + k % 256 * 0x800 else 0x1100000000 + k % 512 * 0x8000

/-- Address of the entry of channel `c` (R380). -/
def entAddr (b : Block) (sec : Bool) (k c : Nat) : Nat := slotAddr b sec k + 8 * c

/-- Descriptor of the slot of sheaf `k` (R383). -/
def descAddr (sec : Bool) (k : Nat) : Nat := pg 0x29 (if sec then 0xC000 + 32 * (k % 256) else 0x8000 + 32 * (k % 512))

/-- Whether sheaf `k` lies in its slot. -/
def held (b : Block) (sec : Bool) (k : Nat) : Bool := rd64 b (descAddr sec k) == k && bitOf (rd b (descAddr sec k + 16)) 0

/-- State of an entry (R382). -/
def entState (e : Nat) : Nat := e / 2 ^ 48 % 8
/-- Value and quality of an entry. -/
def entVq (e : Nat) : Nat := e % 2 ^ 48
/-- Value of an entry. -/
def entVal (e : Nat) : Int := sNat 32 e
/-- Quality of an entry. -/
def entQ (e : Nat) : Nat := e / 2 ^ 32 % 65536
/-- Flags of an entry. -/
def entFlags (e : Nat) : Nat := e / 2 ^ 48 % 256
/-- An entry of value, quality and flags (R381). -/
def mkEnt (v : Int) (q f : Nat) : Nat := uInt 32 v + q % 65536 * 2 ^ 32 + f % 256 * 2 ^ 48

/-- Set bits of the status word of sheaf `k` (R383). -/
def descBits (sec : Bool) (k m : Nat) (b : Block) : Block := let a := descAddr sec k + 16; wr a (rd b a ||| m) b

/-- A write of the secondary ring is denied (R388). -/
def secDenied (k : Nat) (j : Judged) (b : Block) : Block :=
  b |> recordFault j 0x0C1 (slotAddr b true k) Need.write |> setErr 0x29 0 (k % 256) |> descBits true k 0x100

/-- Carry out a ring write by RQID 0x0C1 (R128, R380, R388, R622). -/
def ringWrite (sec : Bool) (k : Nat) (f : Block → Block) (b : Block) : Block :=
  let j := judge b 0x0C1 (slotAddr b sec k) (.word 8) Need.write
  if j.status = .ok then f b
  else if sec then secDenied k j b
  else recordFault j 0x0C1 (slotAddr b sec k) Need.write b

/-- Write the entry of channel `c`, a partial write of its word: one that is poisoned stays so, and one that is uncorrectable becomes poisoned,
which MEM and ALN's ERR record (R36). -/
def putEnt (sec : Bool) (k c e : Nat) (b : Block) : Block :=
  let a := entAddr b sec k c
  ringWrite sec k (fun b => let r := storeWords 0x0C1 Need.write a (leBytes 8 e) (cwsOf a 8) b; ownData 0x29 r.1 r.2) b

/-- Whether the codeword of an entry is uncorrectable or poisoned. -/
def entBad (b : Block) (sec : Bool) (k c : Nat) : Bool :=
  let w := (cwOf (entAddr b sec k c)).1
  b.poisoned.contains w || b.uncorr.contains w

/-- The entry of channel `c` of sheaf `k`; unused when the sheaf is not in its slot. -/
def getEnt (b : Block) (sec : Bool) (k c : Nat) : Nat := if held b sec k then mnat b (entAddr b sec k c) 8 else 0

/-- The four entries of a bad word become missing (R36, R386), with a value and the quality bits beside validity that the manual leaves open
(DESIGN CHOICE, log entry 2). -/
def wordMissing (sec : Bool) (k c : Nat) (b : Block) : Block :=
  let c0 := c / 4 * 4
  b |> cleanse (cwOf (entAddr b sec k c)).1
    |> each (fun i b => b |> putEnt sec k (c0 + i) (mkEnt (sNat 32 (fresh b)) (fresh b / 2 ^ 32 % 2 ^ 14 * 4 + 1) 4) |> freshNext) [0, 1, 2, 3]
    |> descBits sec k 0x100 |> raise EV.ALN_CHERR

/-- ALN meets an uncorrectable or poisoned word (R36, R386): MEM and ALN's ERR record it, and its entries become missing. -/
def chErr (sec : Bool) (k c : Nat) (b : Block) : Block :=
  let w := (cwOf (entAddr b sec k c)).1
  let st := if b.poisoned.contains w then Status.poison else Status.ue
  b |> memFault w (if st = .poison then 2 else 1) (memKind w) Need.read.bits 0x0C1 |> ownData 0x29 st |> wordMissing sec k c

/-- Convert the bad words among channels `l` of sheaf `k` (R386). -/
def checkWords (sec : Bool) (k : Nat) (l : List Nat) (b : Block) : Block :=
  each (fun c b => if held b sec k && entBad b sec k c then chErr sec k c b else b) l b

/-- Channels subscribed on a grid, with their stream slots (R365). -/
def subs (b : Block) (sec : Bool) : List (Nat × Nat) :=
  (((streams b (sviCopy b)).filter (fun e => e.sec == sec)).map (fun e => e.channels.map (fun c => (e.slot, c)))).flatten

/-! ### Engine state -/

/-- Change ALN's own state. -/
def modAln (f : Aln → Aln) (b : Block) : Block := { b with aln := f b.aln }

/-- The record of a sheaf in its window. -/
def sheafOf (b : Block) (sec : Bool) (k : Nat) : Option Sheaf := b.aln.sheaves.find? (fun s => s.sec == sec && s.k == k)

/-- Change the record of a sheaf. -/
def modSheaf (sec : Bool) (k : Nat) (f : Sheaf → Sheaf) (b : Block) : Block :=
  modAln (fun a => { a with sheaves := a.sheaves.map (fun s => if s.sec == sec && s.k == k then f s else s) }) b

/-- The next index to claim. -/
def claimNext (b : Block) (sec : Bool) : Nat := if sec then b.aln.claimS else b.aln.claimP
/-- The next index to release. -/
def relNext (b : Block) (sec : Bool) : Nat := if sec then b.aln.relS else b.aln.relP
/-- The next index to close. -/
def closeNext (b : Block) (sec : Bool) : Nat := if sec then b.aln.closeS else b.aln.closeP
/-- Set the next index to claim. -/
def setClaim (sec : Bool) (k : Nat) (b : Block) : Block := modAln (fun a => if sec then { a with claimS := k } else { a with claimP := k }) b
/-- Set the next index to release. -/
def setRel (sec : Bool) (k : Nat) (b : Block) : Block := modAln (fun a => if sec then { a with relS := k } else { a with relP := k }) b
/-- Set the next index to close. -/
def setClose (sec : Bool) (k : Nat) (b : Block) : Block := modAln (fun a => if sec then { a with closeS := k } else { a with closeP := k }) b

/-- Whether a grid produces sheaves (R365, R367). -/
def gridOn (b : Block) (sec : Bool) : Bool := fon b F.ALN_STAT_running && (!sec || fon b F.ALN_STAT_secen)

/-- Grid instant of sheaf `k`, ns. -/
def instantOf (b : Block) (sec : Bool) (k : Nat) : Nat := gridNs (gridRate b sec) k

/-- Claim the slot of sheaf `k` (R380). -/
def claim (sec : Bool) (k : Nat) (b : Block) : Block :=
  let d := descAddr sec k
  let b := b |> wr64 d k |> wr (d + 8) 0 |> wr (d + 12) 0 |> wr (d + 16) 1 |> wr (d + 20) 0 |> wr64 (d + 24) 0
  b |> ringWrite sec k (wipe (slotAddr b sec k) (8 * gridChans sec))
    |> modAln (fun a => { a with sheaves := a.sheaves ++ [Sheaf.init sec k] })

/-- Claim the slot of sheaf `k` unless it is claimed. -/
def ensureClaim (sec : Bool) (k : Nat) (b : Block) : Block := if held b sec k then b else claim sec k b

/-- SLOT_CLAIM: grid instant t_k of the next sheaf not yet claimed at its instant (R380). -/
def slotClaim (sec : Bool) (b : Block) : Block :=
  if !gridOn b sec then b
  else
    let k := claimNext b sec
    b |> advanceTo (instantOf b sec k) |> ensureClaim sec k |> setClaim sec (k + 1)

/-! ### Stream status -/

/-- Stream status word 0 (R390). -/
abbrev strmStat (s : Nat) : Nat := pg 0x29 (0xE000 + 8 * s)
/-- Absence count. -/
abbrev F.strmAbsent (s : Nat) : Fld := ⟨strmStat s, 31, 24⟩
/-- Held-over. -/
abbrev F.strmHeld (s : Nat) : Fld := ⟨strmStat s, 23, 23⟩
/-- Provisional at the latest release. -/
abbrev F.strmLate (s : Nat) : Fld := ⟨strmStat s, 22, 22⟩
/-- Too-late samples. -/
abbrev F.strmTooLate (s : Nat) : Fld := ⟨strmStat s, 15, 0⟩

/-- Show whether a stream is held-over (R389, R390). -/
def setHeld (s : Nat) (v : Bool) (b : Block) : Block :=
  let a := R.ALN_HELD (s / 32)
  b |> fset (F.strmHeld s) (b2n v) |> wr a (if v then rd b a ||| 2 ^ (s % 32) else rd b a &&& (0xFFFFFFFF - 2 ^ (s % 32)))

/-- A sample of the stream is accepted (R373). -/
def present (s : Nat) (b : Block) : Block :=
  let b := fset (F.strmAbsent s) 0 b
  if fon b (F.strmHeld s) then b |> setHeld s false |> raiseP EV.ALN_RESUMED (leBytes 4 s) else b

/-- A sample came at or after the close of its sheaf (R379). -/
def tooLate (s : Nat) (b : Block) : Block :=
  b |> cnt R.ALN_TOOLATE |> fset (F.strmTooLate s) (fget b (F.strmTooLate s) + 1) |> raiseSec EV.ALN_TOOLATE 0 []

/-- Key of a channel among the last good entries. -/
abbrev goodKey (sec : Bool) (c : Nat) : Nat := 65536 * b2n sec + c

/-- Remember a final or gleaned entry (R373). -/
def setGood (sec : Bool) (c e : Nat) (b : Block) : Block := modAln (fun a => { a with good := sset (fun _ => 0) a.good (goodKey sec c) e }) b

/-! ### Revisions -/

/-- The channel masks of the existing instances, 4,096 bits each. -/
def instMasks (b : Block) : List (Nat × Nat) :=
  ((List.range 64).filter (instExists b)).map (fun n => (n, ((List.range 128).map (fun w =>
    tget b (tkey 0x31 2 n w + if b.shareB then copyB else 0) * 2 ^ (32 * w))).sum))

/-- The stream slot that channel `c` had at the local release of sheaf `k` (R28). -/
def slotOfChan (b : Block) (sec : Bool) (k c : Nat) : Option Nat :=
  match sheafOf b sec k with | some s => (s.map.find? (fun x => x.1 == c)).map (·.2) | none => none

/-- Tell the instances whose mask held a revised channel at the release of sheaf `k` (R28, R377, R394). -/
def tellRevised (k c : Nat) (b : Block) : Block :=
  match sheafOf b false k with
  | some s => each (fun (x : Nat × Nat) b =>
      if instExists b x.1 && bitOf x.2 c then b |> wr64 (R.ALN_I_REVIDX_LO x.1) k |> ievt 0x29 x.1 2 else b) s.masks b
  | none => b

/-- A revision `e` meets a final or gleaned entry `old`: the first value stands, and the peer is told of a difference (R377). -/
def revConflict (k c old e : Nat) (b : Block) : Block :=
  if entVq old = entVq e then b
  else b |> cnt R.ALN_REVCONF |> raise EV.ALN_REVCONF |> cond (agreed b) (spanSend (.notice 4 (leBytes 8 k ++ leBytes 2 c)))

/-- Apply a revision `e` (value, quality, flags) to the entry of channel `c` of sheaf `k` (R377). One of a phase 1 of sheaf `n` counts at
that boundary, an own one at the boundary whose phase 1 comes next (R406). -/
def revise (sec : Bool) (k c e : Nat) (peer : Option Nat) (b : Block) : Block :=
  let bnd := peer.getD (relNext b false)
  let peer := peer.isSome
  let b := checkWords sec k [c] b
  let old := getEnt b sec k c
  match entState old with
  | 1 => revConflict k c old e b
  | 3 => revConflict k c old e b
  | 0 => b
  | _ =>
    let f := 3 + (if peer then (entFlags e &&& 0x68) + 0x10 else entFlags e &&& 0x08)
    let new := entVq e + f * 2 ^ 48
    let d := descAddr sec k + 16
    let b := b |> putEnt sec k c new |> setGood sec c new |> cnt R.ALN_REVCNT
    let b := wr d ((rd b d % 65536 ||| 0x40 ||| (if peer then 0x20 else 0)) + (rd b d / 65536 + 1) % 65536 * 65536) b
    let b := match slotOfChan b sec k c with | some s => present s b | none => b
    let b := if sec then b else tellRevised k c b
    modAln (fun a => { a with
      applied := if sec then a.applied else a.applied ++ [⟨k, c, old, new, bnd⟩]
      revs := if peer then a.revs else a.revs ++ [(sec, ⟨k, c, new⟩)] }) b

/-! ### Placing samples -/

/-- Flags an own sample is placed with: the state received for a relay entry, else final (R343, R368, R382). -/
def placeFlags (relay rsmp : Bool) (e : Nat) : Nat := if relay then entFlags e &&& 0x6F else 1 + 8 * b2n rsmp

/-- Place the entry `e` of channel `c` of sheaf `k` before its local release; a second hand-over for an entry is decided by R377, as R386 says of
one that completes together with the first (DESIGN CHOICE, log entry 66). -/
def placeEarly (relay rev rsmp unsync sec : Bool) (k c e : Nat) (b : Block) : Block :=
  let old := getEnt b sec k c
  let f := placeFlags relay rsmp e
  let b := if unsync then modSheaf sec k (fun s => { s with unsync := c :: s.unsync }) b else b
  match entState old with
  | 0 => if f % 8 = 0 then b else putEnt sec k c (entVq e + f * 2 ^ 48) b
  | 1 => if f % 8 = 2 then b else revConflict k c old e b
  | 3 => if f % 8 = 2 then b else revConflict k c old e b
  | _ => if relay && !rev then b else putEnt sec k c (entVq e + (3 + (f &&& 8)) * 2 ^ 48) b

/-- Place entries `l` of one sample into sheaf `k` (R368, R371, R377, R379, R380). -/
def placeAll (slot : Nat) (relay rev rsmp unsync sec : Bool) (k : Nat) (l : List (Nat × Nat)) (b : Block) : Block :=
  if k < closeNext b sec then tooLate slot b
  else if closeNext b sec + ringSlots sec ≤ k then b
  else
    let b := ensureClaim sec k b
    let early : Bool := match sheafOf b sec k with | some s => s.phase == .claimed | none => true
    let b := each (fun (x : Nat × Nat) b =>
      if early then placeEarly relay rev rsmp unsync sec k x.1 x.2 b
      else revise sec k x.1 (entVq x.2 + placeFlags relay rsmp x.2 * 2 ^ 48) none b) l b
    present slot b

/-- The worst of two validities: invalid above questionable above good (R369). -/
def worse (x y : Nat) : Nat :=
  let r (v : Nat) : Nat := match v with | 1 => 3 | 3 => 2 | 2 => 1 | _ => 0
  if r x < r y then y else x

/-- The quality of a resampled value (R369). -/
def tapQ (l : List Nat) : Nat := (l.foldl (fun a e => worse a (entQ e % 4)) 0) + (l.foldl (fun a e => a ||| (entQ e / 4)) 0) * 4

/-- `n / d` to the nearest unit, halves away from zero, for any sign of `d`. -/
def roundRat (n d : Int) : Int := if d < 0 then roundDiv (-n) d.natAbs else roundDiv n d.natAbs

/-- The Lagrange polynomial through taps (instant, value) at `t`, as numerator and denominator (R369). -/
def lagrange (p : List (Int × Int)) (t : Int) : Int × Int :=
  p.foldl (fun acc x =>
    let others := p.filter (fun y => y.1 != x.1)
    let n := others.foldl (fun a y => a * (t - y.1)) x.2
    let d := others.foldl (fun a y => a * (x.1 - y.1)) 1
    (acc.1 * d + n * acc.2, acc.2 * d)) (0, 1)

/-- The value of channel `c` at `t` through taps `l`; none when a tap lacks the channel (R369). -/
def tapValue (l : List Tap) (t c : Nat) : Option Nat :=
  let es := l.filterMap (fun x => (x.vals.find? (fun v => v.1 == c)).map (fun v => (x.t, v.2)))
  if es.length ≠ l.length then none
  else
    let (n, d) := lagrange (es.map (fun x => ((x.1 : Int), entVal x.2))) t
    let v := roundRat n d
    let v := if v < -2147483648 then -2147483648 else if 2147483647 < v then 2147483647 else v
    some (mkEnt v (tapQ (es.map (·.2))) 0)

/-- Grid indices in `(t0, t1]` whose instant is governed by physical copy `c` (R340). -/
def gridBetween (b : Block) (sec c : Bool) (t0 t1 : Nat) : List Nat :=
  let r := gridRate b sec
  let k0 := gridAt r (t0 + 1)
  let k1 := gridAt r (t1 + 1)
  ((List.range (min 64 (k1 - k0))).map (· + k0)).filter (fun k => governs b (gridNs r k) == c)

/-- The tap with number `n`. -/
def tapN (l : List Tap) (n : Nat) : Option Tap := l.find? (fun x => x.n == n)

/-- The windows of nominal taps that tap `n` completes: LINEAR two, CUBIC four in a row (R368); each with its middle pair. -/
def tapWindows (cubic : Bool) (l : List Tap) (n : Nat) : List (List Tap) :=
  let w := if cubic then 4 else 2
  (List.range w).filterMap (fun j =>
    if n + 1 < w - j then none
    else
      let first := n + 1 + j - w
      let ts := (List.range w).filterMap (fun i => tapN l (first + i))
      if ts.length = w then some ts else none)

/-- Resample with a new tap (R368, R369). -/
def resample (s : Sample) (b : Block) : Block :=
  let key := histKey s.slot s.copy
  let old := sget (fun _ => []) b.aln.taps key
  let tap : Tap := ⟨s.n, s.t, s.sync, s.vals⟩
  let l := (tap :: old.filter (fun x => x.n != s.n)).take 8
  let b := modAln (fun a => { a with taps := sset (fun _ => []) a.taps key l }) b
  let cubic := (if s.copy = sviCopy b then cfg b (F.ALN_STRM_rsmp s.slot) else shd b (F.ALN_STRM_rsmp s.slot)) == 1
  let r := gridRate b s.sec
  let k := gridAt r s.t
  let b := if gridNs r k = s.t && governs b s.t == s.copy then placeAll s.slot false false true (!s.sync) s.sec k s.vals b else b
  each (fun ts b =>
    let i := ts.length / 2 - 1
    let t0 := (ts.getD i tap).t
    let t1 := (ts.getD (i + 1) tap).t
    let unsync := ts.any (fun x => !x.sync)
    each (fun k b =>
      let t := gridNs r k
      if ts.any (fun x => x.t == t) then b
      else placeAll s.slot false false true unsync s.sec k (s.vals.filterMap (fun v => (tapValue ts t v.1).map (fun e => (v.1, e)))) b)
      (gridBetween b s.sec s.copy t0 t1) b) (tapWindows cubic l s.n) b

/-- SAMPLE_PLACE: the next sample handed over is placed (R368). -/
def samplePlace (b : Block) : Block :=
  match b.aln.inq with
  | [] => b
  | s :: l =>
    let b := modAln (fun a => { a with inq := l }) b
    if !gridOn b s.sec then b
    else match s.relay with
    | some (k, rev) => placeAll s.slot true rev false false s.sec k s.vals b
    | none =>
      if s.direct then placeAll s.slot false false false false s.sec (gridAt (gridRate b s.sec) s.t) s.vals b
      else resample s b

/-! ### Fill and held-over -/

/-- Fill method of stream `s` in force (R391). -/
def fillOf (b : Block) (s : Nat) : Nat := cfg b (F.ALN_STRM_fill s)

/-- The fill of channel `c` of stream `s` at the local release of `k` (R372). -/
def fillEnt (b : Block) (sec : Bool) (k s c : Nat) : Nat :=
  let e1 := if k = 0 ∨ entBad b sec (k - 1) c = true then 0 else getEnt b sec (k - 1) c
  let e2 := if k < 2 ∨ entBad b sec (k - 2) c = true then 0 else getEnt b sec (k - 2) c
  let z := mkEnt 0 1 (2 + 2 * 32)
  let hold := mkEnt (entVal e1) (entQ e1) 2
  match fillOf b s with
  | 0 => if entState e1 = 0 then z else hold
  | 1 =>
    if entState e1 = 0 then z
    else if entState e2 = 0 then hold
    else
      let v := 2 * entVal e1 - entVal e2
      mkEnt (if v < -2147483648 then -2147483648 else if 2147483647 < v then 2147483647 else v) (entQ e1) (2 + 32)
  | _ => z

/-- Fill every subscribed channel that is absent (R371, R372); the bad words that a fill reads become missing (R386). -/
def fillAll (sec : Bool) (k : Nat) (b : Block) : Block :=
  let l := (subs b sec).filter (fun x => decide (entState (getEnt b sec k x.2) = 0))
  let es := l.map (fun x => (x.2, fillEnt b sec k x.1 x.2))
  let l1 := (l.filter (fun x => decide (fillOf b x.1 ≤ 1))).map (·.2)
  let l2 := (l.filter (fun x => decide (fillOf b x.1 = 1))).map (·.2)
  let b := if k = 0 then b else checkWords sec (k - 1) l1 b
  let b := if k < 2 then b else checkWords sec (k - 2) l2 b
  each (fun (x : Nat × Nat) => putEnt sec k x.1 x.2) es b

/-- The held-over entry of channel `c` of stream `s` (R373). -/
def heldEnt (b : Block) (sec : Bool) (s c : Nat) : Nat :=
  let g := sget (fun _ => 0) b.aln.good (goodKey sec c)
  let zero := decide (fillOf b s = 2)
  mkEnt (if zero then 0 else entVal g) (((entQ g &&& 0xFFFC) + 1) ||| 0x80) (if zero then 5 + 2 * 32 else 5)

/-- Presence bitmap of sheaf `k`: channels that a sample has given (R374). -/
def presence (b : Block) (sec : Bool) (k : Nat) : Nat :=
  (((subs b sec).filter (fun x => let s := entState (getEnt b sec k x.2); s != 0 && s != 4)).map (fun x => 2 ^ x.2)).eraseDups.sum

/-- Absence counts, held-over entries and provisional marks at a release whose channels present are `m` (R373, R390). -/
def countAbsence (sec : Bool) (k m : Nat) (b : Block) : Block :=
  each (fun (e : Str) b =>
    let s := e.slot
    let b := if e.channels.any (fun c => bitOf m c) then present s b
      else
        let n := min 255 (fget b (F.strmAbsent s) + 1)
        let b := fset (F.strmAbsent s) n b
        if n < 9 then b
        else
          let b := each (fun c b => putEnt sec k c (heldEnt b sec s c) b) e.channels b
          if fon b (F.strmHeld s) then b else b |> setHeld s true |> raiseP EV.ALN_HELDOVER (leBytes 4 s)
    let late := e.channels.any (fun c => entState (getEnt b sec k c) == 2)
    b |> fset (F.strmLate s) (b2n late) |> cond late (cnt (strmStat s + 4))) ((streams b (sviCopy b)).filter (fun e => e.sec == sec)) b

/-- The digest of sheaf `k`: every entry in channel order, the twin bit left out (R374). -/
def sheafDigest (b : Block) (sec : Bool) (k : Nat) : Nat :=
  Crc.crc64 (((List.range (gridChans sec)).map (fun c =>
    let e := getEnt b sec k c
    leBytes 8 (entVq e + (entFlags e &&& 0xEF) * 2 ^ 48))).flatten)

/-! ### Settlement -/

/-- Channels recorded for sheaf `k` at its local release. -/
def Sheaf.chans (s : Sheaf) : List Nat := (s.snap.filter (fun x => decide (x.1 < 65536))).map (·.1)

/-- Each existing instance takes IEVT bit `bit` of ALN (R394). -/
def tellAll (bit : Nat) (b : Block) : Block := each (fun n b => if instExists b n then ievt 0x29 n bit b else b) (List.range 64) b

/-- Settle sheaf `k` (R378 steps 2–4). -/
def settle (sec : Bool) (k : Nat) (agree : Bool) (b : Block) : Block :=
  match sheafOf b sec k with
  | none => b
  | some s =>
    let cs := s.chans
    let b := checkWords sec k cs b
    let b := each (fun c b =>
      let e := getEnt b sec k c
      if entState e = 2 then putEnt sec k c (mkEnt (entVal e) ((entQ e &&& 0xFFFC) + 1) ((entFlags e &&& 0xF8) + 4)) b else b) cs b
    let miss := (cs.filter (fun c => entState (getEnt b sec k c) == 4)).length
    let d := descAddr sec k
    let b := b |> wr (d + 12) (fast b) |> descBits sec k (4 + 16 * b2n agree) |> wr (d + 20) (rd b (d + 20) % 65536 + miss * 65536)
      |> wr64 (d + 24) (sheafDigest b sec k) |> cntN R.ALN_MISSCNT miss
      |> modAln (fun a => { a with sheaves := a.sheaves.filter (fun s => !(s.sec == sec && s.k == k)) })
    if sec then b else b |> wr64 R.ALN_SETIDX_LO k |> tellAll 1 |> modAln (fun a => { a with settled := a.settled ++ [k] })

/-- Group entries into runs of consecutive channels (R513). -/
def toRuns : List (Nat × Nat) → List Run
  | [] => []
  | (c, e) :: l => match toRuns l with
    | (c', es) :: r => if c' = c + 1 then (c, e :: es) :: r else (c, [e]) :: (c', es) :: r
    | [] => [(c, [e])]

/-- The entries of runs with their channels. -/
def ofRuns (l : List Run) : List (Nat × Nat) := (l.map (fun r => (List.range r.2.length).map (fun i => (r.1 + i, r.2.getD i 0)))).flatten

/-- Go on with a settlement exchange as far as it can (R378 step 1). -/
def settleGo (sec : Bool) (k : Nat) (b : Block) : Block :=
  match sheafOf b sec k with
  | none => b
  | some s =>
    if s.phase ≠ .settling then b
    else
      let b := match s.sPeer with
        | some m => if s.sSent then b else
          let l := (s.chans.filter (fun c => bitOf m c && entState (getEnt b sec k c) == 3)).map (fun c => (c, getEnt b sec k c))
          b |> spanSend (.settle sec k (.runs (toRuns l) false)) |> modSheaf sec k (fun s => { s with sSent := true })
        | none => b
      let b := if s.sPeer.isSome && s.sIn && s.sDigest.isNone then
          (let d := sheafDigest b sec k
           b |> modSheaf sec k (fun s => { s with sDigest := some d }) |> spanSend (.settle sec k (.digest d)))
        else b
      match sheafOf b sec k with
      | none => b
      | some s => match s.sDigest, s.sPeerDigest with
        | some d, some p => b |> cond (d != p) (diverge 2 k 0) |> settle sec k true
        | _, _ => b

/-- Take one part of the peer's SETTLE. -/
def settlePart (sec : Bool) (k : Nat) (p : SettlePart) (b : Block) : Block :=
  let b := match p with
    | .bitmap m => modSheaf sec k (fun s => { s with sPeer := some m }) b
    | .runs r more => b |> each (fun (x : Nat × Nat) b => revise sec k x.1 x.2 (some (relNext b false)) b) (ofRuns r) |> modSheaf sec k (fun s => { s with sIn := !more })
    | .digest d => modSheaf sec k (fun s => { s with sPeerDigest := some d }) b
  settleGo sec k b

/-- Whether an early message belongs to sheaf `k` of a grid, by message kind. -/
def earlySettle (sec : Bool) (k : Nat) (m : SpanMsg) : Bool := match m with | .settle s j _ => s == sec && j == k | _ => false

/-- The close instant of a released sheaf (R376). -/
def closeAt (b : Block) (s : Sheaf) : Nat := instantOf b s.sec s.k + s.h + cfg b F.ALN_GLEAN_ns

/-- Close sheaf `k`, which has been released (R378). -/
def closeSheaf (sec : Bool) (k : Nat) (b : Block) : Block :=
  let b := setClose sec (k + 1) b
  if !agreed b then settle sec k false b
  else
    let m := match sheafOf b sec k with
      | some s => ((s.chans.filter (fun c => let t := entState (getEnt b sec k c); t == 2 || t == 5)).map (fun c => 2 ^ c)).sum
      | none => 0
    let early := b.aln.early.filter (earlySettle sec k)
    b |> modSheaf sec k (fun s => { s with phase := .settling, closedAt := ns b }) |> spanSend (.settle sec k (.bitmap m))
      |> modAln (fun a => { a with early := a.early.filter (fun x => !earlySettle sec k x) })
      |> each (fun x b => match x with | .settle _ _ p => settlePart sec k p b | _ => b) early

/-- GLEAN_CLOSE: the close of the next sheaf of a grid (R376, R378). -/
def gleanClose (sec : Bool) (b : Block) : Block :=
  let k := closeNext b sec
  match sheafOf b sec k with
  | some s => if s.phase = .released then b |> advanceTo (closeAt b s) |> closeSheaf sec k else b
  | none => b

/-- SETTLE_TIMEOUT: the settlement exchange is not complete 8 µs after the close (R378). -/
def settleTimeout (sec : Bool) (b : Block) : Block :=
  match b.aln.sheaves.find? (fun s => s.sec == sec && s.phase == .settling) with
  | none => b
  | some s => b |> advanceTo (s.closedAt + 8000) |> settle sec s.k false |> cnt R.ALN_AGREETO |> raise EV.ALN_AGREETO

/-- SPAN_SETTLE_RECEIVE (R378). -/
def settleReceive (sec : Bool) (k : Nat) (p : SettlePart) (b : Block) : Block :=
  if !agreed b then b
  else match sheafOf b sec k with
  | some s => if s.phase = .settling then settlePart sec k p b else modAln (fun a => { a with early := a.early ++ [.settle sec k p] }) b
  | none => b

/-! ### Release -/

/-- Mark sheaf `k` released (R371, R374, R383, R389, R394). -/
def release (sec : Bool) (k : Nat) (agree : Bool) (b : Block) : Block :=
  let cs := match sheafOf b sec k with | some s => s.chans | none => []
  let es := cs.map (fun c => (c, getEnt b sec k c))
  let st := 2 + 8 * b2n agree + 32 * b2n (es.any (fun x => bitOf (entFlags x.2) 4)) + 128 * b2n (es.any (fun x => entState x.2 == 5))
  let prov := if cfg b F.ALN_GLEAN_ns = 0 then 0 else (es.filter (fun x => entState x.2 == 2)).length
  let d := descAddr sec k
  let (at_, h) := match sheafOf b sec k with | some s => (s.relAt, s.h) | none => (ns b, 0)
  let b := b |> wr (d + 8) (fast b) |> descBits sec k st |> wr (d + 20) prov |> wr64 (d + 24) (sheafDigest b sec k)
    |> each (fun (x : Nat × Nat) b => if entState x.2 = 1 ∨ entState x.2 = 3 then setGood sec x.1 x.2 b else b) es
    |> modSheaf sec k (fun s => { s with phase := .released })
  let b := if sec then wr64 R.ALN_SCURIDX_LO k b
    else
      let b := b |> wr64 R.ALN_CURIDX_LO k |> fset F.ALN_STAT_paired (b2n agree)
      let b := if agree then { fset F.ALN_AGREENS_ns (min 65535 (ns b - at_)) b with twn := { b.twn with missed := 0 } } else b
      b |> tellAll 0 |> modAln (fun a => { a with due := a.due ++ [(k, h)] })
  if cfg b F.ALN_GLEAN_ns = 0 then b |> setClose sec (k + 1) |> settle sec k agree else b

/-- Restore what sheaf `k` held at its local release (R374); an entry that an own sample has revised since stays. -/
def restoreSnap (sec : Bool) (k : Nat) (l : List (Nat × Nat)) (b : Block) : Block :=
  each (fun (x : Nat × Nat) b => if x.1 < 65536 then
      (let e := getEnt b sec k x.1
       if entState e = 3 ∧ entState x.2 ≠ 3 ∧ bitOf (entFlags e) 4 = false then b else putEnt sec k x.1 x.2 b)
    else
    b |> fset (F.strmAbsent (x.1 - 65536)) (x.2 % 256) |> setHeld (x.1 - 65536) (256 ≤ x.2)) l b

/-- AGREEMENT_TIMEOUT: the sheaf in agreement is released alone with its content at local release (R25, R374). -/
def agreeTimeout (sec : Bool) (b : Block) : Block :=
  match b.aln.sheaves.find? (fun s => s.sec == sec && s.phase == .agreeing) with
  | none => b
  | some s =>
    let b := b |> advanceTo (instantOf b sec s.k + s.h + 8000) |> restoreSnap sec s.k s.snap |> countAbsence sec s.k s.own |> cnt R.ALN_AGREETO
    let b := if sec then b else { b with twn := { b.twn with missed := b.twn.missed + 1 } }
    b |> raise EV.ALN_AGREETO |> release sec s.k false

/-- The entries that phase 2 carries to the peer (R374, R375). -/
def phase2 (b : Block) (s : Sheaf) (m : Nat) : List (Nat × Nat) :=
  (s.chans.filter (fun c =>
    let own := bitOf s.own c
    (own && !bitOf m c) || (!isY b && ((own && s.unsync.contains c) || (!own && !bitOf m c))))).map (fun c => (c, getEnt b s.sec s.k c))

/-- A phase 2 of more than 2,048 entries over one lane: the sheaf is released under R25 (R24, R514). -/
def tooLong (b : Block) (s : Sheaf) : Bool :=
  decide (2048 < s.n2) && (fon b F.TWN_STAT_lane1 != fon b F.TWN_STAT_lane2)

/-- Go on with an agreement as far as it can (R374). -/
def agreeGo (sec : Bool) (k : Nat) (b : Block) : Block :=
  match sheafOf b sec k with
  | none => b
  | some s =>
    if s.phase ≠ .agreeing then b
    else match s.peer with
    | none => b
    | some m =>
      let l := phase2 b s m
      let b := if s.sent2 then b else
        b |> spanSend (.ph2 sec k (toRuns l) false) |> modSheaf sec k (fun s => { s with sent2 := true, n2 := s.n2 + l.length })
      let b := if s.in2 && s.digest.isNone then
          (let b := countAbsence sec k (s.own ||| m) b
           let d := sheafDigest b sec k
           b |> modSheaf sec k (fun s => { s with digest := some d }) |> spanSend (.ph3 sec k d))
        else b
      match sheafOf b sec k with
      | none => b
      | some s => match s.digest, s.peerDigest with
        | some d, some p => if tooLong b s then b else b |> cond (d != p) (diverge 1 k 0) |> release sec k true
        | _, _ => b

/-- Take a phase 1–3 message for a sheaf in agreement. -/
def agreeMsg (m : SpanMsg) (b : Block) : Block :=
  match m with
  | .ph1 sec k bm _ => b |> modSheaf sec k (fun s => { s with peer := some bm }) |> agreeGo sec k
  | .ph2 sec k r more =>
    b |> each (fun (x : Nat × Nat) => putEnt sec k x.1 (entVq x.2 + (entFlags x.2 ||| 0x10) * 2 ^ 48)) (ofRuns r)
      |> modSheaf sec k (fun s => { s with in2 := !more, n2 := s.n2 + (ofRuns r).length }) |> agreeGo sec k
  | .ph3 sec k d => b |> modSheaf sec k (fun s => { s with peerDigest := some d }) |> agreeGo sec k
  | _ => b

/-- Whether a message is of phases 1–3 for sheaf `k`. -/
def earlyAgree (sec : Bool) (k : Nat) (m : SpanMsg) : Bool :=
  match m with
  | .ph1 s j _ _ => s == sec && j == k
  | .ph2 s j _ _ => s == sec && j == k
  | .ph3 s j _ => s == sec && j == k
  | _ => false

/-- A phase 1–3 message for sheaf `k`: taken now when its agreement runs, kept until its local release when that is still to
come, else dropped. -/
def agreeReceive (sec : Bool) (k : Nat) (m : SpanMsg) (b : Block) : Block :=
  if !agreed b then b
  else match sheafOf b sec k with
  | some s => if s.phase = .agreeing then agreeMsg m b
      else if s.phase = .claimed then modAln (fun a => { a with early := a.early ++ [m] }) b else b
  | none => if relNext b sec ≤ k then modAln (fun a => { a with early := a.early ++ [m] }) b else b

/-- SPAN_PH1_RECEIVE (R374, R377). -/
def ph1Receive (sec : Bool) (k bm : Nat) (revs : List RevRec) (b : Block) : Block :=
  if !agreed b then b
  else
    let b := each (fun (r : RevRec) b => if r.k < closeNext b sec then b else revise sec r.k r.ch r.entry (some k) b) revs b
    agreeReceive sec k (.ph1 sec k bm []) b

/-- SPAN_PH2_RECEIVE (R374). -/
def ph2Receive (sec : Bool) (k : Nat) (r : List Run) (more : Bool) (b : Block) : Block := agreeReceive sec k (.ph2 sec k r more) b

/-- SPAN_PH3_RECEIVE (R374). -/
def ph3Receive (sec : Bool) (k d : Nat) (b : Block) : Block := agreeReceive sec k (.ph3 sec k d) b

/-- The GOOSE records as they stand at the local release of primary sheaf `k`, for the input images of that sheaf (R433). -/
def keepGoose (k : Nat) (b : Block) : Block :=
  { b with sch := { b.sch with gooSnap := (k, b.svi.goose) :: b.sch.gooSnap.take 127 } }

/-- LOCAL_RELEASE of the next sheaf of a grid (R371–R375). -/
def localRelease (sec : Bool) (b : Block) : Block :=
  if !gridOn b sec then b
  else
    let b := agreeTimeout' sec b
    let k := relNext b sec
    let h := cfg b F.ALN_HORIZON_ns
    let b := b |> advanceTo (instantOf b sec k + h) |> ensureClaim sec k |> setRel sec (k + 1)
    let b := if claimNext b sec ≤ k then setClaim sec (k + 1) b else b
    let l := subs b sec
    let b := checkWords sec k (l.map (·.2)) b
    let own := presence b sec k
    let b := fillAll sec k b
    let snap := l.map (fun x => (x.2, getEnt b sec k x.2)) ++
      (l.map (·.1)).eraseDups.map (fun s => (65536 + s, fget b (F.strmAbsent s) + 256 * b2n (fon b (F.strmHeld s))))
    let b := modSheaf sec k (fun s => { s with
      h := h, relAt := ns b, own := own, snap := snap, map := l.map (fun x => (x.2, x.1)), masks := if sec then [] else instMasks b }) b
    let b := if sec then b else keepGoose k b
    let b := if cfg b F.ALN_GLEAN_ns = 0 then setClose sec (k + 1) b else b
    if !agreed b then
      b |> modAln (fun a => { a with revs := a.revs.filter (fun r => r.1 != sec) }) |> countAbsence sec k own |> release sec k false
    else
      let revs := (b.aln.revs.filter (fun r => r.1 == sec)).map (·.2)
      let early := b.aln.early.filter (earlyAgree sec k)
      b |> modAln (fun a => { a with revs := a.revs.filter (fun r => r.1 != sec), early := a.early.filter (fun x => !earlyAgree sec k x) })
        |> modSheaf sec k (fun s => { s with phase := .agreeing }) |> spanSend (.ph1 sec k own revs)
        |> each agreeMsg early
where
  /-- An agreement still open when the next release comes is past its time. -/
  agreeTimeout' (sec : Bool) (b : Block) : Block :=
    if b.aln.sheaves.any (fun s => s.sec == sec && s.phase == .agreeing) then agreeTimeout sec b else b

/-! ### Start, commands and swaps -/

/-- ALN starts producing primary sheaves at S09 (R387, R388). -/
def alnStart (b : Block) : Block :=
  let k := gridAt (primRate b) (ns b)
  b |> fset F.ALN_STAT_running 1 |> setClaim false k |> setRel false k |> setClose false k

/-- ALN_CMD CLRCNT (the ALN registers' text). -/
def alnClrcnt (b : Block) : Nat × Block :=
  (0, b |> zeroRegs [R.ALN_TOOLATE, R.ALN_AGREETO, R.ALN_REVCNT, R.ALN_REVCONF, R.ALN_MISSCNT]
    |> each (fun s b => b |> fset (F.strmTooLate s) 0 |> wr (strmStat s + 4) 0) (List.range 512))

/-- The due offset of an entry times its rate, under method `cubic` (R370). -/
def dueTimesRate (e : Str) (cubic : Bool) (grid : Nat) : Nat :=
  let look := if e.kind = 2 ∨ (e.rate = grid ∧ e.f 0 23 22 ≠ 0) then 0 else if cubic then 2 else 1
  e.latency * 1000 * e.rate + look * nsec

/-- A shadow that ALN refuses (R393). -/
def alnRefuses (b : Block) : Bool :=
  let h := shd b F.ALN_HORIZON_ns
  let g := shd b F.ALN_GLEAN_ns
  let ring := shd b F.ALN_SECRING_LO_addr * 65536 + shd b F.ALN_SECRING_HI_addr * 2 ^ 32
  shd b F.ALN_CFG_rate != b2n (fon b F.ALN_STAT_rate) || decide (h < 80000 ∨ 2000000 < h) || decide (4000000 < g)
    || (shdOn b F.ALN_CFG_secen && decide (ring < 0x1000000000 ∨ 0x1004000000 < ring + 0x80000))
    || (List.range 512).any (fun s => shd b (F.ALN_STRM_fill s) == 3 || decide (1 < shd b (F.ALN_STRM_rsmp s)))
    || (shadowStreams b).any (fun e => decide (e.kind ≤ 2)
        && decide ((h + g) * e.rate ≤ dueTimesRate e (shd b (F.ALN_STRM_rsmp e.slot) == 1) (gridRate b e.sec)))

/-- Close every released sheaf whose close is past (R386). -/
def closeOverdue : Nat → Bool → Block → Block
  | 0, _, b => b
  | n + 1, sec, b =>
    match sheafOf b sec (closeNext b sec) with
    | some s => if s.phase = .released ∧ closeAt b s ≤ ns b then closeOverdue n sec (closeSheaf sec s.k b) else b
    | none => b

/-- The secondary ring has moved from `ring`: the sheaves claimed by now stay where they are (R28; DESIGN CHOICE, log entry 66). -/
def ringMoved (ring : Nat) (b : Block) : Block :=
  if ring = secRing b then b
  else
    let n := (b.aln.sheaves.filter (·.sec)).foldl (fun m s => max m (s.k + 1)) b.aln.claimS
    modAln (fun a => { a with ringOld := a.ringOld.filter (fun x => decide (n < x.1 + 512)) ++ [(n, ring)] }) b

/-- Settle what the secondary grid still has of the time before a swap cleared secen. -/
def secFinish (b : Block) : Block :=
  each (fun (s : Sheaf) b => b |> cond (s.phase == .agreeing) (release true s.k false) |> settle true s.k false) (b.aln.sheaves.filter (·.sec)) b

/-- What a swap does to ALN; the secondary ring was at `ring` (R367, R386, R387). When secen clears, the secondary sheaves released by then are
settled as the others are; those left when it is set again are settled then (DESIGN CHOICE, log entry 66). -/
def alnSwapped (ring : Nat) (b : Block) : Block :=
  let b := b |> fset F.ALN_STAT_spkcfg 0 |> ringMoved ring
  let on := cfgOn b F.ALN_CFG_secen
  let b := if on && !fon b F.ALN_STAT_secen then
      (let k := gridAt 14400 (ns b + 1)
       b |> secFinish |> setClaim true k |> setRel true k |> setClose true k)
    else if !on && fon b F.ALN_STAT_secen then modAln (fun a => { a with sheaves := a.sheaves.filter (fun s => !s.sec || s.phase != .claimed) }) b
    else b
  b |> fset F.ALN_STAT_secen (b2n on) |> closeOverdue 512 false |> closeOverdue 256 true

end Sys2Proof.Machine
end

