-- ==== Sys2Proof/Machine/Twn.lean ====
section
/-! DEFINITION. The twin link (R511–R525): heartbeats, lanes and loss, pairing, resynchronisation, frame records, span time and
notices; and the control lease with the witness (R526–R534). -/

namespace Sys2Proof.Machine

/-- Change TWN's own state. -/
def modTwn (f : Twn → Twn) (b : Block) : Block := { b with twn := f b.twn }

/-- Change the control lease. -/
def modLease (f : Lease → Lease) (b : Block) : Block := modTwn (fun t => { t with lease := f t.lease }) b

/-- State of R518. -/
def twnState (b : Block) : Nat := fget b F.TWN_STAT_state

/-- The span is up: a HEARTBEAT was taken and the span not lost since (R516). -/
def spanUp (b : Block) : Bool := b.twn.hbAt.isSome

/-- S16 of this start is done. -/
def s16Done (b : Block) : Bool := decide (16 ≤ b.start.last)

/-- Each existing instance takes IEVT bit `bit` of TWN (R546). -/
def tellTwn (bit : Nat) (b : Block) : Block := each (fun n b => if instExists b n then ievt 0x38 n bit b else b) (List.range 64) b

/-- Show whether the module counts as paired (R518). -/
def showPaired (b : Block) : Block := fset F.TWN_STAT_paired (b2n (twnState b != 0 && s16Done b)) b

/-- Change the state of R518, raising EV_TWN_STATE; marked frames go to both ports after peer loss (SOLE) and return to the own port
when the peer has rejoined (R289, R519). -/
def toTwn (s : Nat) (b : Block) : Block :=
  if twnState b = s then b
  else
    let was := bothLan b
    let b := b |> fset F.TWN_STAT_state s |> showPaired |> raise EV.TWN_STATE |> tellTwn 1
    if s = 4 then raise EV.PRP_BOTHLAN b else if s = 3 && was then raise EV.PRP_ONELAN b else b

/-! ### The control lease -/

/-- Lease length L, ns. -/
def leaseLen (b : Block) : Nat := cfg b F.TWN_CFG_lease * 1000000

/-- Time left to E − 10 ms, µs (R515, R544). -/
def leaseLeft (b : Block) : Nat := if holder b then (b.twn.lease.exp - 10000000 - ns b) / 1000 else 0

/-- The witness leaf in use: next from its not-before, else current (R188, R527). -/
def pickLeaf (b : Block) (cur next kind : Nat) : Option Nat :=
  [next, cur].find? (fun h => (leaf b h).kind == kind && leafTx b h (secOf b))

/-- A witness datagram through H (R527). -/
def witFrame (b : Block) (m : WitMsg) : Frame :=
  { dst := Config.macOfIp m.toIp, src := b.part.mac, tag := some (cfg b F.TWN_WITNET_pcp, cfg b F.TWN_WITNET_vid), etype := 0x0800, len := 130
    fcs := .good, sym := false, asmErr := false, rct := none, hsr := none, ip := some ⟨true, true, false, true, 1⟩, inst := none, body := .witness m }

/-- Send a witness message through H under the class of TWN_WITNET. -/
def witOut (m : WitMsg) (b : Block) : Block :=
  hIngress (witFrame b m) (cfg b F.TWN_WITNET_cls) true true none none false 0x3FF b

/-- A message of the control lease to the witness: 1 REQUEST, 2 RENEW, 3 RELEASE, 6 PRESENT (R527). -/
def witMsg (b : Block) (typ req : Nat) : WitMsg :=
  { toIp := cfg b F.TWN_WITIP_ip, fromIp := cfg b F.TWN_OWNIP_ip, port := cfg b F.TWN_WIT_port, typ := typ, lease := 0, side := b2n (isY b)
    fleet := fleetId b, fid := cfg b F.FLD_ID_fid, pair := cfg b F.FLD_CFG_pair, midx := modIdx b, widx := cfg b F.TWN_WIT_widx
    len := cfg b F.TWN_CFG_lease, epoch := if typ = 2 ∨ typ = 3 then b.twn.lease.epoch else rd b R.TWN_EPOCH, req := req, startno := startNo b
    remaining := 0, peerage := 0, holder := 0xFFFF }

/-- Send a control lease message with a fresh request number; without a valid leaf nothing is sent (R527, R534). -/
def leaseSend (typ : Nat) (b : Block) : Block :=
  match pickLeaf b (cfg b F.TWN_WITLEAF_cur) (cfg b F.TWN_WITLEAF_next) 3 with
  | none => fset F.TWN_STAT_nokey 1 b
  | some _ =>
    let n := b.twn.lease.nextReq
    b |> fset F.TWN_STAT_nokey 0 |> witOut (witMsg b typ n)
      |> modLease (fun l => { l with nextReq := n + 1, reqs := ((n, ns b, typ) :: l.reqs).take 4 })

/-- Send a REQUEST unless TWN_CTL.nolease forbids it (R529, R534). -/
def leaseAsk (b : Block) : Block := if fon b F.TWN_CTL_nolease || holder b then b else leaseSend 1 b

/-- Change the lease of the field. -/
def modLease1 (f : Lease → Lease) (b : Block) : Block := { b with fld := { b.fld with lease := f b.fld.lease } }

/-- Send a message about lease 1 to the field witness with a fresh request number, of one count with those of the control lease (R528); nothing without a valid leaf (R527, R535, R550). -/
def lease1Send (typ : Nat) (b : Block) : Block :=
  match pickLeaf b (cfg b F.FLD_WITLEAF_cur) (cfg b F.FLD_WITLEAF_next) 3 with
  | none => b
  | some _ =>
    let n := b.twn.lease.nextReq
    b |> modLease (fun l => { l with nextReq := n + 1 }) |> witOut { witMsg b typ n with toIp := cfg b F.FLD_WITIP_ip, lease := 1, widx := cfg b F.FLD_WIT_widx, len := cfg b F.FLD_WIT_lease, epoch := b.fld.lease.epoch }
      |> modLease1 (fun l => { l with reqs := ((n, ns b, typ) :: l.reqs).take 4 })

/-- Mastership of the field ends (R528, R535). -/
def masterLose (b : Block) : Block :=
  if !fon b F.FLD_STAT_master then b
  else b |> modLease1 (fun l => { l with held := false, renewAt := none, retryAt := none }) |> fset F.FLD_STAT_master 0 |> raise EV.FLD_MCHG

/-- Field mastership is released with the control lease (R526, R528, R535). -/
def dropMaster (b : Block) : Block := if fon b F.FLD_STAT_master then b |> lease1Send 3 |> masterLose else b

/-- The control lease is lost (R528). -/
def leaseLose (b : Block) : Block :=
  if !holder b then b
  else
    let b := b |> fset F.TWN_STAT_holder 0 |> modLease (fun l => { l with held := false, renewAt := none, retryAt := none })
      |> raise EV.TWN_LEASELOST |> tellTwn 0
    b |> (fun b => if twnState b = 4 then toTwn 1 b else b) |> dropMaster |> cond (twnState b != 0) (fset F.FLD_STAT_cand 0) |> ptpRefresh

/-- Give the lease up (R528). -/
def leaseGiveUp (b : Block) : Block := if holder b then b |> leaseSend 3 |> leaseLose else b

/-- An epoch becomes known (R515, R544). -/
def epochKnown (e : Nat) (b : Block) : Block := if rd b R.TWN_EPOCH < e then wr R.TWN_EPOCH e b else b

/-- A reply of the witness has come: epoch, peerage and the counters (R528, R544). -/
def witReply (m : WitMsg) (b : Block) : Block :=
  b |> epochKnown m.epoch |> cnt R.TWN_WITRX |> wr R.TWN_PEERAGE m.peerage |> fset F.TWN_STAT_witok 1 |> modLease (fun l => { l with lastReply := ns b, failed := false })

/-- Peerage below or at least lease + 10 ms moves between SPLIT and SOLE (R519). -/
def soleCheck (m : WitMsg) (b : Block) : Block :=
  let enough := decide (cfg b F.TWN_CFG_lease + 10 ≤ m.peerage)
  if twnState b = 1 ∧ holder b = true ∧ enough = true ∧ m.typ = 4 then toTwn 4 b
  else if twnState b = 4 ∧ enough = false then toTwn 1 b else b

/-- Whether a reply echoes one of the latest four requests and the present start (R528), with its transmit stamp and type. -/
def replyTo (b : Block) (l : Lease) (m : WitMsg) : Option (Nat × Nat) :=
  if m.startno = startNo b then (l.reqs.find? (fun r => r.1 == m.req)).map (·.2) else none

/-- A lease message from the witness passes its tag and address checks (R527). -/
def witGood (b : Block) (f : Frame) (m : WitMsg) (cur next : Nat) : Bool :=
  m.fleet == fleetId b && m.midx == modIdx b
    && [cur, next].any (fun h => (leaf b h).kind == 3 && leafRx b h (secOf b) && Config.tagOk (tagKey b 2 h) f)

/-- A GRANT of the control lease (R528, R534). -/
def takeGrant (f : Frame) (m : WitMsg) (b : Block) : Block :=
  match replyTo b b.twn.lease m with
  | none => cnt R.TWN_WITBAD b
  | some (ts, _) =>
    if !witGood b f m (cfg b F.TWN_WITLEAF_cur) (cfg b F.TWN_WITLEAF_next) || decide (m.epoch < rd b R.TWN_EPOCH) then cnt R.TWN_WITBAD b
    else
      let e := ts + leaseLen b
      let b := b |> witReply m
      if e ≤ ns b + 10000000 ∨ fon b F.TWN_CTL_nolease = true then b
      else
        let was := holder b
        let b := b |> fset F.TWN_STAT_holder 1
          |> modLease (fun l => { l with held := true, epoch := m.epoch, exp := max e (if was then l.exp else 0), renewAt := some (ts + leaseLen b / 4), retryAt := none, askAt := none, remAt := none })
        let b := if was then b else b |> raise EV.TWN_LEASEGOT |> tellTwn 0 |> ptpRefresh
        soleCheck m b

/-- A STATUS about the control lease (R528, R529): a holder loses it by one in reply to a RENEW or one that names another. One in reply to
a RELEASE brings no new REQUEST (DEDUCED, log entry 53). -/
def takeStatus (f : Frame) (m : WitMsg) (b : Block) : Block :=
  match replyTo b b.twn.lease m with
  | none => cnt R.TWN_WITBAD b
  | some (_, typ) =>
    if !witGood b f m (cfg b F.TWN_WITLEAF_cur) (cfg b F.TWN_WITLEAF_next) then cnt R.TWN_WITBAD b
    else
      let b := b |> witReply m |> soleCheck m
        |> (fun b => if typ = 2 ∨ [modIdx b, 0xFFFF, 0xFFFE].contains m.holder = false then leaseLose b else b)
      if holder b || typ == 3 then b
      else if m.holder = 0xFFFF then
        (if agreed b && (isY b) then modLease (fun l => { l with askAt := some (l.askAt.getD (ns b + 2 * leaseLen b)) }) b else leaseAsk b)
      else if m.holder = modIdx b then leaseAsk b
      else modLease (fun l => { l with remAt := some (ns b + (m.remaining + 10) * 1000000) }) b

/-- LEASE_EXPIRY of the control lease: E − 10 ms (R528). -/
def leaseExpiry (b : Block) : Block :=
  if !holder b then b else b |> advanceTo (b.twn.lease.exp - 10000000) |> leaseLose

/-- RENEW_DUE of the control lease: t_s + L/4 (R528). -/
def renewDue (b : Block) : Block :=
  match b.twn.lease.renewAt with
  | none => b
  | some t =>
    if !holder b then b
    else
      let b := advanceTo t b
      b |> leaseSend 2 |> modLease (fun l => { l with renewAt := none, retryAt := some (ns b + leaseLen b / 16) })

/-- RENEW_RETRY of the control lease: no GRANT within L/16 (R528). -/
def renewRetry (b : Block) : Block :=
  match b.twn.lease.retryAt with
  | none => b
  | some t =>
    if !holder b then b
    else
      let b := advanceTo t b
      let b := b |> cnt R.TWN_WITTO |> leaseSend 2 |> modLease (fun l => { l with retryAt := some (ns b + leaseLen b / 16) })
      if !b.twn.lease.failed && decide (b.twn.lease.lastReply + leaseLen b / 2 ≤ ns b) then
        b |> fset F.TWN_STAT_witok 0 |> modLease (fun l => { l with failed := true }) |> raise EV.TWN_WITFAIL
      else b

/-- PRESENT_SEND: every L/4 from S15 done while the lease is not held (R529). -/
def presentSend (b : Block) : Block :=
  if holder b || twnState b == 0 || decide (b.start.last < 15) then b
  else
    let b := advanceTo b.twn.presentAt b
    b |> leaseSend 6 |> modTwn (fun t => { t with presentAt := ns b + leaseLen b / 4 })

/-- REQUEST_REPEAT: a REQUEST falls due after "at risk", or after the delay of side Y (R529). -/
def requestRepeat (b : Block) : Block :=
  match b.twn.lease.askAt with
  | none => b
  | some t =>
    if holder b then b
    else
      let b := advanceTo t b
      let b := leaseAsk b
      modLease (fun l => { l with askAt := if fon b F.TWN_STAT_peerrisk then some (ns b + leaseLen b / 16) else none }) b

/-- STATUS_REMAINING_EXPIRY: r + 10 ms after a STATUS (R529). -/
def statusExpiry (b : Block) : Block :=
  match b.twn.lease.remAt with
  | none => b
  | some t => if holder b then b else b |> advanceTo t |> modLease (fun l => { l with remAt := none }) |> leaseAsk

/-- TWN_CMD and TWN_I_CMD CHECK with a margin in ms (R533, R534); an ALONE module needs no lease (R526). -/
def twnCheck (inst : Option Nat) (margin : Nat) (b : Block) : Nat × Block :=
  if margin = 0 ∨ 1000 < margin then (0x12, b)
  else if twnState b = 0 ∨ (holder b = true ∧ ns b + margin * 1000000 ≤ b.twn.lease.exp - 10000000) then
    (0, match inst with | some n => wr (R.TWN_I_EPOCH n) (rd b R.TWN_EPOCH) b | none => b)
  else (0x13, b)

/-- TWN_CMD RELEASE (R543). -/
def twnRelease (b : Block) : Nat × Block := if holder b then (0, leaseGiveUp b) else (0x10, b)

/-- TWN_CMD REJOIN (R543). -/
def twnRejoin (b : Block) : Nat × Block := if twnState b = 1 then (0, fset F.TWN_STAT_refuse 0 b) else (0x10, b)

/-- TWN_CMD CLRCNT (R543). -/
def twnClrcnt (b : Block) : Nat × Block :=
  (0, zeroRegs ((List.range 5).map R.TWN_DIVCNT ++ [R.TWN_HBMISS, R.TWN_WITRX, R.TWN_WITTO, R.TWN_WITBAD]) b)

/-- NOLEASE_WRITE: a write of TWN_CTL by `rqid` (R534, R542). -/
def noleaseWrite (rqid v : Nat) (b : Block) : Block :=
  let j := judge b rqid R.TWN_CTL (.word 4) Need.write
  let b := { b with resp := ⟨j.status, 0⟩ }
  if j.status ≠ .ok then accessFault j rqid R.TWN_CTL Need.write b
  else if cfgLocked b 0x38 then lockedWrite 0x38 b
  else
    let b := fset F.TWN_CTL_nolease v b
    if bitOf v 0 then leaseGiveUp b else b

/-! ### Serving as a witness -/

/-- The served entry that a message belongs to (R527, R530): its index, and whether the sender is side Y. -/
def serveOf (b : Block) (m : WitMsg) : Option (Nat × Bool) :=
  match (List.range 16).find? (fun p => cfgOn b (F.TWN_WSRV_w0_en p) && cfg b (F.TWN_WSRV_w0_pidx p) == m.pair && cfg b (F.TWN_WSRV_w1_fid p) == m.fid
      && (cfg b (F.TWN_WSRV_w2_midx p) == m.midx || cfg b (F.TWN_WSRV_w2_midy p) == m.midx)) with
  | none => none
  | some p => some (p, cfg b (F.TWN_WSRV_w2_midy p) == m.midx)

/-- Key of the state served: the pair for lease 0; for lease 1 the first served pair of the field. -/
def serveKey (b : Block) (p : Nat) (m : WitMsg) : Nat :=
  if m.lease = 0 then 2 * p
  else 2 * ((List.range 16).find? (fun i => cfgOn b (F.TWN_WSRV_w0_en i) && cfg b (F.TWN_WSRV_w1_fid i) == m.fid)).getD p + 1

/-- State served under a key. -/
def serve (b : Block) (key : Nat) : Serve := sget (fun _ => Serve.init) b.twn.serves key

/-- Set the state served under a key. -/
def setServe (key : Nat) (s : Serve) (b : Block) : Block :=
  modTwn (fun t => { t with serves := sset (fun _ => Serve.init) t.serves key s }) b

/-- ms from an instant, rounded down; 0xFFFFFFFF if never. -/
def msSince (now : Nat) (t : Option Nat) : Nat := match t with | some x => (now - x) / 1000000 | none => 0xFFFFFFFF

/-- The decision of R530 on a message from a served pair: the new state and the reply's type, holder and remaining ms. -/
def witDecide (b : Block) (s : Serve) (m : WitMsg) : Serve × Nat × Nat × Nat :=
  let now := ns b
  let live := decide (now < s.exp) && s.holder != 0xFFFF
  let quar := decide (now < b.twn.quarEnd)
  let left := ceilDiv (s.exp - now) 1000000
  let status (s : Serve) : Serve × Nat × Nat × Nat :=
    if quar then (s, 5, 0xFFFE, ceilDiv (b.twn.quarEnd - now) 1000000)
    else if decide (now < s.exp) && s.holder != 0xFFFF then (s, 5, s.holder, ceilDiv (s.exp - now) 1000000) else (s, 5, 0xFFFF, 0)
  let len := m.len * 1000000
  if quar then status s
  else if (m.typ = 1 ∨ m.typ = 2) ∧ live = true ∧ s.holder = m.midx ∧ s.epoch = m.epoch then ({ s with exp := now + len }, 4, m.midx, 0)
  else if m.typ = 1 then
    if live then (s, 5, s.holder, left)
    else ({ s with epoch := max s.epoch m.epoch + 1, exp := now + len, holder := m.midx }, 4, m.midx, 0)
  else if m.typ = 3 ∧ s.holder = m.midx ∧ s.epoch = m.epoch then status { s with exp := now, holder := 0xFFFF }
  else status s

/-- WITNESS_MESSAGE: a datagram to a module that serves as witness (R527, R530, R531). -/
def witnessMessage (f : Frame) (b : Block) : Block :=
  match f.body with
  | .witness m =>
    if m.fleet ≠ fleetId b ∨ ¬ (m.typ ∈ [1, 2, 3, 6]) ∨ 1 < m.lease then b
    else match serveOf b m with
    | none => b
    | some (p, y) =>
      let h := if y then cfg b (F.TWN_WSRV_w3_leafy p) else cfg b (F.TWN_WSRV_w3_leafx p)
      if !((leaf b h).kind == 3 && leafRx b h (secOf b) && Config.tagOk (tagKey b 2 h) f) then b
      else
        let key := serveKey b p m
        let s := serve b key
        let id := (m.midx, m.startno, m.req)
        match s.replies.find? (fun r => r.1 == id) with
        | some r => b |> setServe key (if y then { s with heardY := some (ns b) } else { s with heardX := some (ns b) }) |> witOut r.2
        | none =>
          let now := ns b
          let peerage := msSince now (if y then s.heardX else s.heardY)
          let (s', typ, hold, rem) := witDecide b s m
          let s' := if y then { s' with heardY := some now } else { s' with heardX := some now }
          let r : WitMsg := { m with toIp := m.fromIp, fromIp := cfg b F.TWN_OWNIP_ip, typ := typ, side := 0xFF, widx := modIdx b
                                     epoch := s'.epoch, remaining := rem, peerage := peerage, holder := hold }
          let s' := { s' with replies := (id, r) :: s'.replies.filter (fun x => x.1.1 != m.midx) }
          b |> setServe key s' |> witOut r
  | _ => b

/-- WITNESS_QUARANTINE_END: 1,010 ms after the witness's own start (R531). -/
def witQuarEnd (b : Block) : Block := advanceTo b.twn.quarEnd b

/-! ### Heartbeats and loss -/

/-- The span is lost (R516, R519, R525). -/
def spanLost (b : Block) : Block :=
  if !spanUp b then b
  else
    let b := b |> modTwn (fun t => { t with hbAt := none, missed := 0, peerStart := none, joinIdx := none, resync := none, propose := 0 }) |> raise EV.TWN_SPANLOST
    let b := b |> agreeTimeout false |> agreeTimeout true |> settleTimeout false |> settleTimeout true
    let b := if twnState b = 3 ∨ twnState b = 2 then toTwn 1 b else b
    modTwn (fun t => { t with recs := [], precs := [], suppress := [], unsynced := [] }) b

/-- SPAN_LOST: the first condition of R516 that holds. -/
def spanLostEv (b : Block) : Block :=
  match b.twn.hbAt with
  | none => b
  | some t =>
    if 16 ≤ b.twn.missed then spanLost b
    else b |> advanceTo (t + 1000000) |> (fun b => cntN R.TWN_HBMISS ((ns b - t) / 100000) b) |> spanLost

/-- The heartbeat this module sends (R515). -/
def heartbeat (b : Block) : Heartbeat :=
  { midx := modIdx b, side := (isY b), service := fget b F.SYS_STAT_service, startno := startNo b, twn := twnState b, pwr := fget b F.PWR_STAT_state
    timState := fget b F.TIM_STAT_state, timSrc := fget b F.TIM_STAT_src, holder := holder b, master := fon b F.FLD_STAT_master
    hexp := fon b F.TIM_STAT_hexp, epoch := rd b R.TWN_EPOCH, leftUs := leaseLeft b, idx := rd64 b R.ALN_CURIDX_LO }

/-- HEARTBEAT_SEND, with the frame records not yet sent (R515, R521). -/
def heartbeatSend (b : Block) : Block :=
  let b := spanSend (.heartbeat (heartbeat b)) b
  let l := (b.twn.recs.filter (fun r => !r.sent)).map (·.r)
  if l.isEmpty || !agreed b then b
  else b |> spanSend (.framedig l) |> modTwn (fun t => { t with recs := (t.recs.map (fun r => { r with sent := true })).filter (fun r => !r.matched) })

/-- A good frame has come on lane `l` (R516). -/
def laneHeard (l : Nat) (b : Block) : Block :=
  if b.twn.laneOff || !linkUp b (11 + l) then b
  else
    let f := if l = 1 then F.TWN_STAT_lane1 else F.TWN_STAT_lane2
    let b := modTwn (fun t => if l = 1 then { t with lane1At := some (ns b) } else { t with lane2At := some (ns b) }) b
    if fon b f then b else b |> fset f 1 |> raise EV.TWN_LANE

/-- LANE_TIMEOUT of lane `l` (R516). -/
def laneTimeout (l : Nat) (b : Block) : Block :=
  let f := if l = 1 then F.TWN_STAT_lane1 else F.TWN_STAT_lane2
  match (if l = 1 then b.twn.lane1At else b.twn.lane2At) with
  | none => b
  | some t =>
    b |> advanceTo (t + 1000000) |> fset f 0 |> raise EV.TWN_LANE
      |> modTwn (fun t => if l = 1 then { t with lane1At := none } else { t with lane2At := none })

/-- SPAN_HEARTBEAT_RECEIVE on lane `l` (R515, R516). -/
def heartbeatReceive (l : Nat) (h : Heartbeat) (b : Block) : Block :=
  let b := laneHeard l b
  if !laneUp b then b
  else
    let miss := match b.twn.hbAt with | some t => (ns b - t) / 100000 - 1 | none => 0
    let b := b |> cntN R.TWN_HBMISS miss |> modTwn (fun t => { t with hbAt := some (ns b), hb := some h })
      |> epochKnown h.epoch |> wr R.TWN_PEER (h.midx % 65536 * 65536 + h.twn % 8 * 256 + h.service % 4)
    match b.twn.peerStart with
    | some s => if s = h.startno then b else spanLost b
    | none => b

/-! ### Pairing -/

/-- The HELLO this module sends (R517). -/
def hello (b : Block) : Hello :=
  { cap := capOf b.part 0 % 128, side := (isY b), fleet := fleetId b, midx := modIdx b, fldId := cfg b F.FLD_ID_fid, pair := cfg b F.FLD_CFG_pair
    vmac := vmac b, rate := fget b F.ALN_STAT_rate, twn := twnState b, s16 := s16Done b, swapPend := b.bnk.pend.isSome || b.bnk.check.isSome
    digest := Config.bankDigest (bankView b false ++ shareView b), propose := b.twn.propose }

/-- HELLO_SEND (R517). -/
def helloSend (b : Block) : Block := if spanUp b && !agreed b then spanSend (.hello (hello b)) b else b

/-- The first failing check of R517 on the peer's HELLO, 0 for none. -/
def helloCheck (b : Block) (h : Hello) : Nat :=
  let m := hello b
  if h.cap ≠ m.cap then 1 else if h.side = m.side then 2 else if h.fleet ≠ m.fleet then 3
  else if h.fldId ≠ m.fldId ∨ h.pair ≠ m.pair then 4 else if h.vmac ≠ m.vmac then 5 else if h.rate ≠ m.rate then 6
  else if !h.s16 || !m.s16 || h.swapPend || m.swapPend || h.digest != m.digest then 7 else 0

/-- The shared GOOSE and R-GOOSE publications that run, with their state records (R506, R523). -/
def pubSyncs (b : Block) : List PubSync :=
  ((List.range 288).filter (fun i => let w := tact b 0x34 0 i 0; bitOf w 31 && bitOf w 28)).map
    (fun i => ⟨i, tget b (tkey 0x34 2 i 0), tget b (tkey 0x34 2 i 1), tget b (tkey 0x34 2 i 3)⟩)

/-- The index of the twin PRP pair. -/
def twinPair (b : Block) : Nat := ((List.range 6).find? (fun i => pairKind b i == 3)).getD 0

/-- The RESYNC this module sends (R523). -/
def resyncMsg (b : Block) : SpanMsg :=
  .resync (fget b (F.PRP_TXSEQ_twin (twinPair b))) (((streams b (sviCopy b)).map (fun e => (e.slot, fget b (F.strmAbsent e.slot))))) (pubSyncs b)

/-- HELLO_RECEIVE (R517, R519). -/
def helloReceive (h : Hello) (b : Block) : Block :=
  if !spanUp b || agreed b || twnState b == 0 then b
  else
    let start := b.twn.hb.map (·.startno)
    let changed := match b.twn.hello with | some o => o.digest != h.digest || o.s16 != h.s16 || b.twn.helloStart != start | none => true
    let old := fget b F.TWN_STAT_refuse
    let b := modTwn (fun t => { t with hello := some h, helloStart := start }) b
    if 1 ≤ old ∧ old ≤ 6 ∧ changed = false then b
    else
      let c := helloCheck b h
      if 1 ≤ c ∧ c ≤ 6 then
        let b := b |> fset F.TWN_STAT_refuse c |> raise EV.TWN_PAIRREFUSED
        if twnState b = 2 then toTwn 1 b else b
      else
        let b := fset F.TWN_STAT_refuse c b
        let b := if twnState b = 2 then b
          else b |> modTwn (fun t => { t with joinFrom := twnState b, joinMute := h.twn == 4 }) |> toTwn 2
        if c = 7 then modTwn (fun t => { t with propose := 0, joinIdx := none, resync := none }) b
        else
          let b := if b.twn.propose ≠ 0 then b else modTwn (fun t => { t with propose := rd64 b R.ALN_CURIDX_LO + 16 }) b
          if h.propose = 0 ∨ b.twn.joinIdx.isSome = true then b
          else
            let j := max b.twn.propose h.propose
            b |> modTwn (fun t => { t with joinIdx := some j, peerStart := t.hb.map (·.startno) }) |> wr64 R.TWN_JOINIDX_LO j |> spanSend (resyncMsg b)

/-- RESYNC_RECEIVE (R523). -/
def resyncReceive (seq : Nat) (abs : List (Nat × Nat)) (pubs : List PubSync) (b : Block) : Block :=
  if twnState b = 2 then modTwn (fun t => { t with resync := some (seq, abs, pubs) }) b else b

/-- Whether (stNum, sqNum) `x` is behind `y` (R523). -/
def pubBehind (x y : PubSync) : Bool := if x.stnum = y.stnum then decide (x.sqnum < y.sqnum) else ahead32 y.stnum x.stnum

/-- EV_TWN_REJOIN once every shared publication has resynchronised (R523). -/
def rejoined (b : Block) : Block := if b.twn.unsynced.isEmpty then raise EV.TWN_REJOIN b else b

/-- PAIRED_JOIN: the boundary of j (R519, R523). -/
def pairedJoin (b : Block) : Block :=
  match b.twn.joinIdx, b.twn.resync with
  | some j, some (seq, abs, pubs) =>
    if twnState b ≠ 2 ∨ rd64 b R.ALN_CURIDX_LO < j then b
    else
      let i := twinPair b
      let own := fget b (F.PRP_TXSEQ_twin i)
      let b := if seqAhead seq own then fset (F.PRP_TXSEQ_twin i) seq b else b
      let b := if isY b then each (fun (x : Nat × Nat) b => fset (F.strmAbsent x.1) (min 255 x.2) b) abs b else b
      let pairs := (pubSyncs b).filterMap (fun p => (pubs.find? (fun q => q.pub == p.pub)).map (fun q => (p, q)))
      let diff := pairs.filter (fun x => x.1.stnum != x.2.stnum || x.1.sqnum != x.2.sqnum)
      b |> modTwn (fun t => { t with
            suppress := (diff.filter (fun x => pubBehind x.1 x.2)).map (·.1.pub)
            unsynced := diff.map (fun x => (x.1.pub, if ahead32 x.2.stnum x.1.stnum then x.2.stnum else x.1.stnum)),
            joinIdx := none, resync := none, propose := 0, missed := 0, recs := [], precs := [] })
        |> toTwn 3 |> raise EV.TWN_PAIRED |> rejoined
  | _, _ => b

/-- A state change of publication `p` at or after j: the stNum both twins take, when it was not yet resynchronised (R523). -/
def resyncTake (p : Nat) (b : Block) : Option Nat × Block :=
  match b.twn.unsynced.find? (fun x => x.1 == p) with
  | none => (none, b)
  | some x =>
    let b := modTwn (fun t => { t with unsynced := t.unsynced.filter (fun y => y.1 != p), suppress := t.suppress.filter (· != p) }) b
    (some (if x.2 = 0xFFFFFFFF then 1 else x.2 + 1), rejoined b)

/-! ### Frame records -/

/-- FRAMEDIG_RECEIVE (R521, R522). -/
def framedigReceive (l : List FrameRec) (b : Block) : Block :=
  if !agreed b then b
  else each (fun (r : FrameRec) b =>
    match b.twn.recs.find? (fun o => o.r.seq == r.seq && !o.matched) with
    | some o =>
      let mark := fun (l : List OwnRec) =>
        (l.map (fun x => if x.r.seq = r.seq then { x with matched := true } else x)).filter (fun x => !(x.matched && x.sent))
      compareRecs o.r r (modTwn (fun t => { t with recs := mark t.recs }) b)
    | none => modTwn (fun t => { t with precs := t.precs ++ [(r, ns b)] }) b) l b

/-- DIGEST_PARTNER_TIMEOUT: the oldest record, own or the peer's, has found no partner for 1,000 µs (R522). -/
def digestTimeout (b : Block) : Block :=
  let own := b.twn.recs.find? (fun r => !r.matched)
  let peer := b.twn.precs.head?
  let late (t item : Nat) (b : Block) : Block :=
    let b := advanceTo (t + 1000000) b
    if countsDiv b item then diverge 4 (rd64 b R.ALN_CURIDX_LO) item b else b
  match own, peer with
  | some o, some p =>
    if o.at_ ≤ p.2 then modTwn (fun t => { t with recs := t.recs.filter (fun r => r.r.seq != o.r.seq) }) (late o.at_ o.r.item b)
    else modTwn (fun t => { t with precs := t.precs.drop 1 }) (late p.2 p.1.item b)
  | some o, none => modTwn (fun t => { t with recs := t.recs.filter (fun r => r.r.seq != o.r.seq) }) (late o.at_ o.r.item b)
  | none, some p => modTwn (fun t => { t with precs := t.precs.drop 1 }) (late p.2 p.1.item b)
  | none, none => b

/-! ### Span time, notices and tunnels -/

/-- TIME_SEND (R524). -/
def timeSend (b : Block) : Block :=
  let (e1, e2) := b.twn.timePeer.getD (0, 0)
  b |> spanSend (.time b.twn.timeT1 e1 e2 (ns b)) |> modTwn (fun t => { t with timeT1 := ns b, timePeer := none })

/-- SPAN_TIME_RECEIVE: stamped on arrival (R524). -/
def timeReceive (t1 echo t2 t3 : Nat) (b : Block) : Block :=
  if !laneUp b then b
  else
    let rx := ns b
    let good := match b.twn.hb with
      | some h => h.timSrc != 5 && (h.timState == 2 || (h.timState == 3 && !h.hexp))
      | none => false
    let prev := b.twn.timeRx
    let b := modTwn (fun t => { t with timePeer := if t1 = 0 ∨ prev = 0 then none else some (t1, prev), timeRx := rx }) b
    if echo ≠ 0 ∧ good = true then measure 5 ((((echo : Int) + rx) - ((t2 : Int) + t3)) / 2) b else b

/-- NOTICE_RECEIVE (R525). -/
def noticeReceive (code : Nat) (detail : List Byte) (b : Block) : Block :=
  if !laneUp b then b
  else match code with
  | 1 => b |> fset F.TWN_STAT_peerrisk 1 |> raise EV.TWN_PEERRISK |> (fun b => if holder b then b else modLease (fun l => { l with askAt := some (ns b) }) b)
  | 2 => b |> fset F.TWN_STAT_peerrisk 0 |> raise EV.TWN_PEERRECOVER |> modLease (fun l => { l with askAt := none })
  | 3 => b |> raise EV.ELG_PEERFAIL |> elgOwnQueue 4 EV.ELG_PEERFAIL detail
  | 4 => diverge 5 (leNat (detail.take 8)) (leNat ((detail.drop 8).take 2)) b
  | 5 => spanLost b
  | _ => b

/-- TUNNEL_RECEIVE on lane `l` (R514). -/
def tunnelReceive (l : Nat) (f : Frame) (b : Block) : Block :=
  let b := laneHeard l b
  if linkUp b (11 + l) then pushRx f 0 (11 + l) (ns b) (halfNs b) false 0x3FF none false b else b

/-! ### Swaps and start -/

/-- A shadow that TWN refuses (R545). -/
def twnRefuses (b : Block) : Bool :=
  let v := shd b F.TWN_VMAC_LO_mac + shd b F.TWN_VMAC_HI_mac * 2 ^ 32
  (shdOn b F.TWN_CFG_pair && (decide (shd b F.TWN_CFG_lease < 50 ∨ 1000 < shd b F.TWN_CFG_lease) || bitOf v 40 || !bitOf v 41))
    || shd b F.TWN_WIT_port == 0

/-- What TWN compares across a swap: pair, and the witness's registers (R519, R534). -/
def twnBefore (b : Block) : Bool × List Nat := (cfgOn b F.TWN_CFG_pair, [cfgR b R.TWN_WIT, cfgR b R.TWN_WITIP, cfgR b R.TWN_WITLEAF])

/-- What a swap does to TWN (R517, R519, R534). -/
def twnSwapped (old : Bool × List Nat) (b : Block) : Block :=
  let pair := cfgOn b F.TWN_CFG_pair
  let b := if fget b F.TWN_STAT_refuse ≤ 6 then fset F.TWN_STAT_refuse 0 b else b
  let b := if (twnBefore b).2 ≠ old.2 then leaseLose b else b
  if !pair then toTwn 0 b else if twnState b = 0 then toTwn 1 b else b

/-- TWN at S05: SPLIT when pair is set (R519); the witness's quarantine runs from the start (R531). -/
def twnStart (b : Block) : Block :=
  b |> modTwn (fun t => { t with quarEnd := ns b + 1010000000 }) |> (fun b => if cfgOn b F.TWN_CFG_pair then toTwn 1 b else b)

end Sys2Proof.Machine
end

