-- ==== Sys2Proof/Machine/Fld.lean ====
section
/-! DEFINITION. The field (R535–R541, R547–R550): mastership and its lease, announcements, the grid epoch, and relay frames. -/

namespace Sys2Proof.Machine

/-- Change FLD's own state. -/
def modFld (f : FieldSt → FieldSt) (b : Block) : Block := { b with fld := f b.fld }

/-- The field ID in force; 0 for none. -/
def fieldId (b : Block) : Nat := cfg b F.FLD_ID_fid

/-- This module acts for its pair: it is ALONE, or it holds the control lease (R526, R535). -/
def actsForPair (b : Block) : Bool := twnState b == 0 || holder b

/-- The pair is a candidate for field master and this module acts for it (R535). -/
def isCandidate (b : Block) : Bool := fieldId b != 0 && cfg b F.FLD_CFG_prio != 0 && actsForPair b && !fon b F.FLD_STAT_master

/-- Instant from which silence counts: the latest ANNOUNCE, or the start of listening. -/
def lastAnnounce (b : Block) : Nat := max (b.fld.annAt.getD 0) b.fld.silent

/-- 300 ms, in ns (R535). -/
abbrev ms300 : Nat := 300000000

/-- Module index of side X of this pair (R537). -/
def sideXIdx (b : Block) : Nat := if (isY b) && cfgOn b F.TWN_CFG_pair then fget b F.TWN_PEER_idx else modIdx b

/-- The grandmaster ID of R314. -/
def ptpGmid (b : Block) : Nat := rd64 b R.PTP_GMID_LO

/-- The field leaf in use, with nokey shown and EV_FLD_NOKEY raised when it turns out that there is none (R537). -/
def fieldLeaf (b : Block) : Option Nat × Block :=
  match pickLeaf b (cfg b F.FLD_LEAF_cur) (cfg b F.FLD_LEAF_next) 4 with
  | some h => (some h, fset F.FLD_STAT_nokey 0 b)
  | none => (none, if fon b F.FLD_STAT_nokey then b else b |> fset F.FLD_STAT_nokey 1 |> raise EV.FLD_NOKEY)

/-- Octets of a field frame with `n` content bytes after the header (R236, R537). -/
def fieldLen (tagged : Bool) (n : Nat) : Nat := max 64 (18 + (if tagged then 4 else 0) + 32 + n + 16)

/-- An ANNOUNCE or CANDIDATE through H (R537, R550). -/
def fieldFrame (b : Block) (h typ epoch : Nat) : Frame :=
  { dst := cfg b F.FLD_AMAC_LO_mac + cfg b F.FLD_AMAC_HI_mac * 2 ^ 32, src := b.part.mac
    tag := if cfg b F.FLD_AMAC_HI_vid = 0 then none else some (0, cfg b F.FLD_AMAC_HI_vid)
    etype := cfg b F.FLD_CFG_etype, len := fieldLen (cfg b F.FLD_AMAC_HI_vid != 0) 8
    fcs := .good, sym := false, asmErr := false, rct := none, hsr := none, ip := none, inst := none
    body := .relay { typ := typ, expid := 0, fid := fieldId b, epoch := epoch, midx := sideXIdx b, pair := cfg b F.FLD_CFG_pair, time := secOf b
                     prio := cfg b F.FLD_CFG_prio, rate := primRate b, gmid := ptpGmid b, key := h, entries := [] } }

/-! ### The grid epoch -/

/-- Two masters heard within 300 ms (R541). -/
def twoMasters (b : Block) : Bool := decide (1 < (b.fld.masters.filter (fun x => ns b < x.2 + ms300)).length)

/-- Judge the running rate and grandmaster against the latest ANNOUNCE (R536, R541). -/
def judgeEpoch (b : Block) : Block :=
  let bad := b.fld.rate != primRate b || rd64 b R.FLD_GMID_LO != ptpGmid b || twoMasters b
  if bad && !fon b F.FLD_STAT_mismatch then b |> fset F.FLD_STAT_mismatch 1 |> raise EV.FLD_EPOCH
  else fset F.FLD_STAT_mismatch (b2n bad) b

/-- An ANNOUNCE takes effect (R535, R536). -/
def takeAnnounce (m : RelayBody) (b : Block) : Block :=
  let changed := b.fld.annAt.isNone || fget b F.FLD_STAT_midx != m.midx || fget b F.FLD_STAT_mpair != m.pair
  let old := rd b R.FLD_EPOCH
  b |> modFld (fun f => { f with
        annAt := some (ns b), noMaster := false, rate := m.rate
        masters := (m.midx, ns b) :: f.masters.filter (fun x => x.1 != m.midx && decide (ns b < x.2 + ms300))
        prev := if m.epoch = old then f.prev else some (old, ns b + 1000000000)
        lease := { f.lease with epoch := max f.lease.epoch m.epoch } })
    |> wr R.FLD_EPOCH m.epoch |> wr64 R.FLD_GMID_LO m.gmid |> fset F.FLD_STAT_cand 0
    |> fset F.FLD_STAT_midx m.midx |> fset F.FLD_STAT_mpair m.pair |> cond changed (raise EV.FLD_MCHG) |> judgeEpoch

/-- FIELD_ANNOUNCE_RECEIVE: an ANNOUNCE or CANDIDATE of this field with a good tag (R535–R537). -/
def fieldAnnounceReceive (f : Frame) (b : Block) : Block :=
  match f.body with
  | .relay m =>
    if f.etype ≠ cfg b F.FLD_CFG_etype ∨ fieldId b = 0 ∨ m.fid ≠ fieldId b
        ∨ [cfg b F.FLD_LEAF_cur, cfg b F.FLD_LEAF_next].any (fun h => (leaf b h).kind == 4 && leafRx b h (secOf b) && Config.tagOk (tagKey b 3 h) f) = false then b
    else if m.typ = 3 then takeAnnounce m b
    else if m.typ = 4 then modFld (fun x => { x with cands := (m.pair, m.prio, ns b) :: x.cands.filter (fun c => c.1 != m.pair) }) b
    else b
  | _ => b

/-- EPOCH_GRACE_END: 1 s after a change of the grid epoch (R536). -/
def epochGraceEnd (b : Block) : Block :=
  match b.fld.prev with
  | none => b
  | some (_, t) => b |> advanceTo t |> modFld (fun f => { f with prev := none })

/-! ### Mastership -/

/-- ANNOUNCE_SEND by the acting master (R535, R537). -/
def announceSend (b : Block) : Block :=
  if !fon b F.FLD_STAT_master then b
  else
    match fieldLeaf b with
    | (none, b) => b
    | (some h, b) =>
      let f := fieldFrame b h 3 b.fld.lease.epoch
      let b := hIngress f (cfg b F.TWN_WITNET_cls) false false none none false 0x3FF b
      match f.body with | .relay m => takeAnnounce m b | _ => b

/-- CANDIDATE_SEND by a candidate that has heard no ANNOUNCE for 300 ms (R535, R537). -/
def candidateSend (b : Block) : Block :=
  if !isCandidate b || decide (ns b < lastAnnounce b + ms300) then b
  else
    match fieldLeaf b with
    | (none, b) => b
    | (some h, b) =>
      b |> fset F.FLD_STAT_cand 1 |> hIngress (fieldFrame b h 4 (rd b R.FLD_EPOCH)) (cfg b F.TWN_WITNET_cls) false false none none false 0x3FF

/-- A better candidate was heard in the last 300 ms (R535). -/
def betterHeard (b : Block) : Bool :=
  let p := cfg b F.FLD_CFG_prio
  b.fld.cands.any (fun c => decide (ns b < c.2.2 + ms300) && (decide (c.2.1 < p) || (c.2.1 == p && decide (c.1 < cfg b F.FLD_CFG_pair))))

/-- ANNOUNCE_ABSENT: no ANNOUNCE for 300 ms (R535). -/
def announceAbsent (b : Block) : Block :=
  if fieldId b = 0 then b
  else
    let b := advanceTo (lastAnnounce b + ms300) b
    let b := if b.fld.noMaster then b else b |> modFld (fun f => { f with noMaster := true }) |> raise EV.FLD_NOMASTER
    if !isCandidate b then b
    else
      let b := fset F.FLD_STAT_cand 1 b
      if betterHeard b then b else lease1Send 1 b

/-- Length of lease 1, ns. -/
def lease1Len (b : Block) : Nat := cfg b F.FLD_WIT_lease * 1000000

/-- A GRANT of lease 1 (R528, R535). -/
def takeGrant1 (f : Frame) (m : WitMsg) (b : Block) : Block :=
  match replyTo b b.fld.lease m with
  | none => cnt R.TWN_WITBAD b
  | some (ts, _) =>
    if !witGood b f m (cfg b F.FLD_WITLEAF_cur) (cfg b F.FLD_WITLEAF_next) || decide (m.epoch < b.fld.lease.epoch) then cnt R.TWN_WITBAD b
    else
      let e := ts + lease1Len b
      let b := b |> cnt R.TWN_WITRX |> wr R.TWN_PEERAGE m.peerage |> modLease1 (fun l => { l with epoch := m.epoch, lastReply := ns b, failed := false })
      if e ≤ ns b + 10000000 ∨ actsForPair b = false then b
      else
        let was := fon b F.FLD_STAT_master
        let b := modLease1 (fun l => { l with held := true, exp := max e (if was then l.exp else 0), renewAt := some (ts + lease1Len b / 4), retryAt := none }) b
        if was then b
        else b |> fset F.FLD_STAT_master 1 |> fset F.FLD_STAT_cand 0 |> fset F.FLD_STAT_midx (sideXIdx b) |> fset F.FLD_STAT_mpair (cfg b F.FLD_CFG_pair)
          |> raise EV.FLD_MASTER |> raise EV.FLD_MCHG

/-- A STATUS about lease 1: one in reply to a RENEW or one that names another holder ends a mastership (R528). -/
def takeStatus1 (f : Frame) (m : WitMsg) (b : Block) : Block :=
  match replyTo b b.fld.lease m with
  | none => cnt R.TWN_WITBAD b
  | some (_, typ) =>
    if !witGood b f m (cfg b F.FLD_WITLEAF_cur) (cfg b F.FLD_WITLEAF_next) then cnt R.TWN_WITBAD b
    else b |> cnt R.TWN_WITRX |> wr R.TWN_PEERAGE m.peerage |> modLease1 (fun l => { l with lastReply := ns b, failed := false })
      |> cond (typ == 2 || [modIdx b, 0xFFFF, 0xFFFE].contains m.holder == false) masterLose

/-- LEASE_EXPIRY of lease 1 (R528, R535). -/
def lease1Expiry (b : Block) : Block :=
  if !fon b F.FLD_STAT_master then b else b |> advanceTo (b.fld.lease.exp - 10000000) |> masterLose

/-- RENEW_DUE of lease 1 (R528, R535). -/
def renewDue1 (b : Block) : Block :=
  match b.fld.lease.renewAt with
  | none => b
  | some t =>
    if !fon b F.FLD_STAT_master then b
    else
      let b := advanceTo t b
      b |> lease1Send 2 |> modLease1 (fun l => { l with renewAt := none, retryAt := some (ns b + lease1Len b / 16) })

/-- RENEW_RETRY of lease 1 (R528, R535). -/
def renewRetry1 (b : Block) : Block :=
  match b.fld.lease.retryAt with
  | none => b
  | some t =>
    if !fon b F.FLD_STAT_master then b
    else
      let b := advanceTo t b
      let b := b |> cnt R.TWN_WITTO |> lease1Send 2 |> modLease1 (fun l => { l with retryAt := some (ns b + lease1Len b / 16) })
      if !b.fld.lease.failed && decide (b.fld.lease.lastReply + lease1Len b / 2 ≤ ns b) then
        b |> modLease1 (fun l => { l with failed := true }) |> raise EV.TWN_WITFAIL
      else b

/-- GRANT_RECEIVE: the message names its lease (R527, R528). -/
def grantReceive (f : Frame) (b : Block) : Block :=
  match f.body with
  | .witness m => if m.typ ≠ 4 then b else if m.lease = 0 then takeGrant f m b else if m.lease = 1 then takeGrant1 f m b else b
  | _ => b

/-- STATUS_RECEIVE: the message names its lease (R527, R528). -/
def statusReceive (f : Frame) (b : Block) : Block :=
  match f.body with
  | .witness m => if m.typ ≠ 5 then b else if m.lease = 0 then takeStatus f m b else if m.lease = 1 then takeStatus1 f m b else b
  | _ => b

/-! ### Exports -/

/-- Words of the active export entries (R538). -/
def exportsOf (b : Block) : List (Nat × List Nat) :=
  ((List.range 128).map (fun i => (i, (List.range 8).map (tact b 0x39 0 i)))).filter (fun x => bitOf (x.2.getD 0 0) 31)

/-- The exports in force for sheaf `m` (R541). -/
def exportsFor (b : Block) (m : Nat) : List (Nat × List Nat) :=
  match (b.fld.oldExp.filter (fun x => decide (m < x.1))).getLast? with
  | some x => x.2
  | none => exportsOf b

/-- Positions of an export and the primary channel of each (R538). -/
def exportPos (w : List Nat) : List (Nat × Nat) :=
  ((List.range 32).filter (fun i => bitOf (w.getD 4 0) i)).map (fun i => (i, w.getD 3 0 % 4096 + i))

/-- A relay frame of export words `w`, type 1 DATA or 2 REVISION, of sheaf `k` with entries `es` (R537, R539). -/
def relayFrame (b : Block) (h typ k : Nat) (w : List Nat) (es : List (Nat × Nat)) : Frame :=
  let w2 := w.getD 2 0
  { dst := w.getD 1 0 + w2 % 65536 * 2 ^ 32, src := vmacOr b, tag := if bitsOf w2 27 16 = 0 then none else some (bitsOf w2 31 29, bitsOf w2 27 16)
    etype := cfg b F.FLD_CFG_etype, len := fieldLen (bitsOf w2 27 16 != 0) (8 * es.length)
    fcs := .good, sym := false, asmErr := false, rct := none, hsr := none, ip := none, inst := none
    body := .relay { typ := typ, expid := w.getD 0 0 % 65536, fid := fieldId b, epoch := rd b R.FLD_EPOCH, midx := sideXIdx b, pair := cfg b F.FLD_CFG_pair
                     time := k, prio := 0, rate := 0, gmid := 0, key := h, entries := es } }
where
  /-- The source MAC: the shared virtual MAC on a shared export. -/
  vmacOr (b : Block) : Nat := if bitOf (w.getD 0 0) 30 && cfgOn b F.TWN_CFG_pair then vmac b else b.part.mac

/-- Queue a relay frame at H. -/
def relayOut (h typ k : Nat) (w : List Nat) (es : List (Nat × Nat)) (b : Block) : Block :=
  b |> cnt (if typ = 1 then R.FLD_TXDATA else R.FLD_TXREV)
    |> hIngress (relayFrame b h typ k w es) (bitsOf (w.getD 0 0) 18 16) false false none none (bitOf (w.getD 0 0) 30) 0x3FF

/-- An entry as it leaves: the twin flag clear (R537). -/
def relayEnt (e : Nat) : Nat := entVq e + (entFlags e &&& 0xEF) * 2 ^ 48

/-- The relay frames of the boundary of `k`, at which the grid epoch is judged again (R536): DATA of k, then REVISIONs of the sheaves revised at it (R539). -/
def relayBoundary (k : Nat) (revs : List (Nat × Nat)) (b : Block) : Block :=
  let b := if fieldId b ≠ 0 ∧ b.fld.annAt.isSome = true then judgeEpoch b else b
  if fieldId b = 0 ∨ fon b F.FLD_STAT_mismatch = true then b
  else
    let ms := (revs.map (·.1)).eraseDups.mergeSort (· ≤ ·)
    if (exportsOf b).isEmpty && ms.all (fun m => (exportsFor b m).isEmpty) then b
    else match fieldLeaf b with
    | (none, b) => b
    | (some h, b) =>
      let b := each (fun (x : Nat × List Nat) b =>
        relayOut h 1 k x.2 ((exportPos x.2).map (fun p => (p.1, relayEnt (getEnt b false k p.2)))) b) (exportsOf b) b
      each (fun i b => each (fun m b =>
        match (exportsFor b m).find? (fun x => x.1 == i) with
        | none => b
        | some x =>
          let es := ((exportPos x.2).filter (fun p => revs.contains (m, p.2))).map (fun p => (p.1, relayEnt (getEnt b false m p.2)))
          if es.isEmpty then b else relayOut h 2 m x.2 es b) ms b) (List.range 128) b

/-! ### Commands, swaps and start -/

/-- Bits of word `w` of an export entry that a write stores (R538). -/
def expWr (w : Nat) : Nat := match w with | 0 => 0xC007FFFF | 1 => 0xFFFFFFFF | 2 => 0xEFFFFFFF | 3 => 0xFFF | 4 => 0xFFFFFFFF | _ => 0

/-- FLD_CMD TREAD: table 0 shadow, 1 active (R548). -/
def fldTread (t : Nat) (b : Block) : Nat × Block :=
  let i := fget b F.FLD_TIDX_idx
  if 1 < t then (0x12, b)
  else (0, each (fun w b => wr (R.FLD_TDATA w) (if t = 0 then tshd b 0x39 0 i w else tact b 0x39 0 i w) b) (List.range 8) b)

/-- FLD_CMD TWRITE (R548). -/
def fldTwrite (t : Nat) (b : Block) : Nat × Block :=
  let i := fget b F.FLD_TIDX_idx
  if t = 1 then (0x11, b) else if 1 < t then (0x12, b)
  else if cfgLocked b 0x39 then (0x10, lockedWrite 0x39 b)
  else if shadowsFrozen b then (0x10, pendWrite 0x39 b)
  else (0, each (fun w b => tsetShd 0x39 0 i w (rd b (R.FLD_TDATA w) &&& expWr w) b) (List.range 8) b)

/-- FLD_CMD CLRCNT (R548). -/
def fldClrcnt (b : Block) : Nat × Block := (0, zeroRegs [R.FLD_TXDATA, R.FLD_TXREV, R.FLD_IMPDROP] b)

/-- A shadow that FLD refuses (R550). -/
def fldRefuses (b : Block) : Bool :=
  let amac := shd b F.FLD_AMAC_LO_mac + shd b F.FLD_AMAC_HI_mac * 2 ^ 32
  let es := ((List.range 128).map (fun i => (List.range 8).map (tshd b 0x39 0 i))).filter (fun w => bitOf (w.getD 0 0) 31)
  let ids := es.map (fun w => w.getD 0 0 % 65536)
  (shd b F.FLD_ID_fid != 0 && decide (shd b F.FLD_CFG_etype < 0x600)) || !bitOf amac 40
    || decide (shd b F.FLD_WIT_lease < 50 ∨ 1000 < shd b F.FLD_WIT_lease)
    || es.any (fun w => w.getD 0 0 % 65536 == 0 || w.getD 4 0 == 0 || (exportPos w).any (fun p => decide (4095 < p.2)))
    || ids.eraseDups.length != ids.length

/-- What FLD compares across a swap: the field ID, and the field witness's registers. -/
def fldBefore (b : Block) : Nat × List Nat := (fieldId b, [cfgR b R.FLD_WIT / 65536, cfgR b R.FLD_WITIP, cfgR b R.FLD_WITLEAF])

/-- What a swap at the boundary of `k` does to FLD: the exports that it replaces stay for REVISIONs of earlier sheaves (R541); mastership of another
field, or granted by another witness, is lost (R528, R534, R535; DEDUCED, log entry 53). -/
def fldSwapped (k : Nat) (was : Nat × List Nat) (old : List (Nat × List Nat)) (b : Block) : Block :=
  b |> modFld (fun f => { f with oldExp := ((k, old) :: f.oldExp).filter (fun x => decide (k < x.1 + 512)) })
    |> cond (fldBefore b != was) masterLose |> cond (fieldId b != was.1) (modFld (fun f => { f with silent := ns b }))
    |> (fun b => cond (!isCandidate b) (fset F.FLD_STAT_cand 0) b)

/-- FLD begins to listen with S15. -/
def fldStart (b : Block) : Block := modFld (fun f => { f with silent := ns b }) b

end Sys2Proof.Machine
end

