-- ==== Sys2Proof/Machine/Enclave.lean ====
section
/-! DEFINITION. The commands of the key enclave (R192–R203), the steps of a commit, recovery at S03 (R200), expiry of
leaves and the entropy health test (R177, R189). -/

namespace Sys2Proof.Machine

/-! ### Request and response buffers -/

/-- Outcome of a part of a KEY command: either a refusal with code and reason, or a value. -/
inductive KeyRes (α : Type) where
  | stop (code reason : Nat)
  | val (x : α)
  deriving DecidableEq, Repr

/-- Read `n` bytes of the request buffer with RQID 0x082 (R176, R201, R208). -/
def keyReq (n : Nat) (b : Block) : KeyRes (List Byte) × Block :=
  match engRead 0x082 (rd b R.KEY_REQADDR_LO + rd b R.KEY_REQADDR_HI % 256 * 2 ^ 32) n b with
  | (.ok, l, b) => (.val l, b)
  | (.ue, _, b) => (.stop 0x20 0x0A, ownData 0x04 .ue b)
  | (.poison, _, b) => (.stop 0x20 0x0A, ownData 0x04 .poison b)
  | (_, _, b) => (.stop 0x11 0x0A, b)

/-- End a KEY command at once with a refusal. -/
def keyStop (code reason : Nat) (b : Block) : Nat × Block := (code, keyResult reason 0 b)

/-- End a KEY command with a response written to the response buffer (R201). -/
def keyRespond (l : List Byte) (b : Block) : Nat × Block :=
  if rd b R.KEY_RSPLEN % 65536 < l.length then keyStop 0x12 0x0B b
  else match engWrite 0x082 (rd b R.KEY_RSPADDR_LO + rd b R.KEY_RSPADDR_HI % 256 * 2 ^ 32) l b with
    | (.ok, b) => (0, keyResult 0 l.length b)
    | (.ue, b) => keyStop 0x20 0x0A b
    | (.poison, b) => keyStop 0x20 0x0A b
    | (_, b) => keyStop 0x11 0x0A b

/-- Whether the response buffer holds `n` bytes. -/
def rspFits (n : Nat) (b : Block) : Bool := decide (n ≤ rd b R.KEY_RSPLEN % 65536)

/-- The request length (R208). -/
def reqLen (b : Block) : Nat := rd b R.KEY_REQLEN % 65536

/-- Carry out a KEY command with code `op`, which KEY_STAT.op then shows (R206). -/
def keyCmd (op : Nat) (f : Block → Nat × Block) (b : Block) : Nat × Block := f (fset F.KEY_STAT_op op b)

/-! ### Mordant messages -/

/-- The path of a cell (R178). -/
def cellPath (c : Nat) : String :=
  match c with
  | 0 => "zl48/cell/device" | 1 => "zl48/cell/fleet" | 2 => "zl48/cell/service" | 3 => "zl48/cell/lcs"
  | 4 => "zl48/cell/idrec" | 5 => "zl48/cell/anchor/0" | 6 => "zl48/cell/anchor/1" | _ => ""

/-- The payload length that a type and cell require (R195). -/
def mordantLen (ty c : Nat) : Option Nat :=
  match ty, c with
  | 1, 1 => some 48 | 1, 2 => some 32 | 2, 3 => some 16 | 3, 5 => some 2657 | 3, 6 => some 2657 | 4, 4 => some 9065
  | _, _ => none

/-- The changes of life-cycle state that R166 allows. -/
def lcsMay (s t : Nat) : Bool :=
  match s with
  | 0 => t == 1 || t == 15
  | 1 => t == 2 || t == 3 || t == 15
  | 2 => t == 1 || t == 3 || t == 15
  | 3 => t == 1 || t == 15
  | 4 => t == 1
  | _ => false

/-- Whether a type and cell are permitted in life-cycle state `s` (R195). -/
def mordantState (b : Block) (ty c s : Nat) : Bool :=
  match ty, c with
  | 1, 1 => s != 15 && (s != 4 || (cellVal b 0).isSome)
  | 1, 2 => s == 0 || s == 1 || s == 2 || s == 3
  | 2, _ => s != 15
  | 3, _ => s != 4 && s != 15
  | 4, _ => s != 15
  | _, _ => false

/-- Whether every byte of a list is zero. -/
def allZero (l : List Byte) : Bool := l.all (· == 0#8)

/-- Whether the payload fields are valid (R195). -/
def mordantPayload (b : Block) (ty c : Nat) (p : List Byte) : Bool :=
  match ty with
  | 1 => c != 1 || (!allZero ((p.drop 32).take 4) && allZero (p.drop 38))
  | 2 => allZero (p.drop 1) && lcsMay (lcs b) (leNat (p.take 1))
  | 3 => leNat (p.take 1) + 5 == c && allZero ((p.drop 1).take 7)
  | 4 =>
    leNat (p.take 4) == 0x44494C5A && leNat ((p.drop 4).take 2) == 1 && allZero ((p.drop 161).take 3) && (p.drop 8).take 16 == didBytes b &&
      leNat ((p.drop 6).take 1) == (match cellVal b 4 with | some v => leNat ((v.drop 6).take 1) | none => b2n b.part.gradeE)
  | _ => false

/-- Whether the signatures of a record in an IDREC payload verify under anchor 0 or 1 (R182, R195); other payloads carry none. -/
def payloadSigned (b : Block) (ty : Nat) (p : List Byte) : Bool :=
  let ok (i : Nat) : Bool := sigReason (anchor b i) (p.take 4324) ((p.drop 4324).take 114) (p.drop 4438) == 0
  ty != 4 || ok 0 || ok 1

/-- The payload key of a message (R193). -/
def mordantKek (b : Block) (m : List Byte) : List Byte :=
  let x := Config.x448Shared (deviceKey b "zl48/wrap/x448" 56) ((m.drop 128).take 56)
  let k := Config.mlkemShared (deviceKey b "zl48/wrap/mlkem" 64) ((m.drop 184).take 1568)
  Config.kmac256 (x ++ k) "ZL48KDF" 32 (ascii "zl48/mordant/kek" ++ m.take 1752)

/-- The payload of a message with `pn` bytes of it, decapsulated and decrypted; none when the tag is wrong (R193). -/
def mordantOpen (b : Block) (m : List Byte) (pn : Nat) : Option (List Byte) :=
  Config.gcmOpen (mordantKek b m) ((m.drop 1752).take 12) (m.take 1764) ((m.drop 1764).take pn) ((m.drop (1764 + pn)).take 16)

/-- The checks of R194 in their order: a refusal, or cell, payload and counter. A KEYSET to an empty cell 1 or 2 is permitted: R192 gives
the fleet ID of a message for it (R201; DEDUCED, log entry 41). -/
def mordantCheck (b : Block) (m : List Byte) : KeyRes (Nat × List Byte × Nat) :=
  let n (o k : Nat) : Nat := leNat ((m.drop o).take k)
  let ty := n 6 1
  let c := n 7 1
  let pn := n 36 4
  if m.length < 6521 ∨ n 0 4 ≠ 0x4D4D4C5A ∨ n 4 2 ≠ 1 ∨ n 40 24 ≠ 0 ∨ mordantLen ty c ≠ some pn ∨ m.length ≠ 6521 + pn then .stop 0x12 0x01
  else
    let sr := sigReason (anchor b 0) (m.take (1780 + pn)) ((m.drop (1780 + pn)).take 114) (m.drop (1894 + pn))
    if sr = 3 then .stop 0x20 0x02
    else if sr = 4 then .stop 0x20 0x03
    else if n 8 16 ≠ b.part.did then .stop 0x12 0x04
    else if n 32 4 ≠ fleetId b then .stop 0x12 0x05
    else if n 24 8 ≤ (store b).ctr then .stop 0x12 0x06
    else if (c = 1 ∨ c = 2) ∧ ((store b).cell c).bad then .stop 0x10 0x0E
    else if !mordantState b ty c (lcs b) ∨ (m.drop 64).take 64 ≠ padTo 0#8 64 (ascii (cellPath c)) then .stop 0x10 0x07
    else match mordantOpen b m pn with
      | none => .stop 0x20 0x08
      | some p => if mordantPayload b ty c p && payloadSigned b ty p && p.length == pn then .val (c, p, n 24 8) else .stop 0x12 0x09

/-- Whether a message is refused for the signatures of the record in its payload alone. -/
def recordUnsigned (b : Block) (m : List Byte) : Bool :=
  match mordantOpen b m 9065 with
  | some p => mordantPayload b 4 4 p && !payloadSigned b 4 p
  | none => false

/-- The events of a refused message: REPLAY and failed signatures, its own or those of the record it carries (R207). -/
def mordantEvents (m : List Byte) (reason : Nat) (b : Block) : Block :=
  if reason = 6 then raise EV.KEY_REPLAY b
  else if reason = 2 ∨ reason = 3 ∨ (reason = 9 ∧ leNat ((m.drop 6).take 1) = 4 ∧ recordUnsigned b m = true) then raise EV.KEY_SIGFAIL b else b

/-- The device root is read when a message comes to its decapsulation (R180, R194). -/
def mordantReads (reason : Nat) (b : Block) : Block := cond (decide (reason = 0 ∨ reason = 8 ∨ reason = 9)) readRoot b

/-- Whether a KEYSET to cell 1 changes the fleet ID, which empties cell 2 in the same commit (R195). -/
def fleetChanges (b : Block) (c : Nat) (p : List Byte) : Bool := c == 1 && leNat ((p.drop 32).take 4) != fleetId b

/-- KEY_CMD MORDANT: the checks; the commit then runs (R194, R199). -/
def keyMordant (b : Block) : Nat × Block :=
  match keyReq (reqLen b) b with
  | (.stop c r, b) => keyStop c r b
  | (.val m, b) =>
    match mordantCheck b m with
    | .stop c r => keyStop c r (mordantEvents m r (mordantReads r b))
    | .val (c, p, ctr) =>
      let b := mordantReads 0 b
      if fget b F.PWR_STAT_state ≠ 0 then keyStop 0x21 0x0F b
      else (1, { b with key := { b.key with run := some (.commit c p ctr (fleetChanges b c p)) } })

/-- The random share that step 1 of a commit of `v` to cell `c` draws, if the cell is secret (R180). -/
def shareFor (c : Nat) (v : List Byte) (b : Block) : List Byte × Block := entropy (if secretCell c then v.length else 0) b

/-- Carry out step `i` of a commit (R198). -/
def commitStep (c : Nat) (v : List Byte) (ctr : Nat) (clear2 : Bool) (i : Nat) (b : Block) : Block :=
  let k := store b
  let cell := k.cell c
  let b := match i with
    | 1 => (match shareFor c v b with | (r, b) => setStore (k.put c (cell.step1 b.key.scramble c v r)) b)
    | 2 => setStore (let k := k.put c (cell.step2 c ctr); if clear2 then k.put 2 KCell.empty else k) b
    | 3 => setStore { k with ctr := ctr } b
    | 4 => setStore (k.put c cell.step4) b
    | _ => b
  fset F.KEY_STAT_step i b

/-- Steps `i + 1` to `i + n` of a commit. -/
def commitSteps (c : Nat) (v : List Byte) (ctr : Nat) (clear2 : Bool) : Nat → Nat → Block → Block
  | _, 0, b => b
  | i, n + 1, b => commitSteps c v ctr clear2 (i + 1) n (commitStep c v ctr clear2 (i + 1) b)

/-- The end of the running command: KEY_RESULT, CMDSTAT and the events (R202). -/
def keyFinish (code reason len : Nat) (b : Block) : Block :=
  { b with key := { b.key with run := none } } |> fset F.KEY_STAT_step 0 |> fset F.KEY_STAT_held 0
    |> keyResult reason len |> complete (pg 0x04 0x2C) code

/-- A completed commit: EV_KEY_COMMIT, and for a life-cycle token the start of R166 and R196. -/
def commitDone (c : Nat) (v : List Byte) (b : Block) : Block :=
  let b := b |> raise EV.KEY_COMMIT |> keyFinish 0 0 0
  if c = 3 ∧ testSet b = false then b |> setLcs (leNat (v.take 1)) |> doReset 0x0A 2 else b

/-- On entry to WARNED with an enclave command in commit step `k` (0: not begun) (R199). -/
def keyWarned (k : Nat) (b : Block) : Block :=
  match b.key.run with
  | some (.commit c v ctr z) =>
    let i := fget b F.KEY_STAT_step
    if k ≤ i ∧ i = 0 then keyFinish 0x21 0x0F 0 b
    else
      let k := min 4 (max k i)
      let b := commitSteps c v ctr z i (k - i) b
      if k = 4 then commitDone c v b else fset F.KEY_STAT_held 1 b
  | _ => b

/-- On return to NORMAL the held command continues (R199). -/
def keyNormal (b : Block) : Block := fset F.KEY_STAT_held 0 b

/-- A tamper response during a command, in commit step `k`: aborted with 0x22; a commit short of step 2 harrows slot B, one
past it completes (R201). -/
def keyTampered (k : Nat) (b : Block) : Block :=
  match b.key.run with
  | none => b
  | some (.commit c v ctr z) =>
    let i := fget b F.KEY_STAT_step
    let k := min 4 (max k i)
    let b := commitSteps c v ctr z i (k - i) b
    let b := if k < 2 then setStore (let s := store b; s.put c ((s.cell c).step4)) b
      else commitSteps c v ctr z k (4 - k) b
    b |> raise EV.KEY_TAMPERED |> keyFinish 0x22 0x10 0
  | some _ => b |> raise EV.KEY_TAMPERED |> keyFinish 0x22 0x10 0

/-! ### Identity, attestation, key exchange -/

/-- The identity record with both signatures (R182): that of cell 4. -/
def idRecord (b : Block) : List Byte := padTo 0#8 9065 ((cellVal b 4).getD [])

/-- KEY_CMD IDREAD (R202). -/
def keyIdread (b : Block) : Nat × Block := keyRespond (idRecord b) b

/-- Whether the entropy source is healthy (R177). -/
def rngOk (b : Block) : Bool := fon b F.KEY_STAT_rngok

/-- Instance slot `m` of the TMP tables: a header digest, zero when empty (R216). -/
def instSlot (b : Block) (m : Nat) : List Byte := padTo 0#8 32 (sget (fun _ => []) b.trust.slots m)

/-- Steps of the ledger whose entry state satisfies `f`, as a map with bit n for step n (R170). -/
def ledgerMap (b : Block) (f : Nat → Bool) : Nat :=
  ((List.range 18).map (fun i => if f (mnat b (0x1801000040 + 16 * i + 8) 1) then 2 ^ (i + 1) else 0)).sum

/-- The body of an attestation report (R219). -/
def reportBody (nonce : List Byte) (b : Block) : List Byte :=
  let lvl := fget b F.TMP_STAT_level
  let flags := b2n (fon b F.SYS_STAT_dbg) + 2 * b2n (rd b R.TMP_LATCH != 0) + 4 * b2n (fon b F.TMP_STAT_closed) + 8 * b2n (fon b F.TMP_STAT_keyloss)
  leBytes 4 0x52414C5A ++ leBytes 2 1 ++ leBytes 1 (lcs b) ++ leBytes 1 flags ++ didBytes b ++ leBytes 4 (fleetId b) ++
    leBytes 2 (modIdx b) ++ leBytes 1 (b2n (isY b)) ++ leBytes 1 (fget b F.SYS_STAT_service) ++ mread b 0x1801000008 4 ++
    leBytes 1 lvl ++ leBytes 1 (if fon b F.STL_STAT_halted then fget b F.STL_STAT_step else 0) ++ leBytes 2 0 ++
    leBytes 8 (ns b) ++ nonce ++ leBytes 4 (ledgerMap b (fun s => s == 1 || s == 3)) ++ leBytes 4 (rd b R.STL_ALTMAP) ++
    leBytes 4 (rd b R.STL_SKIPMAP) ++ leBytes 4 (ledgerMap b (fun s => s == 2)) ++ b.key.meas.flatten ++
    ((List.range 64).map (instSlot b)).flatten

/-- KEY_CMD ATTEST: the report is taken at one instant; signing then runs (R219). -/
def keyAttest (b : Block) : Nat × Block :=
  if !rngOk b then keyStop 0x20 0x0D b
  else if reqLen b ≠ 64 then keyStop 0x12 0x01 b
  else match keyReq 64 b with
    | (.stop c r, b) => keyStop c r b
    | (.val nonce, b) =>
      if !rspFits 7173 b then keyStop 0x12 0x0B b
      else (1, { b with key := { b.key with run := some (.attest (reportBody nonce b)) } })

/-- Both signatures over a body by the attestation keys derived from `root` (R185, R219). -/
def attestSigs (root body : List Byte) : List Byte :=
  padTo 0#8 114 (Config.ed448Sign (derive root (ascii "zl48/attest/ed448") 57) body) ++
    padTo 0#8 4627 (Config.mldsa87Sign (derive root (ascii "zl48/attest/mldsa") 32) body)

/-- KEY_CMD KEX (R190, R202). -/
def keyKex (b : Block) : Nat × Block :=
  if !rngOk b then keyStop 0x20 0x0D b
  else if reqLen b ≠ 120 then keyStop 0x12 0x01 b
  else match keyReq 120 b with
    | (.stop c r, b) => keyStop c r b
    | (.val q, b) =>
      if (deviceRoot b).isNone then keyStop 0x10 0x0E b
      else if !rspFits 172 b then keyStop 0x12 0x0B b
      else match freeHandle b with
        | none => keyStop 0x12 0x0C b
        | some h =>
          let (priv, b) := entropy 56 (readRoot b)
          let hash := q.drop 56
          let pub := padTo 0#8 56 (Config.x448Pub priv)
          let sa := Config.kmac256 (Config.x448Shared priv (q.take 56)) "ZL48KDF" 32 (ascii "zl48/gdoi/kek" ++ hash)
          let sig := padTo 0#8 114 (Config.ed448Sign (deviceKey b "zl48/gdoi/ed448" 57) (hash ++ pub))
          (1, { b with key := { b.key with run := some (.kex (pub ++ sig ++ leBytes 2 h) h (Leaf.make 5 0 0 0xFFFFFFFFFFFFFFFF sa)) } })

/-- Install leaves for TEKs at the lowest free handles; answers the records, or none when handles run out (R190, R201). -/
def installTeks : List (Nat × Nat × Nat × Nat × List Byte) → Block → Option (List Byte) × Block
  | [], b => (some [], b)
  | (kind, kid, nb, na, k) :: l, b =>
    match freeHandle b with
    | none => (none, b)
    | some h =>
      let lf := Leaf.make kind kid nb na k
      match installTeks l (setLeaf h lf b) with
      | (some r, b) => (some (leafRecord h lf ++ r), b)
      | (none, b) => (none, b)

/-- KEY_CMD LEAFLOAD under SA leaf `h` (R190). A message that does not decrypt is DECRYPT; nothing is installed when
handles run out or the response does not fit (R201). -/
def keyLeafload (h : Nat) (b : Block) : Nat × Block :=
  match keyReq (reqLen b) b with
  | (.stop c r, b) => keyStop c r b
  | (.val m, b) =>
    let sa := leaf b h
    if sa.kind ≠ 5 ∨ sa.state ≠ 1 then keyStop 0x12 0x08 b
    else match Config.gdoiOpen sa.key m with
      | none => keyStop 0x20 0x08 b
      | some teks =>
        if !rspFits (2 + 32 * teks.length) b then keyStop 0x12 0x0B b
        else match installTeks teks b with
          | (none, _) => keyStop 0x12 0x0C b
          | (some recs, b) => keyRespond (leBytes 2 teks.length ++ recs) b

/-- KEY_CMD LEAFDROP of handle `h` (R201, R202). -/
def keyLeafdrop (h : Nat) (b : Block) : Nat × Block :=
  if 2048 ≤ h then keyStop 0x12 0 b else (0, b |> setLeaf h Leaf.free |> keyResult 0 0)

/-- The 64 bytes that a persisted cell holds of a leaf before they are sealed (DESIGN CHOICE, log entry 8). -/
def leafBytes (l : Leaf) : List Byte :=
  leBytes 1 l.kind ++ leBytes 1 l.state ++ leBytes 4 l.keyId ++ leBytes 8 l.nb ++ leBytes 8 l.na ++ leBytes 1 l.key.length ++ padTo 0#8 41 l.key

/-- The leaf that those bytes give. -/
def leafOfBytes (v : List Byte) : Leaf :=
  let n (o k : Nat) : Nat := leNat ((v.drop o).take k)
  let key := (v.drop 23).take (n 22 1)
  ⟨n 0 1, n 1 1, n 2 4, n 6 8, n 14 8, key, List.replicate key.length 0#8, false⟩

/-- The nonce under which persisted cell `n` is sealed: its number and sequence (DESIGN CHOICE, log entry 8). -/
def sealNonce (n seq : Nat) : List Byte := leBytes 4 n ++ leBytes 8 seq

/-- A leaf sealed with AES-256-GCM under `key`, the child zl48/seal/leaf of the device root, for cell 8 + `n` at a sequence: ciphertext and
tag (R185, R191). -/
def leafSeal (key : List Byte) (n seq : Nat) (l : Leaf) : List Byte :=
  let ct := xorBytes (leafBytes l) (Config.gcmStream key (sealNonce n seq) 64)
  ct ++ Config.gcmTag key (sealNonce n seq) ct

/-- The leaf that a sealed cell gives; none where its tag is wrong. -/
def leafUnseal (key : List Byte) (n seq : Nat) (v : List Byte) : Option Leaf :=
  let ct := v.take 64
  if v.drop 64 = Config.gcmTag key (sealNonce n seq) ct then some (leafOfBytes (xorBytes ct (Config.gcmStream key (sealNonce n seq) 64))) else none

/-- Leaf `n` takes what has been persisted: at once, or at the next sheaf boundary while the SPK, which uses leaves 0–63, runs (R191,
R201). -/
def leafTake (n : Nat) (l : Leaf) (b : Block) : Block :=
  if b.spk.record.isEmpty then setLeaf n l b
  else { b with key := { b.key with next := (n, l) :: b.key.next.filter (fun x => x.1 != n) } }

/-- At a sheaf boundary the persisted leaves that wait take effect (R201). -/
def leavesBoundary (b : Block) : Block :=
  each (fun x => setLeaf x.1 x.2) b.key.next { b with key := { b.key with next := [] } }

/-- KEY_CMD LEAFPERSIST of handle `h` into cell 8 + n, by the two-slot commit with a sequence of the cell (R191). -/
def keyLeafpersist (h n : Nat) (b : Block) : Nat × Block :=
  let l := leaf b h
  if 2048 ≤ h ∨ l.state ≠ 1 then keyStop 0x12 0x0C b
  else if (deviceRoot b).isNone then keyStop 0x10 0x0E b
  else
    let c := (store b).cell (8 + n)
    let seq := match c.force with | some (_, s) => s.ctr + 1 | none => 1
    let v := leafSeal (deviceKey b "zl48/seal/leaf" 32) n seq l
    match shareFor (8 + n) v (readRoot b) with
    | (r, b) => (0, b |> setStore ((store b).put (8 + n) (c.commit b.key.scramble (8 + n) v r seq)) |> leafTake n l |> raise EV.KEY_COMMIT
        |> keyResult 0 0)

/-- KEY_CMD DERIVELEAF of kind 3 or 4 (R185, R202). -/
def keyDeriveleaf (kind : Nat) (b : Block) : Nat × Block :=
  if 64 < reqLen b then keyStop 0x12 0x01 b
  else match keyReq (reqLen b) b with
  | (.stop c r, b) => keyStop c r b
  | (.val lab, b) =>
    match leafLabel lab with
    | none => keyStop 0x12 0x11 b
    | some (k, cell) =>
      if k ≠ kind then keyStop 0x12 0x11 b
      else match cellVal b cell, freeHandle b with
        | none, _ => keyStop 0x10 0x0E b
        | some _, none => keyStop 0x12 0x0C b
        | some v, some h =>
          if !rspFits 32 b then keyStop 0x12 0x0B b
          else
            let root := (parent b (some (v.take 32))).getD []
            let lf := Leaf.make kind 0 0 0xFFFFFFFFFFFFFFFF (derive root lab 32)
            b |> cond (!fon b F.SYS_STAT_dbg) (readCell cell) |> setLeaf h lf |> keyRespond (leafRecord h lf)

/-- KEY_CMD LEAFINFO of handle `h` (R187). -/
def keyLeafinfo (h : Nat) (b : Block) : Nat × Block :=
  if 2048 ≤ h then keyStop 0x12 0 b else keyRespond (leafRecord h (leaf b h)) b

/-- KEY_CMD REKEY in state UNKEYED (R183, R201). -/
def keyRekey (b : Block) : Nat × Block :=
  if lcs b ≠ 4 then keyStop 0x10 0x07 b
  else if !rngOk b then keyStop 0x20 0x0D b
  else if !rspFits 13806 b then keyStop 0x12 0x0B b
  else match entropy 32 b with | (r, b) => (1, { b with key := { b.key with run := some (.rekey r) } })

/-- The ordering code of a part (R2). -/
def orderCode (p : Part) : String :=
  let opts := (if p.optM then "M" else "") ++ (if p.optA then "A" else "") ++ (if p.optS then "S" else "")
  "ZL48-" ++ (if p.ddr32 then "32" else "16") ++ (if p.portQ then "Q" else "T") ++ (if opts = "" then "" else "-" ++ opts) ++ (if p.gradeE then "-E" else "-C")

/-- The identity record with the public keys of a device root (R182, R183), both signatures zero: the record of before with them, or the
first one, which gives the part and a time of issue of 0 until the factory or an IDREC message writes another (DESIGN CHOICE, log entry 65). -/
def idWithKeys (root : List Byte) (b : Block) : List Byte :=
  let old := idRecord b
  let old := if allZero old then
      leBytes 4 0x44494C5A ++ leBytes 2 1 ++ leBytes 1 (b2n b.part.gradeE) ++ leBytes 1 b.part.stepping ++ didBytes b ++
        padTo 0#8 16 (ascii (orderCode b.part)) ++ List.replicate 8 0#8
    else old.take 48
  padTo 0#8 48 old ++ padTo 0#8 56 (Config.x448Pub (derive root (ascii "zl48/wrap/x448") 56)) ++
    padTo 0#8 57 (Config.ed448Pub (derive root (ascii "zl48/attest/ed448") 57)) ++ List.replicate 3 0#8 ++
    padTo 0#8 1568 (Config.mlkemPub (derive root (ascii "zl48/wrap/mlkem") 64)) ++
    padTo 0#8 2592 (Config.mldsa87Pub (derive root (ascii "zl48/attest/mldsa") 32)) ++ List.replicate 4741 0#8

/-- A new device root and the identity record with its public keys (R183). -/
def newRoot (root : List Byte) (b : Block) : Block :=
  let rec' := idWithKeys root b
  b |> cellReplace 0 root |> cellReplace 4 rec'

/-- KEY_CMD ANCHORSET (R202): the anchor in MANUFACTURE, or a test anchor while debug is authorised. -/
def keyAnchorset (b : Block) : Nat × Block :=
  if lcs b ≠ 0 ∧ !fon b F.SYS_STAT_dbg then keyStop 0x10 0x07 b
  else if reqLen b ≠ 2657 then keyStop 0x12 0x01 b
  else match keyReq 2657 b with
    | (.stop c r, b) => keyStop c r b
    | (.val p, b) =>
      let i := leNat (p.take 1)
      if 1 < i ∨ !allZero ((p.drop 1).take 7) then keyStop 0x12 0x09 b
      else (0, b |> cellReplace (5 + i) p |> raise EV.KEY_COMMIT |> keyResult 0 0)

/-- KEY_CMD ZEROISE (R202). -/
def keyZeroise (b : Block) : Nat × Block := (0, b |> zeroiseCache |> keyResult 0 0)

/-- ENCLAVE_COMMAND_DONE: the running command completes (R203); a held one does not (R199). -/
def keyDone (b : Block) : Block :=
  if fon b F.KEY_STAT_held then b else
  match b.key.run with
  | none => b
  | some (.commit c v ctr z) =>
    let i := fget b F.KEY_STAT_step
    b |> commitSteps c v ctr z i (4 - i) |> commitDone c v
  | some (.attest body) =>
    match keyRespond (body ++ attestSigs ((deviceRoot b).getD []) body) (readRoot { b with key := { b.key with run := none } }) with
    | (c, b) => complete (pg 0x04 0x2C) c b
  | some (.kex resp h l) =>
    let b := setLeaf h l { b with key := { b.key with run := none } }
    match keyRespond resp b with | (c, b) => complete (pg 0x04 0x2C) c b
  | some (.rekey root) =>
    let b := newRoot root { b with key := { b.key with run := none } }
    let r := idRecord b
    match keyRespond (r ++ attestSigs ((parent b (some root)).getD []) r) b with
    | (c, b) => complete (pg 0x04 0x2C) c b

/-! ### Recovery, expiry, health -/

/-- Recovery of one cell at S03 (R200): the cell, whether the counter rises to its site's, and whether it is an event. -/
def recoverCell (c : Nat) (x : KCell) (ctr : Nat) : KCell × Nat × Bool :=
  match x.force with
  | none => (x.step4, ctr, false)
  | some (_, s) =>
    if s.digest ≠ (x.slot s.live).digest then ({ x with bad := true }, ctr, false)
    else
      let old := !(x.slot (1 - s.live)).isZero
      if 8 ≤ c then (x.step4, ctr, old)
      else if ctr < s.ctr then (x.step4, s.ctr, true)
      else (x.step4, ctr, old && s.ctr == ctr)

/-- Recovery of every cell of the set in use at S03 (R186, R200). -/
def recoverCells : List Nat → Block → Block
  | [], b => b
  | c :: l, b =>
    let k := store b
    let (x, ctr, ev) := recoverCell c (k.cell c) k.ctr
    let b := setStore { (k.put c x) with ctr := ctr } b
    let b := if ev then raise EV.KEY_RECOVER b else b
    let b := if x.bad then b |> setErr 0x04 1 c |> raise EV.KEY_CELLBAD else b
    recoverCells l b

/-- Load persisted cell 8 + `n` as leaf `n`, where it holds a leaf sealed under the present device root (R191). -/
def loadLeaf (n : Nat) (b : Block) : Block :=
  match cellVal b (8 + n), ((store b).cell (8 + n)).force, deviceRoot b with
  | some v, some (_, s), some r =>
    let b := b |> readRoot |> readCell (8 + n)
    (match leafUnseal (derive r (ascii "zl48/seal/leaf") 32) n s.ctr v with | some l => setLeaf n l b | none => b)
  | _, _, _ => b

/-- Load every valid persisted cell n as leaf n (R191), unless a level 2 alarm was latched in fallow (R226). -/
def loadPersisted (b : Block) : Block :=
  if b.key.noLoad then { b with key := { b.key with noLoad := false } } else each loadLeaf (List.range 64) b

/-- LEAF_EXPIRY of handle `h` at its not-after (R189). -/
def leafExpire (h : Nat) (b : Block) : Block :=
  let l := leaf b h
  if l.state ≠ 1 ∨ l.na = 0xFFFFFFFFFFFFFFFF then b
  else
    let g := fon b F.KEY_CTL_rxgrace
    b |> advanceTo (l.na * 1000000000) |> setLeaf h { (if g then l else l.wiped) with state := 2, grace := g }
      |> raiseP EV.KEY_LEAFEXP (leBytes 2 h)

/-- RXGRACE_EXPIRY of handle `h`, 60 s past its not-after (R189). -/
def leafGraceEnd (h : Nat) (b : Block) : Block :=
  let l := leaf b h
  if !l.grace then b else b |> advanceTo ((l.na + 60) * 1000000000) |> setLeaf h { l.wiped with grace := false }

/-- ENTROPY_HEALTH_TEST: a failure clears rngok and stops a running command that needs random values, with 0x20 and reason RNGFAIL (R177);
a pass sets it again. -/
def rngTest (ok : Bool) (b : Block) : Block :=
  if ok then fset F.KEY_STAT_rngok 1 b
  else
    let b := b |> fset F.KEY_STAT_rngok 0 |> setErr 0x04 0 0 |> raise EV.KEY_RNGFAIL
    match b.key.run with
    | none => b
    | some (.commit _ _ _ _) => b
    | some _ => keyFinish 0x20 0x0D 0 b

/-- KEY_STAT bits 22:20: cells 2, 1 and 0 hold valid values (R206). -/
def keyCells (b : Block) : Nat := b2n (cellVal b 0).isSome + 2 * b2n (cellVal b 1).isSome + 4 * b2n (cellVal b 2).isSome

/-- `KEY_LEAFCNT` (R208). -/
def leafCount (b : Block) : Nat :=
  ((List.range 64).filter (fun n => (leaf b n).state == 1)).length * 65536 +
    (b.key.leaves.filter (fun l => l.2.state == 1)).length

end Sys2Proof.Machine
end

