-- ==== Sys2Proof/Machine/Trig.lean ====
section
/-! DEFINITION. The exactly rounded functions of R401: square roots of rationals, cosine and sine of a turn fraction, and the
angle of a vector. Cosine and sine are formed with 160 fractional bits, far beyond what rounding to 2⁻³⁰ can feel. -/

namespace Sys2Proof.Machine

/-- The bits of a square root from weight 2^f down. -/
def isqrtGo (n : Nat) : Nat → Nat → Nat
  | 0, r => r
  | f + 1, r => let c := r + 2 ^ f; isqrtGo n f (if c * c ≤ n then c else r)

/-- ⌊√n⌋. -/
def isqrt (n : Nat) : Nat := isqrtGo n (Nat.log2 n / 2 + 1) 0

/-- √(n/d) rounded to the nearest integer, halves up. -/
def roundSqrt (n d : Nat) : Nat := (isqrt (4 * n / d) + 1) / 2

/-- `n / d` rounded to the nearest integer, halves away from zero, for a divisor of either sign. -/
def roundQuot (n d : Int) : Int := if d < 0 then roundDiv (-n) d.natAbs else roundDiv n d.natAbs

/-- π/2 with 160 fractional bits. -/
def halfPi : Nat := 2295721403524109460692402599871655564227077512209

/-- The terms of the series of cosine (from `i = 0`, `t` = 1) and sine (from `i = 1`, `t` = x), with x² in `x2`. -/
def trigSeries (x2 : Nat) : Nat → Nat → Int → Int
  | 0, _, _ => 0
  | f + 1, i, t => t + trigSeries x2 f (i + 2) (-(t * (x2 : Int) / 2 ^ 160) / (((i + 1) * (i + 2) : Nat) : Int))

/-- Cosine and sine of `a` · 2⁻⁴⁰ turns, with 160 fractional bits. -/
def cosSin (a : Nat) : Int × Int :=
  let r := a % 2 ^ 38
  let x : Nat := halfPi * r / 2 ^ 38
  let x2 : Nat := x * x / 2 ^ 160
  let c := trigSeries x2 26 0 (2 ^ 160)
  let s := trigSeries x2 26 1 x
  match a / 2 ^ 38 % 4 with
  | 0 => (c, s)
  | 1 => (-s, c)
  | 2 => (-c, -s)
  | _ => (s, -c)

/-- round(2³⁰ cos) and round(2³⁰ sin) of the turn fraction `phi` · 2⁻³² (R401). -/
def twiddle (phi : Nat) : Int × Int :=
  let (c, s) := cosSin (phi % 2 ^ 32 * 256)
  (roundDiv (c * 2 ^ 30) (2 ^ 160), roundDiv (s * 2 ^ 30) (2 ^ 160))

/-- Whether the vector (re, im) of the upper half plane lies at or beyond the angle half a unit below `a` units of 2⁻³² turns. -/
def beyond (re im : Int) (a : Nat) : Bool :=
  let (c, s) := cosSin (a * 256 - 128)
  decide (0 ≤ c * im - s * re)

/-- The largest `a` below `lo` + 2^f that the vector has reached. -/
def angleGo (re im : Int) : Nat → Nat → Nat
  | 0, lo => lo
  | f + 1, lo => angleGo re im f (if beyond re im (lo + 2 ^ f) then lo + 2 ^ f else lo)

/-- The angle of (re, im) in units of 2⁻³² turns, modulo 2³² (R400, R401); open for the zero vector (DESIGN CHOICE, log entry 49). -/
def angleOf (re im : Int) : Nat :=
  if re = 0 ∧ im = 0 then Config.angleOfZero.toNat
  else
    let a := angleGo re im.natAbs 31 0
    let a := if a = 2 ^ 31 - 1 ∧ beyond re im.natAbs (2 ^ 31) = true then 2 ^ 31 else a
    if im < 0 then (2 ^ 32 - a) % 2 ^ 32 else a % 2 ^ 32

end Sys2Proof.Machine
end

