-- ==== Sys2Proof/Machine/Phe.lean ====
section
/-! DEFINITION. The phasor engine (R395–R420): job entries, the job types, result records, corrections, late and abandoned
lists, and the checks of a swap. -/

namespace Sys2Proof.Machine

/-- Change PHE's own state. -/
def modPhe (f : Phe → Phe) (b : Block) : Block := { b with phe := f b.phe }

/-- Phasor unit `u`. -/
def pheUnit (b : Block) (u : Nat) : PheUnit := b.phe.units.getD u PheUnit.init

/-- Change a phasor unit. -/
def modUnit (u : Nat) (f : PheUnit → PheUnit) (b : Block) : Block := modPhe (fun p => { p with units := modAt PheUnit.init p.units u f }) b

/-! ### Job entries -/

/-- Whether the word that holds an entry is uncorrectable or poisoned. -/
def jobLost (b : Block) (act : Bool) (s : Nat) : Bool := b.poisoned.contains (jobAddr act s) || b.uncorr.contains (jobAddr act s)

/-- The eight words of an entry (R399); an entry whose word gives no data counts as empty (R36). -/
def job (b : Block) (act : Bool) (s : Nat) : List Nat :=
  if jobLost b act s then List.replicate 8 0 else (List.range 8).map (fun w => mnat b (jobAddr act s + 4 * w) 4)

/-- Write an entry; word 0 bits 30:29 read 0. -/
def setJob (act : Bool) (s : Nat) (l : List Nat) (b : Block) : Block :=
  let l := (l.getD 0 0 &&& 0x9FFFFFFF) :: l.drop 1
  cleanse (jobAddr act s) (mwrite (jobAddr act s) ((padTo 0 8 l).map (leBytes 4)).flatten b)

/-- Bits `hi:lo` of word `w` of an entry. -/
def jf (l : List Nat) (w hi lo : Nat) : Nat := bitsOf (l.getD w 0) hi lo
/-- Slot enabled. -/
def jEn (l : List Nat) : Bool := bitOf (l.getD 0 0) 31
/-- Job type. -/
def jType (l : List Nat) : Nat := jf l 0 7 0
/-- Parameter p1. -/
def jP1 (l : List Nat) : Nat := jf l 0 15 8
/-- Tracked. -/
def jTrack (l : List Nat) : Bool := bitOf (l.getD 0 0) 28
/-- Input `i`. -/
def jIn (l : List Nat) (i : Nat) : Nat := if i % 2 = 0 then jf l (1 + i / 2) 15 0 else jf l (1 + i / 2) 31 16
/-- Weight `i`, signed Q4.12. -/
def jW (l : List Nat) (i : Nat) : Int := sNat 16 (if i % 2 = 0 then jf l (4 + i / 2) 15 0 else jf l (4 + i / 2) 31 16)
/-- Slot inputs of a derived job (R400). -/
def jSlots (l : List Nat) : List Nat :=
  match jType l with
  | 3 => [jIn l 0, jIn l 1, jIn l 2]
  | 4 => (List.range (min 6 (jP1 l))).map (jIn l)
  | 5 => [jIn l 0, jIn l 1] ++ (if jIn l 2 = 0xFFFF then [] else [jIn l 2])
  | 6 => [jIn l 0]
  | 7 => [jIn l 0, jIn l 1]
  | _ => []

/-- Nominal frequency in force, Hz (R402, R419). -/
def pheFnom (b : Block) : Nat := if cfgOn b F.PHE_CFG_fnom then 60 else 50

/-- Window length N (R401) for frequency `fu` in µHz. -/
def winLen (win rate fu : Nat) : Nat :=
  let (p, q) := match win with | 1 => (1, 2) | 2 => (2, 1) | _ => (1, 1)
  max 1 (roundDiv ((p * rate * 1000000 : Nat) : Int) (q * max 1 fu)).toNat

/-- Cost of a job in MAC units (R397); a tracked one at the lowest tracked frequency. -/
def jobCost (rate fnom : Nat) (l : List Nat) : Nat :=
  let n := winLen (jf l 0 27 24) rate ((if jTrack l then fnom - 5 else fnom) * 1000000)
  match jType l with
  | 1 => 2 * n + 16
  | 2 => n + 16
  | 3 => 24
  | 4 => 12 * jP1 l + 16
  | 5 => 48
  | 6 => 64
  | 7 => 24
  | _ => 0

/-- Enabled slots of unit `u`, ascending. -/
def unitSlots (b : Block) (u : Nat) : List Nat := ((List.range 1024).map (· + 1024 * u)).filter (fun s => jEn (job b true s))

/-- Admitted list cost of each unit (R398). -/
def recost (b : Block) : Block :=
  each (fun u b => wr (R.PHE_UNITCOST u) ((unitSlots b u).map (fun s => jobCost (primRate b) (pheFnom b) (job b true s))).sum b) (List.range 8) b

/-- Whether slot `s` runs (R409, R453). -/
def slotRuns (b : Block) (s : Nat) : Bool :=
  if fon b F.PHE_STAT_spkcfg then decide (s < 160)
  else match slotOwner b s with
  | some n => [2, 3, 4, 6].contains (instState b n)
  | none => true

/-! ### Records -/

/-- The record of slot `s` for sheaf `j`, as PHE keeps it. -/
def recOf (b : Block) (s j : Nat) : Option PRec :=
  let r := sget (fun _ => PRec.none) b.phe.recs (8 * s + j % 8)
  if r.idx = j ∧ r.ent ≠ [] then some r else none

/-- The latest version of a record, counting work not yet written (newest first). -/
def curRec (b : Block) (w : List PheWork) (s j : Nat) : Option PRec :=
  match w.find? (fun x => x.slot == s && x.res.idx == j) with
  | some x => some x.res
  | none => recOf b s j

/-- State valid or late. -/
def PRec.usable (r : PRec) : Bool := r.flags % 4 == 1 || r.flags % 4 == 2

/-- Saturate to int32 (R400). -/
def sat32 (v : Int) : Int := max (-2147483648) (min 2147483647 v)

/-- Saturate to 32 bits unsigned (R400). -/
def satU32 (v : Nat) : Int := min 0xFFFFFFFF v

/-- The bytes of a record (R404). -/
def PRec.bytes (r : PRec) (t : Nat) : List Byte :=
  leBytes 8 r.idx ++ leBytes 4 (uInt 32 r.v0) ++ leBytes 4 (uInt 32 r.v1) ++ leBytes 4 (uInt 32 r.v2) ++ leBytes 4 (uInt 32 r.v3)
    ++ leBytes 2 r.flags ++ leBytes 1 (min 255 r.ncorr) ++ leBytes 1 (r.inq % 8) ++ leBytes 4 t

/-- Write a record whole by RQID 0x0C2 (R404, R622). -/
def writeRec (s : Nat) (r : PRec) (b : Block) : Block :=
  let a := 0x1200000000 + s * 0x100 + r.idx % 8 * 0x20
  let b := modPhe (fun p => { p with recs := sset (fun _ => PRec.none) p.recs (8 * s + r.idx % 8) r }) b
  let j := judge b 0x0C2 a (.burst 32) Need.write
  if j.status = .ok then cleanse a (mwrite a (r.bytes (fast b)) b) else recordFault j 0x0C2 a Need.write b

/-- The record of a slot that does not run (R412, R453): state 0. -/
def noneRec (k : Nat) : PRec := { PRec.none with idx := k }

/-! ### Reading the ring -/

/-- The entry of channel `c` of sheaf `j` as the boundary of `k` sees it (R396). -/
def entAt (b : Block) (k j c : Nat) : Nat :=
  match b.aln.applied.find? (fun a => a.k == j && a.ch == c && decide (k < a.bnd)) with
  | some a => a.old
  | none => getEnt b false j c

/-- A read of a ring entry by PHE (R36, R128, R396, R415): of a bad word PHE's ERR tells, and ALN marks its channels of that sheaf missing. -/
def ringRead (k j c : Nat) (b : Block) : Nat × Block :=
  let a := entAddr b false j c
  let jd := judge b 0x0C2 a (.word 8) Need.read
  if jd.status ≠ .ok then (0, recordFault jd 0x0C2 a Need.read b)
  else if held b false j && entBad b false j c then
    let st := if b.poisoned.contains (cwOf a).1 then Status.poison else Status.ue
    (mkEnt 0 1 4, b |> memFault (cwOf a).1 (if st = .poison then 2 else 1) 0 1 0x0C2 |> ownData 0x2C st |> setErr 0x2C 0 (c % 4096)
      |> wordMissing false j c)
  else (entAt b k j c, b)

/-- prov and lost flags of an entry (R405). -/
def entRecFlags (e : Nat) : Nat := match entState e with | 1 => 0 | 3 => 0 | 2 => 8 | _ => 16

/-- Fold the validity and test bit of a quality into those of a record (R404). -/
def foldInq (x q : Nat) : Nat := worse (x % 4) (q % 4) + 4 * b2n (bitOf x 2 || bitOf q 11)

/-- A window's values, newest first, with the flags and input quality of its entries. -/
structure Win where
  xs : List Int
  flags : Nat
  inq : Nat

/-- Read the window of `n` entries of channel `c` that ends with sheaf `j` (R401). -/
def readWin (k c : Nat) : Nat → Nat → Block → Win × Block
  | 0, _, b => (⟨[], 0, 0⟩, b)
  | n + 1, j, b =>
    let (e, b) := ringRead k j c b
    let (w, b) := readWin k c n (j - 1) b
    (⟨(if entState e = 0 then 0 else entVal e) :: w.xs, w.flags ||| entRecFlags e, foldInq w.inq (entQ e)⟩, b)

/-! ### Job types -/

/-- c_i and s_i of R401. -/
def dftTwiddle (h fu rate i : Nat) : Int × Int :=
  twiddle ((roundDiv ((2 ^ 32 * h * fu * i : Nat) : Int) (rate * 1000000)).toNat % 2 ^ 32)

/-- g_N of R401. -/
def gN (n : Nat) : Nat := roundSqrt (2 ^ 65) (n * n)

/-- Σ x c_i and Σ x s_i from sample `i` on. -/
def dftAcc (h fu rate : Nat) : Nat → List Int → Int × Int
  | _, [] => (0, 0)
  | i, x :: l =>
    let (c, s) := dftTwiddle h fu rate i
    let (a, d) := dftAcc h fu rate (i + 1) l
    (x * c + a, x * s + d)

/-- Magnitude of a vector (R401). -/
def magOf (re im : Int) : Nat := roundSqrt (re.natAbs * re.natAbs + im.natAbs * im.natAbs) 1

/-- Give a record re and im with the magnitude and angle formed from them (R400, R401). -/
def PRec.phasor (r : PRec) (re im : Int) : PRec :=
  let re := sat32 re
  let im := sat32 im
  { r with v0 := re, v1 := im, v2 := satU32 (magOf re im), v3 := sNat 32 (angleOf re im) }

/-- The harmonic of an entry. -/
def jHarm (l : List Nat) : Nat := jP1 l

/-- Compute a DFT or RMS record over its window at the boundary of `k`, N and f already in `r` (R401). -/
def winJob (k : Nat) (r : PRec) (b : Block) : PRec × Block :=
  let (w, b) := readWin k (jIn r.ent 0) r.n r.idx b
  let r := { r with flags := (r.flags &&& 0xFFE7) ||| w.flags, inq := w.inq }
  if jType r.ent = 1 then
    let (a, d) := dftAcc (jHarm r.ent) r.fu r.rate 0 w.xs
    (r.phasor (roundDiv (a * gN r.n) (2 ^ 62)) (roundDiv (d * gN r.n) (2 ^ 62)), b)
  else
    ({ r with v0 := satU32 (roundSqrt ((w.xs.map (fun x => x.natAbs * x.natAbs)).sum) r.n), v1 := 0, v2 := 0, v3 := 0 }, b)

/-- round(2³⁰ sin 120°). -/
def sin120 : Int := 929887697

/-- A product with a = e^{j120°} (`s` = 1) or a² (`s` = −1), in Q1.30. -/
def turn120 (s : Int) (re im : Int) : Int × Int := (-(re * 2 ^ 29) - im * (s * sin120), re * (s * sin120) - im * 2 ^ 29)

/-- |x| × w summed for a restraint. -/
def dot (l : List (Int × Int)) : Int := (l.map (fun x => x.1 * x.2)).foldl (· + ·) 0

/-- The values of a derived job other than FREQ from its inputs (R403); true with nocompute of its own. -/
def derivedVals (r : PRec) (ins : List PRec) : PRec × Bool :=
  let l := r.ent
  let x := ins.getD 0 PRec.none
  let y := ins.getD 1 PRec.none
  let z := ins.getD 2 PRec.none
  let zero := { r with v0 := 0, v1 := 0, v2 := 0, v3 := 0 }
  match jType l with
  | 3 =>
    if jP1 l = 0 then (r.phasor (roundDiv (x.v0 + y.v0 + z.v0) 3) (roundDiv (x.v1 + y.v1 + z.v1) 3), false)
    else
      let s : Int := if jP1 l = 1 then 1 else -1
      let (br, bi) := turn120 s y.v0 y.v1
      let (cr, ci) := turn120 (-s) z.v0 z.v1
      (r.phasor (roundDiv (x.v0 * 2 ^ 30 + br + cr) (3 * 2 ^ 30)) (roundDiv (x.v1 * 2 ^ 30 + bi + ci) (3 * 2 ^ 30)), false)
  | 4 =>
    let ws := (List.range ins.length).map (jW l)
    let re := sat32 (roundDiv (dot (ws.zip (ins.map (·.v0)))) 4096)
    let im := sat32 (roundDiv (dot (ws.zip (ins.map (·.v1)))) 4096)
    let rest := roundDiv (dot ((ws.map (fun w => (w.natAbs : Int))).zip (ins.map (·.v2)))) 4096
    ({ r with v0 := re, v1 := im, v2 := satU32 (magOf re im), v3 := satU32 rest.toNat }, false)
  | 5 =>
    let (ir, ii) := if jIn l 2 = 0xFFFF then ((0 : Int), (0 : Int)) else (z.v0, z.v1)
    let pr := y.v0 * 4096 + jW l 0 * ir - jW l 1 * ii
    let pi := y.v1 * 4096 + jW l 0 * ii + jW l 1 * ir
    let d := pr * pr + pi * pi
    let least := jf l 7 15 0 * 256 * 4096
    let open0 (w : Nat) : Int := (Config.overZero w x.v0 x.v1).toInt
    if d < ((least * least : Nat) : Int) then (zero, true)
    else if d = 0 then
      ({ r with v0 := open0 0, v1 := open0 1, v2 := ((Config.overZero 2 x.v0 x.v1).toNat : Int), v3 := sNat 32 (angleOf 0 0) }, false)
    else
      let nr := x.v0 * pr + x.v1 * pi
      let ni := x.v1 * pr - x.v0 * pi
      let v2 := x.v0 * x.v0 + x.v1 * x.v1
      ({ r with v0 := sat32 (roundQuot (nr * 4096 * 10000) d), v1 := sat32 (roundQuot (ni * 4096 * 10000) d)
                v2 := satU32 (roundSqrt ((v2 * (4096 * 10000) ^ 2).toNat) d.toNat), v3 := sNat 32 (angleOf nr ni) }, false)
  | 7 =>
    if y.v2 < ((jf l 7 15 0 * 256 : Nat) : Int) then (zero, true)
    else if y.v2 = 0 then ({ zero with v0 := (Config.overZero 3 x.v2 0).toInt }, false)
    else ({ r with v0 := sat32 (roundQuot (1000000 * x.v2) y.v2), v1 := 0, v2 := 0, v3 := 0 }, false)
  | _ => (zero, false)

/-- prov and lost, and input quality, of a derived record (R404, R405). -/
def PRec.fromInputs (r : PRec) (ins : List PRec) : PRec :=
  { r with flags := (r.flags &&& 0xFFE7) ||| (ins.foldl (fun a x => a ||| (x.flags &&& 0x18)) 0)
           inq := ins.foldl (fun a x => foldInq a (x.inq % 4 + (if bitOf x.inq 2 then 0x800 else 0))) 0 }

/-- Compute a SEQ, SUM, IMP or HRAT record (R403, R405, R415). -/
def derivedJob (b : Block) (w : List PheWork) (r : PRec) : PRec :=
  let got := (jSlots r.ent).map (fun s => curRec b w s r.idx)
  let ins := got.filterMap id
  let r := { r.fromInputs ins with flags := (r.fromInputs ins).flags &&& 0xFFDF }
  if got.any (fun g => match g with | some x => !x.usable | none => true) then
    { r with v0 := 0, v1 := 0, v2 := 0, v3 := 0, flags := r.flags ||| 0x20 }
  else
    let (r, no) := derivedVals r ins
    { r with flags := r.flags ||| (if no then 0x20 else 0) }

/-- Compute a FREQ record (R403): the first f of a slot whose input cannot be used is open. -/
def freqJob (slot : Nat) (w : List PheWork) (r : PRec) (b : Block) : PRec × Block :=
  let l := r.ent
  let m := jP1 l
  let fn : Int := (pheFnom b * 1000000 : Nat)
  let s := curRec b w (jIn l 0) r.idx
  let old := curRec b w (jIn l 0) (r.idx - m)
  let own := match recOf b slot (r.idx - 1) with | some x => if x.usable then some x.v0 else none | none => none
  let r := r.fromInputs ([s, old].filterMap id)
  let (f, no, b) : Int × Bool × Block :=
    match s, old with
    | some x, some y =>
      if x.usable && y.usable && decide (((jf l 7 15 0 * 256 : Nat) : Int) ≤ x.v2) then
        let d := sNat 32 (uInt 32 (x.v3 - y.v3 - roundDiv ((2 ^ 32 * pheFnom b * m : Nat) : Int) r.rate))
        let num := d * (r.rate : Int) * 1000000
        let den := m * 2 ^ 32
        match own with
        | some f => (f + roundDiv ((fn - f) * den + num) (den * 2 ^ jf l 0 23 16), false, b)
        | none => (roundDiv (fn * den + num) den, false, b)
      else match own with
        | some f => (f, true, b)
        | none => ((fresh b : Int), true, freshNext b)
    | _, _ => match own with
        | some f => (f, true, b)
        | none => ((fresh b : Int), true, freshNext b)
  let g := max (fn - 5000000) (min (fn + 5000000) f)
  let roc := match recOf b slot (r.idx - m) with
    | some x => if x.usable && !bitOf x.flags 5 then sat32 (roundDiv ((g - x.v0) * r.rate) (m * 1000)) else 0
    | none => 0
  let b := if g = f then b else raiseSec EV.PHE_FREQCLAMP 0 (leBytes 4 slot) b
  ({ r with v0 := g, v1 := roc, v2 := 0, v3 := 0, flags := r.flags ||| (if no then 0x20 else 0) ||| (if g = f then 0 else 0x40) }, b)

/-- Frequency of a tracked job and whether it falls back to fnom (R402). -/
def trackFreq (b : Block) (l : List Nat) (k : Nat) : Nat × Bool :=
  let fn := pheFnom b * 1000000
  if !jTrack l then (fn, false)
  else match recOf b (jf l 7 31 16) (k - 1) with
    | some x => if x.usable && !bitOf x.flags 5 then (x.v0.toNat, false) else (fn, true)
    | none => (fn, true)

/-- Run slot `s` for sheaf `k`; `w` holds the work of the unit so far, newest first (R396). -/
def runSlot (k s : Nat) (w : List PheWork) (b : Block) : List PheWork × Block :=
  let l := job b true s
  if !slotRuns b s then
    (if fon b F.PHE_STAT_spkcfg then w else ⟨s, noneRec k, none⟩ :: w, b)
  else
    let rate := primRate b
    let r := { PRec.none with idx := k, ent := l, rate := rate, flags := 1 }
    match jType l with
    | 0 => (w, b)
    | 1 | 2 =>
      let (fu, back) := trackFreq b l k
      let r := { r with fu := fu, n := winLen (jf l 0 27 24) rate fu, flags := 1 + (if back then 0x80 else 0) }
      let (r, b) := winJob k r b
      (⟨s, r, none⟩ :: w, b)
    | 6 => let (r, b) := freqJob s w r b; (⟨s, r, none⟩ :: w, b)
    | _ => (⟨s, derivedJob b w r, none⟩ :: w, b)

/-- Run slots in ascending order. -/
def runSlots (k : Nat) : List Nat → List PheWork → Block → List PheWork × Block
  | [], w, b => (w, b)
  | s :: l, w, b => let (w, b) := runSlot k s w b; runSlots k l w b

/-! ### Corrections -/

/-- Sheaves whose records are in the result ring at the boundary of `k`, ascending. -/
def ringSheaves (k : Nat) : List Nat := (List.range 8).map (fun i => k - 8 + i)

/-- The direct items of one revision on unit `u` (R406). -/
def directItems (b : Block) (u k : Nat) (a : Applied) : List PheItem :=
  (((List.range 1024).map (· + 1024 * u)).map (fun s => (ringSheaves k).filterMap (fun j =>
    match recOf b s j with
    | some r =>
      if (jType r.ent = 1 ∨ jType r.ent = 2) ∧ jIn r.ent 0 = a.ch ∧ r.usable = true ∧ a.k ≤ j ∧ j < a.k + r.n
      then some ⟨jType r.ent - 1, s, j, a.k, entVal a.new - entVal a.old⟩ else none
    | none => none))).flatten

/-- The derived items of sheaf `j` on the slots of a unit in ascending order, given the slots already corrected (R406). -/
def derivedItems (b : Block) (j : Nat) : List Nat → List Nat → List PheItem
  | [], _ => []
  | s :: l, hit =>
    match recOf b s j with
    | some r =>
      if [3, 4, 5, 7].contains (jType r.ent) && r.usable && (jSlots r.ent).any (fun x => hit.contains x)
      then ⟨2, s, j, j, 0⟩ :: derivedItems b j l (s :: hit) else derivedItems b j l hit
    | none => derivedItems b j l hit

/-- The items of unit `u` at the boundary of `k` (R406). -/
def unitItems (b : Block) (u k : Nat) (revs : List Applied) : List PheItem :=
  let d := (revs.map (directItems b u k)).flatten
  d ++ ((ringSheaves k).map (fun j =>
    let hit := (d.filter (fun i => i.j == j)).map (·.slot)
    if hit.isEmpty then [] else derivedItems b j ((List.range 1024).map (· + 1024 * u)) hit)).flatten

/-- Cost of an item (R397, R408). -/
def itemCost (b : Block) (i : PheItem) : Nat :=
  match i.kind, recOf b i.slot i.j with
  | 0, _ => 8
  | 1, some r => r.n + 16
  | _, some r => jobCost r.rate (pheFnom b) r.ent
  | _, none => 0

/-- The items taken in order within a reserve, and those carried (R408). -/
def takeItems (b : Block) : List PheItem → Nat → List PheItem × List PheItem
  | [], _ => ([], [])
  | i :: l, res =>
    let c := itemCost b i
    if c ≤ res then (let (t, r) := takeItems b l (res - c); (i :: t, r)) else ([], i :: l)

/-- Apply one item (R407). -/
def applyItem (k : Nat) (i : PheItem) (w : List PheWork) (b : Block) : List PheWork × Block :=
  match curRec b w i.slot i.j with
  | none => (w, b)
  | some r =>
    let keep := { r with flags := r.flags ||| 4, ncorr := min 255 (r.ncorr + 1) }
    match i.kind with
    | 0 =>
      let (c, s) := dftTwiddle (jHarm r.ent) r.fu r.rate (i.j - i.m)
      let g := gN r.n
      let (win, b) := readWin k (jIn r.ent 0) r.n r.idx b
      let n := keep.phasor (r.v0 + roundDiv (i.delta * c * g) (2 ^ 62)) (r.v1 + roundDiv (i.delta * s * g) (2 ^ 62))
      (⟨i.slot, { n with flags := (n.flags &&& 0xFFE7) ||| win.flags, inq := win.inq }, some i⟩ :: w, b)
    | 1 => let (n, b) := winJob k keep b; (⟨i.slot, n, some i⟩ :: w, b)
    | _ => (⟨i.slot, derivedJob b w keep, some i⟩ :: w, b)

/-- Apply items in order. -/
def applyItems (k : Nat) : List PheItem → List PheWork → Block → List PheWork × Block
  | [], w, b => (w, b)
  | i :: l, w, b => let (w, b) := applyItem k i w b; applyItems k l w b

/-- A carried item whose record has left the ring (R408). -/
def dropItem (k : Nat) (i : PheItem) (b : Block) : Block :=
  b |> cnt R.PHE_CORRDROP |> raiseSec EV.PHE_CORRDROP 0 []
    |> each (fun j b => match recOf b i.slot j with
        | some r => if r.usable && decide (i.m ≤ j) && decide (j < i.m + max 1 r.n) then writeRec i.slot { r with flags := r.flags ||| 0x100 } b else b
        | none => b) (ringSheaves k)

/-! ### Boundaries and completion -/

/-- The instances with a slot among some work. -/
def workOwners (b : Block) (w : List PheWork) : List Nat := (w.filterMap (fun x => slotOwner b x.slot)).eraseDups

/-- Write one piece of work; `late` when the due instant has passed (R405, R408, R414, R420). -/
def writeWork (late : Bool) (x : PheWork) (b : Block) : Block :=
  match x.item with
  | some _ =>
    let b := b |> writeRec x.slot x.res |> cnt R.PHE_CORRCNT
    (match slotOwner b x.slot with
     | some n => b |> wr64 (R.PHE_I_CORRIDX_LO n) x.res.idx |> ievt 0x2C n 1
     | none => b)
  | none =>
    if x.res.ent = [] then writeRec x.slot x.res b
    else if !late then writeRec x.slot x.res b
    else
      let b := writeRec x.slot { x.res with flags := x.res.flags / 4 * 4 + 2 } b
      let u := x.slot / 1024
      let b := fset F.PHE_STAT_late (fget b F.PHE_STAT_late ||| 2 ^ u) b
      let b := match slotOwner b x.slot with | some n => ievt 0x2C n 2 b | none => b
      if b.phe.lateK = some x.res.idx then b
      else b |> modPhe (fun p => { p with lateK := some x.res.idx }) |> cnt R.PHE_LATECNT |> raiseSec EV.PHE_LATE 0 []

/-- After the records of `w` for sheaf `k`: instances none of whose slots is still to be written are done (R420). -/
def tellDone (k : Nat) (w : List PheWork) (b : Block) : Block :=
  let left := ((List.range 8).map (fun u => workOwners b ((pheUnit b u).work.filter (fun x => x.item.isNone)))).flatten
  each (fun n b => if left.contains n then b else b |> wr64 (R.PHE_I_DONEIDX_LO n) k |> ievt 0x2C n 0)
    (workOwners b (w.filter (fun x => x.item.isNone))) b

/-- A unit has completed the list of `k` (R418). -/
def unitDone (u k : Nat) (b : Block) : Block :=
  let b := modUnit u (fun x => { x with done := some k }) b
  if b.phe.units.all (fun x => x.done == some k) then wr64 R.PHE_DONEIDX_LO k b else b

/-- PHE_LIST_COMPLETE of unit `u`; `first` is the first slot whose record was written after the due instant, when that has passed
(R397, R414). -/
def listComplete (u first : Nat) (b : Block) : Block :=
  let x := pheUnit b u
  if 8 ≤ u ∨ x.work.isEmpty = true then b
  else
    let past := decide (x.due < ns b)
    let last := match x.work.getLast? with | some y => y.slot | none => 0
    let dur := min 65535 (ns b - x.began)
    b |> modUnit u (fun x => { x with work := [] })
      |> each (fun y => writeWork (past && (decide (first ≤ y.slot) || y.slot == last)) y) x.work
      |> fset F.PHE_STAT_busy (fget b F.PHE_STAT_busy &&& (255 ^^^ 2 ^ u))
      |> (fun b => fset (F.PHE_UNITDUR_ns u) (max dur (fget b (F.PHE_UNITDUR_ns u))) b)
      |> tellDone x.k x.work |> unitDone u x.k

/-- A unit still running when the next boundary comes (R414): how far it had got, and which of its records were late, is open. -/
def abandon (u : Nat) (b : Block) : Block :=
  let x := pheUnit b u
  if x.work.isEmpty then b
  else
    let n := fresh b % x.work.length
    let b := freshNext b
    let l := if x.due < ns b then fresh b % (n + 1) else n
    let b := freshNext b
    let left := x.work.drop n
    let back := left.filterMap (·.item)
    let b := b |> modUnit u (fun x => { x with work := [] }) |> each (writeWork false) ((x.work.take n).take l) |> each (writeWork true) ((x.work.take n).drop l)
    let b := each (fun (y : PheWork) b =>
      if y.item.isSome then b
      else
        let b := writeRec y.slot { y.res with v0 := 0, v1 := 0, v2 := 0, v3 := 0, flags := 3, inq := 0 } b
        let b := b |> cnt R.PHE_ABANDCNT |> raiseSec EV.PHE_ABANDON 0 []
        match slotOwner b y.slot with | some m => ievt 0x2C m 2 b | none => b) left b
    let b := if back.isEmpty then b else b |> cntN R.PHE_CORRDEFER back.length |> raiseSec EV.PHE_CORRDEFER 0 []
    b |> tellDone x.k x.work |> fset F.PHE_STAT_busy (fget b F.PHE_STAT_busy &&& (255 ^^^ 2 ^ u)) |> modUnit u (fun x => { x with carry := back ++ x.carry })

/-- Show the carry bit of a unit. -/
def showCarry (u : Nat) (b : Block) : Block :=
  let m := fget b F.PHE_STAT_carry
  fset F.PHE_STAT_carry (if (pheUnit b u).carry.isEmpty then m &&& (255 ^^^ 2 ^ u) else m ||| 2 ^ u) b

/-- The boundary of `k` on unit `u`: corrections, then the list (R396, R406, R408). -/
def unitBoundary (k due : Nat) (revs : List Applied) (u : Nat) (b : Block) : Block :=
  let items := unitItems b u k revs
  let gone := fun (i : PheItem) => decide (i.j + 8 < k) || (recOf b i.slot i.j).isNone
  let carried := (pheUnit b u).carry
  let b := each (dropItem k) (carried.filter gone) b
  let (take, rest) := takeItems b (carried.filter (fun i => !gone i) ++ items) (cfg b F.PHE_CFG_corrres * 64)
  let b := if rest.isEmpty then b else b |> cntN R.PHE_CORRDEFER rest.length |> raiseSec EV.PHE_CORRDEFER 0 []
  let (w, b) := applyItems k take [] b
  let (w, b) := runSlots k (unitSlots b u) w b
  let w := w.reverse
  let b := b |> modUnit u (fun x => { x with k := k, began := ns b, due := due, work := w, carry := rest }) |> showCarry u
  if w.isEmpty then unitDone u k b else fset F.PHE_STAT_busy (fget b F.PHE_STAT_busy ||| 2 ^ u) b

/-- Slots disabled by R412 carry state 0 until a new entry runs. -/
def deadRecords (k : Nat) (b : Block) : Block :=
  b |> modPhe (fun p => { p with dead := p.dead.filter (fun s => !jEn (job b true s)) })
    |> (fun b => each (fun s => writeRec s (noneRec k)) b.phe.dead b)

/-- PHE reads its active entries as its lists start: each that is uncorrectable or poisoned is recorded (R36, R109), and its slot does not run. -/
def jobsLost (b : Block) : Block :=
  each (fun s b =>
      let a := jobAddr true s
      let st := if b.poisoned.contains a then Status.poison else Status.ue
      b |> memFault a (if st = .poison then 2 else 1) (memKind a) Need.read.bits 0x0C2 |> ownData 0x2C st)
    ((List.range 8192).filter (jobLost b true)) b

/-- PHE at the boundary of `k`, released with horizon `h` (R396, R398, R406, R414). -/
def pheBoundary (k h : Nat) (b : Block) : Block :=
  let due := instantOf b false k + h + 50000
  let revs := ((b.aln.applied.filter (fun a => decide (a.bnd ≤ k))).mergeSort (fun x y => decide (x.k < y.k ∨ (x.k = y.k ∧ x.ch ≤ y.ch))))
  b |> each abandon (List.range 8) |> fset F.PHE_STAT_late 0 |> jobsLost |> deadRecords k |> each (unitBoundary k due revs) (List.range 8)

/-! ### Disabling, SPK slots -/

/-- Disable slots in both banks (R412). -/
def disableSlots (l : List Nat) (b : Block) : Block :=
  b |> each (fun s b =>
      let b := if jEn (job b true s) then modPhe (fun p => { p with dead := s :: p.dead }) b else b
      let off := fun act b => let w := job b act s; setJob act s ((w.getD 0 0 &&& 0x7FFFFFFF) :: w.drop 1) b
      b |> off true |> off false) l
    |> recost

/-- Slots of instance `n` under the shares in force. -/
def slotsOf (b : Block) (n : Nat) : List Nat := (List.range 8192).filter (fun s => decide (160 ≤ s) && slotOf b n s)

/-- The primary channel of dataset position `j` (Ia, Ib, Ic, In) of record stream `i` (R348, R409). -/
def spkChan (b : Block) (r : List Byte) (i j : Nat) : Option Nat :=
  let p := recPos r i j
  if 31 < p then none
  else if fon b F.PHE_STAT_spkcfg then some (32 * i + p)
  else
    match spkStreamOf r (streams b (sviCopy b)) i with
    | some e => some (e.base + p)
    | none => some (32 * i + p)

/-- Fill slots 0–159 from the SPK record (R409). -/
def spkSlots (r : List Byte) (b : Block) : Block :=
  let n := if r.isEmpty then 0 else recNstr r
  b |> each (fun i b =>
      let dft (j : Nat) : List Nat := match spkChan b r i j with | some c => [2 ^ 31 + 2 ^ 24 + 2 ^ 8 + 1, c, 0, 0, 0, 0, 0, 0] | none => List.replicate 8 0
      let s := [2 ^ 31 + 3 * 2 ^ 8 + 4, (5 * i + 1) * 65536 + 5 * i, 5 * i + 2, 0, 0x10001000, 0x1000, 0, 0]
      let put (q : Nat) (l : List Nat) (b : Block) : Block := let l := if i < n then l else List.replicate 8 0; b |> setJob true q l |> setJob false q l
      b |> put (5 * i) (dft 0) |> put (5 * i + 1) (dft 1) |> put (5 * i + 2) (dft 2) |> put (5 * i + 3) (dft 3) |> put (5 * i + 4) s) (List.range 32)
    |> recost

/-- fnom follows the record until the first global swap (R419). -/
def spkFnom (r : List Byte) (b : Block) : Block :=
  let v := if !r.isEmpty && recN r 22 1 == 60 then 1 else 0
  let put (a : Nat) (b : Block) : Block := wr a (putBits (rd b a) 16 16 v) b
  b |> put (actKey b R.PHE_CFG) |> put (shdKey b R.PHE_CFG)

/-! ### Checks and swaps -/

/-- Whether an enabled entry breaks R411; `look` gives the entries that would be active, `sh` the shares that would be. -/
def jobBad (sh : Block) (look : Nat → List Nat) (rate fnom s : Nat) : Bool :=
  let l := look s
  let t := jType l
  let lower (x : Nat) : Bool := decide (x < s) && decide (x / 1024 = s / 1024) && jEn (look x)
  decide (7 < t) || decide (2 < jf l 0 27 24)
    || ((t == 1 || t == 2) && (decide (4096 ≤ jIn l 0) || (match slotOwner sh s with | some n => !chanSub sh n (jIn l 0) | none => false)))
    || (t == 1 && (decide (jP1 l < 1 ∨ 31 < jP1 l) || decide (rate ≤ 2 * jP1 l * (if jTrack l then fnom + 5 else fnom))))
    || ((t == 1 || t == 2) && jTrack l && !(let q := look (jf l 7 31 16); jEn q && jType q == 6))
    || (t == 3 && decide (2 < jP1 l)) || (t == 4 && decide (jP1 l < 1 ∨ 6 < jP1 l))
    || (t == 6 && (decide (jP1 l < 1 ∨ 7 < jP1 l) || decide (8 < jf l 0 23 16)))
    || (decide (3 ≤ t) && !(jSlots l).all lower)

/-- The checks of R411 on the entries `look` with PHE_CFG `c` and shares of `sh`. -/
def pheBad (b sh : Block) (look : Nat → List Nat) (c : Nat) : Bool :=
  let rate := primRate b
  let fnom := if bitOf c 16 then 60 else 50
  let res := c % 1024
  let on := (List.range 8192).filter (fun s => jEn (look s))
  decide (res < 16 ∨ 640 < res) || on.any (jobBad sh look rate fnom)
    || (List.range 8).any (fun u => decide (84000 < ((on.filter (fun s => s / 1024 == u)).map (fun s => jobCost rate fnom (look s))).sum + res * 64))

/-- A shadow that PHE refuses at a global swap (R411); `sh` carries the shares that will be in force. -/
def pheRefuses (sh b : Block) : Bool :=
  pheBad b sh (fun s => job b (!(decide (160 ≤ s) && (slotOwner sh s).isNone)) s) (shdR b R.PHE_CFG)

/-- A shadow of instance `n` that PHE refuses at an instance swap (R411, R122). -/
def pheInstRefuses (n : Nat) (sh b : Block) : Bool :=
  pheBad b sh (fun s => job b (!(decide (160 ≤ s) && slotOwner sh s == some n)) s) (cfgR b R.PHE_CFG)

/-- An entry takes the words of another; in place of the data of a lost one its own word is poisoned (R35). -/
def moveJob (act : Bool) (s : Nat) (lost : Bool) (l : List Nat) (b : Block) : Block :=
  if lost then poison (jobAddr act s) b else setJob act s l b

/-- Exchange the shadow and active entries of the slots of one owner (R410). -/
def exchangeJobs (own : Option Nat) (b : Block) : Block :=
  b |> each (fun s b =>
      let x := job b true s
      let y := job b false s
      if jobLost b true s || jobLost b false s then
        b |> moveJob true s (jobLost b false s) y |> moveJob false s (jobLost b true s) x
      else if x = y then b else b |> setJob true s y |> setJob false s x)
      ((List.range 8192).filter (fun s => decide (160 ≤ s) && slotOwner b s == own))
    |> recost

/-- Copy the active entries of manager-owned slots into the shadow (R121). -/
def copyJobs (b : Block) : Block :=
  each (fun s b => moveJob false s (jobLost b true s) (job b true s) b) ((List.range 8192).filter (fun s => decide (160 ≤ s) && (slotOwner b s).isNone)) b

/-- What a global swap does to PHE (R409, R410, R415): `r` is the SPK record in force. A locked PHE keeps its active entries (R108). -/
def pheSwapped (r : List Byte) (b : Block) : Block :=
  b |> cond (!cfgLocked b 0x2C) (exchangeJobs none) |> fset F.PHE_STAT_spkcfg 0 |> spkSlots r

/-! ### Commands -/

/-- PHE_CMD TREAD (R417). -/
def pheTread (t : Nat) (b : Block) : Nat × Block :=
  let s := fget b F.PHE_TIDX_idx
  if 1 < t then (0x12, b)
  else (0, each (fun w b => wr (R.PHE_TDATA w) ((job b (t == 1) s).getD w 0) b) (List.range 8) b)

/-- The checks of a TWRITE beyond its table and slot (R108, R118, R410). -/
def pheMayWrite (s : Nat) (b : Block) : Nat × Block :=
  if cfgLocked b 0x2C then (0x10, lockedWrite 0x2C b)
  else match slotOwner b s with
  | some n => (if b.bnk.instPend.contains n then 0x10 else 0, b)
  | none => if shadowsFrozen b then (0x10, pendWrite 0x2C b) else (0, b)

/-- PHE_CMD TWRITE (R417). -/
def pheTwrite (t : Nat) (b : Block) : Nat × Block :=
  let s := fget b F.PHE_TIDX_idx
  if t ≠ 0 then (if t = 1 then 0x11 else 0x12, b) else if s < 160 then (0x11, b)
  else
    let (c, b) := pheMayWrite s b
    if c ≠ 0 then (c, b)
    else (0, b |> setJob false s ((List.range 8).map (fun w => rd b (R.PHE_TDATA w))) |> cond (slotOwner b s).isNone (markDirty 0x2C))

/-- PHE_CMD CLRCNT (R417). -/
def pheClrcnt (b : Block) : Nat × Block :=
  (0, zeroRegs ([R.PHE_LATECNT, R.PHE_ABANDCNT, R.PHE_CORRCNT, R.PHE_CORRDEFER, R.PHE_CORRDROP] ++ (List.range 8).map R.PHE_UNITDUR) b)

/-- PHE_I_CMD TREAD of instance `n`: its own slots only (R420). -/
def pheITread (n t : Nat) (b : Block) : Nat × Block :=
  let s := fget b (F.PHE_I_TIDX_idx n)
  if 1 < t then (0x12, b)
  else if slotOwner b s ≠ some n then (0x11, b)
  else (0, each (fun w b => wr (R.PHE_I_TDATA n w) ((job b (t == 1) s).getD w 0) b) (List.range 8) b)

/-- PHE_I_CMD TWRITE of instance `n` (R410, R420). -/
def pheITwrite (n t : Nat) (b : Block) : Nat × Block :=
  let s := fget b (F.PHE_I_TIDX_idx n)
  if t ≠ 0 then (if t = 1 then 0x11 else 0x12, b)
  else if slotOwner b s ≠ some n then (0x11, instErr 0x2C n 3 0x11 s b)
  else
    let (c, b) := pheMayWrite s b
    if c ≠ 0 then (c, b) else (0, setJob false s ((List.range 8).map (fun w => rd b (R.PHE_I_TDATA n w))) b)

end Sys2Proof.Machine
end

