-- ==== Sys2Proof/Machine/Bio.lean ====
section
/-! DEFINITION. Binary outputs and inputs (R484–R492, R504, R508–R510): the drive, minimum on time and supervision of the outputs;
debounce, chatter and the queue of the inputs. -/

namespace Sys2Proof.Machine

/-- Change BIO's own state. -/
def modBio (f : Bio → Bio) (b : Block) : Block := { b with bio := f b.bio }

/-- Output `j`. -/
def bioOut (b : Block) (j : Nat) : BioOut := b.bio.outs.getD j BioOut.init

/-- Change an output. -/
def modOut (j : Nat) (f : BioOut → BioOut) (b : Block) : Block := modBio (fun x => { x with outs := modAt BioOut.init x.outs j f }) b

/-- Input `i`. -/
def bioIn (b : Block) (i : Nat) : BioIn := b.bio.ins.getD i BioIn.init

/-- Change an input. -/
def modIn (i : Nat) (f : BioIn → BioIn) (b : Block) : Block := modBio (fun x => { x with ins := modAt BioIn.init x.ins i f }) b

/-! ### The trip matrix -/

/-- Signal `s` of the row of task `t`; 1,024 is the SPK's (R484). -/
def tripBit (b : Block) (t s : Nat) : Bool := bitOf (tget b (tkey 0x34 3 t (s / 32))) (s % 32)

/-- Set the row of a task from its signal vector. -/
def setRow (t : Nat) (v : List Byte) (b : Block) : Block :=
  each (fun w b => tset (tkey 0x34 3 t w) (leNat ((v.drop (4 * w)).take 4)) b) (List.range 16) b

/-- Value of an output term (R485, R486). -/
def termOn (b : Block) (w : Nat) : Bool :=
  let v := match bitsOf w 31 29 with
    | 1 => tripBit b (bitsOf w 19 10) (bitsOf w 8 0)
    | 3 => bitOf (rd b R.BIO_BIN) (w % 32)
    | 6 => true
    | _ => false
  v != bitOf w 28

/-- Demand d of output `j` (R486); where the outputs are inactive every output is off (R41, R64). -/
def outDemand (b : Block) (j : Nat) : Bool :=
  outputsOn b && (
  (List.range 8).any (fun n => termOn b (cfgR b (R.BIO_OMAP j n))) || (fon b F.BIO_STAT_spkctl && bitOf b.spk.mask j))

/-- Present drive of output `j`. -/
def outDrive (b : Block) (j : Nat) : Bool := bitOf (rd b R.BIO_BOUT) j

/-- Set or clear bit `i` of a register. -/
def setBit (a i : Nat) (v : Bool) (b : Block) : Block := wr a (putBits (rd b a) i i (b2n v)) b

/-! ### Supervision -/

/-- Follow the rows of R488 for output `j`: a drive-failed row starts 10 µs after the change of drive. -/
def supFollow (j : Nat) (b : Block) : Block :=
  let sup := cfgOn b (F.BIO_OCFG_supen j)
  let on := outDrive b j
  let high := bitOf (rd b R.BIO_RDBK) j
  let o := sup && !on && !high
  let f := sup && on && high
  modOut j (fun x => { x with
    openHold := o, openAt := if o = x.openHold then x.openAt else ns b
    failHold := f, failAt := if f = x.failHold then x.failAt else if f then max (ns b) (x.changed + 10000) else ns b }) b

/-- Show whether any output has a condition. -/
def supShow (b : Block) : Block := fset F.BIO_STAT_supfault (b2n (rd b R.BIO_COILOPEN != 0 || rd b R.BIO_DRVFAIL != 0)) b

/-- The filter that runs out first on output `j`: the instant, whether it is of the open-coil row, and whether it declares (R488). -/
def supDue (b : Block) (j : Nat) : Option (Nat × Bool × Bool) :=
  let x := bioOut b j
  let filt := cfg b F.BIO_SUPCFG_filt * 1000000
  let o := bitOf (rd b R.BIO_COILOPEN) j
  let f := bitOf (rd b R.BIO_DRVFAIL) j
  let d1 := if x.openHold ≠ o then some (x.openAt + filt, true, x.openHold) else none
  let d2 := if x.failHold ≠ f then some (x.failAt + filt, false, x.failHold) else none
  match d1, d2 with
  | some a, some c => if a.1 ≤ c.1 then some a else some c
  | some a, none => some a
  | none, c => c

/-- SUPERVISION_FILTER: a condition has held, or not held, for filt ms (R488). -/
def supFilter (j : Nat) (b : Block) : Block :=
  match supDue b j with
  | none => b
  | some (t, coil, on) =>
    b |> advanceTo t |> setBit (if coil then R.BIO_COILOPEN else R.BIO_DRVFAIL) j on |> supShow
      |> raiseP (if !on then EV.BIO_SUPCLEAR else if coil then EV.BIO_COILOPEN else EV.BIO_DRIVEFAIL) (leBytes 4 j)

/-- DRAIN_LEVEL_CHANGE: the sensed drain of output `j` crosses 3.0 V (R488). -/
def drainChange (j : Nat) (high : Bool) (b : Block) : Block := b |> setBit R.BIO_RDBK j high |> supFollow j

/-! ### Outputs -/

/-- Set the drive of output `j`. -/
def setDrive (j : Nat) (v : Bool) (b : Block) : Block :=
  if outDrive b j = v then b else b |> setBit R.BIO_BOUT j v |> modOut j (fun x => { x with changed := ns b }) |> supFollow j

/-- Bring output `j` to its demand (R486): a demand that returns while minon runs leaves it running (R504), and where the outputs are
inactive the output is off at once (R41). -/
def outFollow (j : Nat) (b : Block) : Block :=
  let x := bioOut b j
  let d := outDemand b j
  if d && !x.d then
    let runs := match x.holdEnd with | some t => decide (ns b < t) | none => false
    b |> modOut j (fun x => { x with d := true, holdEnd := if runs then x.holdEnd else some (ns b + cfg b (F.BIO_OCFG_minon j) * 1000000) })
      |> setDrive j true
  else if d then b
  else
    let b := modOut j (fun x => { x with d := false }) b
    match x.holdEnd with
    | some t => if ns b < t ∧ outputsOn b = true then b else b |> modOut j (fun x => { x with holdEnd := none }) |> setDrive j false
    | none => setDrive j false b

/-- Bring every output to its demand. -/
def bioRefresh (b : Block) : Block := each outFollow (List.range 16) b

/-- MINON_EXPIRY of output `j` (R486). -/
def minonExpiry (j : Nat) (b : Block) : Block :=
  match (bioOut b j).holdEnd with
  | none => b
  | some t =>
    let b := b |> advanceTo t |> modOut j (fun x => { x with holdEnd := none })
    if (bioOut b j).d then b else setDrive j false b

/-! ### Inputs -/

/-- Debounced states as sampled at `t` ns (R433, R489). -/
def binAt (b : Block) (t : Nat) : Nat := match b.bio.hist.find? (fun x => decide (x.1 ≤ t)) with | some x => x.2 | none => 0

/-- The instant of the latest change of input `i` in a history `l` that satisfies `p`. -/
def binChange (l : List (Nat × Nat)) (p : Nat → Bool) (i : Nat) : Option Nat :=
  ((l.zip l.tail).find? (fun e => p e.1.1 && bitOf (e.1.2 ^^^ e.2.2) i)).map (fun e => e.1.1)

/-- The inputs that changed after `t0` and up to `t` ns, a mask (R431; before a task's first image `t0` is 0, DESIGN CHOICE, log entry 66). -/
def binsChanged (b : Block) (t0 t : Nat) : Nat :=
  let x := b.bio
  ((List.range 32).map (fun i =>
    if (binChange x.hist (fun c => decide (t0 < c) && decide (c ≤ t)) i).isSome || decide (t0 < x.older.getD i 0) then 2 ^ i else 0)).sum

/-- Remember the debounced states: each for the second in which a window can ask for it, and before that the instant of each input's
latest change. -/
def binRemember (b : Block) : Block :=
  modBio (fun x =>
    let l := x.hist.takeWhile (fun e => decide (ns b < e.1 + 1000000000))
    let gone := x.hist.drop l.length
    { x with
      hist := (ns b, rd b R.BIO_BIN) :: l ++ gone.take 1
      older := (List.range 32).map (fun i => (binChange gone (fun _ => true) i).getD (x.older.getD i 0)) }) b

/-- An accepted change enters the queue (R491). -/
def binQueue (e : BinEnt) (b : Block) : Block :=
  if b.bio.queue.length < 256 then modBio (fun x => { x with queue := x.queue ++ [e] }) b
  else
    let b := cnt R.BIO_BINQOVF b
    if bitOf (rd b (pg 0x35 0x10)) 5 then b else raise EV.BIO_BINQOVF b

/-- The debounced state of input `i` becomes `v`, with timestamp `t` (R489, R491, R510). -/
def binTake (i : Nat) (v unchat : Bool) (t : Nat) (b : Block) : Block :=
  let same := bitOf (rd b R.BIO_BIN) i == v
  b |> setBit R.BIO_BIN i v |> binRemember |> binQueue ⟨t, i, v, unchat⟩
    |> each (fun n b =>
        if same || !instExists b n then b
        else
          let b := setBit (R.BIO_I_BINCHG n) i true b
          if bitOf (rd b (sp n 0x35 0x008)) 0 then ievt 0x35 n 0 b else b) (List.range 64)
    |> bioRefresh

/-- Whether input `i` is blocked by chatter. -/
def chatOn (b : Block) (i : Nat) : Bool := bitOf (rd b R.BIO_CHAT) i

/-- Chatter window, ns. -/
def chatWin (b : Block) : Nat := cfg b F.BIO_CHATCFG_chatw * 1000000000

/-- Input `i` as the next 1 µs sample sees it; BIO samples from S09 on (R46, R154, R489). -/
def binSample (i : Nat) (b : Block) : Block :=
  let t := ceilDiv (ns b) 1000 * 1000
  modIn i (fun x => { x with pend := if x.pin = x.deb then none else some t }) b

/-- BIN_LEVEL_CHANGE: the pin of input `i` takes a level, at any time, seen by the next 1 µs sample; the level it has changes
nothing (R46, R489, R504). -/
def binLevel (i : Nat) (v : Bool) (b : Block) : Block :=
  b |> modIn i (fun x => { x with pin := v }) |> cond (isUp b 9 && (v != (bioIn b i).pin)) (binSample i)

/-- BIN_ACCEPT: the new level of input `i` has held for db (R489–R491). -/
def binAccept (i : Nat) (b : Block) : Block :=
  let x := bioIn b i
  match x.pend with
  | none => b
  | some t =>
    let b := advanceTo (t + cfg b (F.BIO_ICFG_db i) * 1000) b
    let now := ns b
    let w := chatWin b
    let l := now :: x.changes.filter (fun c => decide (now < c + w) || chatOn b i)
    let b := modIn i (fun x => { x with pend := none, deb := x.pin, changes := l }) b
    if chatOn b i then b
    else
      let b := binTake i x.pin false t b
      if l.length ≤ cfg b F.BIO_CHATCFG_chatn then b
      else b |> setBit R.BIO_CHAT i true |> modIn i (fun x => { x with window := now, changes := [] }) |> raiseP EV.BIO_CHATTER (leBytes 4 i)

/-- CHATTER_WINDOW_END of a blocked input: it is released when the window shows no more than chatn / 2 changes (R490). -/
def chatterEnd (i : Nat) (b : Block) : Block :=
  if !chatOn b i then b
  else
    let x := bioIn b i
    let b := advanceTo (x.window + chatWin b) b
    let n := (x.changes.filter (fun c => decide (x.window ≤ c) && decide (c < x.window + chatWin b))).length
    if cfg b F.BIO_CHATCFG_chatn / 2 < n then modIn i (fun x => { x with window := x.window + chatWin b, changes := x.changes.filter (fun c => decide (x.window + chatWin b ≤ c)) }) b
    else
      b |> setBit R.BIO_CHAT i false |> modIn i (fun x => { x with changes := [] })
        |> binTake i x.deb true (ns b / 1000 * 1000) |> raiseP EV.BIO_UNCHATTER (leBytes 4 i)

/-! ### The queue, commands and swaps -/

/-- BIO_BINQ2 of an entry (R508). -/
def BinEnt.word2 (e : BinEnt) : Nat := 2 ^ 31 + b2n e.unchat * 512 + b2n e.level * 256 + e.input % 32

/-- BIO_BINQ0_READ (R508). -/
def binq0Read (rqid : Nat) (b : Block) : Block :=
  regRead rqid R.BIO_BINQ0 (fun b => match b.bio.queue with
    | [] => (0, b |> latch rqid R.BIO_BINQ1 0 |> latch rqid R.BIO_BINQ2 0)
    | e :: _ => (e.t % 2 ^ 32, b |> latch rqid R.BIO_BINQ1 (e.t / 2 ^ 32) |> latch rqid R.BIO_BINQ2 e.word2)) b

/-- BIO_BINQ1 as `rqid` reads it: the latched word, or the head entry's before any latching (R508; DEDUCED, log entry 30). -/
def binq1Val (b : Block) (rqid : Nat) : Nat :=
  (latchOf b rqid R.BIO_BINQ1).getD (match b.bio.queue with | e :: _ => e.t / 2 ^ 32 % 2 ^ 32 | [] => 0)

/-- BIO_BINQ2_READ: answers the latched word and pops its entry; without a latch, those of the head entry (R508; DEDUCED, log entry 30). -/
def binq2Read (rqid : Nat) (b : Block) : Block :=
  regRead rqid R.BIO_BINQ2 (fun b =>
    let b' := unlatch rqid R.BIO_BINQ2 b
    match latchOf b rqid R.BIO_BINQ2, b.bio.queue with
    | some v, e :: l =>
      (v, if e.word2 = v ∧ e.t / 2 ^ 32 % 2 ^ 32 = latched b rqid R.BIO_BINQ1 then modBio (fun x => { x with queue := l }) b' else b')
    | some v, [] => (v, b')
    | none, e :: l => (e.word2, modBio (fun x => { x with queue := l }) b')
    | none, [] => (0, b')) b

/-- BIO_CMD CLRCNT (the BIO registers' text). -/
def bioClrcnt (b : Block) : Nat × Block := (0, zeroRegs [R.BIO_BINQOVF] b)

/-- A shadow that BIO refuses (R509). -/
def bioRefuses (b : Block) : Bool :=
  (List.range 16).any (fun j => (List.range 8).any (fun n => [2, 4, 5, 6, 7].contains (bitsOf (shdR b (R.BIO_OMAP j n)) 31 29))
      || decide (1000 < shd b (F.BIO_OCFG_minon j)))
    || (List.range 32).any (fun i => decide (20000 < shd b (F.BIO_ICFG_db i)))
    || shd b F.BIO_CHATCFG_chatn == 0 || shd b F.BIO_CHATCFG_chatw == 0 || decide (60 < shd b F.BIO_CHATCFG_chatw)
    || decide (shd b F.BIO_SUPCFG_filt < 1 ∨ 100 < shd b F.BIO_SUPCFG_filt)

/-- What a swap does to BIO: the outputs follow the new map (R486). -/
def bioSwapped (b : Block) : Block := b |> each supFollow (List.range 16) |> bioRefresh

end Sys2Proof.Machine
end

