-- ==== Sys2Proof/Machine/SchBase.lean ====
section
/-! DEFINITION. Task and window entries of the schedule, and what other units ask of it (R425, R429, R436, R453). -/

namespace Sys2Proof.Machine

/-- Change SCH's own state. -/
def modSch (f : Sch → Sch) (b : Block) : Block := { b with sch := f b.sch }

/-- State of task `t`. -/
def schTask (b : Block) (t : Nat) : SchTask := sget (fun _ => SchTask.init) b.sch.tasks t

/-- Change the state of task `t`. -/
def modTask (t : Nat) (f : SchTask → SchTask) (b : Block) : Block :=
  modSch (fun s => { s with tasks := sset (fun _ => SchTask.init) s.tasks t (f (schTask b t)) }) b

/-- State of core `c`. -/
def schCore (b : Block) (c : Nat) : SchCore := b.sch.cores.getD c SchCore.init

/-- Change the state of core `c`. -/
def modCore (c : Nat) (f : SchCore → SchCore) (b : Block) : Block := modSch (fun s => { s with cores := modAt SchCore.init s.cores c f }) b

/-! ### Entries -/

/-- The 16 words of task entry `t`, copy in force or shadow (R429). -/
def taskEnt (b : Block) (t : Nat) : List Nat := (List.range 16).map (fun w => tact b 0x30 2 t w)
/-- The shadow entry of task `t`. -/
def taskShd (b : Block) (t : Nat) : List Nat := (List.range 16).map (fun w => tshd b 0x30 2 t w)

/-- Bits `hi:lo` of word `w` of an entry. -/
def ef (e : List Nat) (w hi lo : Nat) : Nat := bitsOf (e.getD w 0) hi lo

/-- Task enabled. -/
def tEn (e : List Nat) : Bool := bitOf (e.getD 0 0) 31
/-- Class: 0 P, 1 L, 2 M. -/
def tClass (e : List Nat) : Nat := ef e 0 30 29
/-- Owner. -/
def tInst (e : List Nat) : Nat := ef e 0 21 16
/-- Core. -/
def tCore (e : List Nat) : Nat := ef e 0 11 8
/-- Address of the task block. -/
def tBlk (e : List Nat) : Nat := ef e 5 23 0 * 65536
/-- Bytes of output payload. -/
def tOutlen (e : List Nat) : Nat := ef e 6 31 16
/-- Input items. -/
def tItems (e : List Nat) : Nat := ef e 6 15 8
/-- Period of an L task, ns. -/
def tPeriod (e : List Nat) : Nat := ef e 1 6 0 * 1000000

/-- Enabled tasks in force. -/
def tasksOn (b : Block) : List Nat := (List.range 1024).filter (fun t => bitOf (tact b 0x30 2 t 0) 31)

/-- Enabled tasks of instance `n`, of class P or L. -/
def instTasks (b : Block) (n : Nat) : List Nat :=
  (tasksOn b).filter (fun t => let e := taskEnt b t; tInst e == n && decide (tClass e ≤ 1))

/-! ### Indirect tables -/

/-- A table read into `n` data registers from `tdata` on; 0x12 for an entry the table does not have. -/
def tabRead (tdata n size i : Nat) (word : Nat → Nat) (b : Block) : Nat × Block :=
  if size ≤ i then (0x12, b) else (0, each (fun w b => wr (tdata + 4 * w) (word w) b) (List.range n) b)

/-- A table write of page `p` after its locks (R108, R118): `n` words from `tdata` on, each under its mask, stored by `set`. -/
def tabWrite (p tdata n size i : Nat) (mask : Nat → Nat) (set : Nat → Nat → Block → Block) (b : Block) : Nat × Block :=
  if cfgLocked b p then (0x10, lockedWrite p b)
  else if shadowsFrozen b then (0x10, pendWrite p b)
  else if size ≤ i then (0x12, b)
  else (0, each (fun w b => set w (rd b (tdata + 4 * w) &&& mask w) b) (List.range n) b)

/-! ### Instance states -/

/-- Instance `n` enters state `s` (R453, R480). -/
def setInst (n s : Nat) (b : Block) : Block :=
  if instState b n = s then b
  else b |> fset (F.VIM_ISTATE_state n) s |> ievt 0x31 n 0
         |> raiseP EV.VIM_STATE (leBytes 4 n ++ leBytes 4 s)

/-- Record or clear a fault of instance `n` (R440, R454). -/
def setFaulted (n : Nat) (v : Bool) (b : Block) : Block := fset (F.VIM_ISTATE_faulted n) (b2n v) b

end Sys2Proof.Machine
end

