-- ==== Sys2Proof/Machine/Pub.lean ====
section
/-! DEFINITION. Publications (R484, R485, R493–R507): sources, GOOSE state and retransmission, SV samples, keys, frames, and the
checks of a swap. Publication 352 is the SPK's (R501). -/

namespace Sys2Proof.Machine

/-- Change PUB's own state. -/
def modPub (f : Pub → Pub) (b : Block) : Block := { b with pub := f b.pub }

/-! ### Entries -/

/-- The little-endian bytes `o` to `o + n − 1` of an entry. -/
def entBytes (e : List Nat) (o n : Nat) : List Byte := (((e.map (leBytes 4)).flatten).drop o).take n

/-- A NUL-padded string of an entry. -/
def entStr (e : List Nat) (o : Nat) : List Byte := (entBytes e o 64).takeWhile (· != 0#8)

/-- A 16-bit field at byte `o` of an entry. -/
def ent16 (e : List Nat) (o : Nat) : Nat := ef e (o / 4) (8 * (o % 4) + 15) (8 * (o % 4))

/-- Entry enabled. -/
def pEn (e : List Nat) : Bool := bitOf (e.getD 0 0) 31
/-- Kind: 0 GOOSE, 1 R-GOOSE, 2 SV, 3 R-SV. -/
def pKind (e : List Nat) : Nat := ef e 0 30 29
/-- Whether the entry is a GOOSE or R-GOOSE publication. -/
def pGoose (e : List Nat) : Bool := decide (pKind e ≤ 1)
/-- Authentication mode. -/
def pAuth (e : List Nat) : Nat := ef e 0 25 24
/-- Members or channels. -/
def pMembers (e : List Nat) : Nat := ef e 0 21 16
/-- Samples in a frame. -/
def pNasdu (e : List Nat) : Nat := ef e 0 15 8
/-- Divider of an SV publication. -/
def pDiv (e : List Nat) : Nat := ef e 0 7 0
/-- Source word of member `m`. -/
def pSrc (e : List Nat) (m : Nat) : Nat := e.getD (64 + m) 0
/-- Type of member `m`. -/
def pType (e : List Nat) (m : Nat) : Nat := ef e (96 + m / 8) (4 * (m % 8) + 3) (4 * (m % 8))
/-- Task of a source word. -/
def srcTask (w : Nat) : Nat := bitsOf w 19 10

/-- The tasks that the sources of an entry name (R495). -/
def pTasks (e : List Nat) : List Nat :=
  ((List.range (pMembers e)).map (pSrc e)).filterMap (fun w => if [1, 2, 4].contains (bitsOf w 31 29) then some (srcTask w) else none)

/-- The SPK's publication as an entry, from the GOOSE section of its record; side Y takes the next APPID and MAC (R163, R501). -/
def spkPub (b : Block) : List Nat :=
  let r := b.spk.record
  if r.isEmpty then []
  else
    let o := 0xC40
    let y := b2n (isY b)
    let w (i : Nat) : Nat := recN r (o + i) 4
    let mac := (w 4 + recN r (o + 8) 2 * 2 ^ 32)
    let mac := mac % 2 ^ 40 + (mac / 2 ^ 40 + y) % 256 * 2 ^ 40
    [2 ^ 31 + recN r (o + 20) 1 % 4 * 2 ^ 24, (recN r o 2 + y) % 65536 + recN r (o + 2) 2 * 2 ^ 16, mac % 2 ^ 32, mac / 2 ^ 32 + 7 * 2 ^ 16,
     w 12, recN r (o + 16) 2 + recN r (o + 18) 2 * 2 ^ 16, 1 * 2 ^ 16] ++ List.replicate 9 0
      ++ (List.range 16).map (fun i => w (32 + 4 * i)) ++ (List.range 16).map (fun i => w (96 + 4 * i)) ++ (List.range 16).map (fun i => w (160 + 4 * i))

/-- The entry of publication `p` in force (R493, R501). -/
def pubEnt (b : Block) (p : Nat) : List Nat :=
  if p = 352 then spkPub b else (List.range 128).map (fun w => tact b 0x34 0 p w)

/-- The shadow entry of publication `p`. -/
def pubShd (b : Block) (p : Nat) : List Nat := (List.range 128).map (fun w => tshd b 0x34 0 p w)

/-- Enabled entries in force. -/
def pubsOn (b : Block) : List Nat := (List.range 352).filter (fun p => bitOf (tact b 0x34 0 p 0) 31)

/-! ### State records -/

/-- The run of publication `p`. -/
def pubRun (b : Block) (p : Nat) : Option PubRun := (b.pub.runs.find? (fun x => x.1 == p)).map (·.2)

/-- Word `w` of the state record of publication `p`. -/
abbrev pubS (p w : Nat) : Nat := tkey 0x34 2 p w

/-- Set the run of publication `p`, and show it in its state record (R506). -/
def setRun (p : Nat) (r : PubRun) (b : Block) : Block :=
  let runs := (b.pub.runs.filter (fun x => decide (x.1 < p))) ++ [(p, r)] ++ (b.pub.runs.filter (fun x => decide (p < x.1)))
  b |> modPub (fun x => { x with runs := runs }) |> tset (pubS p 0) r.st |> tset (pubS p 1) r.sq |> tset (pubS p 4) r.k |> tset (pubS p 5) (r.k / 2 ^ 32)
    |> (fun b => tset (pubS p 6) ((tget b (pubS p 6) &&& 4) + 1 + 2 * b2n r.loss + 8 * b2n r.leafNext) b)

/-- Publication `p` no longer runs. -/
def dropRun (p : Nat) (b : Block) : Block :=
  b |> modPub (fun x => { x with runs := x.runs.filter (fun y => y.1 != p) }) |> tset (pubS p 6) 0

/-! ### Keys -/

/-- The leaf a publication is tagged under: the one in use, or the other when only that one can sign (R188, R189; DESIGN CHOICE, log entry 18). -/
def pubLeaf (b : Block) (e : List Nat) (next : Bool) : Option Leaf :=
  let cur := ent16 e 24 % 2048
  let nxt := ent16 e 26 % 2048
  let ok (h : Nat) : Bool := leafTx b h (secOf b) && (leaf b h).kind == pAuth e
  let (x, y) := if next then (nxt, cur) else (cur, nxt)
  if ok x then some (leaf b x) else if ok y then some (leaf b y) else none

/-- Some publication has lost its keys: PUB_STAT and TMP_STAT (R500). -/
def showLoss (b : Block) : Block :=
  let any := b.pub.runs.any (fun x => x.2.loss)
  b |> fset F.PUB_STAT_keyloss (b2n any) |> fset F.TMP_STAT_keyloss (b2n any)

/-- Set or clear the key loss of publication `p`, whose run is `r` (R225, R500). -/
def setLoss (p : Nat) (v : Bool) (r : PubRun) (b : Block) : PubRun × Block :=
  if r.loss = v then (r, b)
  else
    let r := { r with loss := v }
    let b := if p < 352 then setBit (R.PUB_KEYLOSS (p / 32)) (p % 32) v b else b
    (r, b |> setRun p r |> showLoss |> cond v (raiseP EV.TMP_KEYLOSS (leBytes 4 p)))

/-- Bring the key state of a run up to date; `cur` for the run in force (R189, R225). -/
def keyState (p : Nat) (cur : Bool) (r : PubRun) (b : Block) : PubRun × Block :=
  if !cur then (r, b) else setLoss p (pAuth r.ent != 0 && (pubLeaf b r.ent r.leafNext).isNone) r b

/-- The first boundary at or after leafnext's not-before (R188). -/
def leafSwitch (p k : Nat) (r : PubRun) (b : Block) : PubRun × Block :=
  let n := leaf b (ent16 r.ent 26 % 2048)
  if pAuth r.ent ≠ 0 ∧ r.leafNext = false ∧ ent16 r.ent 24 ≠ ent16 r.ent 26 ∧ n.state = 1 ∧ n.nb * nsec ≤ gridNs (primRate b) k then
    let r := { r with leafNext := true }
    (r, b |> setRun p r |> raiseP EV.PUB_LEAFSW (leBytes 4 p))
  else (r, b)

/-! ### Sources -/

/-- A data source of task `t` at byte `o` of its committed payload, `n` bytes (R485, R495, R504): value, and whether it failed. -/
def dataSrc (t o n : Nat) (b : Block) : Nat × Bool × Block :=
  let s := schTask b t
  if s.seq = 0 then (0, false, b)
  else
    let a := s.blk + (if s.slot = 0 then 0x2000 else 0x3000) + 0x40 + o
    match busRead 0x0C3 a n (.burst n) Need.read b with
    | (.ok, d, b) => (leNat d, false, b)
    | (st, _, b) =>
      let cls := match st with | .ue => 2 | .poison => 2 | .address => 1 | _ => 0
      (0, true, instErr 0x34 (tInst (taskEnt b t)) cls 0 t b)

/-- The quality that a commit-status source gives (R485). -/
def commitQuality (b : Block) (t : Nat) : Nat :=
  let s := schTask b t
  if s.seq = 0 then Config.noCommitQuality t
  else if s.flags &&& 0x18 ≠ 0 then 0x41
  else if s.flags &&& 4 ≠ 0 then 0x83
  else 0

/-- One member of type `ty` from source word `w`, as a frame carries it (R485, R494). -/
def memberVal (ty w : Nat) (b : Block) : Nat × Bool × Block :=
  let bool (v : Bool) : Nat × Bool × Block := (b2n (v != bitOf w 28), false, b)
  match bitsOf w 31 29 with
  | 1 =>
    if ty = 2 then (2 * b2n (tripBit b (srcTask w) (bitsOf w 8 0)) + b2n (tripBit b (srcTask w) (bitsOf w 8 0 + 1)), false, b)
    else bool (tripBit b (srcTask w) (bitsOf w 8 0))
  | 2 =>
    let (v, bad, b) := dataSrc (srcTask w) (bitsOf w 8 0 * 4) (if ty = 7 ∨ ty = 9 then 8 else 4) b
    (if ty = 6 then v % 0x2000 else v, bad, b)
  | 3 => bool (bitOf b.pub.bins (w % 32))
  | 4 => (commitQuality b (srcTask w) % 0x2000, false, b)
  | 6 => bool true
  | _ => bool false

/-- The members of an entry, in order, with whether any source failed. -/
def memberVals (e : List Nat) : List Nat → Block → List (Nat × Nat) × Bool × Block
  | [], b => ([], false, b)
  | m :: l, b =>
    let (v, x, b) := memberVal (pType e m) (pSrc e m) b
    let (r, y, b) := memberVals e l b
    ((pType e m, v) :: r, x || y, b)

/-- The 65 members of the SPK's GOOSE (R163, R484). -/
def spkMembers (b : Block) : List (Nat × Nat) :=
  (1, b2n (tripBit b 1024 64)) :: (List.range 64).map (fun i => (1, b2n (tripBit b 1024 i)))

/-- The members of publication `p` under entry `e` (R494, R495, R504). -/
def pubMembers (p : Nat) (e : List Nat) (b : Block) : List (Nat × Nat) × Block :=
  if p = 352 then (spkMembers b, b)
  else
    let (l, bad, b) := memberVals e (List.range (pMembers e)) b
    let b := tset (pubS p 6) (putBits (tget b (pubS p 6)) 2 2 (b2n bad)) b
    (l, if bad then raiseP EV.PUB_SRCERR (leBytes 4 p) b else b)

/-! ### Frames -/

/-- Content bytes of an integer in the shortest two's complement. -/
def berInt (n : Nat) : Nat := (Nat.log2 n + 1) / 8 + 1

/-- Bytes of a BER element with `n` bytes of content. -/
def berLen (n : Nat) : Nat := n + (if n < 128 then 2 else if n < 256 then 3 else 4)

/-- Bytes of a member of a type and value in allData (R494). -/
def memberLen (m : Nat × Nat) : Nat :=
  match m.1 with
  | 1 => 3 | 2 => 4 | 4 => berLen (berInt m.2) | 5 => 7 | 6 => 5 | 7 => 10 | 8 => 7 | 9 => 10
  | 3 => berLen (berInt (match sNat 32 m.2 with | .ofNat n => n | .negSucc n => n))
  | _ => 0

/-- A frame of an entry: addresses, tag and headers around a body whose PDU has `n` bytes (R236, R493, R499, R500). -/
def pubFrame (b : Block) (e : List Nat) (etype n : Nat) (ext : Bool) (body : Body) : Frame :=
  let mac := (entBytes e 8 6).foldl (fun x y => x * 256 + y.toNat) 0
  let w := ent16 e 6
  let tag := if w % 4096 = 0 then none else some (w / 8192, w % 4096)
  let routed := decide (pKind e = 1 ∨ pKind e = 3)
  let len := 18 + (if tag.isSome then 4 else 0) + (if routed then 28 + Config.sessionLen else 8) + berLen n + (if ext then Config.extLen (pAuth e) else 0)
  { dst := mac, src := b.part.mac, tag := tag, etype := if routed then 0x0800 else etype, len := max 64 len, fcs := .good, sym := false
    asmErr := false, rct := none, hsr := none, ip := if routed then some ⟨true, true, false, true, 1⟩ else none, inst := none, body := body }

/-- The session of a routed entry (R499). -/
def pubSession (e : List Nat) (sid spdu : Nat) : Option Session :=
  if pKind e = 1 ∨ pKind e = 3 then
    some { ip := e.getD 9 0, port := ent16 e 42, sid := sid, ok := true, srcIp := e.getD 8 0, srcPort := ent16 e 44, ttl := ef e 10 7 0
           dscp := ef e 10 15 10, spdu := spdu }
  else none

/-- Sheaves of an interval of `d` ms (R497). -/
def pubSheaves (rate d : Nat) : Nat := ceilDiv (d * rate) 1000

/-- UtcTime of an instant in ns TAI, with its TimeQuality, as the 64-bit number whose octets are sent in order (R496). -/
def utcTime (b : Block) (t tq : Nat) : Nat := (t / nsec - taiUtc b) % 2 ^ 32 * 2 ^ 32 + t % nsec * 2 ^ 24 / nsec * 256 + tq

/-- The GOOSE frame of a run (R494–R500); `ext` is the key ID of its extension. -/
def gooseFrame (r : PubRun) (ext : Option Nat) (b : Block) : Frame :=
  let e := r.ent
  let rate := primRate b
  let ttl := ceilDiv (2 * pubSheaves rate r.d * 1000) rate
  let m : GooseBody :=
    { sess := pubSession e 0xA1 r.sq, appid := ent16 e 4, sim := bitOf (e.getD 0 0) 26, wf := true, ext := ext, gocb := entStr e 64
      datset := entStr e 128, goid := entStr e 192, confrev := e.getD 4 0, nds := false, test := bitOf (e.getD 0 0) 27, stnum := r.st, sqnum := r.sq
      t := utcTime b r.t r.tq, ttl := ttl, members := r.members }
  let data := (r.members.map memberLen).sum
  let n := berLen m.gocb.length + berLen (berInt ttl) + berLen m.datset.length + berLen m.goid.length + 10 + berLen (berInt r.st) + berLen (berInt r.sq)
    + 3 + berLen (berInt m.confrev) + 3 + berLen (berInt r.members.length) + berLen data
  pubFrame b e 0x88B8 n ext.isSome (.goose m)

/-- The SV frame of samples (R498–R500). -/
def svFrame (r : PubRun) (l : List (Nat × Nat × Nat × List (Int × Nat))) (ext : Option Nat) (b : Block) : Frame :=
  let e := r.ent
  let a := l.map (fun x => (⟨entStr e 64, entStr e 128, e.getD 4 0, x.2.1, x.2.2.1, none, x.2.2.2⟩ : SvAsdu))
  let m : SvBody :=
    { sess := pubSession e 0xA2 ((l.map (fun x => x.2.1)).headD 0), appid := ent16 e 4, sim := bitOf (e.getD 0 0) 26, wf := true, noasdu := a.length
      ext := ext, asdus := a }
  let one := berLen (entStr e 64).length + (if (entStr e 128).isEmpty then 0 else berLen (entStr e 128).length) + 13 + berLen (8 * pMembers e)
  pubFrame b e 0x88BA (3 + berLen (berLen one * a.length)) ext.isSome (.sv m)

/-- Queue a frame of publication `p` at H (R225, R499, R500, R502): not while its keys are lost under silence; a publication that is
suppressed counts none (R523). -/
def pubQueue (p : Nat) (r : PubRun) (mk : Option Nat → Block → Frame) (b : Block) : Block :=
  if r.loss && cfgOn b F.TMP_POLICY_silence then b
  else
    let e := r.ent
    let w0 := e.getD 0 0
    let ext := if pAuth e = 0 ∨ r.loss then none else (pubLeaf b e r.leafNext).map (·.keyId)
    let routed := decide (pKind e = 1 ∨ pKind e = 3)
    b |> cond (!b.twn.suppress.contains p) (tcnt (pubS p 2) 1)
      |> hIngress (mk ext b) (ef e 3 23 16) routed routed (if bitOf w0 23 then some (ent16 e 28) else none) none (bitOf w0 28) p

/-! ### GOOSE state (R495–R497) -/

/-- Whether the run in force, rather than one a swap replaced, is meant. -/
inductive Which where
  | cur
  | old (k : Nat)
  deriving DecidableEq, Repr

/-- The run, with its entry, under which publication `p` is built for sheaf `k` (R28). -/
def runFor (b : Block) (p k : Nat) : Option (Which × PubRun) :=
  let l := b.pub.old.filter (fun o => o.p == p && decide (k < o.k))
  match l.getLast? with
  | some o => (match o.run with
    | some r => some (.old o.k, r)
    | none => (pubRun b p).map (fun r => (.cur, { r with ent := o.ent })))
  | none => (pubRun b p).map (fun r => (.cur, r))

/-- Store a run; the one in force keeps the entry in force. -/
def putRun (p : Nat) (w : Which) (r : PubRun) (b : Block) : Block :=
  match w with
  | .cur => setRun p (match pubRun b p with | some c => { r with ent := c.ent } | none => r) b
  | .old k => modPub (fun x => { x with old := x.old.map (fun o => if o.p = p ∧ o.k = k then { o with run := some r } else o) }) b

/-- A new state of publication `p` caused by sheaf `k` (R496, R497): `first` at its start. -/
def pubChange (p k : Nat) (w : Which) (first : Bool) (r : PubRun) (l : List (Nat × Nat)) (b : Block) : Block :=
  let (ov, b) := resyncTake p b
  let rate := primRate b
  let d := ent16 r.ent 20
  let st := match ov with | some s => s | none => if first then 1 else if r.st = 0xFFFFFFFF then 1 else r.st + 1
  let r := { r with st := st, sq := 0, k := k, members := l, t := gridNs rate k, tq := if fon b F.TIM_STAT_synced then 0x94 else 0xBF, d := d
                    nextK := k + pubSheaves rate d }
  let b := putRun p w r b
  let (r, b) := keyState p (w == .cur) r b
  b |> cond (!first) (tcnt (pubS p 3) 1) |> pubQueue p r (gooseFrame r)

/-- Evaluate publication `p` for sheaf `k` (R495). -/
def pubEval (p k : Nat) (b : Block) : Block :=
  match runFor b p k with
  | none => b
  | some (w, r) =>
    if !pGoose r.ent then b
    else
      let (l, b) := pubMembers p r.ent b
      if l = r.members then b else pubChange p k w false r l b

/-- The members of a run with its BIN members as sampled at the boundary (R495). -/
def binMembers (b : Block) (r : PubRun) : List (Nat × Nat) :=
  (List.range (pMembers r.ent)).map (fun m =>
    let w := pSrc r.ent m
    if bitsOf w 31 29 = 3 then (pType r.ent m, b2n (bitOf b.pub.bins (w % 32) != bitOf w 28)) else r.members.getD m (pType r.ent m, 0))

/-- Evaluate the BIN members of publication `p` at the boundary of `k` (R495). -/
def pubEvalBins (p k : Nat) (b : Block) : Block :=
  match runFor b p k with
  | none => b
  | some (w, r) =>
    let l := binMembers b r
    if !pGoose r.ent || p == 352 || l == r.members then b else pubChange p k w false r l b

/-- Evaluations after a commit attributed to sheaf `k` of task `t`, in ascending entry number (R495, R502). -/
def pubCommit (t k : Nat) (b : Block) : Block :=
  each (fun x b => match runFor b x.1 k with
    | some (_, r) => if x.1 < 352 ∧ (pTasks r.ent).contains t = true then pubEval x.1 k b else b
    | none => b) b.pub.runs b

/-- GOOSE_RETRANSMIT of publication `p`: the boundary of its next retransmission has come (R496, R497). -/
def gooseRetransmit (p : Nat) (b : Block) : Block :=
  match pubRun b p with
  | none => b
  | some r =>
    if !pGoose r.ent || decide (rd64 b R.BNK_CURIDX_LO < r.nextK) then b
    else
      let rate := primRate b
      let d := min (2 * r.d) (ent16 r.ent 22)
      let r := { r with sq := if r.sq = 0xFFFFFFFF then 1 else r.sq + 1, d := d, nextK := r.nextK + pubSheaves rate d }
      let (r, b) := keyState p true r (setRun p r b)
      pubQueue p r (gooseFrame r) b

/-! ### Sampled values (R498) -/

/-- smpSynch of sheaf `k`: what its boundary found. -/
def synchAt (b : Block) (k : Nat) : Nat := match b.pub.synch.find? (fun x => decide (x.1 ≤ k)) with | some (_, true) => 2 | _ => 0

/-- Value and quality of one channel of sheaf `k` (R498, R504). -/
def svChannel (settled : Bool) (k c : Nat) (b : Block) : (Int × Nat) × Bool × Block :=
  match busRead 0x0C3 (entAddr b false k c) 8 (.burst 8) Need.read b with
  | (.ok, d, b) =>
    let x := if held b false k then leNat d else 0
    let q := entQ x % 0x4000
    ((entVal x, if !settled && entState x == 2 && q % 4 != 1 then q ||| 3 else q), false, b)
  | (st, _, b) => ((0, 0), true, ownData 0x34 st b)

/-- The channels of a sample. -/
def svChannels (settled : Bool) (k : Nat) (e : List Nat) : List Nat → Block → List (Int × Nat) × Bool × Block
  | [], b => ([], false, b)
  | m :: l, b =>
    let (v, x, b) := svChannel settled k (pSrc e m % 4096) b
    let (r, y, b) := svChannels settled k e l b
    (v :: r, x || y, b)

/-- Publication `p` takes sheaf `k` when its turn comes (R498). -/
def pubSample (p k : Nat) (settled : Bool) (b : Block) : Block :=
  match runFor b p k with
  | none => b
  | some (w, r) =>
    let e := r.ent
    let rate := primRate b
    let c := k % rate
    if pGoose e || bitOf (e.getD 0 0) 22 != settled || pDiv e = 0 || c % pDiv e ≠ 0 || (match r.lastK with | some j => decide (k ≤ j) | none => false) then b
    else
      let n := c / pDiv e
      let miss := match r.lastK with | some j => (k - j) / pDiv e - 1 | none => 0
      let b := tcnt (pubS p 7) miss b
      let buf := if miss = 0 then r.buf else []
      let (l, bad, b) := svChannels settled k e (List.range (pMembers e)) b
      let b := tset (pubS p 6) (putBits (tget b (pubS p 6)) 2 2 (b2n bad)) b
      let b := if bad then raiseP EV.PUB_SRCERR (leBytes 4 p) b else b
      let buf := if buf.isEmpty && n % pNasdu e != 0 then [] else buf ++ [(k, n, synchAt b k, l)]
      let full := decide (pNasdu e ≤ buf.length)
      let r := { r with lastK := some k, buf := if full then [] else buf }
      let b := putRun p w r b
      let (r, b) := keyState p (w == .cur) r b
      if full then pubQueue p r (svFrame r buf) b else b

/-! ### Boundaries -/

/-- Start publication `p` at the boundary of `k` (R496). -/
def pubStart (p k : Nat) (b : Block) : Block :=
  let e := pubEnt b p
  let r : PubRun := ⟨e, 1, 0, k, [], 0, 0, 0, 0, false, false, [], none⟩
  let (r, b) := leafSwitch p k r (setRun p r b)
  if pGoose e then
    let (l, b) := pubMembers p e b
    pubChange p k .cur true r l b
  else (keyState p true r b).2

/-- Publication `p` at the boundary of `k`: its start, or its leaf and its BIN members (R188, R495, R496). -/
def pubAt (k p : Nat) (b : Block) : Block :=
  match pubRun b p with
  | none => pubStart p k b
  | some r =>
    let (r, b) := leafSwitch p k r b
    let (_, b) := keyState p true r b
    pubEvalBins p k b

/-- The boundary of sheaf `k` (R495, R496, R498). -/
def pubBoundary (k : Nat) (b : Block) : Block :=
  let s := fon b F.TIM_STAT_synced
  let b := modPub (fun x => { x with
    bins := binAt b (gridNs (primRate b) k)
    synch := if (x.synch.map (·.2)).head? = some s then x.synch else (k, s) :: x.synch.take 63
    old := x.old.filter (fun o => decide (k < o.k + 512)) }) b
  let on := if fon b F.PUB_STAT_spkonly then [] else pubsOn b
  let on := on ++ (if b.spk.record.isEmpty then [] else [352])
  b |> each (pubAt k) on |> each (fun p b => pubSample p k false b) (on.filter (· != 352))

/-- Settlement of sheaf `k` (R498). -/
def pubSettled (k : Nat) (b : Block) : Block := each (fun x b => pubSample x.1 k true b) b.pub.runs b

/-- What a swap at the boundary of `k` does to the publications (R28, R496, R503, R504). -/
def pubSwapped (k : Nat) (b : Block) : Block :=
  let one (x : Nat × PubRun) (b : Block) : Block :=
    let (p, r) := x
    if p = 352 then b
    else
      let e := pubEnt b p
      if !pEn e then dropRun p b
      else if e = r.ent then b
      else if e.take 64 = r.ent.take 64 ∧ e.drop 96 = r.ent.drop 96 then
        b |> modPub (fun y => { y with old := ⟨k, p, r.ent, none⟩ :: y.old }) |> setRun p { r with ent := e }
      else b |> modPub (fun y => { y with old := ⟨k, p, r.ent, some r⟩ :: y.old }) |> dropRun p |> raiseP EV.PUB_RESTART (leBytes 4 p)
  let b := b |> fset F.PUB_STAT_spkonly 0 |> each one b.pub.runs
  b |> fset F.PUB_STAT_npub (pubsOn b).length
    |> each (fun i b => wr (R.PUB_KEYLOSS i) (((List.range 32).filter (fun j => (b.pub.runs.any (fun x => x.1 == 32 * i + j && x.2.loss)))).map (2 ^ ·)).sum b)
        (List.range 11) |> showLoss

/-! ### Checks of a swap -/

/-- Whether a member's source is one its type permits (R494). A task-data offset below 16 names no task data (R485; DEDUCED, log entry 52). -/
def srcOk (ty w : Nat) : Bool :=
  let k := bitsOf w 31 29
  !(k == 2 && decide (bitsOf w 8 0 < 16)) && match ty with
  | 1 => [0, 1, 3, 6].contains k
  | 2 => k == 1 && decide (bitsOf w 8 0 ≤ 510)
  | 6 => k == 2 || k == 4
  | 7 => k == 2 && w % 2 == 0
  | 9 => k == 2 && w % 2 == 0
  | 3 => k == 2 | 4 => k == 2 | 5 => k == 2 | 8 => k == 2
  | _ => false

/-- A shadow entry that PUB refuses (R503). -/
def pubBad (b : Block) (p : Nat) : Bool :=
  let e := pubShd b p
  let k := pKind e
  let n := pMembers e
  let range (c : Bool) : Bool := !c
  let ts := pTasks e
  pEn e && (range (if p < 256 then k == 0 else if p < 288 then k == 1 else decide (2 ≤ k)) || decide (7 < ef e 3 23 16)
    || decide (n = 0 ∨ 32 < n)
    || (if pGoose e then decide (ent16 e 20 = 0 ∨ 1000 < ent16 e 20) || decide (ent16 e 22 < ent16 e 20 ∨ 60000 < ent16 e 22)
          || (List.range n).any (fun m => !srcOk (pType e m) (pSrc e m))
        else decide (pNasdu e = 0 ∨ 8 < pNasdu e) || decide (pDiv e = 0) || decide (primRate b % (pDiv e * pNasdu e) ≠ 0)
          || (List.range n).any (fun m => bitsOf (pSrc e m) 31 29 != 5 || decide (4095 < bitsOf (pSrc e m) 27 0)))
    || (pGoose e && (ts.any (fun t => tClass (taskShd b t) == 2) || decide (1 < (ts.map (fun t => tCore (taskShd b t))).eraseDups.length)))
    || (pAuth e != 0 && decide (2047 < ent16 e 24 ∨ 2047 < ent16 e 26))
    || ((k == 1 || k == 3) && decide (e.getD 9 0 = 0 ∨ ent16 e 42 = 0)))

/-- A shadow that PUB refuses (R503). -/
def pubRefuses (b : Block) : Bool := (List.range 352).any (pubBad b)

/-! ### Commands -/

/-- Entries of PUB table `t` (R506). -/
def pubSize (t : Nat) : Nat := match t with | 0 => 352 | 1 => 352 | 2 => 353 | 3 => 1025 | _ => 0

/-- Word `w` of entry `i` as table `t` shows it. -/
def pubWord (b : Block) (t i w : Nat) : Nat :=
  match t with
  | 0 => tshd b 0x34 0 i w
  | 1 => tact b 0x34 0 i w
  | 2 => if w < 8 then tget b (pubS i w) else 0
  | _ => if w < 16 then tget b (tkey 0x34 3 i w) else 0

/-- PUB_CMD TREAD (R506). -/
def pubTread (t : Nat) (b : Block) : Nat × Block :=
  tabRead (R.PUB_TDATA 0) 128 (pubSize t) (rd b R.PUB_TIDX) (pubWord b t (rd b R.PUB_TIDX)) b

/-- Bits of word `w` of an entry that a write stores (R493). -/
def pubMask (w : Nat) : Nat :=
  match w with
  | 1 => 0xEFFFFFFF | 3 => 0x00FFFFFF | 7 => 0xFFFF | 10 => 0xFFFFFCFF | 11 => 0xFFFF
  | _ => if (12 ≤ w ∧ w < 16) ∨ 100 ≤ w then 0 else 0xFFFFFFFF

/-- PUB_CMD TWRITE (R506). -/
def pubTwrite (t : Nat) (b : Block) : Nat × Block :=
  if t ≠ 0 then (if t ≤ 3 then 0x11 else 0x12, b)
  else tabWrite 0x34 (R.PUB_TDATA 0) 128 352 (rd b R.PUB_TIDX) pubMask (tsetShd 0x34 0 (rd b R.PUB_TIDX)) b

/-- PUB_CMD CLRCNT (R506). -/
def pubClrcnt (b : Block) : Nat × Block :=
  (0, each (fun p b => b |> tset (pubS p 2) 0 |> tset (pubS p 3) 0 |> tset (pubS p 7) 0) (List.range 353) b)

end Sys2Proof.Machine
end

