-- ==== Sys2Proof/Machine/Lgr.lean ====
section
/-! DEFINITION. The logic runtime (R551–R577): the variable directory, timers, edge detectors, retentive variables, online change and
forces, done around each release of a bound task. -/

namespace Sys2Proof.Machine

/-- Change LGR's own state. -/
def modLgr (f : Lgr → Lgr) (b : Block) : Block := { b with lgr := f b.lgr }

/-- State of program `p`. -/
def lgrProg (b : Block) (p : Nat) : LgrProg := sget (fun _ => ⟨false, none, none⟩) b.lgr.progs p

/-- Change the state of program `p`. -/
def modProg (p : Nat) (f : LgrProg → LgrProg) (b : Block) : Block :=
  modLgr (fun l => { l with progs := sset (fun _ => ⟨false, none, none⟩) l.progs p (f (lgrProg b p)) }) b

/-! ### Program entries (R575) -/

/-- The entry of program `p` in force. -/
def lgrEnt (b : Block) (p : Nat) : List Nat := (List.range 16).map (fun w => tact b 0x3C 0 p w)
/-- The shadow entry of program `p`. -/
def lgrShd (b : Block) (p : Nat) : List Nat := (List.range 16).map (fun w => tshd b 0x3C 0 p w)
/-- Program enabled. -/
def lEn (e : List Nat) : Bool := bitOf (e.getD 0 0) 31
/-- Bound task. -/
def lTask (e : List Nat) : Nat := ef e 0 25 16
/-- Generation label. -/
def lGen (e : List Nat) : Nat := ef e 0 15 8
/-- Variable area: address and size. -/
def lArea (e : List Nat) : Nat × Nat := (ef e 1 31 6 * 64 + ef e 2 7 0 * 2 ^ 32, ef e 2 31 16 * 64)
/-- Directory: address and records. -/
def lDir (e : List Nat) : Nat × Nat := (ef e 3 31 6 * 64 + ef e 4 7 0 * 2 ^ 32, ef e 4 30 16)
/-- First timer cell and their number. -/
def lTimers (e : List Nat) : Nat × Nat := (ef e 6 27 16, ef e 6 12 0)
/-- Save interval, ms. -/
def lRetint (e : List Nat) : Nat := ef e 7 31 16
/-- Load and carry-over reserve, µs. -/
def lReserve (e : List Nat) : Nat := ef e 7 15 0
/-- First byte of the LGR partition of MRAM (R153). -/
abbrev lgrBase : Nat := 0x1801100000
/-- Slot offset in the partition. -/
def lMoff (e : List Nat) : Nat := ef e 8 22 6 * 64

/-- The force entries in effect for program `p` (R569): hash, type, size, value. -/
def forcesOf (b : Block) (p : Nat) : List (List Nat) :=
  ((List.range 1024).map (fun i => (List.range 4).map (fun w => tact b 0x3C 2 i w))).filter (fun f => bitOf (f.getD 0 0) 31 && ef f 0 23 16 == p)

/-- The program bound to task `t`, if any (R551). -/
def progOf (b : Block) (t : Nat) : Option Nat :=
  (List.range 256).find? (fun p => let e := lgrEnt b p; lEn e && lTask e == t)

/-! ### The directory (R556–R558) -/

/-- A record of the directory. -/
structure DirRec where
  hash : Nat
  typ : Nat
  flags : Nat
  size : Nat
  off : Nat
  timer : Nat
  deriving DecidableEq, Repr

/-- Variable retained. -/
def DirRec.retain (r : DirRec) : Bool := bitOf r.flags 0
/-- An edge detector's edgeinit. -/
def DirRec.edgeinit (r : DirRec) : Bool := bitOf r.flags 1
/-- Location: 0 variable area, 1 input image, 2 output draft. -/
def DirRec.loc (r : DirRec) : Nat := bitsOf r.flags 3 2
/-- Bit number of a BOOL outside the area. -/
def DirRec.bit (r : DirRec) : Nat := bitsOf r.flags 6 4
/-- Identity (R558). -/
def DirRec.ident (r : DirRec) : Nat × Nat × Nat := (r.hash, r.typ, r.size)
/-- A timer of R559. -/
def DirRec.isTimer (r : DirRec) : Bool := decide (0x20 ≤ r.typ ∧ r.typ ≤ 0x22)
/-- An edge detector of R560. -/
def DirRec.isEdge (r : DirRec) : Bool := r.typ == 0x28 || r.typ == 0x29

/-- The record in 16 bytes. -/
def dirRec (l : List Byte) : DirRec :=
  ⟨recN l 0 4, recN l 4 1, recN l 5 1, recN l 6 2, recN l 8 4, recN l 12 2⟩

/-- The `n` records in a directory's bytes. -/
def dirRecs : Nat → List Byte → List DirRec
  | 0, _ => []
  | n + 1, l => dirRec l :: dirRecs n (l.drop 16)

/-! ### Accesses with the owner's RQID (R553) -/

/-- Read program memory as owner `n`; a refused read gives zeros and is an error of the owner. -/
def lgrRead (n a len : Nat) (b : Block) : List Byte × Block :=
  match engRead n a len b with
  | (.ok, d, b) => (d, b)
  | (st, _, b) => (List.replicate len 0#8, instErr 0x3C n (statusClass st) 0 0 b)

/-- Write program memory as owner `n`; a refused write is an error of the owner. -/
def lgrWrite (n a : Nat) (d : List Byte) (b : Block) : Block :=
  match engWrite n a d b with
  | (.ok, b) => b
  | (st, b) => instErr 0x3C n (statusClass st) 0 0 b

/-- The directory of an entry as owner `n` reads it, with its bytes. -/
def readDir (n : Nat) (e : List Nat) (b : Block) : List DirRec × List Byte × Block :=
  let (a, k) := lDir e
  let (d, b) := lgrRead n a (16 * k) b
  (dirRecs k d, d, b)

/-! ### Timer cells (R559) -/

/-- A timer cell: mode, IN, running, unit, program, PT, start in ns. -/
structure Cell where
  mode : Nat
  inp : Bool
  run : Bool
  ms : Bool
  prog : Nat
  pt : Nat
  s : Nat
  deriving DecidableEq, Repr

/-- Cell `i` (R574 table 4). -/
def cellAt (b : Block) (i : Nat) : Cell :=
  let k := tkey 0x3C 4 i 0
  let w := tget b k
  ⟨bitsOf w 31 30, bitOf w 29, bitOf w 28, bitOf w 27, w % 256, tget b (k + 1), tget b (k + 2) + tget b (k + 3) * 2 ^ 32⟩

/-- Set cell `i`. -/
def putCell (i : Nat) (c : Cell) (b : Block) : Block :=
  let k := tkey 0x3C 4 i 0
  b |> tset k (c.mode * 2 ^ 30 + b2n c.inp * 2 ^ 29 + b2n c.run * 2 ^ 28 + b2n c.ms * 2 ^ 27 + c.prog % 256) |> tset (k + 1) c.pt
    |> tset (k + 2) c.s |> tset (k + 3) (c.s / 2 ^ 32)

/-- Clear the cells of an entry. -/
def clearCells (e : List Nat) (b : Block) : Block :=
  let (f, n) := lTimers e
  each (fun i b => putCell (f + i) ⟨0, false, false, false, 0, 0, 0⟩ b) (List.range n) b

/-- Unit of a cell's PT and ET, ns. -/
def Cell.unit (c : Cell) : Nat := if c.ms then 1000000 else 1000

/-- The cell after the epilogue of a release with cycle instant `t`, from IN, unit and PT of its variable (R559). -/
def Cell.epilogue (c : Cell) (mode prog t pt : Nat) (inp ms : Bool) : Cell :=
  let start := match mode with
    | 1 => c.inp && !inp
    | 2 => !c.inp && inp && !c.run
    | _ => !c.inp && inp
  let stop := match mode with
    | 1 => !c.inp && inp
    | 2 => false
    | _ => c.inp && !inp
  { mode := mode, inp := inp, run := start || (c.run && !stop), ms := ms, prog := prog, pt := pt, s := if start then t else c.s }

/-- The cell at a prologue with cycle instant `t`, with Q and ET as the program reads them (R559). -/
def Cell.prologue (c : Cell) (t : Nat) : Cell × Bool × Nat :=
  let e := t - c.s
  let et := min (e / c.unit) c.pt
  let past := decide (c.pt * c.unit ≤ e)
  match c.mode with
  | 1 =>
    if c.inp then (c, true, 0)
    else if c.run && !past then (c, true, et)
    else if c.run then ({ c with run := false }, false, c.pt)
    else (c, false, 0)
  | 2 =>
    if c.run && !past then (c, true, et)
    else ({ c with run := false }, false, if c.inp then c.pt else 0)
  | _ => if c.run then (c, past, et) else (c, false, 0)

/-- Take IN and PT of the timers of a program at an epilogue (R559). -/
def takeTimers (n p t : Nat) (e : List Nat) (d : List DirRec) (b : Block) : Block :=
  each (fun r b =>
    let (v, b) := lgrRead n ((lArea e).1 + r.off) 16 b
    let i := (lTimers e).1 + r.timer
    putCell i ((cellAt b i).epilogue (r.typ - 0x20) p t (recN v 4 4) (bitOf (recN v 0 1) 0) (bitOf (recN v 2 1) 0)) b)
    (d.filter (·.isTimer)) b

/-- Write Q, running and ET of the timers of a program at a prologue (R559). -/
def giveTimers (n t : Nat) (e : List Nat) (d : List DirRec) (b : Block) : Block :=
  each (fun r b =>
    let i := (lTimers e).1 + r.timer
    let (c, q, et) := (cellAt b i).prologue t
    let a := (lArea e).1 + r.off
    b |> putCell i c |> lgrWrite n (a + 1) (leBytes 1 (b2n q + 2 * b2n c.run)) |> lgrWrite n (a + 8) (leBytes 4 et))
    (d.filter (·.isTimer)) b

/-! ### Edge detectors (R561) -/

/-- Prepare the edge detector of record `r`. -/
def prepEdge (n : Nat) (e : List Nat) (r : DirRec) (b : Block) : Block :=
  let m := r.edgeinit && r.typ == 0x29
  lgrWrite n ((lArea e).1 + r.off) [0#8, 0#8, BitVec.ofNat 8 (b2n m), BitVec.ofNat 8 (b2n (!r.edgeinit))] b

/-! ### Retentive variables (R562–R565) -/

/-- `n` rounded up to a multiple of 8. -/
def pad8 (n : Nat) : Nat := (n + 7) / 8 * 8

/-- The retentive variables of a directory: those of the variable area that have retain set (DEDUCED, log entry 54). -/
def retVars (d : List DirRec) : List DirRec := d.filter (fun r => r.retain && r.loc == 0)

/-- Data bytes of the retentive variables. -/
def retData (d : List DirRec) : Nat := ((retVars d).map (fun r => pad8 r.size)).sum

/-- Slot size z (R562). -/
def slotSize (d : List DirRec) : Nat := (64 + 8 * (retVars d).length + retData d + 63) / 64 * 64

/-- Whether no codeword of `[a, a + n)` is poisoned or uncorrectable. -/
def sound (b : Block) (a n : Nat) : Bool := (cwsOf a n).all (fun c => !b.poisoned.contains c && !b.uncorr.contains c)

/-- The sequence, records and data of a valid slot at `a` (R562). -/
def slotAt (b : Block) (a : Nat) : Option (Nat × Nat × Nat) :=
  let seq := mnat b (a + 8) 8
  let n := mnat b (a + 24) 4
  let len := mnat b (a + 28) 4
  if mnat b a 4 = 0x56524C5A ∧ mnat b (a + 4) 2 = 1 ∧ mnat b (a + 56) 8 = 2 ^ 64 - 1 - seq ∧ 8 * n + len ≤ 0x800000 ∧ sound b a (64 + 8 * n + len) = true
      ∧ Crc.crc32c (mread b (a + 64) (8 * n + len)) = mnat b (a + 32) 4 then some (seq, n, len)
  else none

/-- The slot in force of an entry (R565, R571): its address, sequence and records. -/
def slotInForce (b : Block) (e : List Nat) (z : Nat) : Option (Nat × Nat × Nat) :=
  let a0 := lgrBase + lMoff e
  let a1 := a0 + z
  match slotAt b a0, slotAt b a1 with
  | some x, some y => if x.1 < y.1 then some (a1, y.1, y.2.1) else some (a0, x.1, x.2.1)
  | some x, none => some (a0, x.1, x.2.1)
  | none, some y => some (a1, y.1, y.2.1)
  | none, none => none

/-- The records of a slot, with the address of each one's data. -/
def slotRecs (b : Block) (a data : Nat) : Nat → List ((Nat × Nat × Nat) × Nat)
  | 0 => []
  | n + 1 =>
    let size := mnat b (a + 6) 2
    ((mnat b a 4, mnat b (a + 4) 1, size), data) :: slotRecs b (a + 8) (data + pad8 size) n

/-- Load a program (R565). -/
def lgrLoad (n p : Nat) (e : List Nat) (d : List DirRec) (b : Block) : Block :=
  let b := match slotInForce b e (slotSize d) with
    | none => raiseP EV.LGR_RETFAIL (leBytes 4 p) b
    | some (a, _, k) =>
      each (fun x b => match (retVars d).find? (fun r => r.ident == x.1) with
        | some r => lgrWrite n ((lArea e).1 + r.off) (mread b x.2 r.size) b
        | none => b) (slotRecs b (a + 64) (a + 64 + 8 * k) k) b
  b |> each (prepEdge n e) (d.filter (·.isEdge)) |> clearCells e |> modProg p (fun x => { x with load := false }) |> tcnt (tkey 0x3C 5 p 2) 1
    |> raiseP EV.LGR_RESTORED (leBytes 4 p) |> ievt 0x3C n 1

/-- The bytes of records and data of a save. -/
def saveBody (n : Nat) (e : List Nat) : List DirRec → Block → List Byte × List Byte × Block
  | [], b => ([], [], b)
  | r :: l, b =>
    let (v, b) := lgrRead n ((lArea e).1 + r.off) r.size b
    let (x, y, b) := saveBody n e l b
    (leBytes 4 r.hash ++ leBytes 1 r.typ ++ [0#8] ++ leBytes 2 r.size ++ x, padTo 0#8 (pad8 r.size) v ++ y, b)

/-- Staging region (R576). -/
def lgrStage (b : Block) : Nat := cfg b F.LGR_STAGE_LO_addr * 65536 + cfg b F.LGR_STAGE_HI_addr * 2 ^ 32

/-- Start a save at cycle instant `t` after the release of sheaf `k` (R563). -/
def saveStart (n p t k : Nat) (e : List Nat) (d : List DirRec) (b : Block) : Block :=
  let b := modProg p (fun x => { x with saveAt := some t }) b
  if b.lgr.saves.any (fun s => s.prog == p) then b |> tcnt (tkey 0x3C 5 p 4) 1 |> raiseP EV.LGR_SAVESKIP (leBytes 4 p)
  else
    let z := slotSize d
    let (recs, data, b) := saveBody n e (retVars d) b
    let cur := slotInForce b e z
    let seq := match cur with | some (_, s, _) => s + 1 | none => 1
    let a0 := lgrBase + lMoff e
    let a := match cur with | some (x, _, _) => if x = a0 then a0 + z else a0 | none => a0
    let head := leBytes 4 0x56524C5A ++ leBytes 2 1 ++ leBytes 1 p ++ leBytes 1 (lGen e) ++ leBytes 8 seq ++ leBytes 8 k ++ leBytes 4 (retVars d).length
      ++ leBytes 4 data.length ++ leBytes 4 (Crc.crc32c (recs ++ data)) ++ List.replicate 20 0#8 ++ leBytes 8 (2 ^ 64 - 1 - seq)
    match engWrite 0x0C6 (lgrStage b + lMoff e) (padTo 0#8 z (head ++ recs ++ data)) b with
    | (.ok, b) =>
      let (_, b) := engWrite 0x0C6 (a + 64) (recs ++ data) b
      b |> modLgr (fun l => { l with saves := l.saves ++ [⟨p, a, head⟩] }) |> fset F.LGR_STAT_saving 1
    | (_, b) => b |> setErr 0x3C 0 p |> raiseP EV.LGR_STAGEERR (leBytes 4 p)

/-- RETENTIVE_SAVE_DONE of program `p`: its slot is written, header last; `good` when the read-back compares equal (R563). -/
def retentiveSaveDone (p : Nat) (good : Bool) (b : Block) : Block :=
  match b.lgr.saves.find? (fun s => s.prog == p) with
  | none => b
  | some s =>
    let b := modLgr (fun l => { l with saves := l.saves.filter (fun x => x.prog != p) }) b
    let b := fset F.LGR_STAT_saving (b2n !b.lgr.saves.isEmpty) b
    let bad (b : Block) : Block :=
      b |> setErr 0x3C 1 p |> tcnt (tkey 0x3C 5 p 5) 1 |> raiseP EV.LGR_RETFAIL (leBytes 4 p)
    if !good then b |> mput (s.addr + 56) 8 0 |> bad
    else match engWrite 0x0C6 s.addr s.data b with
      | (.ok, b) => tcnt (tkey 0x3C 5 p 3) 1 b
      | (_, b) => bad b

/-- A save in progress is cut at entry to DECIDED (R564). -/
def cutSaves (b : Block) : Block := b |> modLgr (fun l => { l with saves := [] }) |> fset F.LGR_STAT_saving 0

/-! ### Forces (R569, R570) -/

/-- Whether force entry `f` names record `r`. -/
def forceHits (f : List Nat) (r : DirRec) : Bool := r.ident == (f.getD 1 0, ef f 0 15 8, ef f 0 3 0)

/-- The value of a force. -/
def forceVal (f : List Nat) : Nat := f.getD 2 0 + f.getD 3 0 * 2 ^ 32

/-- The bytes of a force of `r`: a BOOL in the area is one byte. -/
def forceBytes (f : List Nat) (r : DirRec) : List Byte := leBytes r.size (if r.typ = 1 then forceVal f % 2 else forceVal f)

/-- Place a single bit. -/
def bitIn (x : Byte) (i : Nat) (v : Bool) : Byte := BitVec.ofNat 8 (putBits x.toNat i i (b2n v))

/-- Write the forces of a program on variables of location `loc`, 0 or 1 (R570). -/
def putForces (n : Nat) (s : SnapTask) (d : List DirRec) (loc : Nat) (b : Block) : Block :=
  each (fun f b => match d.find? (fun r => forceHits f r && r.loc == loc) with
    | none => b
    | some r =>
      if loc = 0 then lgrWrite n ((lArea s.lent).1 + r.off) (forceBytes f r) b
      else
        let a := tBlk s.ent + 0x4000 + r.off
        if r.typ = 1 then (let (v, b) := lgrRead n a 1 b; lgrWrite n a [bitIn (v.headD 0#8) r.bit (forceVal f % 2 = 1)] b)
        else lgrWrite n a (forceBytes f r) b) s.forces b

/-- Forces placed over a payload at the commit (R570); `d` is the program's directory. -/
def forcePayload (d : List DirRec) : List (List Nat) → List Byte → List Byte
  | [], p => p
  | f :: l, p =>
    let p := match d.find? (fun r => forceHits f r && r.loc == 2) with
      | none => p
      | some r =>
        if r.typ = 1 then p.modify r.off (fun x => bitIn x r.bit (forceVal f % 2 = 1))
        else (p.take r.off ++ forceBytes f r ++ p.drop (r.off + r.size)).take p.length
    forcePayload d l p

/-! ### Around a release (R553) -/

/-- Keep the longest prologue or epilogue of program `p`: a time the manual only bounds, drawn free below its floor `f` ns (R554). -/
def keepLongest (p f hi lo : Nat) (b : Block) : Block :=
  let t := min 65535 (fresh b % (f + 1))
  let k := tkey 0x3C 5 p 6
  let w := tget b k
  b |> freshNext |> tset k (putBits w hi lo (max t (bitsOf w hi lo)))

/-- Directory records of an entry, unchecked: for the checks of a swap and the release of forces. -/
def dirAt (b : Block) (e : List Nat) : List DirRec := dirRecs (lDir e).2 (mread b (lDir e).1 (16 * (lDir e).2))

/-- Carry-over and load floors of a change from `o` to `e`, ns (R565, R567). -/
def changeFloors (b : Block) (o e : List Nat) : Nat × Nat :=
  let d := dirAt b e
  let od := dirAt b o
  let m := d.filter (fun r => r.loc == 0 && od.any (fun x => x.loc == 0 && x.ident == r.ident))
  (1000 + 20 * m.length + 10 * (lTimers e).2 + (m.map (·.size)).sum / 2, 1000 + 20 * (retVars d).length + retData d)

/-- Carry the old generation's data over into the new (R567). -/
def carryOver (n p k : Nat) (old e : List Nat) (d : List DirRec) (b : Block) : Block :=
  let (od, _, b) := readDir n old b
  let area := d.filter (fun r => r.loc == 0)
  let mate (r : DirRec) : Option DirRec := od.find? (fun o => o.loc == 0 && o.ident == r.ident)
  let cells := (area.filter (·.isTimer)).map (fun r => (r, (mate r).map (fun o => cellAt b ((lTimers old).1 + o.timer))))
  let b := each (fun r b => match mate r with
    | none => if r.isEdge then prepEdge n e r b else b
    | some o =>
      let src := (lArea old).1 + o.off
      let dst := (lArea e).1 + r.off
      if r.isTimer then
        let (v, b) := lgrRead n src 8 b
        b |> lgrWrite n dst (v.take 1) |> lgrWrite n (dst + 2) ((v.drop 2).take 1) |> lgrWrite n (dst + 4) (v.drop 4)
      else (let (v, b) := lgrRead n src r.size b; lgrWrite n dst v b)) area b
  let b := clearCells e b
  let b := each (fun x b => match x.2 with | some c => putCell ((lTimers e).1 + x.1.timer) c b | none => b) cells b
  b |> modProg p (fun x => { x with old := none }) |> tcnt (tkey 0x3C 5 p 1) 1 |> wr (R.LGR_I_CHG n) (lGen e * 256 + p) |> wr64 (R.LGR_I_CHGIDX_LO n) k
    |> raiseP EV.LGR_CHANGED (leBytes 4 p) |> ievt 0x3C n 0

/-- The prologue of a release (R553 step 2); false when the new directory fails its CRC (R567). -/
def lgrPrologue (s : SnapTask) (k c : Nat) (b : Block) : Bool × Block :=
  match s.prog with
  | none => (true, b)
  | some p =>
    let n := tInst s.ent
    let e := s.lent
    let (d, raw, b) := readDir n e b
    let x := lgrProg b p
    let carry := match x.old with | some o => o != e | none => false
    if carry && !x.load && Crc.crc32c raw != e.getD 5 0 then (false, raiseP EV.LGR_DIRBAD (leBytes 4 p) b)
    else
      let extra := if x.load then 1000 + 20 * (retVars d).length + retData d
        else match x.old with | some o => if carry then (changeFloors b o e).1 else 0 | none => 0
      let b := if x.load then b |> lgrLoad n p e d |> modProg p (fun y => { y with old := none })
        else match x.old with
          | some o => if carry then carryOver n p k o e d b else b
          | none => b
      let b := b |> giveTimers n c e d |> putForces n s d 0 |> putForces n s d 1
      let floor := 500 + 10 * (lTimers e).2 + 20 * s.forces.length + extra
      (true, b |> tcnt (tkey 0x3C 5 p 0) 1 |> keepLongest p floor 31 16)

/-- The payload of a release with its program's forces (R553 step 4, R570). -/
def lgrPayload (s : SnapTask) (pl : List Byte) (b : Block) : List Byte × Block :=
  match s.prog with
  | none => (pl, b)
  | some _ => if s.forces.isEmpty then (pl, b) else (let (d, _, b) := readDir (tInst s.ent) s.lent b; (forcePayload d s.forces pl, b))

/-- The epilogue of a completed release of sheaf `k` with cycle instant `c` (R553 step 5). -/
def lgrEpilogue (s : SnapTask) (k c : Nat) (b : Block) : Block :=
  match s.prog with
  | none => b
  | some p =>
    let n := tInst s.ent
    let e := s.lent
    let (d, _, b) := readDir n e b
    let b := b |> takeTimers n p c e d |> putForces n s d 0
    let due := match (lgrProg b p).saveAt with | some t => decide (t + lRetint e * 1000000 ≤ c) | none => true
    let b := if due && fget b F.PWR_STAT_state == 0 && !(retVars d).isEmpty then saveStart n p c k e d b else b
    keepLongest p (5000 + 10 * (lTimers e).2 + 20 * s.forces.length + retData d / 2) 15 0 b

/-- The owner's reset (R565, R571): cells cleared, slots kept, and the next release loads. -/
def lgrReset (n : Nat) (b : Block) : Block :=
  each (fun p b => let e := lgrEnt b p
    if lEn e ∧ tInst (taskEnt b (lTask e)) = n then b |> clearCells e |> modProg p (fun x => { x with load := true, old := none }) else b) (List.range 256) b

/-! ### Swaps -/

/-- The enabled programs and their entries, as they are before a swap. -/
def lgrBefore (b : Block) : List (Nat × List Nat) := ((List.range 256).map (fun p => (p, lgrEnt b p))).filter (fun x => lEn x.2)

/-- Whether two entries differ as R566 says. -/
def lgrChanged (o e : List Nat) : Bool := lGen o != lGen e || lDir o != lDir e || (lArea o).1 != (lArea e).1 || o.getD 5 0 != e.getD 5 0

/-- Release the force entries whose variable the active directory lacks (R570); `copyback` clears the shadow too. -/
def releaseForces (copyback : Bool) (b : Block) : Block :=
  each (fun i b =>
    let f := (List.range 4).map (fun w => tact b 0x3C 2 i w)
    let p := ef f 0 23 16
    let e := lgrEnt b p
    if !bitOf (f.getD 0 0) 31 || (lEn e && (dirAt b e).any (forceHits f)) then b
    else
      let off (k : Nat) (b : Block) : Block := tset k (tget b k &&& 0x7FFFFFFF) b
      let a := tkey 0x3C 2 i 0
      let act := a + if 0x3C ∈ b.bankB then copyB else 0
      let shd := a + if 0x3C ∈ b.bankB then 0 else copyB
      b |> off act |> cond copyback (off shd) |> raiseP EV.LGR_FORCEREL (leBytes 4 p ++ leBytes 4 (f.getD 1 0)) |> ievt 0x3C (tInst (taskEnt b (lTask e))) 2)
    (List.range 1024) b

/-- What a swap does to LGR (R565–R567, R570, R571); `old` as `lgrBefore` gave it. -/
def lgrSwapped (old : List (Nat × List Nat)) (copyback : Bool) (b : Block) : Block :=
  let b := each (fun p b =>
    let e := lgrEnt b p
    match old.find? (fun x => x.1 == p) with
    | none => if lEn e then modProg p (fun x => { x with load := true, old := none }) b else b
    | some (_, o) =>
      if !lEn e then b |> clearCells o |> modProg p (fun x => { x with old := none })
      else if lgrChanged o e then modProg p (fun x => { x with old := some (x.old.getD o) }) b
      else b) (List.range 256) b
  b |> fset F.LGR_STAT_nprog (lgrBefore b).length |> releaseForces copyback

/-! ### Checks of a swap (R568, R572) -/

/-- Whether `[a, a + n)` lies wholly in the cluster SRAM share of instance `i`. -/
def inShare (b : Block) (i a n : Nat) : Bool :=
  decide (0x1000000000 ≤ a) && decide (a + n ≤ 0x1004000000) && (List.range ((a % 0x10000 + n + 0xFFFF) / 0x10000)).all (fun j => shareHit b i (a / 0x10000 * 0x10000 + 0x10000 * j))

/-- Whether the elements of a list differ pairwise. -/
def allDiffer {α : Type} [DecidableEq α] : List α → Bool
  | [] => true
  | x :: l => !l.contains x && allDiffer l

/-- A record that R572 refuses. -/
def recBad (e t : List Nat) (r : DirRec) : Bool :=
  r.loc == 3 || decide (r.size = 0 ∨ 4096 < r.size) || (match r.loc with
    | 0 => decide ((lArea e).2 < r.off + r.size)
    | 1 => decide (0xC000 < r.off + r.size)
    | _ => decide (tOutlen t < r.off + r.size))

/-- A shadow program entry that LGR refuses (R572). -/
def lgrBad (b : Block) (p : Nat) : Bool :=
  let e := lgrShd b p
  if !lEn e then false
  else
    let t := taskShd b (lTask e)
    let n := tInst t
    let (da, nd) := lDir e
    let (aa, asz) := lArea e
    !tEn t || tClass t == 2 || (List.range 256).any (fun q => q != p && (let x := lgrShd b q; lEn x && lTask x == lTask e))
    || decide (nd = 0 ∨ 16384 < nd) || decide (asz = 0) || !inShare b n da (16 * nd) || !inShare b n aa asz
    || (let d := dirAt b e
        let (tf, tn) := lTimers e
        let z := slotSize d
        let ti := (d.filter (·.isTimer)).map (·.timer)
        Crc.crc32c (mread b da (16 * nd)) != e.getD 5 0 || !allDiffer (d.map (·.ident)) || d.any (recBad e t)
        || ti.length != tn || !(List.range tn).all (fun i => ti.contains i) || decide (4096 < tf + tn)
        || decide ((if tClass t = 0 then 0x10000 else 0x100000) < retData d) || decide (0x800000 < lMoff e + 2 * z)
        || decide (lRetint e < 10 ∨ 60000 < lRetint e)
        || (let o := lgrEnt b p
            lEn o && lgrChanged o e && (let (c, l) := changeFloors b o e; decide (lReserve e * 1000 < c ∨ lReserve e * 1000 < l))))

/-- Whether two ranges overlap. -/
def overlap (x y : Nat × Nat) : Bool := decide (x.1 < y.1 + y.2) && decide (y.1 < x.1 + x.2)

/-- Whether any two ranges of a list overlap. -/
def anyOverlap : List (Nat × Nat) → Bool
  | [] => false
  | x :: l => l.any (overlap x) || anyOverlap l

/-- A shadow that LGR refuses (R572). -/
def lgrRefuses (b : Block) : Bool :=
  let on := (List.range 256).filter (fun p => lEn (lgrShd b p))
  let fs := ((List.range 1024).map (fun i => (List.range 4).map (fun w => tshd b 0x3C 2 i w))).filter (fun f => bitOf (f.getD 0 0) 31)
  let st := shd b F.LGR_STAGE_LO_addr * 65536 + shd b F.LGR_STAGE_HI_addr * 2 ^ 32
  on.any (lgrBad b) || anyOverlap ((on.map (fun p => lTimers (lgrShd b p))).filter (fun x => x.2 != 0))
    || anyOverlap (on.map (fun p => let e := lgrShd b p; (lMoff e, 2 * slotSize (dirAt b e))))
    || !allDiffer (fs.map (fun f => (ef f 0 23 16, f.getD 1 0, ef f 0 15 8, ef f 0 3 0)))
    || fs.any (fun f =>
        let e := lgrShd b (ef f 0 23 16)
        let t := ef f 0 15 8
        !lEn e || (0x20 ≤ t ∧ t ≤ 0x29) || decide (ef f 0 3 0 = 0 ∨ 8 < ef f 0 3 0)
          || (dirAt b e).any (fun r => r.hash == f.getD 1 0 && r.typ == t && r.size != ef f 0 3 0))
    || decide ((memSpan b.part 0).2 + 1 < st + 0x800000)

/-! ### Commands (R574) -/

/-- Entries of LGR table `t`. -/
def lgrSize (t : Nat) : Nat := match t with | 0 => 256 | 1 => 256 | 2 => 1024 | 3 => 1024 | 4 => 4096 | 5 => 256 | _ => 0

/-- Word `w` of entry `i` as table `t` shows it. -/
def lgrWord (b : Block) (t i w : Nat) : Nat :=
  match t with
  | 0 => tshd b 0x3C 0 i w
  | 1 => tact b 0x3C 0 i w
  | 2 => if w < 4 then tshd b 0x3C 2 i w else 0
  | 3 => if w < 4 then tact b 0x3C 2 i w else 0
  | 4 => if w < 4 then tget b (tkey 0x3C 4 i w) else 0
  | _ => if w < 8 then tget b (tkey 0x3C 5 i w) else 0

/-- LGR_CMD TREAD. -/
def lgrTread (t : Nat) (b : Block) : Nat × Block :=
  tabRead (R.LGR_TDATA 0) 16 (lgrSize t) (rd b R.LGR_TIDX) (lgrWord b t (rd b R.LGR_TIDX)) b

/-- Bits of word `w` of a program entry that a write stores (R575). -/
def lgrMask (w : Nat) : Nat :=
  match w with
  | 0 => 0x83FFFF00 | 1 => 0xFFFFFFC0 | 2 => 0xFFFF00FF | 3 => 0xFFFFFFC0 | 4 => 0x7FFF00FF | 5 => 0xFFFFFFFF | 6 => 0x0FFF1FFF | 7 => 0xFFFFFFFF
  | 8 => 0x007FFFC0 | _ => 0

/-- Bits of word `w` of a force entry that a write stores (R569). -/
def forceMask (w : Nat) : Nat := match w with | 0 => 0x80FFFF0F | _ => 0xFFFFFFFF

/-- LGR_CMD TWRITE. -/
def lgrTwrite (t : Nat) (b : Block) : Nat × Block :=
  let i := rd b R.LGR_TIDX
  match t with
  | 0 => tabWrite 0x3C (R.LGR_TDATA 0) 16 256 i lgrMask (tsetShd 0x3C 0 i) b
  | 2 => tabWrite 0x3C (R.LGR_TDATA 0) 4 1024 i forceMask (tsetShd 0x3C 2 i) b
  | _ => (if t ≤ 5 then 0x11 else 0x12, b)

/-- LGR_CMD CLRCNT. -/
def lgrClrcnt (b : Block) : Nat × Block :=
  (0, each (fun p b => each (fun w b => tset (tkey 0x3C 5 p w) 0 b) (List.range 8) b) (List.range 256) b)

/-- LGR_CMD RETCLR of program `p`. -/
def lgrRetclr (p : Nat) (b : Block) : Nat × Block :=
  let e := lgrEnt b p
  if lEn e then (0x10, b) else (0, wipe (lgrBase + lMoff e) (2 * slotSize (dirAt b e)) b)

end Sys2Proof.Machine
end

