-- ==== Sys2Proof/Machine/Mtr.lean ====
section
/-! DEFINITION. The metering engine (R578–R600). -/

namespace Sys2Proof.Machine

/-- Change MTR's own state. -/
def modMtr (f : Mtr → Mtr) (b : Block) : Block := { b with mtr := f b.mtr }

/-- State of point `p`. -/
def mtrPoint (b : Block) (p : Nat) : MtrPoint := sget (fun _ => MtrPoint.init) b.mtr.pts p

/-- Set the state of point `p`. -/
def putPoint (p : Nat) (x : MtrPoint) (b : Block) : Block := modMtr (fun m => { m with pts := sset (fun _ => MtrPoint.init) m.pts p x }) b

/-! ### Entries (R578) -/

/-- The 16 words of point `p`, in force or shadow. -/
def mtrEnt (b : Block) (p : Nat) : List Nat := (List.range 16).map (fun w => tact b 0x3E 0 p w)
/-- The shadow entry of point `p`. -/
def mtrShd (b : Block) (p : Nat) : List Nat := (List.range 16).map (fun w => tshd b 0x3E 0 p w)
/-- Point enabled. -/
def mEn (e : List Nat) : Bool := bitOf (e.getD 0 0) 31
/-- Wiring: 0 four-wire, 1 three-wire, 2 single-phase. -/
def mWiring (e : List Nat) : Nat := ef e 0 30 29
/-- The owner: an instance, or none for the manager. -/
def mOwner (e : List Nat) : Option Nat := if bitOf (e.getD 0 0) 26 then some (ef e 0 21 16) else none
/-- Voltage channel of phase `f` (0–2). -/
def mV (e : List Nat) (f : Nat) : Nat := match f with | 0 => ef e 1 11 0 | 1 => ef e 1 27 16 | _ => ef e 2 11 0
/-- Current channel of phase `f` (0–2) or of the neutral (3). -/
def mI (e : List Nat) (f : Nat) : Nat := match f with | 0 => ef e 2 27 16 | 1 => ef e 3 11 0 | 2 => ef e 3 27 16 | _ => ef e 4 11 0
/-- The phases whose channels a wiring requires. -/
def mPhases (e : List Nat) : List Nat := match mWiring e with | 0 => [0, 1, 2] | 1 => [0, 2] | 2 => [0] | _ => []
/-- The channels that a point names; 0xFFF names none. -/
def mChans (e : List Nat) : List Nat := (((List.range 3).map (mV e)) ++ (List.range 4).map (mI e)).filter (· != 0xFFF)
/-- The exponent of quantity `q` (R581). -/
def mExp (e : List Nat) (q : Nat) : Int := if q ≤ 16 then sNat 4 (ef e 5 3 0) else sNat 4 (ef e 5 7 4)
/-- What a point's windows depend on (R594): wiring and channels. -/
def mUnder (e : List Nat) (n : Nat) : List Nat := [n, mWiring e] ++ (List.range 3).map (mV e) ++ (List.range 4).map (mI e)

/-- N (R581). -/
def mtrN (rate : Nat) (f60 : Bool) : Nat := rate / (if f60 then 60 else 50)

/-- K × 10^x: the accumulated units of one LSB of quantity `q` (R581, R584). -/
def mUnit (rate n : Nat) (e : List Nat) (q : Nat) : Nat :=
  let k := rate * n * (if q ≤ 12 then 360000000 else if q ≤ 16 then 3600000 else if q ≤ 19 then 36000000 else 3600000000)
  match mExp e q with
  | .ofNat x => k * 10 ^ x
  | .negSucc x => k / 10 ^ (x + 1)

/-- The metering configuration in force. -/
def mtrCfg (b : Block) : MtrCfg :=
  { pts := ((List.range 128).map (fun p => (p, mtrEnt b p))).filter (fun x => mEn x.2)
    f60 := cfgOn b F.PHE_CFG_fnom
    hg := cfgR b R.ALN_HORIZON + cfg b F.ALN_GLEAN_ns
    pls := (List.range 16).map (fun j => (cfgR b (R.PLS_CFG_w0 j), cfgR b (R.PLS_CFG_w1 j))) }

/-- The configuration active at the boundary of `k` (R28, R579). -/
def mtrCfgAt (b : Block) (k : Nat) : MtrCfg :=
  match (b.mtr.old.filter (fun x => decide (k < x.1))).getLast? with | some x => x.2 | none => mtrCfg b

/-! ### Reading settled sheaves (R579, R580) -/

/-- The entry of channel `c` of sheaf `k`, read with RQID 0x0C4; missing when it cannot be read. -/
def mtrRead (k c : Nat) (b : Block) : Nat × Block :=
  if !held b false k then (0, b)
  else match busRead 0x0C4 (entAddr b false k c) 8 (.word 8) Need.read b with
    | (.ok, l, b) => (leNat l, b)
    | (st, _, b) => (mkEnt 0 1 4, ownData 0x3E st b)

/-- Whether an entry makes a point skip its sheaf (R580). -/
def mtrSkips (e : List Nat) (x : Nat) : Bool :=
  let t := entState x
  t == 4 || t == 5 || t == 0 || entQ x % 4 == 1 || (bitOf (entQ x) 11 && !bitOf (e.getD 0 0) 27)

/-- Read channels `l` of sheaf `k`: the values, and whether one of them makes the point skip. -/
def mtrReadAll (e : List Nat) (k : Nat) : List Nat → Block → List (Nat × Int) × Bool × Block
  | [], b => ([], false, b)
  | c :: l, b =>
    let (x, b) := mtrRead k c b
    let (r, s, b) := mtrReadAll e k l b
    ((c, entVal x) :: r, mtrSkips e x || s, b)

/-- The value of a channel among those read; 0 for none. -/
def valOf (l : List (Nat × Int)) (c : Nat) : Int := match l.find? (fun x => x.1 == c) with | some x => x.2 | none => 0

/-- What sheaf `k` adds, from the values of `k` and of `k − d`. -/
def mtrSample (e : List Nat) (now ago : List (Nat × Int)) : MtrSample :=
  let ph := mPhases e
  let on {α : Type} [Inhabited α] (f : Nat) (z x : α) : α := if ph.contains f then x else z
  let v (f : Nat) : Int := valOf now (mV e f)
  let i (f : Nat) : Int := valOf now (mI e f)
  { p := (List.range 3).map (fun f => on f 0 (v f * i f))
    q := (List.range 3).map (fun f => on f 0 (valOf ago (mV e f) * i f))
    v := (List.range 3).map (fun f => on f 0 ((v f * v f).natAbs))
    i := (List.range 3).map (fun f => on f 0 ((i f * i f).natAbs)) ++ [if mI e 3 = 0xFFF then 0 else (i 3 * i 3).natAbs] }

/-! ### Increments (R581, R582) -/

/-- The 23 increments that the windows `w` of `n` samples give. -/
def mtrIncs (e : List Nat) (n : Nat) (w : List MtrSample) : List Nat :=
  let sv (f : Nat) : Nat := (w.map (fun s => s.v.getD f 0)).sum
  let si (f : Nat) : Nat := (w.map (fun s => s.i.getD f 0)).sum
  let idle (f : Nat) : Bool := decide (si f < n * (e.getD 6 0) ^ 2)
  let sp (f : Nat) : Int := if idle f then 0 else (w.map (fun s => s.p.getD f 0)).sum
  let sq (f : Nat) : Int := if idle f then 0 else (w.map (fun s => s.q.getD f 0)).sum
  let p := sp 0 + sp 1 + sp 2
  let q := sq 0 + sq 1 + sq 2
  let creep := decide (p.natAbs < e.getD 7 0 * n * 100000)
  let pos (x : Int) : Nat := if creep then 0 else x.toNat
  let quad := if q = 0 ∨ creep = true then 4 else if 0 ≤ p then (if 0 < q then 0 else 3) else (if 0 < q then 1 else 2)
  let s := if mWiring e = 1 then roundSqrt (p.natAbs ^ 2 + q.natAbs ^ 2) 1
    else ((List.range 3).map (fun f => if idle f then 0 else roundSqrt (sv f * si f) 1)).sum
  let cur (f : Nat) : Nat := if f < 3 ∧ idle f = true then 0 else roundSqrt (n * si f) 1
  [pos (sp 0), pos (sp 1), pos (sp 2), pos p, pos (-sp 0), pos (-sp 1), pos (-sp 2), pos (-p)]
    ++ (List.range 4).map (fun i => if i = quad then q.natAbs else 0)
    ++ [s, cur 0, cur 1, cur 2, cur 3, sv 0, sv 1, sv 2]
    ++ (List.range 3).map (fun f => if idle f then 0 else si f)

/-- Add increments to accumulators of 96 bits. -/
def addAcc (a d : List Nat) : List Nat := (List.range 23).map (fun i => (a.getD i 0 + d.getD i 0) % 2 ^ 96)

/-! ### Detections (R590, R591) -/

/-- Status word `w` of point `p` (R596). -/
abbrev mtrS (p w : Nat) : Nat := tkey 0x3E 2 p w

/-- Count consecutive cycles with and without a condition. -/
def runCount (x : Nat × Nat) (hit : Bool) : Nat × Nat := if hit then (min 10 (x.1 + 1), 0) else (0, min 10 (x.2 + 1))

/-- A condition of R590 after a cycle: set after ten with it, cleared after ten without it. -/
def mtrDeclare (p bit ev : Nat) (cntr : Nat × Nat) (b : Block) : Block :=
  let w := tget b (mtrS p 2)
  if cntr.1 = 10 ∧ bitOf w bit = false then b |> tset (mtrS p 2) (putBits w bit bit 1) |> raiseP ev (leBytes 4 p)
  else if cntr.2 = 10 ∧ bitOf w bit = true then b |> tset (mtrS p 2) (putBits w bit bit 0) |> raiseP ev (leBytes 4 (p + 256))
  else b

/-- The end of a metering cycle for a point of wiring 0 (R590). -/
def mtrCycle (p : Nat) (e : List Nat) (n : Nat) (b : Block) : Block :=
  let x := mtrPoint b p
  let sv (f : Nat) : Nat := (x.win.map (fun s => s.v.getD f 0)).sum
  let wrong := decide (x.cycR < 0) && [0, 1, 2].all (fun f => decide (n * (e.getD 8 0) ^ 2 ≤ 4 * sv f))
  let root (y : Nat) : Nat := isqrt (y * 2 ^ 40)
  let miss := decide (ef e 9 7 0 * (root (sv 0) + root (sv 1) + root (sv 2)) ≤ 300 * root x.cycRes)
  let x := { x with cycR := 0, cycRes := 0, seqCnt := runCount x.seqCnt wrong, neuCnt := runCount x.neuCnt miss }
  b |> putPoint p x |> mtrDeclare p 0 EV.MTR_PHSEQ x.seqCnt |> mtrDeclare p 1 EV.MTR_NEUTRAL x.neuCnt

/-- The phases of a voltage event of kind `c` (0 sag, 1 swell, 2 interruption), judged on window sums (R591): those that meet the
start threshold, and whether the event starts and ends. -/
def dipJudge (c n udin : Nat) (l : List (Nat × Nat)) : Nat × Bool × Bool :=
  let below (pct : Nat) (x : Nat × Nat) : Bool := decide (x.2 * 10000 < (pct * udin) ^ 2 * n)
  let above (pct : Nat) (x : Nat × Nat) : Bool := decide ((pct * udin) ^ 2 * n < x.2 * 10000)
  let hit := match c with | 0 => below 90 | 1 => above 110 | _ => below 10
  let mask := (l.map (fun x => if hit x then 2 ^ x.1 else 0)).sum
  match c with
  | 0 => (mask, l.any hit, l.all (fun x => !below 92 x))
  | 1 => (mask, l.any hit, l.all (fun x => !above 108 x))
  | _ => (mask, l.all hit, l.any (fun x => !below 12 x))

/-- Judge a voltage event of kind `c` at sheaf `k` (R591). -/
def mtrDip (p k rate n : Nat) (e : List Nat) (c : Nat) (b : Block) : Block :=
  let x := mtrPoint b p
  let l := (mPhases e).map (fun f => (f, (x.win.map (fun s => s.v.getD f 0)).sum))
  let (mask, starts, ends) := dipJudge c n (e.getD 8 0) l
  let sums := l.map (·.2)
  let far (a d : Nat) : Nat := if c = 1 then max a d else min a d
  let ext := sums.foldl far (sums.headD 0)
  let put (d : Option MtrDip) (b : Block) : Block :=
    b |> putPoint p { x with dips := (match d with | some d => [(c, d)] | none => []) ++ x.dips.filter (fun y => y.1 != c) }
      |> tset (mtrS p 2) (putBits (tget b (mtrS p 2)) (2 + c) (2 + c) (b2n d.isSome))
  match x.dips.find? (fun y => y.1 == c) with
  | none => if starts && !l.isEmpty then put (some ⟨k, mask, ext⟩) b else b
  | some (_, d) =>
    let d := { d with mask := d.mask ||| mask, ext := far d.ext ext }
    if !ends then put (some d) b
    else
      let us := (gridNs rate k - gridNs rate d.k) / 1000
      let rms := roundSqrt d.ext n
      let w := [d.k % 2 ^ 32, d.k / 2 ^ 32, us, d.mask + c * 16 + rms % 2 ^ 24 * 256]
      b |> put none |> modMtr (fun m => { m with recs := (w :: m.recs).take 32 })
        |> raiseP (match c with | 0 => EV.MTR_SAG | 1 => EV.MTR_SWELL | _ => EV.MTR_INTERRUPT) (leBytes 4 p ++ leBytes 4 us ++ leBytes 4 rms)

/-! ### One sheaf (R579) -/

/-- Point `p` under entry `e` takes sheaf `k`. -/
def mtrTake (k rate n p : Nat) (e : List Nat) (b : Block) : Block :=
  let d := n / 4
  let (now, s1, b) := mtrReadAll e k (mChans e) b
  let (ago, s2, b) := mtrReadAll e (k - d) (mChans e) b
  let skip := s1 || s2
  let b := if skip then b |> tset (mtrS p 0) (tget b (mtrS p 0) + 1) |> raiseSec EV.MTR_GAP p (leBytes 4 p) else b
  let x := mtrPoint b p
  let x := if x.under = mUnder e n then x else { x with win := [], under := mUnder e n, cycR := 0, cycRes := 0 }
  let s := if skip then MtrSample.zero else mtrSample e now ago
  let win := (s :: x.win).take n
  let va := valOf now (mV e 0)
  let vb := valOf now (mV e 1)
  let res := (va + vb + valOf now (mV e 2)).natAbs
  let x := { x with
    win := win
    acc := if skip then x.acc else addAcc x.acc (mtrIncs e n win)
    cycR := if skip then x.cycR else x.cycR + vb * valOf ago (mV e 0)
    cycRes := if skip then x.cycRes else x.cycRes + res * res }
  let b := putPoint p x b
  let full := decide (win.length = n)
  let b := if mWiring e = 0 ∧ (k + 1) % n = 0 then (if full then mtrCycle p e n b else putPoint p { x with cycR := 0, cycRes := 0 } b) else b
  if bitOf (e.getD 0 0) 28 ∧ (k + 1) % (n / 2) = 0 ∧ full = true then each (fun c b => mtrDip p k rate n e c b) [2, 0, 1] b else b

/-- The next settled sheaf to process: the least from `next` on that is still in the ring (R579). -/
def mtrNext (b : Block) : Option Nat :=
  match b.mtr.next with
  | none => none
  | some k =>
    let s := rd64 b R.ALN_SETIDX_LO
    let k0 := max k (s + 1 - 512)
    ((List.range (s + 1 - k0)).map (k0 + ·)).find? (fun j => held b false j && bitOf (rd b (descAddr false j + 16)) 2)

/-! ### Saves (R587, R589) -/

/-- Address of save slot `i`. -/
def mtrSlotAddr (i : Nat) : Nat := 0x1801900000 + 0x10000 * i

/-- The valid save at slot `i`: sequence, index and data. -/
def mtrSlot (b : Block) (i : Nat) : Option (Nat × Nat × List Byte) :=
  let a := mtrSlotAddr i
  if !sound b a 37120 then none
  else
    let s := mnat b (a + 8) 8
    let d := mread b (a + 64) 37056
    if mnat b a 4 = 0x534D4C5A ∧ mnat b (a + 4) 2 = 1 ∧ mnat b (a + 56) 8 = 2 ^ 64 - 1 - s ∧ mnat b (a + 28) 4 = Crc.crc32c d then
      some (s, mnat b (a + 16) 8, d)
    else none

/-- The valid slot with the higher sequence, with its number. -/
def mtrBest (b : Block) : Option (Nat × Nat × Nat × List Byte) :=
  match mtrSlot b 0, mtrSlot b 1 with
  | some x, some y => if x.1 < y.1 then some (1, y) else some (0, x)
  | some x, none => some (0, x)
  | none, some y => some (1, y)
  | none, none => none

/-- Next threshold of output `j` under entry `c` (R592). -/
def plsNext (b : Block) (g : MtrCfg) (j : Nat) : Nat :=
  let c := g.pls.getD j (0, 0)
  let rate := primRate b
  match g.pts.find? (fun x => x.1 == bitsOf c.1 21 15) with
  | some x => (b.mtr.outs.getD j PlsOut.init).base + c.2 * mUnit rate (mtrN rate g.f60) x.2 (bitsOf c.1 14 10)
  | none => (b.mtr.outs.getD j PlsOut.init).base

/-- The data of a save: accumulators and thresholds. -/
def mtrData (b : Block) : List Byte :=
  ((List.range 128).map (fun p => ((List.range 23).map (fun q => leBytes 12 ((mtrPoint b p).acc.getD q 0))).flatten ++ leBytes 12 0)).flatten
    ++ ((List.range 16).map (fun j => leBytes 12 (plsNext b (mtrCfg b) j))).flatten

/-- A metering save begins: the state is staged, and the slot that is not in force is chosen (R587). -/
def mtrSaveStart (b : Block) : Block :=
  if !b.part.optM || b.mtr.next.isNone || b.mtr.save.isSome then b
  else
    let (i, s) := match mtrBest b with | some (i, s, _) => (1 - i, s + 1) | none => (0, 1)
    let d := mtrData b
    let h := leBytes 4 0x534D4C5A ++ leBytes 2 1 ++ leBytes 2 0 ++ leBytes 8 s ++ leBytes 8 b.mtr.last ++ leBytes 4 37056
      ++ leBytes 4 (Crc.crc32c d) ++ leBytes 24 0 ++ leBytes 8 (2 ^ 64 - 1 - s)
    b |> modMtr (fun m => { m with save := some ⟨mtrSlotAddr i, h, d⟩, saveAt := ns b }) |> fset F.MTR_STAT_saving 1

/-- MTR_SAVE_DONE: the slot is written, data first, and read back; `good` tells whether it reads back (R587; DEDUCED, log entry 9). -/
def mtrSaveDone (good : Bool) (b : Block) : Block :=
  match b.mtr.save with
  | none => b
  | some s =>
    let b := b |> modMtr (fun m => { m with save := none }) |> fset F.MTR_STAT_saving 0
    let (s1, b) := engWrite 0x0C4 (s.addr + 64) s.data b
    let (s2, b) := if s1 = .ok then engWrite 0x0C4 s.addr s.head b else (s1, b)
    if s2 = .ok ∧ good = true then b
    else
      let b := if s2 = .ok then { b with uncorr := s.addr :: b.uncorr.filter (· != s.addr) } else b
      raise EV.MTR_SAVEFAIL b

/-- A save that DECIDED cuts has written part of its data and no header: how much is open (R587, R594; DESIGN CHOICE, log entry 2). -/
def mtrCut (b : Block) : Block :=
  match b.mtr.save with
  | none => b
  | some s => b |> modMtr (fun m => { m with save := none }) |> fset F.MTR_STAT_saving 0
      |> mwrite (s.addr + 64) (s.data.take (32 * (fresh b % 1159))) |> freshNext

/-- MTR_PERIODIC_SAVE: in NORMAL, saveint after the latest save began (R587). -/
def mtrPeriodic (b : Block) : Block :=
  if fget b F.PWR_STAT_state ≠ 0 ∨ b.mtr.next.isNone = true ∨ b.mtr.save.isSome = true then b
  else b |> advanceTo (b.mtr.saveAt + cfg b F.MTR_CFG_saveint * 1000000) |> mtrSaveStart

/-- METERING_SAVE_REPEAT: in WARNED, after the first save set, 1 ms after the latest save began (R63, R587). -/
def mtrRepeat (b : Block) : Block :=
  if fget b F.PWR_STAT_state ≠ 1 ∨ b.pwr.firstSave = false ∨ b.mtr.save.isSome = true then b
  else b |> advanceTo (b.mtr.saveAt + 1000000) |> mtrSaveStart

/-- Write a save-gap record (R589). -/
def mtrGap (saved k : Nat) (b : Block) : Block :=
  let rate := primRate b
  let cut := b.mtr.ao.getD saved
  let r := leBytes 4 0x474D4C5A ++ leBytes 2 1 ++ leBytes 2 (b2n b.mtr.ao.isNone) ++ leBytes 4 (mnat b 0x1801000008 4) ++ leBytes 4 0
    ++ leBytes 8 saved ++ leBytes 8 cut ++ leBytes 8 k ++ leBytes 8 ((cut - saved) * 1000000000 / rate)
    ++ leBytes 8 ((k - cut - 1) * 1000000000 / rate) ++ leBytes 8 0
  let n := rd b R.MTR_GAPCNT
  (engWrite 0x0C4 (0x1801900000 + 0x20000 + 64 * (n % 64)) r b).2 |> wr R.MTR_GAPCNT (n + 1) |> raise EV.MTR_SAVEGAP

/-- The first global swap of a start, at index `k`: MTR restores and begins (R589). -/
def mtrRestore (k : Nat) (b : Block) : Block :=
  if !b.part.optM || b.mtr.next.isSome then b
  else match mtrBest b with
  | none => b |> modMtr (fun m => { m with next := some k, saveAt := ns b }) |> raiseP EV.MTR_RESTORED (leBytes 4 0)
  | some (_, s, idx, d) =>
    let acc (p : Nat) : List Nat := (List.range 23).map (fun q => leNat ((d.drop (288 * p + 12 * q)).take 12))
    let g := mtrCfg b
    let thr (j : Nat) : Nat := leNat ((d.drop (36864 + 12 * j)).take 12)
    let b := b |> modMtr (fun m => { m with next := some k, last := idx, saveAt := ns b })
      |> each (fun p b => putPoint p { MtrPoint.init with acc := acc p } b) (List.range 128)
    let outs := (List.range 16).map (fun j =>
      let c := g.pls.getD j (0, 0)
      let step := plsNext b g j - (b.mtr.outs.getD j PlsOut.init).base
      { PlsOut.init with base := thr j - step, src := if bitOf c.1 31 then some (bitsOf c.1 21 15, bitsOf c.1 14 10) else none })
    let b := b |> modMtr (fun m => { m with outs := outs }) |> fset F.MTR_STAT_restored 1 |> raiseP EV.MTR_RESTORED (leBytes 8 s)
    if (match b.mtr.ao with | some a => decide (idx < a) | none => true) then mtrGap idx k b else b

/-! ### Swaps (R584, R594, R599) -/

/-- What a global swap at the boundary of `k` does: `old` is the configuration before it. -/
def mtrSwapped (k : Nat) (old : MtrCfg) (ents : List (List Nat)) (b : Block) : Block :=
  if !b.part.optM then b
  else
    b |> modMtr (fun m => { m with old := ((k, old) :: m.old).take 64 })
      |> each (fun p b =>
          let o := ents.getD p []
          let e := mtrEnt b p
          if mUnder o 0 != mUnder e 0 || ef o 5 7 0 != ef e 5 7 0 then tset (mtrS p 1) (tget b (mtrS p 1) + 1) b else b) (List.range 128)
      |> (fun b => fset F.MTR_STAT_npoints (mtrCfg b).pts.length b)
      |> mtrRestore k

/-- A shadow that MTR refuses (R599); `sh` carries the shares that will be in force. -/
def mtrRefuses (sh b : Block) : Bool :=
  let i := shd b F.MTR_CFG_saveint
  decide (i < 100 ∨ 60000 < i) ||
    (List.range 128).any (fun p =>
      let e := mtrShd b p
      mEn e && (mWiring e == 3
        || (mPhases e).any (fun f => mV e f == 0xFFF || mI e f == 0xFFF)
        || [mExp e 0, mExp e 17].any (fun x => decide (x < -3 ∨ 3 < x))
        || e.getD 8 0 == 0 || (mWiring e == 0 && decide (ef e 9 7 0 < 1 ∨ 100 < ef e 9 7 0))
        || (match mOwner e with | some n => (mChans e).any (fun c => !chanSub sh n c) | none => false)))

/-! ### Commands (R585, R596, R600) -/

/-- The snapshot record of points `first` to `first + count − 1` (R585). -/
def snapRecord (b : Block) (first count : Nat) : List Byte :=
  let rate := primRate b
  let n := mtrN rate (cfgOn b F.PHE_CFG_fnom)
  leBytes 8 b.mtr.last ++ leBytes 2 count ++ leBytes 6 0 ++ ((List.range count).map (fun i =>
    let p := first + i
    let e := mtrEnt b p
    leBytes 1 p ++ leBytes 1 (b2n (mEn e) + 2 * b2n (mOwner e).isSome + 4 * b2n (bitOf (e.getD 0 0) 28)) ++ leBytes 1 (ef e 5 7 0) ++ leBytes 1 0
      ++ leBytes 4 (tget b (mtrS p 1))
      ++ ((List.range 23).map (fun q => let v := (mtrPoint b p).acc.getD q 0 / mUnit rate n e q; leBytes 8 (v % 2 ^ 56))).flatten)).flatten

/-- SNAP with RQID `rq` for an instance or the manager, into a buffer of `len` bytes at `a`. -/
def mtrSnap (rq : Nat) (inst : Option Nat) (a len first count : Nat) (b : Block) : Nat × Block :=
  if (match inst with | some n => instState b n != 2 | none => false) then (0x10, b)
  else if count < 1 ∨ 128 < count ∨ 128 < first + count then (0x12, b)
  else if (match inst with | some n => (List.range count).any (fun i => mOwner (mtrEnt b (first + i)) != some n) | none => false) then (0x11, b)
  else if len < 16 + 192 * count then (0x12, b)
  else
    let (st, b) := engWrite rq a (snapRecord b first count) b
    if st ≠ .ok then (statusCode st, match inst with | some n => instErr 0x3E n (statusClass st) 0 first b | none => b)
    else
      let b := wr64 R.MTR_SNAPIDX_LO b.mtr.last b
      (0, match inst with | some n => ievt 0x3E n 0 b | none => b)

/-- MTR_CMD SNAP (R585). -/
def mtrSnapCmd (first count : Nat) (b : Block) : Nat × Block :=
  mtrSnap 0x0C4 none (fget b F.MTR_SNAPADDR_LO_addr * 8 + fget b F.MTR_SNAPADDR_HI_addr * 2 ^ 32) (fget b F.MTR_SNAPLEN_len) first count b

/-- MTR_I_CMD SNAP of instance `n` (R585, R600). -/
def mtrISnapCmd (n first count : Nat) (b : Block) : Nat × Block :=
  mtrSnap n (some n) (fget b (F.MTR_I_SNAPADDR_LO_addr n) * 8 + fget b (F.MTR_I_SNAPADDR_HI_addr n) * 2 ^ 32) (fget b (F.MTR_I_SNAPLEN_len n)) first count b

/-- Word `w` of entry `i` of MTR table `t` (R596). -/
def mtrWord (b : Block) (t i w : Nat) : Nat :=
  match t with
  | 0 => tshd b 0x3E 0 i w
  | 1 => tact b 0x3E 0 i w
  | 2 => tget b (mtrS i w)
  | _ => (b.mtr.recs.getD i []).getD w 0

/-- MTR_CMD TREAD (R596). -/
def mtrTread (t : Nat) (b : Block) : Nat × Block :=
  tabRead (R.MTR_TDATA 0) 16 (match t with | 3 => 32 | _ => if t < 3 then 128 else 0) (fget b F.MTR_TIDX_idx) (mtrWord b t (fget b F.MTR_TIDX_idx)) b

/-- The bits of a point word that a write stores (R578). -/
def mtrMask (w : Nat) : Nat :=
  match w with
  | 0 => 0xFC3F0000 | 1 => 0x0FFF0FFF | 2 => 0x0FFF0FFF | 3 => 0x0FFF0FFF | 4 => 0xFFF | 5 => 0xFF | 9 => 0xFF
  | _ => if w < 9 then 0xFFFFFFFF else 0

/-- MTR_CMD TWRITE (R596). -/
def mtrTwrite (t : Nat) (b : Block) : Nat × Block :=
  if t ≠ 0 then (if t ≤ 3 then 0x11 else 0x12, b)
  else tabWrite 0x3E (R.MTR_TDATA 0) 16 128 (fget b F.MTR_TIDX_idx) mtrMask (tsetShd 0x3E 0 (fget b F.MTR_TIDX_idx)) b

/-- MTR_CMD ZERO (R594, R596). -/
def mtrZero (p : Nat) (b : Block) : Nat × Block :=
  if mEn (mtrEnt b p) then (0x10, b) else (0, putPoint p { mtrPoint b p with acc := List.replicate 23 0 } b)

/-- MTR_CMD CLRCNT (R596). -/
def mtrClrcnt (b : Block) : Nat × Block := (0, each (fun p b => tset (mtrS p 0) 0 b) (List.range 128) b)

end Sys2Proof.Machine
end

