-- ==== Sys2Proof/Machine/Pls.lean ====
section
/-! DEFINITION. METERING_SHEAF and the pulse outputs (R579, R592, R593, R601–R603). -/

namespace Sys2Proof.Machine

/-- State of output `j`. -/
def plsOut (b : Block) (j : Nat) : PlsOut := b.mtr.outs.getD j PlsOut.init

/-- Change the state of output `j`; PLS_WAIT shows its queue. -/
def modPls (j : Nat) (f : PlsOut → PlsOut) (b : Block) : Block :=
  let b := modMtr (fun m => { m with outs := modAt PlsOut.init m.outs j f }) b
  wr (R.PLS_WAIT j) (plsOut b j).queue.length b

/-- The owner of output `j` under word 0 of its entry (R602). -/
def plsOwner (c : Nat) : Option Nat := if bitOf c 29 then some (bitsOf c 27 22) else none

/-- A pulse of output `j` is due at `t` (R593); `w0` is the width configured, in ns. -/
def plsDue (j c t w0 : Nat) (b : Block) : Block :=
  let o := plsOut b j
  if 65535 ≤ o.queue.length then
    b |> cnt (R.PLS_DROP j) |> raiseP EV.PLS_DROP (leBytes 4 j) |> (fun b => match plsOwner c with | some n => ievt 0x3F n 0 b | none => b)
  else
    let w := match o.due with | some d => max 1000000 (min w0 ((t - d) / 2)) | none => w0
    modPls j (fun o => { o with queue := o.queue ++ [(t, w)], due := some t }) b

/-- Output `j` follows its accumulator across sheaf `k`, from `a0` to `a1`: every threshold it reaches makes a pulse due (R592). -/
def plsFollow (k rate : Nat) (g : MtrCfg) (j a0 a1 step : Nat) (b : Block) : Block :=
  let c := (g.pls.getD j (0, 0)).1
  let o := plsOut b j
  let n := (a1 - o.base) / step
  let w0 := c % 256 * 1000000
  let t0 := gridNs rate (k - 1)
  let due (i : Nat) : Nat :=
    if bitOf c 30 then
      (let x := t0 + 1000000000 * (o.base + (i + 1) * step - a0) / (rate * (a1 - a0)) + g.hg + 500000
       (x + 1) / 2 * 2)
    else gridNs rate k + g.hg + 500000
  b |> each (fun i b => plsDue j c (due i) w0 b) (List.range n) |> modPls j (fun x => { x with base := o.base + n * step })

/-- Output `j` after sheaf `k`; `old` gives the accumulators before it. A newly followed quantity starts from where its
accumulator stood (DEDUCED, log entry 21). -/
def plsSheaf (k rate : Nat) (g : MtrCfg) (old : Nat → Nat → Nat) (j : Nat) (b : Block) : Block :=
  let (c, w) := g.pls.getD j (0, 0)
  let p := bitsOf c 21 15
  let q := bitsOf c 14 10
  match g.pts.find? (fun x => x.1 == p) with
  | none => b
  | some x =>
    if !bitOf c 31 then b
    else
      let a0 := old p q
      let a1 := (mtrPoint b p).acc.getD q 0
      let step := w * mUnit rate (mtrN rate g.f60) x.2 q
      let b := if (plsOut b j).src = some (p, q) then b else modPls j (fun o => { o with src := some (p, q), base := a0 }) b
      if step = 0 ∨ a1 < a0 then b else plsFollow k rate g j a0 a1 step b

/-- METERING_SHEAF: MTR processes the next settled sheaf for every point, and PLS follows (R579, R589, R592). -/
def meteringSheaf (b : Block) : Block :=
  if !b.part.optM || fget b F.PWR_STAT_state == 2 then b
  else match mtrNext b with
  | none => b
  | some k =>
    let g := mtrCfgAt b k
    let rate := primRate b
    let n := mtrN rate g.f60
    let before := b.mtr.pts
    let old (p q : Nat) : Nat := (sget (fun _ => MtrPoint.init) before p).acc.getD q 0
    b |> each (fun x b => mtrTake k rate n x.1 x.2 b) g.pts
      |> each (fun j b => plsSheaf k rate g old j b) (List.range 16)
      |> modMtr (fun m => { m with next := some (k + 1), last := k, ao := some k, old := m.old.filter (fun x => decide (k + 1 < x.1)) })

/-- PULSE_START on output `j`: the first pulse that waits goes high at its start (R593). -/
def pulseStart (j : Nat) (b : Block) : Block :=
  let o := plsOut b j
  match o.queue with
  | [] => b
  | (d, w) :: l =>
    if o.high.isSome ∨ cfgOn b (F.PLS_CFG_w0_en j) = false then b
    else
      let s := if o.width = 0 then d else max d (o.start + 2 * o.width)
      b |> advanceTo s |> modPls j (fun o => { o with queue := l, start := s, width := w, high := some (s + w) }) |> cnt (R.PLS_CNT j)
        |> cond (decide (d < s)) (raiseSec EV.PLS_LAG j (leBytes 4 j))

/-- PULSE_END on output `j` (R593). -/
def pulseEnd (j : Nat) (b : Block) : Block :=
  match (plsOut b j).high with
  | none => b
  | some t => b |> advanceTo t |> modPls j (fun o => { o with high := none })

/-- What a swap does to the outputs: a disabled one is held off (R602). -/
def plsSwapped (b : Block) : Block :=
  each (fun j b => if cfgOn b (F.PLS_CFG_w0_en j) then b else modPls j (fun o => { o with queue := [], high := none, src := none }) b) (List.range 16) b

/-- At entry to DECIDED every output goes off and the pulses that wait are lost (R64, R594). -/
def plsCut (b : Block) : Block := each (fun j b => modPls j (fun o => { o with queue := [], high := none }) b) (List.range 16) b

/-- A shadow that PLS refuses (R602). -/
def plsRefuses (b : Block) : Bool :=
  (List.range 16).any (fun j =>
    let c := shdR b (R.PLS_CFG_w0 j)
    let e := mtrShd b (bitsOf c 21 15)
    bitOf c 31 && (decide (c % 256 < 20 ∨ 200 < c % 256) || shdR b (R.PLS_CFG_w1 j) == 0 || decide (22 < bitsOf c 14 10) || !mEn e
      || plsOwner c != mOwner e))

/-- PLS_CMD CLRCNT (R601). -/
def plsClrcnt (b : Block) : Nat × Block := (0, zeroRegs (((List.range 16).map R.PLS_CNT) ++ (List.range 16).map R.PLS_DROP) b)

end Sys2Proof.Machine
end

