-- ==== Sys2Proof/Machine/Tally.lean ====
section
/-! DEFINITION. The tally loop and Vcore (R90–R94, R96–R101). -/

namespace Sys2Proof.Machine

/-- Present Vcore target, mV. -/
def vcore (b : Block) : Nat := fget b F.PWR_TALLYSTAT_vcore

/-- Set Vcore. -/
def setVcore (v : Nat) (b : Block) : Block := fset F.PWR_TALLYSTAT_vcore v b

/-- Whether the loop acts: AUTO and scheduler running (R91, R97). -/
def tallyOn (b : Block) : Bool := fon b F.PWR_TALLYCTL_mode && fon b F.SCH_STAT_run

/-- Bring PWR_TALLYSTAT.active and Vcore to what the mode and the scheduler ask: 0.80 V while the scheduler is stopped, vset in
FIXED mode; frozen in WARNED, 0.72 V in DECIDED (R64, R93, R94). The freeze of WARNED holds against a stop of the scheduler too, a vset is
taken whatever PWR_STAT.hot, and a hold in progress is kept (DESIGN CHOICE, log entry 60). -/
def tallyMode (b : Block) : Block :=
  let b := fset F.PWR_TALLYSTAT_active (b2n (tallyOn b)) b
  match fget b F.PWR_STAT_state with
  | 0 => if !fon b F.SCH_STAT_run then setVcore 800 b else if fon b F.PWR_TALLYCTL_mode then b else setVcore (fget b F.PWR_TALLYCTL_vset) b
  | 1 => b
  | _ => setVcore 720 b

/-- A deadline guard fired: Vcore goes to vmax at once (R91, R94). -/
def tallyJump (b : Block) : Block :=
  if !tallyOn b || decide (2 ≤ fget b F.PWR_STAT_state) then b
  else
    let first := !b.pwr.tallyJump
    { b with pwr := { b.pwr with tallyJump := true } } |> setVcore (cfg b F.PWR_TALLYCFG_vmax) |> fset F.PWR_TALLYSTAT_holdleft 16
      |> fset F.PWR_TALLYSTAT_jumped 1 |> cond first (raise EV.PWR_TALLYJUMP)

/-- TALLY_PERIOD_END: a loop period of PWR_TALLYPER ends, which is when the loop acts (R91, R92, R94). Periods go on while the loop does not
act, and each begins with no headland, no overrun and, unless the loop acted, no count towards atmax (DESIGN CHOICE, log entry 60). -/
def tallyPeriodEnd (b : Block) : Block :=
  let b := advanceTo (b.pwr.tallyEnd + cfg b F.PWR_TALLYPER_period * 1000000) b
  let h := b.sch.minH
  let jump := b.pwr.tallyJump
  let b := wr R.PWR_TALLYHL (match h with | some x => uInt 32 x | none => 0xFFFFFFFF) b
  let b := { b with sch := { b.sch with minH := none }, pwr := { b.pwr with tallyJump := false, tallyEnd := ns b } }
  if !tallyOn b then { b with pwr := { b.pwr with atmaxCnt := 0 } }
  else
    let tgt : Int := cfg b F.PWR_TALLY_target
    let band : Int := cfg b F.PWR_TALLY_band
    let vmax := cfg b F.PWR_TALLYCFG_vmax
    let vmin := cfg b F.PWR_TALLYCFG_vmin
    let step := cfg b F.PWR_TALLYCFG_step
    let low := match h with | some x => decide (x < tgt) | none => false
    let high := match h with | some x => decide (tgt + band < x) | none => true
    let v := vcore b
    let n := if low && v == vmax then b.pwr.atmaxCnt + 1 else 0
    let b := { b with pwr := { b.pwr with atmaxCnt := n } }
    let b := if n = 4 then b |> fset F.PWR_TALLYSTAT_atmax 1 |> raise EV.PWR_TALLYMAX else b
    if jump then b
    else if fget b F.PWR_TALLYSTAT_holdleft ≠ 0 then fset F.PWR_TALLYSTAT_holdleft (fget b F.PWR_TALLYSTAT_holdleft - 1) b
    else if fget b F.PWR_STAT_state ≠ 0 then b
    else if low then
      let top := if fon b F.PWR_STAT_hot then min 800 vmax else vmax
      setVcore (max v (min top (v + step))) b
    else if high then setVcore (min v (max vmin (v - step))) b
    else b

/-- TALLY_SPEED_REFRESH: the slowest site and the mean of the eight, in 1/4,096 of the floor speed (R90, R98). -/
def tallySpeedRefresh (mn mean : Nat) (b : Block) : Block := b |> fset F.PWR_TALLYSPD_min mn |> fset F.PWR_TALLYSPD_mean mean

/-- PWR_TALLYCTL_WRITE: a write with a vset outside 720–900 mV is ignored (R94, R96). -/
def tallyctlWrite (rqid v : Nat) (b : Block) : Block :=
  let j := judge b rqid R.PWR_TALLYCTL (.word 4) Need.write
  let b := { b with resp := ⟨j.status, 0⟩ }
  if j.status ≠ .ok then accessFault j rqid R.PWR_TALLYCTL Need.write b
  else
    let s := bitsOf v 27 16
    if s < 720 ∨ 900 < s then b
    else b |> wr R.PWR_TALLYCTL (v &&& 0x0FFF0001) |> tallyMode

/-- A shadow that the tally loop refuses (R94). -/
def tallyRefuses (b : Block) : Bool :=
  let mn := shd b F.PWR_TALLYCFG_vmin
  let mx := shd b F.PWR_TALLYCFG_vmax
  let st := shd b F.PWR_TALLYCFG_step
  let pd := shd b F.PWR_TALLYPER_period
  decide (mn < 720 ∨ 900 < mx ∨ mx < mn ∨ st < 5 ∨ 20 < st ∨ pd < 1 ∨ 100 < pd) || shd b F.PWR_TALLY_target == 0 || shd b F.PWR_TALLY_band == 0

/-- Vcore is clamped into the range in force, as a swap asks, while the loop acts and the supply is NORMAL; what a swap in WARNED would clamp is
clamped on the return to NORMAL (R94; DESIGN CHOICE, log entry 60). -/
def tallyClamp (b : Block) : Block :=
  if tallyOn b && fget b F.PWR_STAT_state == 0 then setVcore (min (cfg b F.PWR_TALLYCFG_vmax) (max (cfg b F.PWR_TALLYCFG_vmin) (vcore b))) b else b

end Sys2Proof.Machine
end

