-- ==== Sys2Proof/Machine/Image.lean ====
section
/-! DEFINITION. Input images (R431–R434, R439, R442): items, their checks, and what each kind copies. -/

namespace Sys2Proof.Machine

/-- An input item (R431). -/
structure Item where
  kind : Nat
  qual : Bool
  back : Nat
  count : Nat
  src : Nat
  dst : Nat
  deriving DecidableEq, Repr

/-- The item in 16 bytes. -/
def itemOf (l : List Byte) : Item :=
  let w := recN l 0 4
  ⟨bitsOf w 31 28, bitOf w 27, bitsOf w 26 24, bitsOf w 23 13, bitsOf w 12 0, recN l 4 4 % 65536⟩

/-- Unit size of a kind (R431). -/
def unitSize (kind : Nat) : Nat := match kind with | 2 => 32 | 3 => 320 | 6 => 32 | _ => 8

/-- Bytes an item takes in the image. -/
def Item.len (i : Item) : Nat := i.count * unitSize i.kind

/-- The checks of R432 on one item. -/
def Item.ok (i : Item) : Bool :=
  decide (i.kind ≤ 6) && decide (1 ≤ i.count) && ((i.kind != 4 && i.kind != 6) || i.count == 1)
    && decide (0x40 ≤ i.dst) && decide (i.dst % 8 = 0) && decide (i.dst + i.len ≤ 0xC000)

/-- The items before the first of kind 0. -/
def itemsOf : Nat → List Byte → List Item
  | 0, _ => []
  | n + 1, l =>
    let i := itemOf l
    if i.kind = 0 then [] else i :: itemsOf n (l.drop 16)

/-- What an item gave: its bytes, whether it failed, and whether it counts for the qualifier (R439, R442). -/
structure Copied where
  data : List Byte
  fail : Bool
  qual : Bool

/-- An item zero-filled (R439). -/
def Copied.zero (i : Item) : Copied := ⟨List.replicate i.len 0#8, true, false⟩

/-- Read `len` bytes at `a` as owner `n`; a refusal or a data error is an error of the owner (R439). -/
def itemRead (n a len : Nat) (b : Block) : Option (List Byte) × Block :=
  match engRead n a len b with
  | (.ok, d, b) => (some d, b)
  | (st, _, b) => (none, instErr 0x30 n (statusClass st) 0 0 b)

/-- Records of kind 2: slot after slot (R433). -/
def itemRecs (n j : Nat) : Nat → Nat → Block → Option (List Byte) × Block
  | 0, _, b => (some [], b)
  | m + 1, s, b =>
    if 8192 ≤ s then (none, b)
    else match itemRead n (0x1200000000 + s * 0x100 + j % 8 * 0x20) 32 b with
      | (none, b) => (none, b)
      | (some d, b) => match itemRecs n j m (s + 1) b with
        | (none, b) => (none, b)
        | (some r, b) => (some (d ++ r), b)

/-- Records of kind 3 as they stood at the local release of sheaf `k` (R433). -/
def itemGoose (n k : Nat) : Nat → Nat → Block → Option (List Byte) × Block
  | 0, _, b => (some [], b)
  | m + 1, s, b =>
    if 1024 ≤ s ∨ bitOf (gooW b s 0) 31 = false then (none, b)
    else match itemRead n (gooRec b s) 320 b with
      | (none, b) => (none, b)
      | (some _, b) =>
        let l := match b.sch.gooSnap.find? (fun x => x.1 == k) with | some x => x.2 | none => b.svi.goose
        match itemGoose n k m (s + 1) b with
        | (none, b) => (none, b)
        | (some r, b) => (some ((sget (fun _ => GooseSub.init) l s).bytes ++ r), b)

/-- The commit of a source task that a kind 5 item takes in the window of `core` that opened at `opens` (R433). -/
def sourceCommit (b : Block) (t core opens : Nat) : Option SchCommit :=
  (schTask b t).recent.find? (fun c => decide (c.dl + 2000 ≤ opens) || (c.core == core && c.opens == opens))

/-- The 32-byte records of a list. -/
def chunks32 : Nat → List Byte → List (List Byte)
  | 0, _ => []
  | n + 1, l => l.take 32 :: chunks32 n (l.drop 32)

/-- Copy the content of an item of a release of sheaf `k` of task `s`, in the window of `core` that opened at `opens` (R433). -/
def itemCopy (s : SnapTask) (k core opens : Nat) (i : Item) (b : Block) : Copied × Block :=
  let n := tInst s.ent
  let j := k - i.back
  match i.kind with
  | 1 =>
    if !held b false j || decide (4096 < i.src + i.count) then (Copied.zero i, b)
    else match itemRead n (entAddr b false j i.src) (8 * i.count) b with
      | (none, b) => (Copied.zero i, b)
      | (some _, b) =>
        let l := (List.range i.count).map (fun m => if chanSub b n (i.src + m) then entAt b k j (i.src + m) else 0)
        (⟨(l.map (leBytes 8)).flatten, false, i.qual && l.any (fun e => entState e == 2)⟩, b)
  | 2 => match itemRecs n j i.count i.src b with
    | (none, b) => (Copied.zero i, b)
    | (some d, b) => (⟨d, false, i.qual && (chunks32 i.count d).any (fun r => bitOf (recN r 24 2) 3)⟩, b)
  | 3 => match itemGoose n k i.count i.src b with
    | (none, b) => (Copied.zero i, b)
    | (some d, b) => (⟨d, false, false⟩, b)
  | 4 =>
    let t := gridNs (primRate b) k
    (⟨leBytes 4 (binAt b t) ++ leBytes 4 (binsChanged b (schTask b s.task).imageAt t), false, false⟩, b)
  | 5 => match sourceCommit b i.src core opens with
    | none => (Copied.zero i, b)
    | some c =>
      let t := schTask b i.src
      match itemRead n (t.blk + (if t.slot = 0 then 0x2040 else 0x3040)) i.len b with
      | (none, b) => (Copied.zero i, b)
      | (some _, b) => (⟨padTo 0#8 i.len c.payload, false, false⟩, b)
  | _ =>
    let a := descAddr false j
    let d := judge b n a (.word 8) Need.read
    if d.status ≠ .ok then (Copied.zero i, b |> recordFault d n a Need.read |> instErr 0x30 n 0 0 0)
    else (⟨((List.range 8).map (fun w => leBytes 4 (rd b (a + 4 * w)))).flatten, false, false⟩, b)

/-- Copy the items from number `x` on into the image at `blk`; items that fail their checks again are left out (R432, R439). Answers
the failure mask and whether the qualifier applies. -/
def itemsCopy (s : SnapTask) (k core opens : Nat) : List Item → Nat → List (Nat × Nat) → Block → Nat × Bool × Block
  | [], _, _, b => (0, false, b)
  | i :: l, x, done, b =>
    if !i.ok || done.any (overlap (i.dst, i.len)) then
      let (m, q, b) := itemsCopy s k core opens l (x + 1) done b
      (m + 2 ^ x, q, b)
    else
      let (c, b) := itemCopy s k core opens i b
      let (st, b) := engWrite (tInst s.ent) (tBlk s.ent + 0x4000 + i.dst) c.data b
      let bad := c.fail || st != .ok
      let b := if st = .ok then b else instErr 0x30 (tInst s.ent) (statusClass st) 0 s.task b
      let (m, q, b) := itemsCopy s k core opens l (x + 1) ((i.dst, i.len) :: done) b
      (m + (if bad then 2 ^ x else 0), q || c.qual, b)

/-- The input image of a release (R431, R433, R439, R442): the qualifier, and the block. -/
def imageCopy (r : SchRel) (core opens : Nat) (b : Block) : Bool × Block :=
  let s := r.snap
  let n := tInst s.ent
  let (raw, b) := itemRead n (tBlk s.ent + 0x800) (16 * min 32 (tItems s.ent)) b
  let items := match raw with | some d => itemsOf (min 32 (tItems s.ent)) d | none => []
  let (mask, q, b) := itemsCopy s r.k core opens items 0 [] b
  let qual := q && bitOf (s.ent.getD 0 0) 28
  let head := leBytes 8 r.k ++ leBytes 4 (if r.cls = 0 then opens else r.c) ++ leBytes 4 r.dl ++ leBytes 4 mask ++ leBytes 4 (b2n qual + 2 * b2n (r.cls == 1)) ++ List.replicate 40 0#8
  let (st, b) := engWrite n (tBlk s.ent + 0x4000) head b
  let b := if st = .ok then b else instErr 0x30 n (statusClass st) 0 s.task b
  let b := if mask = 0 then b else raiseSec EV.SCH_IMGERR s.task (leBytes 4 s.task) b
  (qual, modTask s.task (fun t => { t with imageAt := gridNs (primRate b) r.k }) b)

/-- Floor of an image copy, ns doubled (R434). -/
def copyFloor2 (items : List Item) : Nat := 400 + 100 * items.length + 64 + (items.map (·.len)).sum

end Sys2Proof.Machine
end

