-- ==== Sys2Proof/Machine/Sch.lean ====
section
/-! DEFINITION. The partition scheduler (R421–R452): windows, releases, commits, the deadline guard, failures, the statistics, and
the checks of a swap. The code of the tasks is outside the block: it appears as its accesses and as ZDONE, ZYIELD and traps. -/

namespace Sys2Proof.Machine

/-! ### Windows -/

/-- Word `w` of window `n` of core `c` in force. -/
def winW (b : Block) (c n w : Nat) : Nat := tact b 0x30 0 (64 * c + n) w

/-- Owner of a window word. -/
abbrev winInst (w : Nat) : Nat := bitsOf w 21 16

/-- The tasks of instance `n` on core `c`, as a window of this boundary takes them (R28). -/
def snapTasks (b : Block) (n c : Nat) : List SnapTask :=
  (tasksOn b).filterMap (fun t =>
    let e := taskEnt b t
    if tInst e = n ∧ tCore e = c then
      let p := progOf b t
      some ⟨t, e, p, (match p with | some q => lgrEnt b q | none => []), (match p with | some q => forcesOf b q | none => []), cfg b F.SCH_CFG_kover⟩
    else none)

/-- Major frame of sheaves (R424). -/
def schFrame (b : Block) : Nat := max 1 (cfg b F.SCH_CFG_frame)

/-- The window of word `w`, start and length on core `c` for sheaf `k`. -/
def mkWin (b : Block) (c w start len k : Nat) : SchWin :=
  let o := gridNs (primRate b) k + start
  ⟨c, w, k, o, o + len, snapTasks b (winInst w) c⟩

/-- The first sheaf from `k0` on of phase `p` whose window with offset `start` opens after `t` (R424, R425). -/
def nextSheaf (b : Block) (k0 p start t : Nat) : Nat :=
  let f := schFrame b
  let rate := primRate b
  let a := max k0 (gridAt rate (t - start) - 1)
  let a := a + (p + f - a % f) % f
  ((List.range 3).map (fun i => a + f * i)).find? (fun k => decide (t < gridNs rate k + start)) |>.getD (a + 3 * f)

/-- The earlier of two windows. -/
def earlier (x y : Option SchWin) : Option SchWin :=
  match x, y with
  | some v, some w => if w.opens < v.opens then some w else some v
  | some v, none => some v
  | none, w => w

/-- The next window of core `c` to open (R425, R28). -/
def nextWin (b : Block) (c : Nat) : Option SchWin :=
  let old := (b.sch.wins.filter (fun w => w.core == c)).foldl (fun x w => earlier x (some w)) none
  let last := (schCore b c).lastOpen
  let new := match b.sch.start with
    | none => none
    | some k0 => (List.range 64).foldl (fun x n =>
        let w := winW b c n 0
        if bitOf w 31 then earlier x (some (mkWin b c w (winW b c n 1) (winW b c n 2) (nextSheaf b k0 (w % 128) (winW b c n 1) last))) else x) none
  earlier old new

/-- Before a swap at the boundary of `k`, keep the windows of earlier sheaves that have not opened, with their tasks (R28, R446). -/
def keepWins (k : Nat) (b : Block) : Block :=
  match b.sch.start with
  | none => b
  | some k0 =>
    let f := schFrame b
    let ws := ((List.range 1024).map (fun i =>
      let w := tact b 0x30 0 i 0
      let c := i / 64
      if !bitOf w 31 then [] else ((List.range f).filterMap (fun j =>
        let m := k - 1 - j
        let x := mkWin b c w (tact b 0x30 0 i 1) (tact b 0x30 0 i 2) m
        if m < k ∧ k0 ≤ m ∧ m % f = w % 128 ∧ (schCore b c).lastOpen < x.opens ∧ ns b < x.opens then some x else none)))).flatten
    modSch (fun s => { s with wins := s.wins ++ ws, start := some (max k0 k) }) b

/-! ### Statistics and events -/

/-- Word `w` of the statistics of task `t` (R449). -/
abbrev schS (t w : Nat) : Nat := tkey 0x30 4 t w

/-- Consecutive overruns and failures of task `t` (R440, R449). -/
def consecOf (b : Block) (t : Nat) : Nat := tget b (schS t 5) % 16

/-- Set the consecutive count. -/
def setConsec (t v : Nat) (b : Block) : Block := tset (schS t 5) (putBits (tget b (schS t 5)) 3 0 (min 15 v)) b

/-- Remember the task and sheaf of an overrun or failure (R452). -/
def lastOver (n t k : Nat) (b : Block) : Block := b |> wr (R.SCH_I_OVRTASK n) t |> wr64 (R.SCH_I_OVRIDX_LO n) k

/-- Show what runs on core `c` (R450). -/
def showCore (c : Nat) (b : Block) : Block :=
  let x := schCore b c
  let inst := match x.win with | some w => winInst w.word | none => 0
  wr (R.SCH_CORE c) (match x.cur with
    | some r => 2 ^ 31 + r.cls * 2 ^ 29 + inst * 2 ^ 16 + r.snap.task
    | none => inst * 2 ^ 16) b

/-! ### Commits (R435, R436) -/

/-- Replace the row of task `t`, and let BIO and PUB act (R435, R486, R495). -/
def rowChange (t k : Nat) (sig : List Byte) (b : Block) : Block := b |> setRow t sig |> bioRefresh |> pubCommit t k

/-- Commit a payload for task `t` under entry `e` (R435–R437). `dl` is the deadline and `core`, `opens` the window of its release. -/
def schCommit (t : Nat) (e : List Nat) (k dl core opens flags code : Nat) (headland : Int) (pl : List Byte) (b : Block) : Block :=
  let n := tInst e
  let pl := padTo 0#8 (tOutlen e) pl
  let x := schTask b t
  let slot := 1 - x.slot
  let a := tBlk e + (if slot = 0 then 0x2000 else 0x3000)
  let flags := flags + (if tClass e = 1 then 64 else 0)
  let head := leBytes 8 k ++ leBytes 4 (fast b) ++ leBytes 4 flags ++ leBytes 4 (x.seq + 1) ++ leBytes 4 (uInt 32 headland) ++ leBytes 4 (tOutlen e)
    ++ leBytes 4 code ++ List.replicate 32 0#8
  let (s1, b) := engWrite n (a + 0x40) pl b
  let b := if s1 = .ok then b else instErr 0x30 n (statusClass s1) 0 t b
  let (s2, b) := engWrite n a head b
  let b := if s2 = .ok then b else instErr 0x30 n (statusClass s2) 0 t b
  b |> modTask t (fun x => { x with
        seq := (x.seq + 1) % 2 ^ 32, blk := tBlk e, slot := slot, flags := flags, payload := pl
        recent := ⟨dl, core, opens, pl⟩ :: x.recent.take 255 })
    |> rowChange t k (pl.take 64)

/-- The safe image of a task (R430): its bytes, and the offsets of its words that are uncorrectable or poisoned, which give no data (R35). -/
def safeImage (e : List Nat) (b : Block) : List Byte × List Nat × Block :=
  let a := tBlk e + 0x1000
  match itemRead (tInst e) a (tOutlen e) b with
  | (some d, b) => (d, [], b)
  | (none, b) =>
    let bad := (cwsOf a (tOutlen e)).filter (fun c => b.poisoned.contains c || b.uncorr.contains c)
    if bad = [] then ([], [], b)
    else ((List.range (tOutlen e)).map (fun i => if bad.contains (cwOf (a + i)).1 then 0#8 else mget b (a + i)), bad.map (· - a), b)

/-- Commit the safe image of task `t` (R430, R437): where a source word is bad, the slot's word is poisoned in place of the data (R35). -/
def commitSafe (t : Nat) (e : List Nat) (k dl core opens flags code : Nat) (headland : Int) (b : Block) : Block :=
  let (d, bad, b) := safeImage e b
  let b := schCommit t e k dl core opens flags code headland d b
  let a := tBlk e + (if (schTask b t).slot = 0 then 0x2040 else 0x3040)
  if (judge b (tInst e) a (.word 8) Need.write).status = .ok then each (fun o b => poison (a + o) b) bad b else b

/-- The window of the core on which a release runs. -/
def winAt (b : Block) (e : List Nat) : Nat × Nat := (tCore e, match (schCore b (tCore e)).win with | some w => w.opens | none => 0)

/-- Commit a discarded release under its task's policy (R437, R438, R446). -/
def commitPolicy (r : SchRel) (extra code : Nat) (b : Block) : Block :=
  let e := r.snap.ent
  let t := r.snap.task
  let (core, opens) := winAt b e
  let h : Int := (r.dl : Int) - (ns b : Int)
  if bitOf (e.getD 0 0) 27 then commitSafe t e r.k r.dl core opens (8 + extra) code h b
  else schCommit t e r.k r.dl core opens (4 + extra) code h (schTask b t).payload b

/-! ### Faults (R440) -/

/-- Busy time and retired instructions of a stretch of task `r` (R90). -/
def tallyCounts (r : SchRel) (insns : Nat) (b : Block) : Block :=
  modTask r.snap.task (fun x => { x with busy := x.busy + (ns b - r.since), instret := x.instret + insns }) b

/-- The counts of the work that runs on the cores and is `mine`, which ends here; no operand tells how many instructions it has retired, so
that number is open (R90; DESIGN CHOICE, log entry 2). -/
def tallyStops (mine : SchRel → Bool) (b : Block) : Block :=
  each (fun c b => match (schCore b c).cur with
    | some r => if mine r && r.phase = .running then b |> tallyCounts r (fresh b) |> freshNext else b
    | none => b) (List.range 16) b

/-- Stop all work of instance `n` on the cores, without a commit. -/
def stopInst (n : Nat) (b : Block) : Block :=
  let mine (r : SchRel) : Bool := tInst r.snap.ent == n
  let b := tallyStops mine b
  let b := modSch (fun s => { s with cores := s.cores.map (fun c => { c with
    queue := c.queue.filter (fun r => !mine r), cur := match c.cur with | some r => if mine r then none else some r | none => none }) }) b
  let b := each (fun t b => modTask t (fun x => { x with lrel := none }) b) (instTasks b n) b
  each showCore (List.range 16) b

/-- Show the number of faulted instances (R447). -/
def showFaults (b : Block) : Block := fset F.SCH_STAT_nfault b.sch.faulted.length b

/-- Fault instance `n` (R440, R454, R471). -/
def faultInst (n : Nat) (b : Block) : Block :=
  if b.sch.faulted.contains n then b
  else
    b |> stopInst n |> modSch (fun s => { s with safeDue := s.safeDue ++ [n], faulted := s.faulted ++ [n] }) |> showFaults |> ievt 0x30 n 1
      |> raiseP EV.SCH_FAULT (leBytes 4 n) |> setFaulted n true |> raiseP EV.VIM_FAULT (leBytes 4 n)
      |> (fun b => if instState b n = 2 then setInst n 6 b else b)

/-- A count of the task of release `r` reaches the kover of its boundary (R28, R440). -/
def kover (r : SchRel) (b : Block) : Block := if r.snap.kover ≤ consecOf b r.snap.task then faultInst (tInst r.snap.ent) b else b

/-- The safe images of faulted instances at the boundary of `k` (R440). -/
def faultSafe (k : Nat) (b : Block) : Block :=
  let l := b.sch.safeDue
  let b := modSch (fun s => { s with safeDue := [] }) b
  each (fun n b => each (fun t b =>
    let e := taskEnt b t
    commitSafe t e k 0 (tCore e) 0 24 0 0 b) (instTasks b n) b) l b

/-! ### Releases -/

/-- Whether instance `n` is released work (R453). -/
def instRuns (b : Block) (n : Nat) : Bool := instState b n == 2 && !b.sch.faulted.contains n

/-- Set the release that runs on core `c`. -/
def setCur (c : Nat) (r : Option SchRel) (b : Block) : Block := b |> modCore c (fun x => { x with cur := r }) |> showCore c

/-- The M task that has the next turn, in ascending order and round robin (R427). -/
def nextM (l : List SnapTask) (last : Option Nat) : Option SnapTask :=
  let m := l.filter (fun s => tClass s.ent == 2)
  match last with
  | none => m.head?
  | some t => match m.find? (fun s => decide (t < s.task)) with | some s => some s | none => m.head?

/-- The L release that core `c` runs next in window `w`: released at or before its opening and not finished (R427, R428). -/
def nextL (b : Block) (w : SchWin) : Option (SnapTask × SchRel) :=
  (w.tasks.filter (fun s => tClass s.ent == 1)).findSome? (fun s => match (schTask b s.task).lrel with
    | some r => if r.c ≤ w.opens ∧ (r.phase = .waiting ∨ r.phase = .stopped) then some (s, r) else none
    | none => none)

/-- Start the next work of core `c` in its window (R427). -/
def nextWork (c : Nat) (b : Block) : Block :=
  let x := schCore b c
  match x.cur, x.win with
  | some _, _ => b
  | none, none => showCore c b
  | none, some w =>
    match x.queue with
    | r :: l => b |> modCore c (fun x => { x with queue := l }) |> setCur c (some { r with phase := .copying })
    | [] =>
      let runs := instRuns b (winInst w.word)
      let l := if runs && bitOf w.word 29 then nextL b w else none
      match l with
      | some (s, r) =>
        let r := if r.phase = .waiting then { r with snap := s, k := w.k, phase := .copying } else { r with phase := .running, since := ns b }
        b |> modTask s.task (fun x => { x with lrel := some r }) |> setCur c (some r)
      | none =>
        match (if runs && bitOf w.word 28 then nextM w.tasks x.m else none) with
        | some s =>
          b |> modCore c (fun x => { x with m := some s.task }) |> setCur c (some ⟨s, 2, w.k, 0, 0, .running, 0, ns b, false⟩)
        | none => showCore c b

/-- A release has ended on core `c`: the core goes on to its next work. -/
def endRelease (c : Nat) (r : SchRel) (b : Block) : Block :=
  b |> cond (r.cls == 1) (modTask r.snap.task (fun x => { x with lrel := none })) |> setCur c none

/-- A release ended as an overrun (R437). -/
def overrun (r : SchRel) (b : Block) : Block :=
  let t := r.snap.task
  let n := tInst r.snap.ent
  b |> commitPolicy r 0 0 |> tcnt (schS t 4) 1 |> setConsec t (consecOf b t + 1) |> instErr 0x30 n 5 0 t |> raiseSec EV.SCH_OVERRUN t (leBytes 4 t)
    |> ievt 0x30 n 0 |> lastOver n t r.k |> tallyJump |> kover r

/-- A release ended as a failure with a code (R438), 0 when its draft could not be read (DEDUCED, log entry 50). -/
def failure (r : SchRel) (code : Nat) (b : Block) : Block :=
  let t := r.snap.task
  let n := tInst r.snap.ent
  let w := tget b (schS t 5)
  b |> commitPolicy r (if code = 0 then 0 else 32) code |> tset (schS t 5) (putBits w 31 16 (bitsOf w 31 16 + 1)) |> setConsec t (consecOf b t + 1) |> instErr 0x30 n 3 code t
    |> lastOver n t r.k |> kover r

/-- Keep the trip-masked signals of the latest commit (R442). -/
def withhold (mask old new : List Byte) : List Byte :=
  ((List.range 64).map (fun i => (old.getD i 0#8 &&& mask.getD i 0#8) ||| (new.getD i 0#8 &&& ~~~(mask.getD i 0#8)))) ++ new.drop 64

/-- A release completed in time (R435, R442, R443, R553). -/
def completed (r : SchRel) (b : Block) : Block :=
  let s := r.snap
  let e := s.ent
  let t := s.task
  let n := tInst e
  match itemRead n (tBlk e + 0x1800) (tOutlen e) b with
  | (none, b) => failure r 0 b
  | (some d, b) =>
    let h : Int := (r.dl : Int) - (ns b : Int)
    let took := r.ran + (ns b - r.since)
    let (d, b) := if r.qual then
        (let (m, b) := itemRead n (tBlk e + 0xA00) 64 b
         (withhold (m.getD []) (schTask b t).payload d, b))
      else (d, b)
    let (d, b) := lgrPayload s d b
    let (core, opens) := winAt b e
    let sum := tget b (schS t 1) + tget b (schS t 2) * 2 ^ 32 + h.toNat
    let least := sNat 32 (tget b (schS t 0))
    b |> schCommit t e r.k r.dl core opens (if r.qual then 2 else 1) 0 h d
      |> tset (schS t 0) (uInt 32 (min least h)) |> tset (schS t 1) sum |> tset (schS t 2) (sum / 2 ^ 32) |> tcnt (schS t 3) 1 |> setConsec t 0
      |> modSch (fun x => { x with minH := some (match x.minH with | some m => min m h | none => h) })
      |> cond r.qual (fun b => b |> tcnt (schS t 6) 1 |> ievt 0x30 n 2)
      |> cond (decide (e.getD 2 0 < took)) (fun b => b |> tcnt (schS t 7) 1 |> raiseSec EV.SCH_OVERBUDGET t (leBytes 4 t) |> ievt 0x30 n 3)
      |> lgrEpilogue s r.k r.c

/-- IMAGE_COPY_DONE on core `c`: the image is copied, LGR's prologue made, and the task starts (R431, R434, R553). -/
def imageCopyDone (c : Nat) (b : Block) : Block :=
  match (schCore b c).cur, (schCore b c).win with
  | some r, some w =>
    if r.phase ≠ .copying then b
    else
      let (q, b) := imageCopy r c w.opens b
      let (good, b) := lgrPrologue r.snap r.k r.c b
      let r := { r with phase := .running, since := ns b, qual := q }
      if good then b |> cond (r.cls == 1) (modTask r.snap.task (fun x => { x with lrel := some r })) |> setCur c (some r)
      else b |> endRelease c r |> failure r 0xFE |> nextWork c
  | _, _ => b

/-- TASK_TRAP on core `c`: a trap without a vector ends the release as a failure with code 0xFF, or the turn of an M task (R423). -/
def taskTrap (c insns : Nat) (b : Block) : Block :=
  match (schCore b c).cur with
  | none => b
  | some r =>
    if r.phase ≠ .running then b
    else
      let e := r.snap.ent
      let (v, b) := itemRead (tInst e) (tBlk e + 0xC00) 8 b
      if leNat (v.getD []) ≠ 0 then b
      else
        let b := b |> tallyCounts r insns |> endRelease c r |> raiseP EV.SCH_TRAP (leBytes 4 r.snap.task)
        if r.cls = 2 then nextWork c b
        else if r.dl ≤ ns b then b |> overrun r |> nextWork c
        else b |> failure r 0xFF |> nextWork c

/-- ZDONE on core `c` with a completion code (R422, R435, R437, R438). -/
def zdone (c code insns : Nat) (b : Block) : Block :=
  match (schCore b c).cur with
  | none => b
  | some r =>
    if r.phase ≠ .running then b
    else if r.cls = 2 then taskTrap c insns b
    else
      let b := b |> tallyCounts r insns |> endRelease c r
      (if r.dl ≤ ns b then overrun r b else if code % 256 ≠ 0 then failure r (code % 256) b else completed r b) |> nextWork c

/-- ZYIELD on core `c` (R422, R427). -/
def zyield (c insns : Nat) (b : Block) : Block :=
  match (schCore b c).cur with
  | none => b
  | some r =>
    if r.phase ≠ .running then b
    else if r.cls ≠ 2 then taskTrap c insns b
    else b |> tallyCounts r insns |> setCur c none |> nextWork c

/-- The release of task `t` that has not ended, and the core it waits or runs on (R437). -/
def openRel (b : Block) (t : Nat) : Option (Option Nat × SchRel) :=
  match (List.range 16).findSome? (fun c =>
    let x := schCore b c
    match x.cur with
    | some r => if r.snap.task = t ∧ r.cls ≤ 1 then some (some c, r) else (x.queue.find? (fun r => r.snap.task == t)).map (fun r => (some c, r))
    | none => (x.queue.find? (fun r => r.snap.task == t)).map (fun r => (some c, r))) with
  | some x => some x
  | none => (schTask b t).lrel.map (fun r => (none, r))

/-- Take a release out of its core's hands. -/
def dropRel (t : Nat) (c : Option Nat) (r : SchRel) (b : Block) : Block :=
  let b := modTask t (fun x => { x with lrel := none }) b
  match c with
  | none => b
  | some c => b |> modCore c (fun x => { x with
      queue := x.queue.filter (fun q => q.snap.task != t), cur := match x.cur with | some q => if q.snap.task = t ∧ q.cls = r.cls then none else some q | none => none })
      |> showCore c

/-- The guard ends the open release of task `t`; an L release that never began is attributed to the latest boundary (R437, R446). -/
def guardRel (t : Nat) (c : Option Nat) (r : SchRel) (insns : Nat) (b : Block) : Block :=
  let r := if r.cls = 1 ∧ r.phase = .waiting then { r with k := rd64 b R.BNK_CURIDX_LO } else r
  let b := if r.phase = .running then tallyCounts r insns b else b
  let b := b |> dropRel t c r |> overrun r
  match c with | some c => nextWork c b | none => b

/-- DEADLINE_GUARD of task `t`: its deadline compare fires (R437). An L release of a quiesced owner that is off its core stays stopped
(R446; DEDUCED, log entry 51). -/
def deadlineGuard (t insns : Nat) (b : Block) : Block :=
  match openRel b t with
  | none => b
  | some (c, r) =>
    if c.isNone ∧ (instState b (tInst r.snap.ent) = 3 ∨ instState b (tInst r.snap.ent) = 4) then b
    else b |> advanceTo r.dl |> guardRel t c r insns

/-- L_RELEASE of task `t`: the next whole multiple of its period (R428, R437, R446). -/
def lRelease (t : Nat) (b : Block) : Block :=
  let e := taskEnt b t
  let p := tPeriod e
  if !fon b F.SCH_STAT_run || !tEn e || tClass e != 1 || p = 0 then b
  else
    let at_ := (((schTask b t).lrelAt.getD (ns b)) / p + 1) * p
    let b := b |> advanceTo at_ |> modTask t (fun x => { x with lrelAt := some at_ })
    if !instRuns b (tInst e) then b
    else
      let b := match openRel b t with
        | some (c, r) => guardRel t c r (fresh b) (freshNext b)
        | none => b
      if !instRuns b (tInst e) then b
      else modTask t (fun x => { x with lrel := some ⟨⟨t, e, none, [], [], cfg b F.SCH_CFG_kover⟩, 1, 0, at_, at_ + p, .waiting, 0, 0, false⟩ }) b

/-! ### Windows open and close (R427) -/

/-- The end of the window open on core `c`: P work past its deadlines overruns, L and M work stops where it is. -/
def closeWin (c insns : Nat) (b : Block) : Block :=
  let x := schCore b c
  let late := x.queue ++ (match x.cur with | some r => if r.cls = 0 then [r] else [] | none => [])
  let b := each (fun r b => match openRel b r.snap.task with
    | some (oc, q) =>
      let b := if q.phase = .running then tallyCounts q insns b else b
      b |> dropRel r.snap.task oc q |> overrun q
    | none => b) late b
  let b := match (schCore b c).cur with
    | none => b
    | some r =>
      let b := if r.phase = .running then tallyCounts r insns b else b
      let stop : SchRel := if r.phase = .running then { r with phase := .stopped, ran := r.ran + (ns b - r.since) } else { r with phase := .waiting }
      b |> cond (r.cls == 1) (modTask r.snap.task (fun x => { x with lrel := some stop }))
        |> modCore c (fun x => { x with cur := none, unsaved := if r.phase = .running then some r.snap.task else x.unsaved })
  b |> modCore c (fun x => { x with win := none, queue := [] }) |> showCore c

/-- WINDOW_CLOSE on core `c` (R427). -/
def windowClose (c insns : Nat) (b : Block) : Block :=
  match (schCore b c).win with
  | none => b
  | some w => b |> advanceTo w.closes |> closeWin c insns

/-- Save the context of the task stopped on core `c` into its block (R427, R430). -/
def saveContext (c : Nat) (ctx : List Byte) (b : Block) : Block :=
  match (schCore b c).unsaved with
  | none => b
  | some t =>
    let e := taskEnt b t
    let b := modCore c (fun x => { x with unsaved := none }) b
    let (st, b) := engWrite (tInst e) (tBlk e) (padTo 0#8 2048 ctx) b
    if st = .ok then b else instErr 0x30 (tInst e) (statusClass st) 0 t b

/-- Whether sheaf `k` is marked released (R383). -/
def releasedSheaf (b : Block) (k : Nat) : Bool := held b false k && bitOf (rd b (descAddr false k + 16)) 1

/-- WINDOW_OPEN: the next window of core `c` opens; `ctx` is the context of the task stopped there (R425–R428, R446). The context switch
invalidates both caches of the core (R20). -/
def windowOpen (c : Nat) (ctx : List Byte) (b : Block) : Block :=
  if !fon b F.SCH_STAT_run then b
  else match nextWin b c with
  | none => b
  | some w =>
    let b := advanceTo w.opens b
    let b := if (schCore b c).win.isSome then closeWin c (fresh b) (freshNext b) else b
    let b := saveContext c ctx b
    let n := winInst w.word
    let b := b |> modSch (fun s => { s with wins := s.wins.filter (fun x => !(x.core == c && x.opens == w.opens)) })
      |> modCore c (fun x => { x with win := some w, lastOpen := w.opens, icache := [], dcache := [] }) |> wr64 R.SCH_CURIDX_LO w.k
    let rel (s : SnapTask) : SchRel :=
      ⟨s, 0, w.k, gridNs (primRate b) w.k, w.opens + s.ent.getD 1 0, .waiting, 0, 0, false⟩
    let ps := if bitOf w.word 30 && instRuns b n then w.tasks.filter (fun s => tClass s.ent == 0) else []
    let b := if !(bitOf w.word 30 && instRuns b n) then b
      else if releasedSheaf b w.k then modCore c (fun x => { x with queue := ps.map rel }) b
      else b |> cnt R.SCH_NORELCNT |> raiseP EV.SCH_NOREL (leBytes 8 w.k)
             |> each (fun s b => schCommit s.task s.ent w.k (rel s).dl c w.opens 4 0 (((rel s).dl : Int) - (ns b : Int)) (schTask b s.task).payload b) ps
    nextWork c b

/-! ### Starting and stopping (R445) -/

/-- Every P and L row takes its task's safe image (R445). -/
def rowsSafe (ts : List Nat) (b : Block) : Block :=
  each (fun t b =>
    let e := taskEnt b t
    let (d, _, b) := safeImage e b
    rowChange t (rd64 b R.BNK_CURIDX_LO) (padTo 0#8 64 (d.take 64)) b) ts b

/-- Stop the scheduler (R445): the SPK's fallback is due at the next boundary (R165). -/
def schHalt (b : Block) : Block :=
  let ts := (tasksOn b).filter (fun t => decide (tClass (taskEnt b t) ≤ 1))
  b |> tallyStops (fun _ => true) |> modSch (fun s => { s with cores := s.cores.map (fun c => { SchCore.init with lastOpen := c.lastOpen }), wins := [], start := none })
    |> each (fun t b => modTask t (fun x => { x with lrel := none, lrelAt := none }) b) ts
    |> each showCore (List.range 16) |> fset F.SCH_STAT_run 0 |> rowsSafe ts |> tallyMode |> raise EV.SCH_STOPPED
    |> (fun b => { b with spk := { b.spk with fb := true } })

/-- Whether S18 has begun (R445). -/
def s18 (b : Block) : Bool := decide (18 ≤ b.start.last) || (decide (b.start.step = 18) && b.start.busy)

/-- SCH_CMD START; at S18 it begins the overlap of R165, one second of sheaves. -/
def schStart (b : Block) : Nat × Block :=
  if fon b F.SCH_STAT_run || !s18 b then (0x10, b)
  else
    let k := rd64 b R.BNK_CURIDX_LO
    let b := b |> fset F.SCH_STAT_run 1 |> modSch (fun s => { s with start := some (if k = 0 then relNext b false else k + 1) })
      |> tallyMode |> raise EV.SCH_STARTED
    let b := each (fun t b => modTask t (fun x => { x with lrelAt := some (ns b) }) b) (tasksOn b) b
    (0, if b.start.last < 18 then { b with start := { b.start with handover := some (primRate b) } } else b)

/-- SCH_CMD STOP. -/
def schStop (b : Block) : Nat × Block := if !fon b F.SCH_STAT_run then (0x10, b) else (0, schHalt b)

/-- The boundary of sheaf `k` in SCH (R440, R447). -/
def schBoundary (k : Nat) (b : Block) : Block := b |> fset F.SCH_STAT_phase (k % schFrame b) |> faultSafe k

/-- Task statistics and the fault of instance `n` cleared, and its rows take their safe images (R469). -/
def schReset (n : Nat) (b : Block) : Block :=
  let ts := instTasks b n
  b |> stopInst n |> rowsSafe ts
    |> each (fun t b => b |> each (fun w b => tset (schS t w) (if w = 0 then 0x7FFFFFFF else 0) b) (List.range 8)) ts
    |> modSch (fun s => { s with faulted := s.faulted.filter (· != n), safeDue := s.safeDue.filter (· != n) }) |> showFaults |> setFaulted n false

/-! ### Swaps -/

/-- What a swap does to the tasks (R436, R484): a task that becomes enabled, or is disabled, starts with an empty row. -/
def schSwapped (old : List Nat) (b : Block) : Block :=
  each (fun t b =>
    let on := bitOf (tact b 0x30 2 t 0) 31
    if on = old.contains t then b
    else b |> modTask t (fun _ => { SchTask.init with lrelAt := some (ns b) }) |> rowChange t (rd64 b R.BNK_CURIDX_LO) []) (List.range 1024) b

/-- The items that the shadow entry of task `t` declares, as its task block holds them. -/
def shadowItems (b : Block) (e : List Nat) : List Item := itemsOf (min 32 (tItems e)) (mread b (tBlk e + 0x800) 512)

/-- The enabled shadow windows: core and words. -/
def shadowWins (b : Block) : List (Nat × List Nat) :=
  ((List.range 1024).map (fun i => (i / 64, (List.range 3).map (fun w => tshd b 0x30 0 i w)))).filter (fun x => bitOf (x.2.getD 0 0) 31)

/-- The enabled shadow tasks. -/
def shadowTasks (b : Block) : List (Nat × List Nat) := ((List.range 1024).map (fun t => (t, taskShd b t))).filter (fun x => tEn x.2)

/-- The bit of a window word that allows a class. -/
def classBit (c : Nat) : Nat := match c with | 0 => 30 | 1 => 29 | _ => 28

/-- A shadow task that SCH refuses (R429, R432). -/
def taskBad (b : Block) (ws : List (Nat × List Nat)) (e : List Nat) : Bool :=
  let mine := ws.filter (fun x => x.1 == tCore e && winInst (x.2.getD 0 0) == tInst e && bitOf (x.2.getD 0 0) (classBit (tClass e)))
  let d := e.getD 1 0
  let items := shadowItems b e
  tClass e == 3 || mine.isEmpty || !inShare b (tInst e) (tBlk e) 0x10000
    || (match tClass e with
        | 0 => mine.any (fun x => decide (x.2.getD 2 0 < d))
        | 1 => decide (d / 128 ≠ 0 ∨ d % 128 = 0 ∨ 100 < d % 128)
        | _ => d != 0)
    || decide (tOutlen e < 64 ∨ 2048 < tOutlen e ∨ tOutlen e % 8 ≠ 0 ∨ 32 < tItems e)
    || items.any (fun i => !i.ok) || anyOverlap (items.map (fun i => (i.dst, i.len)))

/-- Whether the P tasks of a window, in order, overstep their deadlines (R444); times in ns doubled. -/
def admitBad (b : Block) : List (List Nat) → Nat → Bool
  | [], _ => false
  | e :: l, acc =>
    let acc := acc + copyFloor2 (shadowItems b e) + 2 * e.getD 2 0 + 4000
    decide (2 * e.getD 1 0 < acc) || admitBad b l acc

/-- Whether two windows of one core overlap in a frame of `span` ns (R426). -/
def winsClash (span p : Nat) (x y : List Nat) : Bool :=
  let pos (w : List Nat) : Nat := (ef w 0 6 0 * p + w.getD 1 0) % span
  let d := (pos y + span - pos x) % span
  decide (d < x.getD 2 0) || decide ((span - d) % span < y.getD 2 0)

/-- Whether any two windows of one core in a list overlap. -/
def anyClash (span p : Nat) : List (Nat × List Nat) → Bool
  | [] => false
  | x :: l => l.any (fun y => y.1 == x.1 && winsClash span p x.2 y.2) || anyClash span p l

/-- A shadow that SCH refuses (R426, R429, R432, R444, R451). -/
def schRefuses (b : Block) : Bool :=
  let frame := shd b F.SCH_CFG_frame
  let p := nsec / primRate b
  let h := shd b F.ALN_HORIZON_ns
  let ws := shadowWins b
  let ts := shadowTasks b
  decide (frame = 0 ∨ 96 < frame) || shd b F.SCH_CFG_kover == 0
    || ws.any (fun x => let w := x.2.getD 0 0
        decide (x.2.getD 2 0 < 4000 ∨ frame ≤ w % 128) || (bitOf w 30 && decide (x.2.getD 1 0 < h + 50000 ∨ p + h ≤ x.2.getD 1 0)))
    || anyClash (max 1 (frame * p)) p ws
    || ts.any (fun x => taskBad b ws x.2)
    || ws.any (fun x => let w := x.2.getD 0 0
        bitOf w 30 && admitBad b ((ts.filter (fun t => tClass t.2 == 0 && tCore t.2 == x.1 && tInst t.2 == winInst w)).map (·.2)) 4000)

/-! ### Commands (R448) -/

/-- Entries of SCH table `t`. -/
def schSize (t : Nat) : Nat := if t ≤ 4 then 1024 else 0

/-- Word `w` of entry `i` as table `t` shows it. -/
def schWord (b : Block) (t i w : Nat) : Nat :=
  match t with
  | 0 => if w < 4 then tshd b 0x30 0 i w else 0
  | 1 => if w < 4 then tact b 0x30 0 i w else 0
  | 2 => tshd b 0x30 2 i w
  | 3 => tact b 0x30 2 i w
  | _ => if w < 8 then tget b (schS i w) else 0

/-- SCH_CMD TREAD. -/
def schTread (t : Nat) (b : Block) : Nat × Block :=
  tabRead (R.SCH_TDATA 0) 16 (schSize t) (rd b R.SCH_TIDX) (schWord b t (rd b R.SCH_TIDX)) b

/-- Bits of word `w` of a window that a write stores. -/
def winMask (w : Nat) : Nat := match w with | 0 => 0xF03F007F | 3 => 0 | _ => 0xFFFFFFFF

/-- Bits of word `w` of a task entry that a write stores (R429). -/
def taskMask (w : Nat) : Nat := match w with | 0 => 0xF83F0F00 | 5 => 0x00FFFFFF | 6 => 0xFFFFFF00 | _ => if w < 7 then 0xFFFFFFFF else 0

/-- SCH_CMD TWRITE. -/
def schTwrite (t : Nat) (b : Block) : Nat × Block :=
  let i := rd b R.SCH_TIDX
  match t with
  | 0 => tabWrite 0x30 (R.SCH_TDATA 0) 4 1024 i winMask (tsetShd 0x30 0 i) b
  | 2 => tabWrite 0x30 (R.SCH_TDATA 0) 16 1024 i taskMask (tsetShd 0x30 2 i) b
  | _ => (if t ≤ 4 then 0x11 else 0x12, b)

/-- SCH_CMD CLRCNT of a task or of all; the consecutive count stands for kover. -/
def schClrcnt (t : Nat) (all : Bool) (b : Block) : Nat × Block :=
  (0, each (fun t b =>
    let c := consecOf b t
    b |> each (fun w b => tset (schS t w) (if w = 0 then 0x7FFFFFFF else 0) b) (List.range 8) |> setConsec t c)
    (if all then List.range 1024 else [t % 1024]) b)

end Sys2Proof.Machine
end

