-- ==== Sys2Proof/Machine/Dma.lean ====
section
/-! DEFINITION. The DMA engine (R463–R465, R481, R482) but for the bursts themselves: rings, the engine queue, channels, and how a
descriptor ends. -/

namespace Sys2Proof.Machine

/-- The RQID of a ring: its instance, or the manager (R463, R481). -/
def ringRqid (ring : Nat) : Nat := if ring < 64 then ring else 0x081

/-- Address of the ring register at offset `o` (R481, R482). -/
def ringReg (ring o : Nat) : Nat := if ring < 64 then sp ring 0x32 (0x100 + o) else pg 0x32 (0x100 + o)

/-- Entries of a ring: 2^log2, and the nearest of 4 and 12 where log2 is neither nor between (DEDUCED, log entry 20). -/
def ringSize (b : Block) (ring : Nat) : Nat := 2 ^ max 4 (min 12 (rd b (ringReg ring 0x08) % 16))

/-- Base of a ring (R482). -/
def ringBase (b : Block) (ring : Nat) : Nat := rd b (ringReg ring 0) / 32 * 32 + rd b (ringReg ring 4) % 256 * 2 ^ 32

/-- The descriptors of a ring that the engine holds. -/
def ringDescs (b : Block) (ring : Nat) : List DmaDesc := b.dma.filter (fun d => d.ring == ring)

/-- Channels that a ring occupies. -/
def ringChans (b : Block) (ring : Nat) : Nat := ((ringDescs b ring).filter (fun d => d.chan.isSome)).length

/-- DMA tokens of a ring: the instance's share, or VIM_CFG.mgrtok (R463). -/
def ringTokens (b : Block) (ring : Nat) : Nat := if ring < 64 then shareW b ring 1 % 64 else cfg b F.VIM_CFG_mgrtok

/-- Show what the engine holds of a ring, and the channels (R481, R482). -/
def showDma (ring : Nat) (b : Block) : Block :=
  b |> wr (ringReg ring 0x18) (ringChans b ring * 256 + (ringDescs b ring).length)
    |> fset F.DMA_STAT_busy (b.dma.filter (fun d => d.chan.isSome)).length
    |> each (fun c b => wr (R.DMA_CHAN c)
        (match b.dma.find? (fun d => d.chan == some c) with | some d => 2 ^ 31 + ringRqid d.ring | none => 0) b) (List.range 32)

/-- A descriptor ends (R464, R465): count and then status written back with the ring's RQID, the counters and events of its ring;
`cls` is the class of an error. During a quiesce it counts as finished or aborted (R467). -/
def dmaEnd (d : DmaDesc) (code cls : Nat) (b : Block) : Block :=
  let rq := ringRqid d.ring
  let b := { b with dma := b.dma.eraseP (fun x => x.ring == d.ring && x.addr == d.addr && x.chan == d.chan) }
  let (s1, b) := engWrite rq (d.addr + 28) (leBytes 4 d.done) b
  let (_, b) := if s1 = .ok then engWrite rq (d.addr + 24) (leBytes 4 (code + cls * 256)) b else (s1, b)
  let b := b |> cnt (ringReg d.ring 0x14) |> showDma d.ring
  if d.ring < 64 then
    b |> (fun b => if instState b d.ring = 3 then
            (if code = 5 then fset (F.VIM_QRES_aborted d.ring) (fget b (F.VIM_QRES_aborted d.ring) + 1) b
             else fset (F.VIM_QRES_finished d.ring) (fget b (F.VIM_QRES_finished d.ring) + 1) b) else b)
      |> cond (bitOf d.flags 0) (ievt 0x32 d.ring 0)
      |> cond (decide (1 < code)) (fun b => b |> instErr 0x32 d.ring cls code d.id |> ievt 0x32 d.ring 1)
      |> cond (code == 5) (raiseP EV.DMA_ABORT (leBytes 4 d.ring ++ leBytes 4 d.id))
  else b |> cond (decide (1 < code)) (raiseP EV.DMA_ERROR (leBytes 4 code ++ leBytes 4 d.id))

/-- Code and class of an outcome other than ok (R465). -/
def dmaCode (s : Status) : Nat × Nat :=
  match s with | .address => (3, 1) | .ue => (4, 2) | .poison => (4, 2) | _ => (2, 0)

/-- Whether a ring is fetched: an instance's while ICTL.en is set, it is RUNNING and it has tokens (R453, R461, R482). -/
def ringOn (b : Block) (ring : Nat) : Bool :=
  if ring < 64 then bitOf (rd b (sp ring 0x32 0x008)) 0 && instState b ring == 2 && decide (0 < ringTokens b ring) else true

/-- DMA_FETCH: the next descriptor of a ring joins the engine queue (R463). -/
def dmaFetch (ring : Nat) (b : Block) : Block :=
  let h := rd b (ringReg ring 0x10)
  if !ringOn b ring || h == rd b (ringReg ring 0x0C) || decide (64 ≤ (ringDescs b ring).length) then b
  else
    let a := ringBase b ring + 32 * (h % ringSize b ring)
    let b := wr (ringReg ring 0x10) ((h + 1) % ringSize b ring) b
    match engRead (ringRqid ring) a 32 b with
    | (.ok, l, b) =>
      let f (o n : Nat) : Nat := leNat ((l.drop o).take n)
      showDma ring { b with dma := b.dma ++ [⟨ring, a, f 0 8, f 8 8, f 16 4, f 20 2, f 22 2, 0, none⟩] }
    | (st, _, b) => let (c, k) := dmaCode st; dmaEnd ⟨ring, a, 0, 0, 0, 0, 0, 0, some 32⟩ c k b

/-- Whether a descriptor is valid (R464, R465). -/
def DmaDesc.valid (d : DmaDesc) : Bool :=
  decide (d.flags < 8) && d.len != 0 && decide (d.dst < 2 ^ 40) && (bitOf d.flags 2 || decide (d.src < 2 ^ 40))

/-- DMA_DESCRIPTOR_START: the next waiting descriptor of a ring starts on the lowest free channel, within the ring's tokens and
after its fence (R463, R464). With tokens 0, what the engine already holds goes on one at a time (R461; DEDUCED, log entry 20). -/
def dmaStart (ring : Nat) (b : Block) : Block :=
  let l := ringDescs b ring
  match l.find? (fun d => d.chan.isNone) with
  | none => b
  | some d =>
    let free := (List.range 32).find? (fun c => !b.dma.any (fun x => x.chan == some c))
    if max 1 (ringTokens b ring) ≤ ringChans b ring ∨ (bitOf d.flags 1 = true ∧ l.head? ≠ some d) then b
    else match free with
    | none => b
    | some c =>
      if !d.valid then dmaEnd d 6 3 b
      else showDma ring { b with dma := b.dma.map (fun x => if x = d then { x with chan := some c } else x) }

/-- Every descriptor of a ring that the engine holds ends with code 5 (R467, R470). -/
def dmaAbort (ring : Nat) (b : Block) : Block := each (fun d b => dmaEnd d 5 6 b) (ringDescs b ring) b

/-- A ring after its instance's reset (R469). -/
def dmaReset (ring : Nat) (b : Block) : Block :=
  showDma ring { b with dma := b.dma.filter (fun d => d.ring != ring) } |> wr (ringReg ring 0x0C) 0 |> wr (ringReg ring 0x10) 0

/-- A write of TAIL by `rqid` (R482). -/
def dmaDoorbell (rqid ring tail : Nat) (b : Block) : Block :=
  let a := ringReg ring 0x0C
  let j := judge b rqid a (.word 4) Need.write
  let b := { b with resp := ⟨j.status, 0⟩ }
  if j.status = .ok then wr a (tail % 4096) b else accessFault j rqid a Need.write b

/-- DMA_CMD CLRCNT (R481): the counts of finished descriptors. -/
def dmaClrcnt (b : Block) : Nat × Block := (0, zeroRegs (R.DMA_DONE :: (List.range 64).map R.DMA_I_DONE) b)

/-- DPL_CMD CLRCNT (R483). -/
def dplClrcnt (b : Block) : Nat × Block := (0, zeroRegs ((List.range 64).map R.DPL_OUTSIDE) b)

end Sys2Proof.Machine
end

