-- ==== Sys2Proof/Machine/MemErr.lean ====
section
/-! DEFINITION. Memory errors: the device count of DDR5, patrols of memory and flash, MEM's commands, and a harrow pass (R32–R36, R76,
R148, R149, R152). -/

namespace Sys2Proof.Machine

/-! ### Patrols -/

/-- The codewords of memory kind `k` (0 on-die SRAM, 1 DDR5, 2 MRAM) of a list. -/
def ofKind (k : Nat) (l : List Nat) : List Nat := l.filter (fun c => memKind c == k)

/-- DDR5 is in self-refresh: from the load shed until the reset that follows (R64). -/
def selfRefresh (b : Block) : Bool := running b && fget b F.PWR_STAT_state == 2

/-- MEMORY_PATROL over kind `k`, with the errors that have arisen in it: corrected words are written back and counted, uncorrectable
ones poisoned and recorded (R32, R35, R148). -/
def memoryPatrol (k : Nat) (us : List Upset) (b : Block) : Block :=
  if k = 1 ∧ selfRefresh b = true then b
  else
  let us := us.filter (fun u => memKind u.addr == k)
  let b := each upset us b
  let fix := ofKind k b.corr
  let b := each cleanse fix (corrected k fix b)
  let b := each (fun c b => b |> poison c |> memFault c 4 k 0 0x3FF) (ofKind k b.uncorr) b
  raiseP EV.MEM_PATROL (leBytes 4 k) b

/-- FLASH_PATROL: blocks with a sector of 12 corrected bits or more, or last rewritten 2 years back, move to their spare blocks; of
the image slots A and B only one in a pass (R76). -/
def flashPatrol (l : List FlashBlk) (b : Block) : Block :=
  let need := l.filter (fun x => decide (12 ≤ x.bits) || x.old)
  let l := if need.any (fun x => x.slot == some 0) then need.filter (fun x => x.slot != some 1) else need
  each (fun x b => { b with remap := sset (fun i => i) b.remap x.block x.spare }) l b

/-! ### MEM commands -/

/-- MEM_CMD POP (R149). -/
def memPop (b : Block) : Nat × Block := (0, { b with memFifo := b.memFifo.drop 1 })

/-- MEM_CMD INJECT, which needs debug open with bit 3 of its scope (R149, R220), of `n` symbol errors, or of poison (R149); the errors join those that the word holds, and no rule names their device
(R31, R33). A poisoned word stays poisoned: only a full write and a harrow replace poison (R35, R36). -/
def memInject (n : Nat) (pz : Bool) (b : Block) : Nat × Block :=
  let a := fget b F.MEM_INJADDR_LO_addr + fget b F.MEM_INJADDR_HI_addr * 2 ^ 32
  if !debugMay b 3 then (0x11, b)
  else match targetOf b.part a with
  | .mem _ =>
    if pz then (0, poison a b)
    else if n = 0 then (0x12, b)
    else (0, upset ⟨a, 10, n⟩ b)
  | _ => (0x12, b)

/-! ### Harrow passes -/

/-- A pass of `kind` begins (R171). -/
def harrowBegin (kind : Nat) (b : Block) : Block := b |> fset F.HRW_STAT_kind kind |> fset F.HRW_STAT_busy 1

/-- A pass over ranges (address, bytes) completes after `us` µs, with the words that fail their verify twice (R152, R171); a line of DDR5 with
all 8 symbols of a device wrong marks the device (R34). -/
def harrowDone (kind : Nat) (ranges : List (Nat × Nat)) (fails : List Upset) (us : Nat) (b : Block) : Block :=
  let inside (u : Upset) : Bool := ranges.any (fun r => decide (r.1 ≤ u.addr) && decide (u.addr < r.1 + r.2))
  let bad := fails.filter inside
  let b := each (fun r b => wipe r.1 r.2 b) ranges b
  let b := each (fun u b => b |> poison u.addr |> cntSat R.HRW_ERRCNT |> cond (decide (8 ≤ u.n) && memKind u.addr == 1) (deviceHit (cwOf u.addr).1 (u.dev, u.n))
    |> raise EV.HRW_VERIFY) bad b
  let b := wr64 R.HRW_ERRADDR_LO (match bad with | u :: _ => u.addr | [] => 0) b
  b |> fset F.HRW_STAT_kind kind |> fset F.HRW_STAT_busy 0 |> wr64 R.HRW_BYTES_LO (ranges.map (·.2)).sum |> wr R.HRW_DURUS us
    |> raise EV.HRW_DONE

end Sys2Proof.Machine
end

