-- ==== Sys2Proof/Machine/Serial.lean ====
section
/-! DEFINITION. The serial lines of option S (R262–R269): framing by silences, transmission with lead and lag, the receive
ring, and the commands of an owner. -/

namespace Sys2Proof.Machine

/-- The state of line `p`. -/
def serial (b : Block) (p : Nat) : Ser := b.ser.getD p Ser.init

/-- Change the state of line `p`. -/
def modSer (p : Nat) (f : Ser → Ser) (b : Block) : Block := { b with ser := modAt Ser.init b.ser p f }

/-- The RQID of the owner of line `p`: the manager or an instance (R269). -/
def serOwner (b : Block) (p : Nat) : Nat := if cfgOn b (F.SER_PCFG_owner p) then cfg b (F.SER_PCFG_inst p) else 0x081

/-- Bit rate of a rate code (R262, R269). -/
def serRate (c : Nat) : Nat :=
  match c with | 0 => 1200 | 1 => 2400 | 2 => 4800 | 3 => 9600 | 4 => 19200 | 5 => 38400 | 6 => 57600 | _ => 115200

/-- The SER_PCFG word in force: a frame in progress keeps the one it began under (R266). -/
def serWord (b : Block) (p : Nat) : Nat := match (serial b p).cfg with | some w => w | none => cfgR b (R.SER_PCFG p)

/-- Settings in force: rate code, bits of a character, protocol (R262). -/
def serCfg (b : Block) (p : Nat) : Nat × Nat × Nat :=
  let w := serWord b p
  (bitsOf w 19 16, 10 + b2n (bitsOf w 15 14 != 0) + b2n (bitOf w 13), bitsOf w 9 8)

/-- Whether the parity bit received with byte `x` is wrong: even parity makes the number of ones even, odd parity odd (R262). -/
def parityBad (w : Nat) (x : Byte) (pbit : Bool) : Bool :=
  let ones := ((List.range 8).map (fun i => b2n (x.getLsbD i))).sum + b2n pbit
  match bitsOf w 15 14 with | 0 => false | 1 => ones % 2 == 1 | _ => ones % 2 == 0

/-- `n` bit times in ns. -/
def bitNs (rate n : Nat) : Nat := ceilDiv (n * 1000000000) (serRate rate)

/-- The gap silence ic in ns (R263). -/
def serIc (b : Block) (p : Nat) : Nat :=
  let (r, c, m) := serCfg b p
  match m with
  | 0 => bitNs r (cfg b (F.SER_PGAP_ic p))
  | 1 => if 4 < r then 750000 else ceilDiv (3 * c * 1000000000) (2 * serRate r)
  | _ => bitNs r c

/-- The end silence eof in ns, which is also the idle before transmit (R263). -/
def serEof (b : Block) (p : Nat) : Nat :=
  let (r, c, m) := serCfg b p
  match m with
  | 0 => bitNs r (cfg b (F.SER_PGAP_eof p))
  | 1 => if 4 < r then 1750000 else ceilDiv (7 * c * 1000000000) (2 * serRate r)
  | _ => bitNs r 33

/-- Fit for use: option S, line enabled. -/
def serOn (b : Block) (p : Nat) : Bool := b.part.optS && cfgOn b (F.SER_PCFG_en p) && !(serial b p).held

/-- The phase and end of a transmission. -/
def setTx (p : Nat) (x : SerTx) (t : Nat) (b : Block) : Block := modSer p (fun s => { s with tx := x, txAt := t }) b

/-- End a transmission: the line is free, the receiver enabled (R264). -/
def serFree (p : Nat) (b : Block) : Block :=
  b |> modSer p (fun s => { s with tx := .idle, txBytes := [], abort := false }) |> fset (F.SER_STAT_txbusy p) 0

/-- Characters of the frame in transmission that have not begun to leave by now (R264). -/
def charsLeft (b : Block) (p : Nat) : Nat :=
  let s := serial b p
  if s.tx = .data ∧ s.abort = false then (s.txAt - ns b) / bitNs (serCfg b p).1 (serCfg b p).2.1 else 0

/-- Tell that the output of line `p` ends before its frame does. -/
def endEarly (p : Nat) (b : Block) : Block :=
  cond (decide (0 < charsLeft b p)) (emit (.serialEnd p ((serial b p).txBytes.length - charsLeft b p))) b

/-- Driver and receiver of line `p` off: what was under way ends (R41, R266, R269). -/
def serOff (p : Nat) (b : Block) : Block :=
  b |> endEarly p |> modSer p (fun s => { s with
      tx := .idle, txBytes := [], abort := false, rx := [], rxOn := false, rxFlags := 0, gap := false, reply := none, cfg := none })
    |> fset (F.SER_STAT_txbusy p) 0 |> fset (F.SER_STAT_rxactive p) 0 |> fset (F.SER_STAT_await p) 0

/-- SER_CMD SEND on line `p` by `rqid` (R264, R266). -/
def serSend (rqid p : Nat) (b : Block) : Nat × Block :=
  let n := fget b (F.SER_TXLEN_len p)
  let o := serOwner b p
  if rqid ≠ o then (0x11, b)
  else if (serial b p).tx ≠ .idle ∨ !serOn b p then (0x10, b)   -- an idle line cannot send (DEDUCED, log entry 43)
  else if n = 0 ∨ 512 < n then (0x12, b)
  else match engRead o (rd b (R.SER_TXADDR_LO p) + rd b (R.SER_TXADDR_HI p) % 256 * 2 ^ 32) n b with
    | (.ok, l, b) =>
      (0, b |> modSer p (fun s => { s with tx := .wait, txBytes := l, abort := false }) |> fset (F.SER_STAT_txbusy p) 1)
    | (st, _, b) => (statusCode st, if o < 64 then instErr 0x36 o (statusClass st) 0 p b else b)

/-- SER_CMD RXPOP on line `p` (R265, R266). -/
def serPop (rqid p : Nat) (b : Block) : Nat × Block :=
  if rqid ≠ serOwner b p then (0x11, b)
  else if (serial b p).occ = 0 then (0x10, b)
  else (0, b |> modSer p (fun s => { s with occ := s.occ - 1 })
    |> fset (F.SER_RXHEAD_slot p) ((fget b (F.SER_RXHEAD_slot p) + 1) % 8))

/-- SER_CMD ABORT on line `p`: the character in progress ends and the driver is released after lag (R266). -/
def serAbort (rqid p : Nat) (b : Block) : Nat × Block :=
  let s := serial b p
  if rqid ≠ serOwner b p then (0x11, b)
  else match s.tx with
    | .idle => (0x10, b)
    | .wait => (0, serFree p b)
    | .data =>
      let (r, c, _) := serCfg b p
      let ch := bitNs r c
      let left := (s.txAt - ns b) % ch
      (0, if s.abort then b else b |> endEarly p |> modSer p (fun s => { s with abort := true, txAt := ns b + left }))
    | _ => (0, modSer p (fun s => { s with abort := true, tx := .data, txAt := ns b }) b)

/-- SER_IDLE_READY: the line has been idle long enough; driver enabled, receiver disabled (R264). -/
def serIdle (p : Nat) (b : Block) : Block :=
  let s := serial b p
  if s.tx ≠ .wait ∨ s.rxOn ∨ !serOn b p then b
  else
    let b := advanceTo (if s.rxEnd = 0 then 0 else s.rxEnd + serEof b p) b
    setTx p .lead (ns b + cfg b (F.SER_PTIM_lead p) * 1000) b

/-- SER_LEAD_END: the first start bit (R264). -/
def serLeadEnd (p : Nat) (b : Block) : Block :=
  let s := serial b p
  if s.tx ≠ .lead ∨ !serOn b p then b
  else
    let b := advanceTo s.txAt b
    let c := serCfg b p
    let t := ns b + bitNs c.1 (c.2.1 * s.txBytes.length)
    let w := serWord b p
    b |> modSer p (fun s => { s with tx := .data, txAt := t, cfg := some w }) |> emit (.serial p s.txBytes w)

/-- SER_LAG_END: lag after the last stop bit; the reply timer starts (R264, R266). -/
def serLagEnd (p : Nat) (b : Block) : Block :=
  let s := serial b p
  if s.tx ≠ .data then b
  else
    let b := advanceTo (s.txAt + cfg b (F.SER_PTIM_lag p) * 1000) b
    let rep := cfg b (F.SER_PTIM_reply p)
    let t := if rep = 0 then none else some (ns b + rep * 1000000)
    let b := b |> serFree p |> modSer p (fun s => { s with reply := t, cfg := none, rxEnd := s.txAt }) |> fset (F.SER_STAT_await p) (b2n t.isSome)
    if s.abort then b else raise (EV.SER p 1) b

/-- SER_CHARACTER_RECEIVE: the start bit of a byte arrives now, which stops the reply timer; the byte ends one character time later,
with the parity bit received, a framing error or a break (R262, R264, R265). A gap before it is a gap inside the frame (R263). -/
def serChar (p : Nat) (x : Byte) (pbit framing brk : Bool) (b : Block) : Block :=
  let s := serial b p
  if !serOn b p || !(s.tx == .idle || s.tx == .wait) then b
  else
    let c := serCfg b p
    let w := serWord b p
    let first := !s.rxOn
    let start := ns b
    let fl := b2n (parityBad w x pbit) + 2 * b2n framing + 4 * b2n s.gap + 8 * b2n (decide (512 ≤ s.rx.length)) + 16 * b2n brk
    let now := ns b + bitNs c.1 c.2.1
    b |> modSer p (fun s => { s with
        rxOn := true, rx := if s.rx.length < 512 then s.rx ++ [x] else s.rx
        rxFlags := (if first then 0 else s.rxFlags) ||| fl, rxStart := if first then start else s.rxStart
        rxEnd := now, reply := none, cfg := some w, gap := false })
      |> fset (F.SER_STAT_rxactive p) 1 |> fset (F.SER_STAT_await p) 0

/-- SER_GAP_SILENCE: a silence exceeds ic. It sets the frame's gap flag when the frame goes on, not when the silence ends it (R263). -/
def serGap (p : Nat) (b : Block) : Block :=
  let s := serial b p
  if !s.rxOn then b else b |> advanceTo (s.rxEnd + serIc b p) |> modSer p (fun s => { s with gap := true })

/-- The 16-byte header of a ring slot (R265). -/
def serHeader (s : Ser) : List Byte :=
  leBytes 2 s.rx.length ++ leBytes 1 s.rxFlags ++ leBytes 1 0 ++ leBytes 4 s.rxStart ++ leBytes 4 s.rxEnd ++ leBytes 4 s.seq

/-- SER_END_SILENCE: the frame ends and is written into the ring (R263, R265). -/
def serEnd (p : Nat) (b : Block) : Block :=
  let s := serial b p
  if !s.rxOn then b
  else
    let b := b |> advanceTo (s.rxEnd + serEof b p) |> fset (F.SER_STAT_rxactive p) 0
      |> modSer p (fun s => { s with rxOn := false, rx := [], rxFlags := 0, gap := false, seq := s.seq + 1, cfg := none })
    if s.occ = 8 then b |> cnt (R.SER_RXDROP p) |> raise (EV.SER p 4)
    else
      let o := serOwner b p
      let a := cfgR b (R.SER_RING_LO p) / 64 * 64 + cfgR b (R.SER_RING_HI p) % 256 * 2 ^ 32 + 528 * ((fget b (F.SER_RXHEAD_slot p) + s.occ) % 8)
      match engWrite o a (serHeader s ++ s.rx) b with
      | (.ok, b) =>
        let b := b |> modSer p (fun s => { s with occ := s.occ + 1 }) |> cnt (R.SER_RXFRM p)
        let b := if s.rxFlags ≠ 0 then b |> cnt (R.SER_RXERR p) |> raise (EV.SER p 3) else b
        raise (EV.SER p 0) b
      | (st, b) => b |> cnt (R.SER_RXDROP p) |> (fun b => if o < 64 then instErr 0x36 o (statusClass st) 0 p b else b)

/-- SER_REPLY_TIMEOUT (R264). -/
def serTimeout (p : Nat) (b : Block) : Block :=
  match (serial b p).reply with
  | none => b
  | some t => b |> advanceTo t |> modSer p (fun s => { s with reply := none }) |> fset (F.SER_STAT_await p) 0
    |> cnt (R.SER_TIMEOUT p) |> raise (EV.SER p 2)

/-- The ring of line `p` is abandoned (R266). -/
def serAbandon (p : Nat) (b : Block) : Block :=
  b |> cntN (R.SER_RXDROP p) (serial b p).occ |> modSer p (fun s => { s with occ := 0 }) |> wr (R.SER_RXHEAD p) 0

/-- Whether the shadow of SER breaks R269. -/
def serRefuses (b : Block) : Bool :=
  (List.range 2).any (fun p =>
    decide (7 < shd b (F.SER_PCFG_rate p)) || shd b (F.SER_PCFG_parity p) == 3 || shd b (F.SER_PCFG_proto p) == 3 ||
      (shd b (F.SER_PCFG_proto p) == 0 && (shd b (F.SER_PGAP_ic p) == 0 || decide (shd b (F.SER_PGAP_eof p) ≤ shd b (F.SER_PGAP_ic p)))) ||
      (shdOn b (F.SER_PCFG_owner p) && !instExists b (shd b (F.SER_PCFG_inst p))))

/-- A swap that changes the owner of a line abandons its ring (R266); one that clears en turns driver and receiver off (R269). -/
def serSwapped (old : List Nat) (b : Block) : Block :=
  each (fun p b =>
    let b := if serOwner b p = old.getD p 0 then b else serAbandon p b
    let b := cond (!cfgOn b (F.SER_PCFG_en p)) (serOff p) b
    if serOwner b p < 64 ∧ instState b (serOwner b p) ≠ 2 then b else modSer p (fun s => { s with held := false }) b) [0, 1] b

/-- The owner's reset: as a change of owner, and the line is idle until the swap after the instance starts again (R266). -/
def serOwnerReset (n : Nat) (b : Block) : Block :=
  each (fun p b => if serOwner b p = n then b |> serAbandon p |> serOff p |> modSer p (fun s => { s with held := true }) else b) [0, 1] b

end Sys2Proof.Machine
end

