-- ==== Sys2Proof/Machine/Vim.lean ====
section
/-! DEFINITION. The virtual instance manager (R453–R461, R466–R471, R476–R480). -/

namespace Sys2Proof.Machine

/-- Change VIM's own state. -/
def modVim (f : Vim → Vim) (b : Block) : Block := { b with vim := f b.vim }

/-! ### Share tables -/

/-- The block as it would be with the shadow share tables in force. -/
def shareNext (b : Block) : Block := { b with shareB := !b.shareB }

/-- Whether the active share record of instance `n` has en set (R453). -/
def shareEn (b : Block) (n : Nat) : Bool := bitOf (shareW b n 0) 31

/-- The granules that either copy of the owner tables lists. -/
def granules (b : Block) : List (Bool × Nat) :=
  (b.tabs.filterMap (fun x =>
    let k := x.1 % 2 ^ 48
    if k / 2 ^ 24 = 0x314 then some (false, k / 256 % 65536) else if k / 2 ^ 24 = 0x316 then some (true, k / 256 % 65536) else none)).eraseDups

/-- The instance that owns a granule; none for one not assigned (R456). -/
def granOwner (b : Block) (g : Bool × Nat) : Option Nat :=
  let w := ownerW b g.1 g.2
  if bitOf w 31 then some (w % 64) else none

/-- Address and size of a granule (R455). -/
def granSpan (g : Bool × Nat) : Nat × Nat := if g.1 then (0x200000 * g.2, 0x200000) else (0x1000000000 + 0x10000 * g.2, 0x10000)

/-- Granules that instance `n` owns. -/
def granulesOf (b : Block) (n : Nat) : List (Bool × Nat) := (granules b).filter (fun g => granOwner b g == some n)

/-- The block as it would be after a global swap: every unlocked page on its other copy. -/
def swapNext (b : Block) : Block :=
  { b with bankB := allPages.filter (fun q => if cfgLocked b q then b.bankB.contains q else !b.bankB.contains q) }

/-- The block with the banks that a global swap pending for a boundary up to `k` puts in force (R29). -/
def afterSwap (k : Nat) (b : Block) : Block :=
  match b.bnk.pend with
  | some p => if p.idx ≤ k then swapNext b else b
  | none => b

/-- Slot ranges of the shadow share records: instance, unit, first, count (R456). -/
def slotRanges (b : Block) : List (Nat × Nat × Nat × Nat) :=
  ((List.range 64).map (fun n => (List.range 8).map (fun u =>
    let w := shareWShd b n (2 + u); (n, u, bitsOf w 9 0, bitsOf w 26 16)))).flatten.filter (fun r => r.2.2.2 != 0)

/-- Whether two slot ranges overlap on one unit. -/
def rangesClash (x y : Nat × Nat × Nat × Nat) : Bool :=
  x.2.1 == y.2.1 && decide (x.2.2.1 < y.2.2.1 + y.2.2.2) && decide (y.2.2.1 < x.2.2.1 + x.2.2.2)

/-- Whether any two of a list of slot ranges overlap. -/
def anyRangeClash : List (Nat × Nat × Nat × Nat) → Bool
  | [] => false
  | x :: l => l.any (rangesClash x) || anyRangeClash l

/-- The checks of R457 from order 2 on, under the configuration that `c` has in force. -/
def shareCodeIn (c b : Block) : Nat :=
  let sh := shareNext c
  let r := slotRanges b
  if (granules b).any (fun g => granOwner b g != granOwner sh g && b.vim.mapped.contains g) then 0x10
  else if (List.range 64).any (fun n => shareEn b n && !shareEn sh n && instState b n != 1) then 0x10
  else if 32 < ((List.range 64).map (fun n => shareW sh n 1 % 64)).sum + cfg c F.VIM_CFG_mgrtok then 0x12
  else if r.any (fun x => decide (1024 < x.2.2.1 + x.2.2.2) || (x.2.1 == 0 && decide (x.2.2.1 < 160))) || anyRangeClash r then 0x12
  else if (!b.part.ddr32 && (granules b).any (fun g => g.1 && decide (8192 ≤ g.2) && (granOwner sh g).isSome))
      || (List.range 64).any (fun n => decide (98304 < shareW sh n 0 % 2 ^ 17)) then 0x12
  else if (List.range 64).any (fun n => (slotsOf b n).any (fun s => slotOf sh n s &&
      (let l := job b true s; jEn l && (jType l == 1 || jType l == 2) && !chanSub sh n (jIn l 0)))) then 0x12
  else if (tasksOn c).any (fun t => !inShare sh (tInst (taskEnt c t)) (tBlk (taskEnt c t)) 0x10000) then 0x12
  else 0

/-- The checks under the configuration of the boundary `k` that the change would apply at (R29). -/
def shareCode (k : Nat) (b : Block) : Nat := shareCodeIn (afterSwap k b) b

/-! ### Agreement with the peer (R460) -/

/-- The digest of a request: the shadow share tables, and for START and RESUME the command and its instance (DESIGN CHOICE, log entry 17). -/
def vimDigest (b : Block) (kind n : Nat) : Nat :=
  Config.bankDigest (shareView (shareNext b) ++ (if kind = 0 then [] else [(kind, n)]))

/-- Put a checked command in force for a boundary, none for the next one. -/
def vimSchedule (kind n : Nat) (at_ : Option Nat) (b : Block) : Block :=
  if kind = 0 then b |> modVim (fun v => { v with pend := some at_ }) |> fset F.VIM_STAT_pending 1 |> fset F.VIM_STAT_agreed (b2n at_.isSome)
  else modVim (fun v => { v with starts := ⟨n, kind == 2, at_⟩ :: v.starts.filter (fun x => x.n != n) }) b

/-- SHARE, START and RESUME once checked: on a pair with the span up the peer is asked; with it down the boundary 16 indices on is
taken; alone, the next boundary (R116, R460). Answers the code, 1 while the peer is asked. -/
def vimAgree (kind n : Nat) (b : Block) : Nat × Block :=
  let idx := rd64 b R.BNK_CURIDX_LO + 16
  if !paired b then (0, vimSchedule kind n none b)
  else if !agreed b then (0, vimSchedule kind n (some idx) b)
  else (1, b |> modVim (fun v => { v with ask := some ⟨kind, n, idx, ns b⟩ }) |> spanSend (.agree 3 false false idx (vimDigest b kind n)))

/-- The check of START or RESUME in this module (R454, R216). S17 in its alternate way leaves its instance out, which cannot START until the
step is done (R154; DEDUCED, log entry 64). -/
def startCode (kind n : Nat) (b : Block) : Nat :=
  if kind = 1 then
    (if b.start.step = 17 ∧ b.start.busy = true ∧ b.start.leftOut = some n then 0x10
     else if instState b n == 1 && shareEn b n && !(sget (fun _ => []) b.trust.slots n).isEmpty then 0 else 0x10)
  else if instState b n == 4 then 0 else 0x10

/-- The check of any of the three. -/
def vimCode (kind n : Nat) (b : Block) : Nat :=
  if kind = 0 then (if b.vim.pend.isSome then 0x10 else shareCode (rd64 b R.BNK_CURIDX_LO + (if paired b then 16 else 1)) b) else startCode kind n b

/-- VIM_CMD SHARE, START or RESUME (R454, R457, R460). -/
def vimAsk (kind n : Nat) (b : Block) : Nat × Block :=
  if noLease b then (0x13, b)
  else match vimCode kind n b with
    | 0 => vimAgree kind n b
    | c => (c, b)

/-- The peer did not agree, or did not answer (R460). -/
def vimRefused (b : Block) : Block :=
  b |> modVim (fun v => { v with ask := none }) |> complete (pg 0x31 0x2C) 0x20 |> raise EV.VIM_PEERREFUSED

/-- The peer asks (kind 3): the command is the one whose digest matches; it is checked and answered, and takes effect here when it
is agreed (R116, R460; DESIGN CHOICE, log entry 17). -/
def vimAsked (idx digest : Nat) (b : Block) : Block :=
  let cands := (0, 0) :: ((List.range 64).map (fun n => (1, n)) ++ (List.range 64).map (fun n => (2, n)))
  let hit := cands.find? (fun c => vimDigest b c.1 c.2 == digest)
  match hit with
  | some (kind, n) =>
    if agreed b ∧ rd64 b R.BNK_CURIDX_LO < idx ∧ vimCode kind n b = 0 then
      b |> vimSchedule kind n (some idx) |> spanSend (.agree 4 false true idx digest)
    else spanSend (.agree 4 false false idx digest) b
  | none => spanSend (.agree 4 false false idx digest) b

/-- What was agreed for boundary `idx` is taken back: the share change, or the START or RESUME (R116, R460). -/
def vimTakeBack (idx : Nat) (b : Block) : Block :=
  let b := if b.vim.pend = some (some idx) then
      b |> modVim (fun v => { v with pend := none }) |> fset F.VIM_STAT_pending 0 |> fset F.VIM_STAT_agreed 0
    else b
  modVim (fun v => { v with starts := v.starts.filter (fun x => x.at_ != some idx) }) b

/-- The peer answers (kind 4), or the holder takes a request back (R116, R460). A good answer that comes after the command has ended is
answered by taking the request back, so that neither module acts. -/
def vimAnswered (good : Bool) (idx : Nat) (b : Block) : Block :=
  match b.vim.ask with
  | none =>
    if !holder b then (if good then b else vimTakeBack idx b)
    else if good && b.vim.pend != some (some idx) && !b.vim.starts.any (fun x => x.at_ == some idx) then spanSend (.agree 4 false false idx 0) b
    else b
  | some a =>
    if a.idx ≠ idx then b
    else if good ∧ rd64 b R.BNK_CURIDX_LO < idx then
      b |> modVim (fun v => { v with ask := none }) |> vimSchedule a.kind a.n (some idx) |> complete (pg 0x31 0x2C) 0
    else vimRefused b

/-- No answer within 1 ms: the request is taken back, so that the peer does not act on it either (R116, R460). -/
def vimAskTimeout (b : Block) : Block :=
  match b.vim.ask with
  | none => b
  | some a => b |> advanceTo (a.sentAt + 1000000) |> vimRefused |> spanSend (.agree 4 false false a.idx 0)

/-- VIM_CMD CANCELSHARE (R457). -/
def vimCancelshare (b : Block) : Nat × Block :=
  if b.vim.pend.isNone then (0x10, b)
  else (0, b |> modVim (fun v => { v with pend := none }) |> fset F.VIM_STAT_pending 0 |> fset F.VIM_STAT_agreed 0)

/-! ### What a reset does elsewhere (R469) -/

/-- Frames queued toward instance `n` are discarded and counted (R469). -/
def dropQueued (n : Nat) (b : Block) : Block :=
  each (fun c b =>
    let l := queueOf b 14 c
    let mine := l.filter (fun q => q.f.inst == some n)
    if mine.isEmpty then b
    else b |> setQueue 14 c (l.filter (fun q => q.f.inst != some n)) |> cntN (sp n 0x1E 0x108) mine.length) (List.range 8) b

/-- The effects of a reset or removal of instance `n` outside VIM (R469); `slots` are its PHE slots. SVI stops writing the
instance's GOOSE records by its state (R349). -/
def resetEffects (n : Nat) (slots : List Nat) (b : Block) : Block :=
  b |> schReset n |> lgrReset n |> disableSlots slots
    |> (fun b => { b with trust := { b.trust with slots := sset (fun _ => []) b.trust.slots n [] } })
    |> dmaReset n |> fset (F.DPL_BMP_HI_en n) 0
    |> wr (R.EVR_I_PEND0 n) 0 |> wr (R.EVR_I_PEND1 n) 0
    |> cmpOwnerReset n |> serOwnerReset n |> dropQueued n
    |> modVim (fun v => { v with starts := v.starts.filter (fun x => x.n != n), qtmo := v.qtmo.filter (fun x => x.1 != n) })

/-- Every sub-page register of instance `n` returns to its reset value in both banks, and a pending instance swap is cancelled
(R113, R123, R468). -/
def clearSub (n : Nat) (b : Block) : Block :=
  { b with
    regs := b.regs.filter (fun x => let a := x.1 % 2 ^ 40; !(decide (0x3000000000 + n * 0x100000 ≤ a) && decide (a < 0x3000000000 + (n + 1) * 0x100000)))
    instB := b.instB.filter (· != n)
    bnk := { b.bnk with instPend := b.bnk.instPend.filter (· != n) } }

/-! ### The life cycle -/

/-- VIM_CMD QUIESCE (R454, R466). -/
def vimQuiesce (n : Nat) (b : Block) : Nat × Block :=
  if instState b n = 2 ∨ instState b n = 6 then
    (0, b |> setInst n 3 |> wr (R.VIM_QRES n) 0 |> modVim (fun v => { v with qtmo := sset (fun _ => 0) v.qtmo n (ns b + cfg b F.VIM_CFG_qtmo * 1000) }))
  else (0x10, b)

/-- A P or L release of instance `n` runs or waits in a window (R467). -/
def releasesRun (b : Block) (n : Nat) : Bool :=
  b.sch.cores.any (fun c => (c.queue ++ c.cur.toList).any (fun r => tInst r.snap.ent == n && decide (r.cls ≤ 1)))

/-- Instance `n` becomes QUIESCED when nothing of it is in flight (R467). -/
def quiesced (n : Nat) (b : Block) : Block :=
  if instState b n ≠ 3 ∨ (ringDescs b n).isEmpty = false ∨ releasesRun b n = true then b
  else b |> modVim (fun v => { v with qtmo := v.qtmo.filter (fun x => x.1 != n) }) |> setInst n 4
         |> raiseP EV.VIM_QDONE (leBytes 4 n ++ leBytes 4 (fget b (F.VIM_QRES_aborted n)))

/-- QUIESCE_TIMEOUT: the compare fires and the descriptors left are aborted (R467); a release still running is waited for (R471). -/
def quiesceTimeout (n : Nat) (b : Block) : Block :=
  match b.vim.qtmo.find? (fun x => x.1 == n) with
  | none => b
  | some (_, t) =>
    if instState b n ≠ 3 then b
    else b |> advanceTo t |> modVim (fun v => { v with qtmo := v.qtmo.filter (fun x => x.1 != n) }) |> dmaAbort n |> quiesced n

/-- The sequence of R468 from step 1: sub-pages, the effects of R469, and the harrow of the instance's granules begins. -/
def resetRun (n : Nat) (b : Block) : Block :=
  b |> setInst n 5 |> clearSub n |> resetEffects n (slotsOf b n)
    |> modVim (fun v => { v with resets := (n, granulesOf b n) :: v.resets.filter (fun x => x.1 != n) }) |> harrowBegin 2

/-- VIM_CMD RESET (R468). -/
def vimReset (n : Nat) (b : Block) : Nat × Block := if instState b n = 4 then (0, resetRun n b) else (0x10, b)

/-- Poison the words that the burst in progress of channel `c` had begun, `len` bytes of it (R470). -/
def poisonBurst (n : Nat) (x : Nat × Nat) (b : Block) : Block :=
  match b.dma.find? (fun d => d.ring == n && d.chan == some x.1) with
  | none => b
  | some d =>
    let a := d.dst + d.done
    let k := min x.2 (min (d.len - d.done) (256 - a % 256))
    if (judge b n a (.burst (max 1 k)) Need.write).status = .ok then each poison (cwsOf a k) b else b

/-- VIM_CMD FORCE_RESET (R470): `begun` gives for each channel in a burst how many bytes of it had been begun. -/
def vimForceReset (n : Nat) (begun : List (Nat × Nat)) (b : Block) : Nat × Block :=
  if [2, 3, 4, 6].contains (instState b n) then
    (0, b |> each (poisonBurst n) begun |> dmaAbort n |> stopInst n |> resetRun n)
  else (0x10, b)

/-- Granules wiped by a pass pass to their owner; the share change ends with the last of them, and an instance removed by it
becomes ABSENT (R454, R459, R461). -/
def granulesDone (l : List (Bool × Nat)) (b : Block) : Block :=
  let hold := b.granHold.filter (fun g => !l.contains g)
  let b := { b with granHold := hold } |> modVim (fun v => { v with resets := v.resets.map (fun r => (r.1, r.2.filter (fun g => !l.contains g))) })
  if hold.isEmpty ∧ fon b F.VIM_STAT_harrowing = true then
    b |> fset F.VIM_STAT_harrowing 0 |> each (fun n => setInst n 0) b.vim.removing |> modVim (fun v => { v with removing := [] })
      |> raise EV.VIM_SHAREDONE
  else b

/-- INSTANCE_RESET_DONE: the harrow of the reset of instance `n` completes after `us` µs, with the words that failed (R468); the DPL
bitmap is wiped with the granules. -/
def instanceResetDone (n : Nat) (fails : List Upset) (us : Nat) (b : Block) : Block :=
  match b.vim.resets.find? (fun r => r.1 == n) with
  | none => b
  | some (_, l) =>
    let map := (fget b (F.DPL_BMP_LO_addr n) * 4096 + fget b (F.DPL_BMP_HI_addr n) * 2 ^ 32, fget b (F.DPL_WINSZ_gran n) * 64)
    b |> harrowDone 2 (l.map granSpan ++ (if map.2 = 0 then [] else [map])) fails us
      |> modVim (fun v => { v with resets := v.resets.filter (fun r => r.1 != n) })
      |> granulesDone l |> setInst n 1 |> raiseP EV.VIM_RESETDONE (leBytes 4 n)

/-- SHARE_HARROW_DONE: the granules that a share change took are harrowed, but for those in a reset's pass (R459, R461). -/
def shareHarrowDone (fails : List Upset) (us : Nat) (b : Block) : Block :=
  if b.granHold.isEmpty then b
  else
    let l := b.granHold
    b |> harrowDone 2 (l.map granSpan) fails us |> granulesDone l

/-! ### The boundary (R454, R459, R461) -/

/-- Instance `n` and a share change: overshare, slots lost, existence. -/
def shareInst (old : Block) (n : Nat) (b : Block) : Block :=
  let cells := shareW b n 0 % 2 ^ 17
  let lost := (slotsOf old n).filter (fun s => !slotOf b n s)
  let masks (x : Block) : List Nat := (List.range 128).map (fun w => tget x (tkey 0x31 2 n w + if x.shareB then copyB else 0))
  let touched := (List.range 10).any (fun w => shareW old n w != shareW b n w) || masks old != masks b
    || (granules b).any (fun g => (granOwner old g == some n) != (granOwner b g == some n))
  let b := if lost.isEmpty then b else disableSlots lost b
  let b := if cells < shareW old n 0 % 2 ^ 17 ∧ cells < instCells b n ∧ fon b (F.VIM_ISTATE_overshare n) = false then
      b |> fset (F.VIM_ISTATE_overshare n) 1 |> instErr 0x31 n 4 0 0 |> ievt 0x31 n 1 |> raiseP EV.VIM_OVERSHARE (leBytes 4 n)
    else clearOvershare n b
  let b := if shareEn b n then
      b |> cond (decide (instState b n = 0)) (setInst n 1) |> modVim (fun v => { v with removing := v.removing.filter (· != n) })
    else b
  let b := if shareEn old n ∧ shareEn b n = false then
      b |> resetEffects n (slotsOf old n) |> modVim (fun v => { v with removing := n :: v.removing })
    else b
  if touched then ievt 0x31 n 2 b else b

/-- SHARE_APPLY at the boundary of `k` (R459). -/
def shareApply (k : Nat) (b : Block) : Block :=
  match b.vim.pend with
  | none => b
  | some at_ =>
    if k < at_.getD 0 then b
    else
      let n := shareNext b
      let left := (granules b).filter (fun g => (granOwner b g).isSome && granOwner b g != granOwner n g)
      let x := { n with granHold := n.granHold ++ left.filter (fun g => !n.granHold.contains g) }
        |> modVim (fun v => { v with pend := none })
        |> fset F.VIM_STAT_pending 0 |> fset F.VIM_STAT_agreed 0 |> fset F.VIM_STAT_harrowing 1
        |> each (shareInst b) (List.range 64)
        |> (fun b => fset F.VIM_STAT_ninst ((List.range 64).filter (shareEn b)).length b)
      if x.granHold.isEmpty then granulesDone [] x else harrowBegin 2 x

/-- START and RESUME at the boundary of `k` (R454). -/
def startsApply (k : Nat) (b : Block) : Block :=
  let due := b.vim.starts.filter (fun x => decide (x.at_.getD 0 ≤ k))
  b |> modVim (fun v => { v with starts := v.starts.filter (fun x => decide (k < x.at_.getD 0)) })
    |> each (fun x b => if instState b x.n = (if x.resume then 4 else 1) ∧ shareEn b x.n = true then setInst x.n 2 b else b) due

/-! ### Granules and tables -/

/-- The granule in VIM_GSEL. -/
def gsel (b : Block) : Bool × Nat := (fon b F.VIM_GSEL_ddr, fget b F.VIM_GSEL_gran)

/-- VIM_CMD MAP (R457, R458). -/
def vimMap (b : Block) : Nat × Block :=
  let g := gsel b
  if b.vim.pend.isSome ∧ granOwner b g ≠ granOwner (shareNext b) g then (0x10, b)
  else if (granOwner b g).isNone then (0x12, b)
  else (0, modVim (fun v => { v with mapped := if v.mapped.contains g then v.mapped else g :: v.mapped }) b)

/-- VIM_CMD UNMAP (R458). -/
def vimUnmap (b : Block) : Nat × Block := (0, modVim (fun v => { v with mapped := v.mapped.filter (· != gsel b) }) b)

/-- Entries of VIM table `t` (R477). -/
def vimSize (t : Nat) : Nat :=
  match t / 2 with | 0 => 64 | 1 => 512 | 2 => 1024 | 3 => 16384 | _ => 0

/-- The physical key of word `w` of entry `i` of VIM table `t`, less its copy (R477). -/
def vimKey (t i w : Nat) : Nat := if t / 2 = 1 then tkey 0x31 2 (i / 8) (16 * (i % 8) + w) else tkey 0x31 (t / 2 * 2) i w

/-- Word `w` of entry `i` of VIM table `t`: shadow for an even table, active for an odd one (R456, R477). -/
def vimWord (b : Block) (t i w : Nat) : Nat :=
  let v := tget b (vimKey t i w + if b.shareB == (t % 2 == 1) then copyB else 0)
  if 4 ≤ t then (if w = 0 then v + b2n (b.vim.mapped.contains (t / 2 == 3, i)) * 2 ^ 30 else 0) else v

/-- VIM_CMD TREAD (R477). -/
def vimTread (t : Nat) (b : Block) : Nat × Block :=
  tabRead (R.VIM_TDATA 0) 16 (vimSize t) (fget b F.VIM_TIDX_idx) (vimWord b t (fget b F.VIM_TIDX_idx)) b

/-- The bits of a share word, a mask word or an owner word that a write stores (R456). -/
def vimMask (t w : Nat) : Nat :=
  match t with
  | 0 => (match w with | 0 => 0x8001FFFF | 1 => 0x3F | _ => if w < 10 then 0x07FF03FF else 0)
  | 2 => 0xFFFFFFFF
  | _ => if w = 0 then 0x8000003F else 0

/-- VIM_CMD TWRITE (R457, R477). -/
def vimTwrite (t : Nat) (b : Block) : Nat × Block :=
  let i := fget b F.VIM_TIDX_idx
  if 7 < t then (0x12, b)
  else if t % 2 = 1 then (0x11, b)
  else if cfgLocked b 0x31 then (0x10, lockedWrite 0x31 b)
  else if b.vim.pend.isSome ∨ b.vim.ask.isSome then (0x10, pendWrite 0x31 b)
  else if vimSize t ≤ i then (0x12, b)
  else (0, each (fun w b => tset (vimKey t i w + if b.shareB then 0 else copyB) (rd b (R.VIM_TDATA w) &&& vimMask t w) b)
    (List.range (if 4 ≤ t then 1 else 16)) b)

/-- A shadow VIM_CFG that VIM refuses (R479). -/
def vimRefuses (b : Block) : Bool :=
  decide (shd b F.VIM_CFG_qtmo < 100 ∨ 50000 < shd b F.VIM_CFG_qtmo)
    || decide (32 < ((List.range 64).map (fun n => shareW b n 1 % 64)).sum + shd b F.VIM_CFG_mgrtok)

end Sys2Proof.Machine
end

