-- ==== Sys2Proof/Machine/Power.lean ====
section
/-! DEFINITION. Supply and power (R42–R44, R59–R70, R73, R74, R77–R83): the rail sequence, the supply monitor with its last-gasp
save set, dips, DECIDED and its reset, junction temperature and age. -/

namespace Sys2Proof.Machine

/-- Change the supply state. -/
def modPwr (f : Pwr → Pwr) (b : Block) : Block := { b with pwr := f b.pwr }

/-- State of the supply monitor: 0 NORMAL, 1 WARNED, 2 DECIDED (R62). -/
abbrev pwrState (b : Block) : Nat := fget b F.PWR_STAT_state

/-- VIN at the latest measurement, 10 mV units. -/
abbrev vinNow (b : Block) : Nat := fget b F.PWR_VIN_vin

/-- Whether HEALTH_N is driven low (R44, R156). -/
def healthLow (b : Block) : Bool :=
  b.pwr.phase != .on || b.pwr.rstLow || decide (b.start.last < 9) || (b.spk.record.isEmpty && decide (b.start.last < 18))
    || decide (pwrState b ≠ 0) || fon b F.SYS_STAT_logdead || fon b F.PWR_CTL_hforce

/-! ### The rail sequence -/

/-- The rails go: the block resets with `cause` and PWR_OK is low, or, for a thermal reset, held in reset (R60, R70). -/
def railsGo (phase : PwrPhase) (cause : Nat) (b : Block) : Block :=
  b |> modPwr (fun p => { p with phase := phase, nextCause := cause }) |> doReset cause (classOf cause)

/-- What the always-on domain loses with its supply (R60, R304, R589, R221). -/
def aoLost (b : Block) : Block :=
  { b with mtr := { b.mtr with ao := none }
           trust := { b.trust with fallowLevel := 0, dbgScope := 0, dbgNotAfter := 0, dbgStarts := 0, dbgOpen := false, dbgClosing := false } }
    |> modPwr (fun p => { p with aoValid := false }) |> wr R.DBG_STAT 0 |> wr R.PWR_ERR 0 |> wr R.PWR_ERRINFO 0

/-- VIN_START_RISE: VIN recognised above 5.6 V; `aoKept` tells whether the always-on domain kept its content (R59). -/
def vinStart (aoKept : Bool) (b : Block) : Block :=
  if b.pwr.phase ≠ .off then b
  else
    let b := if aoKept then b else aoLost b
    b |> modPwr (fun p => { p with phase := .rising, t0 := ns b })

/-- The module leaves reset, or may soon: TWIN_SIDE reads `side`, and is sampled if MOD_RST_N is high (R42). -/
def sampleSide (side : Bool) (b : Block) : Block :=
  let b := modPwr (fun p => { p with strap := side }) b
  if running b then fset F.PWR_STAT_side (b2n side) b else b

/-- PWR_OK_RISE: reset is released with the cause that the rails started with (R59, R150); TWIN_SIDE reads `side` (R42). SYS_RSTCAUSE.prevstep
stays that of the start that ended before the rails fell (R174). -/
def pwrOkRise (side : Bool) (b : Block) : Block :=
  if b.pwr.phase ≠ .rising then b
  else
    let ps := fget b F.SYS_RSTCAUSE_prevstep
    b |> modPwr (fun p => { p with phase := .on, strap := side }) |> doReset b.pwr.nextCause (classOf b.pwr.nextCause)
      |> fset F.SYS_RSTCAUSE_prevstep ps |> modPwr (fun p => { p with nextCause := 0, tp := ns b })

/-- VIN_ABANDON: below 5.00 V before PWR_OK has risen: nothing is recorded, and the next start carries cause 0 (R59). -/
def vinAbandon (b : Block) : Block :=
  if b.pwr.phase ≠ .rising then b else modPwr (fun p => { p with phase := .off, nextCause := 0 }) b

/-- HOLDUP_READY with the capacitance measured, µF (R59, R74). -/
def holdupReady (cap : Nat) (b : Block) : Block :=
  if b.pwr.phase ≠ .on ∨ fon b F.PWR_STAT_holdup_ready = true then b
  else b |> fset F.PWR_STAT_holdup_ready 1 |> fset F.PWR_HOLDUP_cap cap
    |> fset F.PWR_STAT_gasp_at_risk (b2n (decide (cap < 482))) |> cond (decide (cap < 525)) (raise EV.PWR_HOLDUP_LOW)

/-- RAIL_FAULT of rail `r`: latched, and a cold reset at once with no last gasp (R60). -/
def railFault (r : Nat) (b : Block) : Block :=
  if b.pwr.phase ≠ .on then b
  else b |> mtrCut |> cutSaves |> modPwr (fun p => { p with t0 := ns b }) |> railsGo .rising 3
    |> fset F.PWR_ERR_rail 1 |> fset F.PWR_ERRINFO_rail r

/-! ### The save set (R63) -/

/-- The first `n` of the four parts of the save set; the metering save reads back `good` (R63, R157). -/
def saveParts (n : Nat) (good : Bool) (b : Block) : Block :=
  b |> cond (decide (1 ≤ n)) (mput 0x180100000C 1 1)
    |> cond (decide (3 ≤ n)) (fun b => b |> elgOwnQueue 5 EV.PWR_WARN (leBytes 2 (vinNow b)) |> elgFlush)
    |> cond (decide (4 ≤ n)) (fun b => b |> mtrSaveDone true |> mtrSaveStart |> mtrSaveDone good)

/-- The decided reset: rails fall, or the module is held in reset after a thermal entry (R62, R65, R70); the start that a level 3 response
asked for meanwhile keeps its cause (R224). -/
def decidedReset (b : Block) : Block :=
  let c (x : Nat) : Nat := if b.pwr.deferred = .cold 0x0B then 0x0B else x
  if b.pwr.thermal then railsGo .thermal (c 4) b else railsGo .off (c 2) b

/-- Back to NORMAL: the dip is recorded (R62, R66). -/
def toNormal (rec_ : Nat) (b : Block) : Block :=
  let us := (rec_ - b.pwr.warnAt) / 1000
  let depth := b.pwr.vinMinDip
  b |> fset F.PWR_STAT_state 0
    |> mput 0x1801000800 20 ((mnat b 0x1801000800 4 + 1) % 2 ^ 32 + depth * 2 ^ 32 + us % 2 ^ 32 * 2 ^ 64
        + b.pwr.warnAt / 1000000000 % 2 ^ 32 * 2 ^ 96 + b.pwr.warnAt % 1000000000 * 2 ^ 128)
    |> modPwr (fun p => { p with recoverAt := none, firstSave := false })
    |> keyNormal |> tallyMode |> tallyClamp |> raiseP EV.PWR_RECOVER (leBytes 4 depth ++ leBytes 4 us)
    |> (fun b => if spanUp b then spanSend (.notice 2 []) b else b)

/-- What waits for the end of a save: the decided reset, a deferred cold reset, the return to NORMAL (R62, R65, R67). -/
def powerSettle (b : Block) : Block :=
  if gaspBusy b then b
  else if pwrState b = 2 then decidedReset b
  else match b.pwr.deferred, b.pwr.recoverAt with
  | .cold c, _ => doReset c (classOf c) b
  | .none, some t => if pwrState b = 1 then toNormal t b else b
  | .none, none => b

/-- A cold reset with `cause`, which waits while a save of the last gasp runs (R67, R168). -/
def coldReset (cause : Nat) (b : Block) : Block :=
  if gaspBusy b then modPwr (fun p => { p with deferred := if p.deferred = .cold 0x0B then p.deferred else .cold cause }) b
  else doReset cause 0 b

/-- Entry to WARNED, with the enclave's commit in step `k`, after a warning crossing at `cross` ns (R63, R66, R199, R528). -/
def enterWarned (k cross : Nat) (b : Block) : Block :=
  let v := vinNow b
  b |> fset F.PWR_STAT_state 1
    |> modPwr (fun p => { p with saving := true, firstSave := false, warnAt := cross, recoverAt := none, vinMinDip := v })
    |> raise EV.PWR_WARN |> (fun b => if spanUp b then spanSend (.notice 1 []) b else b) |> keyWarned k |> leaseGiveUp |> tallyMode

/-- VIN_WARNING_CROSS: from NORMAL to WARNED; in WARNED it cancels a recovery that waits; in fallow only the record is written
(R62, R63, R67). -/
def vinWarning (k : Nat) (b : Block) : Block :=
  if b.pwr.phase = .fallow then b |> elgOwnQueue 5 EV.PWR_WARN (leBytes 2 (vinNow b)) |> elgFlush
  else if b.pwr.phase ≠ .on then b
  else match pwrState b with
  | 0 => enterWarned k (ns b - 20000) b
  | 1 => modPwr (fun p => { p with recoverAt := none }) b
  | _ => b

/-- SAVE_SET_COMPLETE (R62, R63). -/
def saveSetComplete (good : Bool) (b : Block) : Block :=
  if !b.pwr.saving then b
  else b |> saveParts 4 good |> modPwr (fun p => { p with saving := false, firstSave := true }) |> powerSettle

/-- METERING_SAVE_REPEAT (R63). -/
def meteringSaveRepeat (b : Block) : Block := mtrRepeat b

/-- VIN_RECOVERY_CROSS (R62, R66, R67). -/
def vinRecovery (b : Block) : Block :=
  if pwrState b ≠ 1 then b else b |> modPwr (fun p => { p with recoverAt := some (ns b - 20000) }) |> powerSettle

/-! ### DECIDED -/

/-- Every J1 output takes its inactive state: BOUT and PLS open, PPS_OUT and TOUT low, SER drivers and receivers off (R41). What holds them
there is `outputsOn`; HEALTH_N is `healthLow`, AAP_CLK `aapClk`, and DBG_TDO is driven only by an answer of the test access port. -/
def outputsOff (b : Block) : Block :=
  b |> bioRefresh |> plsCut |> each serOff [0, 1] |> (fun b => { b with tim := { b.tim with pulse := [], tog := [], pps := none } })

/-- Load shed at the entry to DECIDED (R64, R41): cores stop (`coreRuns`), DDR5 refreshes itself (`selfRefresh`), the ports go down, every
output takes its inactive state, and saves of logic programs are cut. -/
def loadShed (b : Block) : Block :=
  b |> fset F.PWR_STAT_state 2
    |> tallyStops (fun _ => true)
    |> modSch (fun s => { s with cores := s.cores.map (fun c => { SchCore.init with lastOpen := c.lastOpen }), wins := [] })
    |> each (fun m => takeDown m) (List.range 14) |> fset F.TWN_STAT_lane1 0 |> fset F.TWN_STAT_lane2 0
    |> outputsOff |> cutSaves |> tallyMode

/-- VIN_RESET_CROSS: to DECIDED, from NORMAL through WARNED at the same time; supply lost while the module rests (R62, R67, R167). -/
def vinReset (k : Nat) (b : Block) : Block :=
  match b.pwr.phase with
  | .fallow => modPwr (fun p => { p with phase := .off, nextCause := 0 }) b
  | .thermal => modPwr (fun p => { p with phase := .off, nextCause := 0 }) b
  | .on =>
    (match pwrState b with
     | 0 => b |> enterWarned k (ns b - 20000) |> loadShed
     | 1 => b |> loadShed |> powerSettle
     | _ => b)
  | _ => b

/-- HOLDUP_ARRAY_FLOOR: the array reaches 12 V in DECIDED; how far a running save set has come is open (R62, R64; DESIGN CHOICE, log entry 2). -/
def holdupFloor (b : Block) : Block :=
  if pwrState b ≠ 2 then b
  else
    let b := if b.pwr.saving then b |> saveParts (fresh b % 4) true |> freshNext else b
    b |> mtrCut |> decidedReset

/-! ### Measurements and temperature -/

/-- PWR_MEASURE: VIN, input current, junction and base-face temperature, array voltage, the ageing ratio, and whether the VIN
sensors and the temperature sensors disagree (R73, R80, R82). Once the array has been charged, holdup_ready follows its 34 V (R78). -/
def pwrMeasure (vin iin tj tplate varray ratio : Nat) (vsense tsense : Bool) (b : Block) : Block :=
  if b.pwr.phase = .off then b
  else
    let was := fget b F.PWR_AGEMON_ratio
    let lim := fget b F.PWR_AGEMON_limit
    let b := b |> wr R.PWR_VIN (iin % 65536 * 65536 + vin % 65536) |> wr R.PWR_TEMP (tplate % 65536 * 65536 + tj % 65536)
      |> fset F.PWR_HOLDUP_varray varray |> fset F.PWR_AGEMON_ratio ratio
      |> modPwr (fun p => { p with vinMinDip := min p.vinMinDip (vin % 65536) })
      |> cond (fget b F.PWR_HOLDUP_cap != 0) (fset F.PWR_STAT_holdup_ready (b2n (decide (3400 ≤ varray % 65536))))
    if b.pwr.phase ≠ .on then b
    else b |> fset F.PWR_VINMIN_min (min (fget b F.PWR_VINMIN_min) (vin % 65536))
      |> cond vsense (setErr 0x01 0 0) |> cond tsense (setErr 0x01 1 0)
      |> cond (decide (was < lim ∧ lim ≤ ratio % 65536)) (raise EV.PWR_AGELIMIT)

/-- JUNCTION_HOT (R70). -/
def junctionHot (b : Block) : Block := if fon b F.PWR_STAT_hot then b else b |> fset F.PWR_STAT_hot 1 |> raise EV.PWR_HOT

/-- JUNCTION_COOL (R70). -/
def junctionCool (b : Block) : Block := if !fon b F.PWR_STAT_hot then b else b |> fset F.PWR_STAT_hot 0 |> raise EV.PWR_COOL

/-- JUNCTION_TRIP: WARNED and DECIDED together, or DECIDED (R62, R70). -/
def junctionTrip (k : Nat) (b : Block) : Block :=
  if b.pwr.phase ≠ .on then b
  else
    let b := modPwr (fun p => { p with thermal := true }) b
    match pwrState b with
    | 0 => b |> enterWarned k (ns b) |> loadShed
    | 1 => b |> loadShed |> powerSettle
    | _ => b

/-- THERMAL_RESTART: below 100 °C after a thermal reset (R70). -/
def thermalRestart (b : Block) : Block :=
  if b.pwr.phase ≠ .thermal then b else b |> modPwr (fun p => { p with phase := .on, tp := ns b })
    |> fset F.PWR_STAT_pwrok 1 |> sampleSide b.pwr.strap

/-- MOD_RST_N_LOW for 5 µs or longer (R43, R67, R167): the outputs go inactive even where a save defers the reset (R41). -/
def rstNLow (b : Block) : Block :=
  let b := b |> modPwr (fun p => { p with rstLow := true }) |> fset F.PWR_STAT_rstpin 0
  match b.pwr.phase with
  | .fallow => modPwr (fun p => { p with phase := .rising, nextCause := 9, t0 := ns b }) b
  | .on => b |> coldReset 1 |> outputsOff
  | _ => b

/-- MOD_RST_N_RISE (R43); TWIN_SIDE reads `side` (R42). -/
def rstNRise (side : Bool) (b : Block) : Block :=
  if !b.pwr.rstLow then b
  else b |> modPwr (fun p => { p with rstLow := false, tp := ns b }) |> fset F.PWR_STAT_rstpin 1 |> sampleSide side

/-- e^(x / 10¹²) in units of 10⁻¹², by the Taylor series of x / 16 with `n` terms and four squarings. -/
def expFix (n x : Nat) : Nat :=
  let s := 1000000000000
  let y := x / 16
  let e := ((List.range n).foldl (fun (a : Nat × Nat) k => (a.1 + a.2, a.2 * y / (s * (k + 1)))) (0, s)).1
  (List.range 4).foldl (fun e _ => e * e / s) e

/-- The equivalent hours at 55 °C that one hour at a base-face temperature of `tplate` tenths of a degree adds, in 1/1,000 h, rounded to
the nearest: the Arrhenius factor of 0.7 eV between that temperature and 328.15 K (R73). Boltzmann's constant makes 0.7 eV 8,123.163 K
(PRESUMED), and the resolution is the model's (DESIGN CHOICE, log entry 4). -/
def lifeIncrement (tplate : Nat) : Nat :=
  let s := 1000000000000
  let t := (27315 + 10 * sNat 16 tplate).toNat   -- 1/100 K
  let t := max 20000 t
  let x (a c : Nat) : Nat := 812316300 * (c - a) * 1000000000 / (a * c)
  if 32815 ≤ t then (expFix 24 (x 32815 t) * 1000 + s / 2) / s else 1000 * s / expFix 24 (x t 32815)

/-- LIFE_UPDATE: an hour of age; PWR_LIFE is kept in MRAM (R73, R623), the part of an hour beyond it among the module's other records
there, in 1/1,000 h (DESIGN CHOICE, log entry 4). -/
def lifeUpdate (b : Block) : Block :=
  let old := mnat b 0x1801000820 4
  let ms := mnat b 0x1801000880 4 + lifeIncrement (fget b F.PWR_TEMP_tplate)
  let new := old + ms / 1000
  b |> mput 0x1801000820 32 (new % 2 ^ 32) |> mput 0x1801000880 4 (ms % 1000) |> cond (decide (old < 315576 ∧ 315576 ≤ new)) (raise EV.PWR_LIFE90)

/-- PWR_CMD CLEAR_MIN (R81). -/
def clearMin (b : Block) : Nat × Block := (0, fset F.PWR_VINMIN_min (vinNow b) b)

/-! ### Swaps -/

/-- A shadow PWR_WARN that PWR refuses (R67, R83). -/
def pwrRefuses (b : Block) : Bool :=
  let l := shd b F.PWR_WARN_level
  let h := shd b F.PWR_WARN_hyst
  decide (l < 550 ∨ 7000 < l ∨ h < 20 ∨ 500 < h ∨ 7500 < l + h)

/-- A swap that raises the warning level above VIN enters WARNED at its boundary, which stands for the warning crossing (R66, R67; DESIGN
CHOICE, log entry 63); a commit that runs has reached step `k`. -/
def pwrSwapped (b : Block) : Block :=
  if pwrState b = 0 ∧ vinNow b < cfg b F.PWR_WARN_level then enterWarned (fget b F.KEY_STAT_step) (ns b) b else b

end Sys2Proof.Machine
end

