-- ==== Sys2Proof/Machine/Spk.lean ====
section
/-! DEFINITION. The standby protection kernel (R161–R165): its settings records, its elements, its outputs, fallback and
hand-over. -/

namespace Sys2Proof.Machine

/-- Change the SPK. -/
def modSpk (f : Spk → Spk) (b : Block) : Block := { b with spk := f b.spk }

/-- First address of a copy of the settings record. -/
def spkCopyAddr (copy : Nat) : Nat := 0x1801B00000 + 0x10000 * (copy % 2)

/-- The record of a copy when it passes every check of S08 (R163, R164). -/
def spkRecord (b : Block) (copy : Nat) : Option (List Byte) :=
  let a := spkCopyAddr copy
  let r := mread b a 3392
  if sound b a 8133 && recFields b r && sigReason (anchor b 0) r (mread b (a + 3392) 114) (mread b (a + 3506) 4627) == 0 then some r
  else none

/-- The counter of a record; 0 without one. -/
def spkCounter (r : List Byte) : Nat := recN r 8 8

/-- The SPK runs. -/
abbrev spkRuns (b : Block) : Bool := !b.spk.record.isEmpty

/-- Elements and streams at rest. -/
def spkFresh (r : List Byte) (s : Spk) : Spk :=
  { s with record := r, next := none, els := List.replicate (recNel r) SpkEl.init, block := List.replicate 32 4, trips := 0, mask := 0 }

/-! ### Outputs -/

/-- The SPK in control. -/
abbrev spkCtl (b : Block) : Bool := fon b F.BIO_STAT_spkctl

/-- Bring the SPK's row of the trip matrix to its trips, zero while it watches (R165, R484). -/
def spkRow (b : Block) : Block :=
  let v := if spkCtl b then b.spk.trips + 2 ^ 64 else 0
  each (fun w b => tset (tkey 0x34 3 1024 w) (v / 2 ^ (32 * w) % 2 ^ 32) b) [0, 1, 2] b

/-- The outputs follow the SPK. -/
def spkShow (b : Block) : Block := b |> spkRow |> bioRefresh

/-- The SPK runs record `r`; before the first global swap SVI and ALN follow it (R164, R348, R409, R419). -/
def spkTake (r : List Byte) (b : Block) : Block :=
  let old := spkPub b
  let b := modSpk (spkFresh r) b
  let b := if b.bnk.first then b |> spkConfigure r (b2n (fon b F.ALN_STAT_rate)) |> spkFnom r else b
  let b := spkSlots r b
  let b := spkShow b
  if spkPub b = old then b else dropRun 352 b

/-- SYS_CMD SPKSET of a copy (R164, R173). -/
def spkSet (copy : Nat) (b : Block) : Nat × Block :=
  if noLease b then (0x13, b)
  else match spkRecord b copy with
  | none => (0x20, b)
  | some r =>
    if spkCounter r ≤ spkCounter b.spk.record then (0x20, b)
    else (0, modSpk (fun s => { s with next := some r }) b)

/-! ### Elements -/

/-- A field of element `i`. -/
def elN (b : Block) (i o n : Nat) : Nat := recN b.spk.record (recEl i + o) n

/-- The magnitude in a slot for sheaf `k`, mA. -/
def slotMag (b : Block) (s k : Nat) : Option Nat :=
  match recOf b s k with
  | some r => if r.usable then some r.v2.toNat else none
  | none => none

/-- Whether a channel of stream `i` is missing or held-over in sheaf `k`, or carries test, or a record of it is not usable (R162, R336). -/
def streamMissing (b : Block) (k i : Nat) : Bool :=
  (List.range 4).any (fun j => match spkChan b b.spk.record i j with
    | none => false
    | some c =>
      let e := entAt b (k + 1) k c
      [0, 4, 5].contains (entState e) || bitOf (entQ e) 11 || (slotMag b (5 * i + j) k).isNone)

/-- The current that element `i` measures, mA (R161, R163). -/
def elCurrent (b : Block) (k i : Nat) : Nat :=
  let s := elN b i 1 1
  let at_ (j : Nat) : Nat := (slotMag b (5 * s + j) k).getD 0
  if elN b i 0 1 = 3 ∨ elN b i 0 1 = 4 then (if elN b i 3 1 = 1 then at_ 4 else at_ 3)
  else ((List.range 3).map at_).foldl max 0

/-- A timed element over `dt` ns with current `cur`: IDMT adds its fraction of the operate time, definite time counts (R161, R163; log
entry 22). -/
def elTimed (b : Block) (i cur dt : Nat) (e : SpkEl) : SpkEl :=
  let pick := elN b i 4 4
  if pick < cur then
    let e := if e.pk then { e with el := e.el + dt, rs := 0 } else { e with pk := true, rs := 0 }
    if elN b i 0 1 % 2 = 1 then
      let acc := e.acc + dt * 2 ^ 64 / max 1 (Config.idmtNs (elN b i 2 1) (elN b i 8 2) pick cur)
      { e with acc := acc, trip := decide (2 ^ 64 ≤ acc) }
    else { e with trip := decide (elN b i 10 2 * 1000000 ≤ e.el) }
  else
    let rs := e.rs + dt
    if elN b i 14 2 * 1000000 ≤ rs then SpkEl.init else { e with pk := false, rs := rs, trip := false }

/-- A breaker-failure element: started by an initiating element's trip or its BIN, it runs while the phase current exceeds the pickup
(R161; DEDUCED, log entry 22). -/
def elBf (b : Block) (i cur dt trips : Nat) (e : SpkEl) : SpkEl :=
  let bin := elN b i 18 1
  let init := trips &&& elN b i 20 8 ≠ 0 ∨ (bin < 32 ∧ bitOf (rd b R.BIO_BIN) bin = true)
  if cur ≤ elN b i 4 4 ∨ (!e.pk) ∧ ¬ init then SpkEl.init
  else
    let el := if e.pk then e.el + dt else 0
    { e with pk := true, el := el, retrip := decide (elN b i 10 2 * 1000000 ≤ el), trip := decide (elN b i 12 2 * 1000000 ≤ el) }

/-- The bits of the elements for which `f` holds. -/
def elBits (f : SpkEl → Bool) (l : List SpkEl) : Nat := ((List.range l.length).map (fun i => if f (l.getD i SpkEl.init) then 2 ^ i else 0)).sum

/-- Run the elements of kind `bf` over sheaf `k` (a blocked stream leaves its elements at rest). -/
def elsRun (b : Block) (bf : Bool) (k dt trips : Nat) (l : List SpkEl) : List SpkEl :=
  (List.range l.length).map (fun i =>
    let e := l.getD i SpkEl.init
    if (elN b i 0 1 == 5) != bf then e
    else if decide (0 < b.spk.block.getD (elN b i 1 1) 0) then SpkEl.init
    else if bf then elBf b i (elCurrent b k i) dt trips e else elTimed b i (elCurrent b k i) dt e)

/-- SPK_EVALUATE: the elements run over the latest sheaf of unit 0 (R161, R162, R165). -/
def spkEvaluate (b : Block) : Block :=
  match (b.phe.units.getD 0 PheUnit.init).done with
  | none => b
  | some k =>
    if !spkRuns b || b.spk.evalK == some k then b
    else
      let dt := gridNs (primRate b) k - gridNs (primRate b) (b.spk.evalK.getD (k - 1))
      let n := recNstr b.spk.record
      let b := modSpk (fun s => { s with block := (List.range 32).map (fun i =>
        if i < n then (if streamMissing b k i then 4 else s.block.getD i 4 - 1) else 4) }) b
      let l := elsRun b false k dt 0 b.spk.els
      let l := elsRun b true k dt (elBits SpkEl.trip l) l
      let masks := (List.range l.length).map (fun i =>
        let e := l.getD i SpkEl.init
        (if e.trip then elN b i 16 2 else 0) ||| (if e.retrip then elN b i 28 2 else 0))
      b |> modSpk (fun s => { s with els := l, trips := elBits SpkEl.trip l, mask := masks.foldl (· ||| ·) 0, evalK := some k })
        |> spkShow |> pubEval 352 k

/-! ### Service, fallback and hand-over -/

/-- Set SYS_STAT.service (R156). -/
def setService (v : Nat) (b : Block) : Block :=
  if fget b F.SYS_STAT_service = v then b else b |> fset F.SYS_STAT_service v |> raise EV.SYS_SERVICE

/-- SPK_FALLBACK: at the first boundary after a trigger the SPK takes control (R165, R168). -/
def spkFallback (b : Block) : Block :=
  if !b.spk.fb then b
  else
    let b := modSpk (fun s => { s with fb := false }) b
    if !spkRuns b then b
    else { b with start := { b.start with handover := none } } |> fset F.BIO_STAT_spkctl 1 |> setService 1 |> spkShow

/-- SYS_CMD FALLBACK (R173). -/
def sysFallback (b : Block) : Nat × Block := if !spkRuns b then (0x10, b) else (0, modSpk (fun s => { s with fb := true }) b)

/-- SYS_CMD RESUME (R173): the hand-over runs one second of sheaves. -/
def sysResume (b : Block) : Nat × Block :=
  if fget b F.SYS_STAT_service ≠ 1 ∨ fon b F.SCH_STAT_run = false then (0x10, b)
  else (0, { b with start := { b.start with handover := some (primRate b) } })

/-- The SPK at a sheaf boundary: a record set by SPKSET takes effect (R164), and the overlap counts down (R165). -/
def spkBoundary (b : Block) : Block :=
  let b := match b.spk.next with | some r => spkTake r b | none => b
  { b with start := { b.start with handover := b.start.handover.map (· - 1) } }

end Sys2Proof.Machine
end

