-- ==== Sys2Proof/Machine/Trust.lean ====
section
/-! DEFINITION. Image verification (R209–R216), measures (R217, R218), tamper responses (R223–R226), and debug
authorisation (R220–R222). -/

namespace Sys2Proof.Machine

/-! ### Containers -/

/-- The fields of a container header that the module uses (R209). -/
structure ImgHdr where
  typ : Nat
  anchor : Nat
  n : Nat
  flags : Nat
  svn : Nat
  vendor : Nat
  digest : List Byte
  deriving DecidableEq, Repr

/-- Read a header (R209). -/
def imgHdr (h : List Byte) : ImgHdr :=
  let n (o k : Nat) : Nat := leNat ((h.drop o).take k)
  ⟨n 6 1, n 7 1, n 8 4, n 12 4, n 16 4, n 104 4, (h.drop 64).take 32⟩

/-- The image floor of a type (R212, R623). -/
def imgFloor (b : Block) (t : Nat) : Nat := mnat b (0x1801000840 + 4 * t) 4

/-- Raise the image floor of a type to `svn` (R212); it never falls. -/
def raiseFloor (t svn : Nat) (b : Block) : Block := mput (0x1801000840 + 4 * t) 4 (max (imgFloor b t) svn) b

/-- Check 1 of R211 on a header. -/
def imgFormat (h : List Byte) : Bool :=
  let n (o k : Nat) : Nat := leNat ((h.drop o).take k)
  let t := n 6 1
  n 0 4 == 0x4D494C5A && n 4 2 == 1 && decide (1 ≤ t ∧ t ≤ 6) && decide (1 ≤ n 8 4 ∧ n 8 4 ≤ 0x10000000) &&
    decide (n 12 4 < 4) && decide (n 36 2 < 32) && n 44 4 == 0 && (t == 4 || n 104 4 == 0) && n 108 4 == 0 && n 176 336 == 0

/-- Check 2 of R211: the anchor permitted for the type. -/
def imgAnchorOk (t a : Nat) : Bool :=
  match t with
  | 1 => a == 1 | 2 => a == 1 | 3 => a == 1 | 4 => decide (a ≤ 1) | 5 => a == 0 | 6 => a == 0 | _ => false

/-- Check 6 of R211: fleet, DID, stepping and fittings match the module. -/
def imgBinding (b : Block) (h : List Byte) : Bool :=
  let n (o k : Nat) : Nat := leNat ((h.drop o).take k)
  let cap := capOf b.part 0 % 128
  (n 40 4 == 0 || n 40 4 == fleetId b) && (n 48 16 == 0 || n 48 16 == b.part.did) && decide (n 39 1 ≤ b.part.stepping) &&
    decide (n 38 1 &&& cap = n 38 1)

/-- Check 9 of R211: an entry of an allow-list permits payload digest `d`, vendor and svn for instance `m` (R214). -/
def allowed (b : Block) (list d : List Byte) (vendor svn m : Nat) : Bool :=
  (List.range (leNat (list.take 4))).any (fun i =>
    let e := list.drop (16 + 64 * i)
    let n (o k : Nat) : Nat := leNat ((e.drop o).take k)
    e.take 32 == d && n 32 4 == vendor && decide (n 36 4 ≤ svn) && bitOf (n 40 8) m &&
      (n 48 8 == 0xFFFFFFFFFFFFFFFF || decide (secOf b ≤ n 48 8)))

/-- The checks of R211 in their order: 0 when all pass, else the order and the reason. `rest` is what follows the header;
`ok1` says that the length fits the buffer. -/
def imgCheck (b : Block) (h rest : List Byte) (ok1 : Bool) (m : Nat) : Nat × Nat :=
  let i := imgHdr h
  let pl := rest.take i.n
  let sr := sigReason (anchor b i.anchor) h ((rest.drop i.n).take 114) ((rest.drop (i.n + 114)).take 4627)
  if !imgFormat h || !ok1 then (1, 0x01)
  else if !imgAnchorOk i.typ i.anchor then (2, 0x02)
  else if sr = 3 then (3, 0x03)
  else if sr = 4 then (4, 0x04)
  else if Config.shake256 32 pl ≠ i.digest then (5, 0x05)
  else if !imgBinding b h then (6, 0x06)
  else if !bitOf (leNat ((h.drop 36).take 2)) (lcs b) || (bitOf i.flags 1 && !fon b F.SYS_STAT_dbg) then (7, 0x07)
  else if i.typ ≠ 4 ∧ i.svn < imgFloor b i.typ then (8, 0x08)
  else if i.typ = 4 ∧ !(fon b F.TMP_STAT_allow && allowed b b.trust.allow i.digest i.vendor i.svn m) then (9, 0x09)
  else (0, 0)

/-- `n` bytes of flash from offset `a` (R210). -/
def flashRead (b : Block) (a : Nat) : Nat → List Byte
  | 0 => []
  | n + 1 => sget memReset b.flash a :: flashRead b (a + 1) n

/-- The flash offset and size of the slot of a module image (R210). -/
def imgSlot (t : Nat) (slotB : Bool) : Nat × Nat :=
  match t with
  | 1 => (if slotB then 0x01000000 else 0, 0x1000000)
  | 2 => (if slotB then 0x02800000 else 0x02000000, 0x800000)
  | _ => (if slotB then 0x08000000 else 0x04000000, 0x4000000)

/-- Load and verify the image of type `t` from a slot: the check that failed, 0 for none, its reason, and the header (R210, R211). -/
def loadImage (b : Block) (t : Nat) (slotB : Bool) : Nat × Nat × List Byte :=
  let (a, size) := imgSlot t slotB
  let h := flashRead b a 512
  let n := (imgHdr h).n
  let ok := decide (n + 5253 ≤ size) && (imgHdr h).typ == t
  let (o, r) := imgCheck b h (flashRead b (a + 512) (if ok then n + 4741 else 0)) ok 0
  (o, r, h)

/-- Record the outcome of the last container checked (R229). -/
def vresult (order reason typ : Nat) (b : Block) : Block :=
  wr R.TMP_VRESULT (reason * 2 ^ 24 + typ * 2 ^ 8 + order) b

/-- The buffer address of TMP_VADDR. -/
def vaddr (b : Block) : Nat := rd b R.TMP_VADDR_LO + rd b R.TMP_VADDR_HI % 256 * 2 ^ 32

/-- For each running instance whose image a new allow-list no longer permits, EV_TMP_ALLOWGONE (R215). A slot holds the
header digest, the payload digest, the vendor and the svn of the image it accepted. -/
def allowGone (b : Block) : Block :=
  each (fun m b =>
    let s := sget (fun _ => []) b.trust.slots m
    if instState b m = 2 ∧ !s.isEmpty ∧
        !allowed b b.trust.allow ((s.drop 32).take 32) (leNat ((s.drop 64).take 4)) (leNat ((s.drop 68).take 4)) m then
      raiseP EV.TMP_ALLOWGONE (leBytes 4 m) b else b) (List.range 64) b

/-- What an accepted container does, by its use (R215–R217, R228). -/
def imgAccept (use m : Nat) (h pl : List Byte) (b : Block) : Block :=
  let i := imgHdr h
  let d := Config.shake256 32 h
  let floor (b : Block) : Block := if bitOf i.flags 0 then raiseFloor i.typ i.svn b else b
  match use, i.typ with
  | 1, 5 => b |> (fun b => { b with trust := { b.trust with allow := pl } }) |> fset F.TMP_STAT_allow 1
      |> measExtend 6 d |> floor |> allowGone
  | 1, 6 => b |> measExtend 6 d |> floor
  | 2, 4 =>
    let s := d ++ i.digest ++ leBytes 4 i.vendor ++ leBytes 4 i.svn
    { b with trust := { b.trust with slots := sset (fun _ => []) b.trust.slots m s } }
      |> measExtend 7 (d ++ leBytes 1 m)
  | _, _ => b

/-- TMP_CMD VERIFY with a use and instance `m` (R211, R228). -/
def tmpVerify (use m : Nat) (b : Block) : Nat × Block :=
  if 2 < use then (0x12, b)
  else
    let len := rd b R.TMP_VLEN
    let stop (st : Status) (b : Block) : Nat × Block :=
      (0x20, b |> ownData 0x05 st |> vresult 1 0x0C 0 |> raise EV.TMP_VFAIL)
    if len < 512 then (0x20, b |> vresult 1 0x01 0 |> raise EV.TMP_VFAIL)
    else match engRead 0x084 (vaddr b) 512 b with
    | (.ok, h, b) =>
      let i := imgHdr h
      let ok := decide (i.n + 5253 ≤ len)
      (match engRead 0x084 (vaddr b + 512) (if ok then i.n + 4741 else 0) b with
      | (.ok, rest, b) =>
        let (o, r) := imgCheck b h rest ok m
        let b := vresult o r i.typ b
        if o = 0 then (0, imgAccept use m h (rest.take i.n) b) else (0x20, raise EV.TMP_VFAIL b)
      | (st, _, b) => stop st b)
    | (st, _, b) => stop st b

/-- TMP_CMD MEASURE (R218, R228). A buffer that cannot be read gives reason BUFFER; the type and order stay those of the last container
checked (R229). -/
def tmpMeasure (b : Block) : Nat × Block :=
  if fon b F.TMP_STAT_closed then (0x10, b)
  else match engRead 0x084 (vaddr b) 32 b with
    | (.ok, d, b) => (0, measExtend 5 d b)
    | (st, _, b) => (0x20, b |> ownData 0x05 st |> fset F.TMP_VRESULT_reason 0x0C)

/-! ### Tamper -/

/-- The least level that a source may have (R223). -/
def tamperMin (s : Nat) : Nat := match s with | 1 => 3 | 2 => 3 | 3 => 2 | 6 => 2 | 8 => 2 | _ => 1

/-- The level of a source: TMP_SRCLVL in force (R223, R230). -/
def tamperLevel (b : Block) (s : Nat) : Nat := cfg b (F.TMP_SRCLVL_lvl s)

/-- Latch a source (R224 level 1): latch, last source, second and ns, and counts. A response includes every lower one, so
each level's count advances (DEDUCED, log entry 10). -/
def tamperLatch (s lvl : Nat) (inFallow : Bool) (b : Block) : Block :=
  b |> wr R.TMP_LATCH (rd b R.TMP_LATCH ||| 2 ^ s)
    |> wr R.TMP_LASTSRC (b2n inFallow * 256 + lvl * 16 + s)
    |> wr R.TMP_LASTSEC (secOf b) |> wr R.TMP_LASTNS (ns b % 1000000000)
    |> fset F.TMP_STAT_level (max (fget b F.TMP_STAT_level) lvl)
    |> fcntSat F.TMP_CNT_l1 |> cond (decide (2 ≤ lvl)) (fcntSat F.TMP_CNT_l2) |> cond (decide (3 ≤ lvl)) (fcntSat F.TMP_CNT_l3)

/-- A level 2 or 3 response during a start step: the start halts there and the entry's state becomes 2 (R168, R226). -/
def tamperHalt (b : Block) : Block :=
  if !b.start.busy then b
  else
    let n := b.start.step
    { b with start := { b.start with halted := true } } |> mput (0x1801000040 + 16 * (n - 1) + 8) 1 2 |> fset F.STL_STAT_halted 1
      |> raise EV.STL_TAMPER |> raise EV.STL_HALTED

/-- Zeroise the key cells (R224 level 3, R226): the production cells, and the test cells too while debug is open. Cell 3 then
names UNKEYED, so that the comparison of R196 keeps it (DEDUCED, log entry 11). -/
def zeroiseCells (b : Block) : Block :=
  let b := setScramble b
  let p := b.key.prod.zeroise
  { b with key := { b.key with
      prod := p.put 3 (KCell.written b.key.scramble 3 (leBytes 16 4) [] p.ctr)
      test := if fon b F.SYS_STAT_dbg then b.key.test.zeroise else b.key.test } }

/-- The response of a level, with an enclave command in commit step `k` (R224–R226). -/
def tamperRespond (s lvl k : Nat) (b : Block) : Block :=
  let lvl := if lcs b = 15 then min lvl 1 else lvl
  let b := b |> tamperLatch s lvl false |> keyTampered k |> raise EV.TMP_LEVEL1
  if lvl < 2 then b
  else
    let b := b |> zeroiseCache |> tamperHalt |> raise EV.TMP_LEVEL2
    if lvl < 3 then b
    else b |> zeroiseCells |> raise EV.TMP_LEVEL3 |> setLcs 4 |> tamperStart

/-- A source detected in fallow is latched in the always-on domain; level 3 is kept for the wake (R226). -/
def tamperFallow (s lvl : Nat) (b : Block) : Block :=
  { (tamperLatch s lvl true b) with trust := { b.trust with fallowLevel := max b.trust.fallowLevel lvl } }

/-- Whether a source is watched in fallow: 3 on the always-on rails only (R223). -/
def watchedInFallow (s : Nat) (rail : Bool) : Bool := decide (s ≤ 6) && (s != 3 || rail)

/-- Set or clear a source's bit of TMP_STAT.active; sources 7, 8 and 9 hold only at their detection (R227). -/
def tamperActive (s : Nat) (on : Bool) (b : Block) : Block :=
  if 7 ≤ s then b
  else
    let v := fget b F.TMP_STAT_active
    fset F.TMP_STAT_active (if on then v ||| 2 ^ s else v &&& (0x3FF ^^^ 2 ^ s)) b

/-- TAMPER_DETECT: source `s` is detected, or its condition ends, on an always-on rail or not, by its self-test at S05 or not, and with
an enclave command in commit step `k` (R223–R227). -/
def tamperDetect (s : Nat) (how : TamperHow) (rail selftest : Bool) (k : Nat) (b : Block) : Block :=
  let watched := match b.pwr.phase with | .fallow => watchedInFallow s rail | .off => false | _ => true
  if !watched then b
  else
    let b := tamperActive s (how == .holds) b
    if how = .ends then b
    else
      let b := cond selftest (setErr 0x05 0 s) b
      if b.pwr.phase = .fallow then tamperFallow s (tamperLevel b s) b else tamperRespond s (tamperLevel b s) k b

/-- TMP_CMD RAISE at a level (R228): source 9. -/
def tmpRaise (lvl : Nat) (b : Block) : Nat × Block :=
  if lvl = 0 then (0x12, b)
  else if lvl = 3 then (1, b |> complete (pg 0x05 0x2C) 0 |> tamperRespond 9 lvl 0)
  else (0, tamperRespond 9 lvl 0 b)

/-- TMP_CMD CLEAR (R228). -/
def tmpClear (b : Block) : Nat × Block :=
  if rd b R.TMP_LATCH &&& fget b F.TMP_STAT_active ≠ 0 then (0x10, b)
  else (0, b |> wr R.TMP_LATCH 0 |> fset F.TMP_STAT_level 0)

/-- TAMPER_LOOP_MEASURE: `ohm` is the resistance, or none for an open loop; `short` a short of a pin to GND (R45, R229). -/
def loopMeasure (ohm : Option Nat) (short : Bool) (b : Block) : Block :=
  let v := match ohm with | some o => if o ≤ 30000 then o else 0xFFFF | none => 0xFFFF
  let bad := short || decide (v < 10 ∨ 2000 < v)
  let was := bitOf (fget b F.TMP_STAT_active) 0
  let b := wr R.TMP_LOOP v b
  if bad && !was then tamperDetect 0 .holds false false 0 b
  else tamperActive 0 bad b

/-- TAP_INSTRUCTION: IDCODE and BYPASS are answered; outside debug, any other raises source 7 (R51, R223). What an open debug port answers to
others the manual does not say. -/
def tapInstruction (ir : TapIr) (b : Block) : Block :=
  match ir with
  | .idcode => cond (outputsOn b) (emit (.tdo 32 (Config.idcode % 2 ^ 32))) b
  | .bypass => cond (outputsOn b) (emit (.tdo 1 0)) b
  | .other => if fon b F.SYS_STAT_dbg then b else tamperRespond 7 (tamperLevel b 7) 0 b

/-! ### Debug -/

/-- DBG_CMD CHALLENGE (R221). -/
def dbgChallenge (b : Block) : Nat × Block :=
  if !rngOk b then (0x20, b)
  else
    let (l, b) := entropy 32 b
    let b := { b with trust := { b.trust with nonceOk := true } }
    (0, each (fun i b => wr (R.DBG_NONCE i) (leNat ((l.drop (4 * i)).take 4)) b) (List.range 8) b)

/-- The reason a token fails, 0 when it passes (R220, R221, R231). -/
def tokenCheck (b : Block) (l : List Byte) : Nat :=
  let n (o k : Nat) : Nat := leNat ((l.drop o).take k)
  let nonce := ((List.range 8).map (fun i => leBytes 4 (rd b (R.DBG_NONCE i)))).flatten
  if n 0 4 ≠ 0x54444C5A ∨ n 4 2 ≠ 1 ∨ 16 ≤ n 6 2 ∨ n 64 1 = 0 ∨ 16 < n 64 1 ∨ n 65 63 ≠ 0 then 0x01
  else
    let sr := sigReason (prodAnchor b 0) (l.take 128) ((l.drop 128).take 114) (l.drop 242)
    if sr ≠ 0 then sr
    else if n 8 16 ≠ b.part.did then 0x06
    else if !b.trust.nonceOk || (l.drop 24).take 32 != nonce then 0x0A
    else if n 56 8 < secOf b then 0x0B
    else 0

/-- A failed AUTH: counted; the eighth in a start raises source 7 (R222). -/
def authFail (reason : Nat) (b : Block) : Nat × Block :=
  let b := b |> wr R.DBG_RESULT reason |> fcntSat F.DBG_STAT_fails |> raise EV.DBG_AUTHFAIL
  if fget b F.DBG_STAT_fails ≠ 8 then (0x20, b)
  else if tamperLevel b 7 = 3 then (1, b |> complete (pg 0x44 0x2C) 0x20 |> tamperRespond 7 3 0)
  else (0x20, tamperRespond 7 (tamperLevel b 7) 0 b)

/-- DBG_CMD AUTH (R221, R222). -/
def dbgAuth (b : Block) : Nat × Block :=
  if lcs b = 2 ∨ lcs b = 4 ∨ lcs b = 15 then (0x10, b)
  else match engRead 0x084 (rd b R.DBG_TOKADDR_LO + rd b R.DBG_TOKADDR_HI % 256 * 2 ^ 32) 4869 b with
    | (.ok, l, b) =>
      let r := tokenCheck b l
      let b := { b with trust := { b.trust with nonceOk := false } }
      if r ≠ 0 then authFail r b
      else
        let n (o k : Nat) : Nat := leNat ((l.drop o).take k)
        (0, { b with trust := { b.trust with dbgScope := n 6 2, dbgNotAfter := n 56 8, dbgStarts := n 64 1 } }
          |> fset F.DBG_STAT_pending 1 |> wr R.DBG_RESULT 0 |> raise EV.DBG_AUTHOK)
    | (st, _, b) => authFail 0x0C (ownData 0x44 st { b with trust := { b.trust with nonceOk := false } })

/-- DBG_CMD CLOSE (R221). -/
def dbgClose (b : Block) : Nat × Block :=
  (0, { b with trust := { b.trust with dbgClosing := true } } |> fset F.DBG_STAT_closing 1)

end Sys2Proof.Machine
end

