-- ==== Sys2Proof/Machine/Bank.lean ====
section
/-! DEFINITION. Configuration banks (R114–R123, R145–R147, R30): checks and agreement of a global swap, the swap itself, copy-back,
and instance swaps. -/

namespace Sys2Proof.Machine

/-- Change BNK. -/
def modBnk (f : Bnk → Bnk) (b : Block) : Block := { b with bnk := f b.bnk }

/-- Index of the latest sheaf boundary. -/
abbrev curIdx (b : Block) : Nat := rd64 b R.BNK_CURIDX_LO

/-! ### The checks of a global swap (R115) -/

/-- A shadow TMP_SRCLVL that TMP refuses (R230). -/
def tmpRefuses (b : Block) : Bool := (List.range 9).any (fun s => decide (shd b (F.TMP_SRCLVL_lvl s) < max 1 (tamperMin s)))

/-- A shadow that ELG refuses (R619). -/
def elgRefuses (b : Block) : Bool :=
  decide (60000 < shd b F.ELG_CFG_coalesce) || decide (shd b F.ELG_CFG_holdmax < 1 ∨ 600 < shd b F.ELG_CFG_holdmax)
    || decide (shd b F.ELG_IRATE_rate < 1 ∨ 1000 < shd b F.ELG_IRATE_rate)

/-- Whether the block of page `p` refuses its shadow view. -/
def pageRefuses (b : Block) (p : Nat) : Bool :=
  if 0x10 ≤ p ∧ p ≤ 0x1E then macRefuses b (p - 0x10)
  else match p with
  | 0x01 => pwrRefuses b || tallyRefuses b
  | 0x05 => tmpRefuses b
  | 0x20 => swcRefuses b
  | 0x21 => prpRefuses b
  | 0x24 => timRefuses b
  | 0x25 => ptpRefuses b
  | 0x28 => sviRefuses b
  | 0x29 => alnRefuses b
  | 0x2A => aapRefuses b
  | 0x2C => pheRefuses b b
  | 0x30 => schRefuses b
  | 0x31 => vimRefuses b
  | 0x34 => pubRefuses b
  | 0x35 => bioRefuses b
  | 0x36 => serRefuses b
  | 0x38 => twnRefuses b
  | 0x39 => fldRefuses b
  | 0x3C => lgrRefuses b
  | 0x3E => mtrRefuses b b
  | 0x3F => plsRefuses b
  | 0x40 => elgRefuses b
  | _ => false

/-- Pages whose blocks are checked: fitted and not locked (R8, R115). -/
def checkedPages (b : Block) : List Nat := allPages.filter (fun p => !absentPage b.part p && !cfgLocked b p)

/-- The block with the shares that will be in force at the boundary `idx` of a swap: a share change pending for it or earlier is among them
(R29). -/
def sharesBy (idx : Nat) (b : Block) : Block :=
  match b.vim.pend with
  | some at_ => if at_.getD (curIdx b + 1) ≤ idx then shareNext b else b
  | none => b

/-- A share change already pending would break the configuration that the swap brings (R29, R457). -/
def shareBroken (b : Block) : Bool := b.vim.pend.isSome && shareCodeIn (swapNext b) b == 0x12

/-- The pages that refuse a swap at the boundary `idx` (R29, R115). -/
def refusers (idx : Nat) (b : Block) : List Nat :=
  (checkedPages b).filter (fun p => pageRefuses (sharesBy idx b) p || (p == 0x31 && shareBroken b))

/-- Record the result of a check in every BNKSTAT (R120). -/
def showChecks (bad : List Nat) (b : Block) : Block :=
  each (fun p b => wr (pg p 0x20) (putBits (putBits (rd b (pg p 0x20)) 15 8 (if bad.contains p then 0x12 else 0)) 2 2 (b2n (bad.contains p))) b) allPages b

/-- The swap command ends refused by page `p` with `code` (R30, R115, R146). -/
def swapRefused (p code : Nat) (b : Block) : Block :=
  b |> modBnk (fun x => { x with check := none }) |> wr R.BNK_REFUSER (2 ^ 31 + code * 256 + p) |> complete (pg 0x08 0x2C) code |> raise EV.BNK_REFUSED

/-- The swap is scheduled (R115). -/
def swapSchedule (idx : Nat) (copyback atidx agr : Bool) (b : Block) : Block :=
  b |> modBnk (fun x => { x with check := none, pend := some ⟨idx, copyback, atidx, agr⟩ })
    |> fset F.BNK_STAT_pending 1 |> fset F.BNK_STAT_atidx (b2n atidx) |> fset F.BNK_STAT_agreed (b2n agr)

/-- The least page of a list. -/
def minPage : List Nat → Nat
  | [] => 0
  | [p] => p
  | p :: l => min p (minPage l)

/-- BNK_SWAPIDX. -/
abbrev swapIdx (b : Block) : Nat := rd64 b R.BNK_SWAPIDX_LO

/-- BNK_CMD SWAP (R115, R116, R123, R30). -/
def bnkSwap (copyback atidx : Bool) (b : Block) : Nat × Block :=
  if b.bnk.pend.isSome || b.bnk.copying then (0x10, b)
  else if noLease b then (0x13, b)
  else if atidx ∧ swapIdx b ≤ curIdx b then (0x12, b)
  else
    let b := wr R.BNK_REFUSER 0 b
    if paired b && agreed b then
      let idx := if atidx then swapIdx b else curIdx b + 16
      let bad := refusers idx b
      let b := showChecks bad b
      if bad.isEmpty then
        (1, b |> modBnk (fun x => { x with check := some ⟨copyback, atidx, true, idx, ns b⟩ })
          |> spanSend (.agree 1 copyback false idx (Config.bankDigest (bankView b true))))
      else (0x12, b |> wr R.BNK_REFUSER (2 ^ 31 + 0x12 * 256 + minPage bad) |> raise EV.BNK_REFUSED)
    else (1, modBnk (fun x => { x with check := some ⟨copyback, atidx, false, swapIdx b, ns b⟩ }) b)

/-- SWAP_CHECKS_DONE: the checks of a swap that needs no agreement complete (R115, R30, R116). -/
def swapChecksDone (b : Block) : Block :=
  match b.bnk.check with
  | none => b
  | some c =>
    if c.peer then b
    else
      let idx := if c.atidx then c.idx else curIdx b + (if paired b then 16 else 1)
      let bad := refusers idx b
      let b := showChecks bad b
      if !bad.isEmpty then swapRefused (minPage bad) 0x12 b
      else if c.atidx ∧ c.idx ≤ curIdx b then swapRefused 0x08 0x12 b
      else
        b |> swapSchedule idx c.copyback c.atidx false |> complete (pg 0x08 0x2C) 0

/-- The peer asks for a swap (AGREE kind 1); kind 2 answers, kind 5 says that the index is past (R116, R30; DESIGN CHOICE, log entry 17). -/
def swapAsked (copyback : Bool) (idx digest : Nat) (b : Block) : Block :=
  if idx ≤ curIdx b then spanSend (.agree 5 copyback false idx digest) b
  else
    let bad := refusers idx b
    if agreed b && b.bnk.pend.isNone && b.bnk.check.isNone && !b.bnk.copying && bad.isEmpty
        && digest == Config.bankDigest (bankView b true) then
      b |> showChecks [] |> swapSchedule idx copyback false true |> spanSend (.agree 2 copyback true idx digest)
    else b |> showChecks bad |> spanSend (.agree 2 copyback false idx digest)

/-- The peer's answer to a swap (R116, R30). A holder that finds the index past, or whose command has ended without an answer, takes its
request back, so that neither module swaps. -/
def swapAnswered (good past : Bool) (idx : Nat) (b : Block) : Block :=
  match b.bnk.check with
  | none =>
    -- The holder takes back a swap that this module has scheduled.
    if !good && !holder b && (match b.bnk.pend with | some p => p.agreed && p.idx == idx | none => false) then
      b |> modBnk (fun x => { x with pend := none }) |> fset F.BNK_STAT_pending 0 |> fset F.BNK_STAT_agreed 0
    else if good && holder b && !(match b.bnk.pend with | some p => p.agreed && p.idx == idx | none => false) then
      spanSend (.agree 2 false false idx 0) b
    else b
  | some c =>
    if !c.peer || c.idx != idx then b
    else if good ∧ curIdx b < idx then b |> swapSchedule idx c.copyback c.atidx true |> complete (pg 0x08 0x2C) 0
    else if good then b |> swapRefused 0x08 0x12 |> spanSend (.agree 2 c.copyback false idx 0)
    else swapRefused 0x38 (if past then 0x12 else 0x20) b

/-- AGREE_RECEIVE (R116, R460). -/
def askReceive (kind : Nat) (copyback good : Bool) (idx digest : Nat) (b : Block) : Block :=
  if !laneUp b then b
  else match kind with
  | 1 => swapAsked copyback idx digest b
  | 2 => swapAnswered good false idx b
  | 3 => vimAsked idx digest b
  | 4 => vimAnswered good idx b
  | 5 => swapAnswered false true idx b
  | _ => b

/-- AGREE_TIMEOUT: no answer within 1 ms to the swap, or else to the share command, that waits (R116, R460). -/
def askTimeout (b : Block) : Block :=
  match b.bnk.check with
  | some c =>
    if c.peer then b |> advanceTo (c.sentAt + 1000000) |> swapRefused 0x38 0x20 |> spanSend (.agree 2 c.copyback false c.idx 0)
    else vimAskTimeout b
  | none => vimAskTimeout b

/-- BNK_CMD CANCEL (R123). -/
def bnkCancel (b : Block) : Nat × Block :=
  if b.bnk.pend.isNone then (0x10, b)
  else (0, b |> modBnk (fun x => { x with pend := none }) |> fset F.BNK_STAT_pending 0 |> fset F.BNK_STAT_atidx 0 |> fset F.BNK_STAT_agreed 0
    |> raise EV.BNK_CANCELLED)

/-! ### Copy-back (R121, R145) -/

/-- BNK_CMD COPYBACK. -/
def bnkCopyback (b : Block) : Nat × Block :=
  if b.bnk.pend.isSome || b.bnk.copying then (0x10, b)
  else (1, b |> modBnk (fun x => { x with copying := true, copyCmd := true }) |> fset F.BNK_STAT_copying 1)

/-- Whether `a`, a physical key with or without its copy bit, is a banked register of a page in `ps`. -/
def bankedReg (ps : List Nat) (a : Nat) : Bool :=
  let x := a % 2 ^ 40
  let o := (x - 0x2000000000) % 0x10000
  decide (0x2000000000 ≤ x ∧ x < 0x3000000000 ∧ 0x1000 ≤ o ∧ o < 0x4000) && ps.contains (pageOf x)

/-- Whether `k`, a table key with or without its copy bit, is a word of a banked table of a page in `ps`. -/
def bankedWord (ps : List Nat) (k : Nat) : Bool :=
  let x := k % 2 ^ 48
  bankedTab (x / 2 ^ 28) (x / 2 ^ 24 % 16) && ps.contains (x / 2 ^ 28)

/-- Copy the active view of the pages `ps` into the shadow view. -/
def copyViews (ps : List Nat) (b : Block) : Block :=
  let act (p : Nat) (hi : Bool) : Bool := decide (p ∈ b.bankB) == hi
  let regs := b.regs.filter (fun x => bankedReg ps x.1)
  let tabs := b.tabs.filter (fun x => bankedWord ps x.1)
  let isAct (x : Nat × Word) : Bool := act (pageOf (x.1 % 2 ^ 40)) (decide (2 ^ 40 ≤ x.1))
  let isActT (x : Nat × Word) : Bool := act (x.1 % 2 ^ 48 / 2 ^ 28) (decide (2 ^ 48 ≤ x.1))
  b |> each (fun x b => wr x.1 (regReset b.part x.1).toNat b) (regs.filter (fun x => !isAct x))
    |> each (fun x b => wr (if 2 ^ 40 ≤ x.1 then x.1 - 2 ^ 40 else x.1 + 2 ^ 40) x.2.toNat b) (regs.filter isAct)
    |> each (fun x b => tset x.1 (tabReset x.1).toNat b) (tabs.filter (fun x => !isActT x))
    |> each (fun x b => tset (if 2 ^ 48 ≤ x.1 then x.1 - 2 ^ 48 else x.1 + 2 ^ 48) x.2.toNat b) (tabs.filter isActT)
    |> cond (ps.contains 0x2C) copyJobs

/-- COPYBACK_DONE: a swap's copy-back copies the views that changed, COPYBACK every view (R121, R145). -/
def copybackDone (b : Block) : Block :=
  if !b.bnk.copying then b
  else
    let cmd := b.bnk.copyCmd
    b |> copyViews (if cmd then allPages else allPages.filter (fun p => !cfgLocked b p))
      |> modBnk (fun x => { x with copying := false, copyCmd := false }) |> fset F.BNK_STAT_copying 0
      |> each (fun p b => wr (pg p 0x20) (rd b (pg p 0x20) / 2 * 2) b) allPages
      |> raise EV.BNK_COPYDONE |> cond cmd (complete (pg 0x08 0x2C) 0)

/-! ### The global swap (R119) -/

/-- Exchange the copies of every unlocked page and count it (R114, R120). -/
def toggleBanks (b : Block) : Block :=
  { b with bankB := allPages.filter (fun p => if cfgLocked b p then b.bankB.contains p else !b.bankB.contains p) }
    |> each (fun p b => let s := rd b (pg p 0x20); wr (pg p 0x20) ((s / 65536 + 1) % 65536 * 65536 + s % 65536 / 2 * 2) b)
        (allPages.filter (fun p => !cfgLocked b p))

/-- Apply the global swap `s` at the boundary of `k`: every unlocked block takes its new view at once, then each unit follows. -/
def globalSwap (k : Nat) (s : SwapPend) (b : Block) : Block :=
  let b := keepWins k b
  let ports := (List.range 15).map (portBefore b)
  let pairs := pairsBefore b
  let tim := timBefore b
  let goo := gooBefore b
  let ring := secRing b
  let tasks := tasksOn b
  let owners := [serOwner b 0, serOwner b 1]
  let twn := twnBefore b
  let fid := fldBefore b
  let exps := exportsOf b
  let lgr := lgrBefore b
  let mtr := mtrCfg b
  let ents := (List.range 128).map (mtrEnt b)
  let b := b |> toggleBanks
    |> modBnk (fun x => { x with pend := none, first := false, copying := s.copyback, copyCmd := false })
    |> fset F.BNK_STAT_pending 0 |> fset F.BNK_STAT_atidx 0 |> fset F.BNK_STAT_agreed 0
    |> fset F.BNK_STAT_copying (b2n s.copyback) |> fset F.BNK_STAT_swaps (fget b F.BNK_STAT_swaps + 1) |> wr64 R.BNK_LASTIDX_LO k
  b |> raise EV.BNK_SWAPPED |> pwrSwapped |> tallyClamp
    |> each (fun m b => portSwapped m (ports.getD m (portBefore b m)) b) (List.range 15)
    |> pairsSwapped pairs |> timSwapped tim |> sviSwapped goo |> alnSwapped ring |> pheSwapped b.spk.record |> schSwapped tasks
    |> pubSwapped k |> bioSwapped |> serSwapped owners |> twnSwapped twn |> fldSwapped k fid exps |> lgrSwapped lgr s.copyback
    |> mtrSwapped k mtr ents |> plsSwapped

/-! ### Instance swaps (R122, R147) -/

/-- BNK_I_CMD SWAP of instance `n` by `rqid`. -/
def bnkISwap (rqid n : Nat) (b : Block) : Nat × Block :=
  if rqid ≠ n ∧ rqid ≠ 0x081 then (0x11, b)
  else if b.bnk.instPend.contains n then (0x10, b)
  else if pheInstRefuses n b b then (0x12, b)
  else (0, modBnk (fun x => { x with instPend := x.instPend ++ [n] }) b)

/-- BNK_I_CMD CANCEL of instance `n` by `rqid`. -/
def bnkICancel (rqid n : Nat) (b : Block) : Nat × Block :=
  if rqid ≠ n ∧ rqid ≠ 0x081 then (0x11, b)
  else if b.bnk.instPend.contains n then (0, modBnk (fun x => { x with instPend := x.instPend.filter (· != n) }) b)
  else (0x10, b)

/-- Apply the instance swap of `n`; a locked PHE keeps its active entries (R108). -/
def instSwap (n : Nat) (b : Block) : Block :=
  { b with instB := if b.instB.contains n then b.instB.filter (· != n) else n :: b.instB }
    |> cond (!cfgLocked b 0x2C) (exchangeJobs (some n)) |> fset (F.BNK_I_STAT_swaps n) (fget b (F.BNK_I_STAT_swaps n) + 1)
    |> modBnk (fun x => { x with instPend := x.instPend.filter (· != n) })

/-- The instance swaps of a boundary, in ascending instance number (R29). -/
def instSwaps (b : Block) : Block := each instSwap ((List.range 64).filter (fun n => b.bnk.instPend.contains n)) b

end Sys2Proof.Machine
end

