-- ==== Sys2Proof/Machine/Start.lean ====
section
/-! DEFINITION. Start (R150–R174): the steps S01–S18 and the ledger, the harrow of a start, debug starts, the watchdog and the SYS and
STL commands. -/

namespace Sys2Proof.Machine

/-- Change the start sequence. -/
def modStart (f : Start → Start) (b : Block) : Block := { b with start := f b.start }

/-! ### The ledger (R157) -/

/-- First address of the entry of step `n`. -/
abbrev entAddrL (n : Nat) : Nat := 0x1801000040 + 16 * (n - 1)

/-- State, misses, way and detail of an entry. -/
def ledState (b : Block) (n : Nat) : Nat := mnat b (entAddrL n + 8) 1
/-- Misses of an entry. -/
def ledMisses (b : Block) (n : Nat) : Nat := mnat b (entAddrL n + 9) 1
/-- Way of an entry. -/
def ledWay (b : Block) (n : Nat) : Nat := mnat b (entAddrL n + 10) 1

/-- Examine step `n` at S01: `old` is the previous startno, `exempt` says that the previous start's end counts no miss (R159, R160). -/
def ledExamine (old : Nat) (exempt : Bool) (n : Nat) (b : Block) : Block :=
  let a := entAddrL n
  let begun := mnat b a 4
  let m := ledMisses b n + 1
  let st := ledState b n
  if begun = mnat b (a + 4) 4 then mput (a + 9) 1 0 b
  else if begun ≠ old ∨ exempt = true ∨ st = 3 then b
  else if 2 ≤ m ∧ (st = 0 ∨ st = 1 ∧ ledWay b n = 1) then
    b |> mput (a + 8) 1 (if st = 0 then 1 else 3) |> mput (a + 9) 1 0 |> raiseP EV.STL_STEPFAIL (leBytes 4 n)
  else mput (a + 9) 1 (min 2 m) b

/-- Whether a step is optional, and whether it has an alternate way (R154). -/
def stepOptional (n : Nat) : Bool := n == 14
/-- Steps with an alternate way. -/
def stepAlternate (n : Nat) : Bool := [6, 7, 8, 10, 11, 13, 15, 16, 17].contains n

/-- The way of step `n` at this start: 0 normal, 1 alternate, 2 skipped (R160). -/
def stepWay (b : Block) (n : Nat) : Nat :=
  match ledState b n with
  | 1 => if stepOptional n then 2 else if stepAlternate n then 1 else 0
  | 3 => if stepOptional n then 2 else 1 - ledWay b n
  | _ => 0

/-- The last step that a life-cycle state lets a start reach (R166). -/
def lastStep (s : Nat) : Nat := match s with | 0 => 12 | 1 => 18 | 2 => 18 | 3 => 12 | 4 => 3 | _ => 2

/-! ### S01 -/

/-- Whether debug is open in this start, whether it opens or closes with it, and the block with DBG brought up to date (R221, R222; log
entry 23). -/
def debugStart (b : Block) : Bool × Bool × Block :=
  let left := fget b F.DBG_STAT_left
  if fon b F.DBG_STAT_pending then
    (true, true, { b with trust := { b.trust with dbgOpen := true, dbgClosing := false } } |> fset F.DBG_STAT_pending 0
      |> fset F.DBG_STAT_left b.trust.dbgStarts |> fset F.DBG_STAT_scope b.trust.dbgScope |> raise EV.DBG_OPEN)
  else if b.trust.dbgOpen then
    if left ≤ 1 ∨ b.trust.dbgNotAfter < secOf b ∨ b.trust.dbgClosing = true then
      (false, true, { b with trust := { b.trust with dbgOpen := false, dbgClosing := false } } |> fset F.DBG_STAT_left 0 |> raise EV.DBG_CLOSED)
    else (true, false, b |> fset F.DBG_STAT_left (left - 1) |> fset F.DBG_STAT_scope b.trust.dbgScope)
  else (false, false, b)

/-- The work of S01 (R154, R157–R160, R217, R221). -/
def stepS01 (ms : Nat) (b : Block) : Block :=
  let old := startNo b
  let no := old + 1
  let orig := fget b F.SYS_RSTCAUSE_cause
  let (open_, change, b) := debugStart b
  let dbg := open_ || lcs b == 0
  let b := if lcs b = 0 ∧ open_ = false then b |> fset F.DBG_STAT_scope (fresh b) |> freshNext else b
  let b := b |> setScramble |> fset F.SYS_STAT_dbg (b2n dbg) |> fset F.KEY_STAT_test (b2n (dbg && decide (lcs b ≠ 0))) |> fset F.DBG_STAT_open (b2n dbg)
  let b := if change then
      b |> fset F.SYS_RSTCAUSE_cause 0x0A |> fset F.SYS_RSTCAUSE_class 2 |> fset F.STL_STAT_cause 0x0A |> fset F.STL_STAT_class 2
        |> wr R.TWN_EPOCH 0 |> wr R.MTR_GAPCNT 0 |> modTwn (fun t => { t with serves := [] })
        |> cond b.start.warm (each takeDown (List.range 14)) |> modStart (fun s => { s with warm := false })
    else b
  let cause := fget b F.SYS_RSTCAUSE_cause
  let cls := fget b F.SYS_RSTCAUSE_class
  let exempt := orig == 1 || (orig == 2 && mnat b 0x180100000C 1 == 1)
  let b := each (fun i b => ledExamine old exempt (i + 1) b) (List.range 18) b
  let b := modStart (fun s => { s with ways := (List.range 18).map (fun i => stepWay b (i + 1)) }) b
  let b := mput (entAddrL 1) 4 no b |> mput (entAddrL 1 + 10) 4 0 |> mput (entAddrL 1 + 12) 2 (min 0xFFFF ms)
  let tp := mnat b 0x1801000010 8
  let b := mput 0x1801000000 32 (0x4C534C5A + 2 ^ 32 + cause * 2 ^ 48 + cls * 2 ^ 56 + no % 2 ^ 32 * 2 ^ 64 + lcs b * 2 ^ 104
    + orig * 2 ^ 112 + tp * 2 ^ 128) b
  let b := fset F.SYS_RSTCAUSE_origcause orig b
  { b with key := { b.key with meas := Enclave.init.meas } }
    |> measExtend 0 (leBytes 1 cause ++ leBytes 1 cls ++ leBytes 1 (lcs b) ++ leBytes 1 (b2n dbg) ++ leBytes 4 no)

/-! ### The other steps -/

/-- Set the four permission bits of entry `e` in region `r` of a target's table. -/
def grant (t : Target) (e r perm : Nat) (b : Block) : Block :=
  let a := t.table + 8 * e + 4 * (r / 8)
  wr a (putBits (rd b a) (4 * (r % 8) + 3) (4 * (r % 8)) perm) b

/-- Set a range descriptor over `[base, last]`. -/
def setRange (t : Target) (r base last : Nat) (b : Block) : Block :=
  let d := t.table + 0x400 + 16 * r
  b |> wr d base |> wr (d + 4) (base / 2 ^ 32) |> wr (d + 8) last |> wr (d + 12) (0x10000 + last / 2 ^ 32)

/-- S04 grants the recorder its partition (R607; DESIGN CHOICE, log entry 24). -/
def grantElg (b : Block) : Block :=
  b |> setRange (.mem 4) 0 0x1800000000 0x1800FFFFFF |> setRange (.mem 4) 1 0x1800000000 0x1803FFFFFF |> grant (.mem 4) 101 0 3
    |> each (fun e b => grant (.mem 4) e 1 (permOf b (.mem 4) e 0) b) [67, 65, 68]

/-- S09 grants the engines of the SPK's path what they need (R132; DESIGN CHOICE, log entry 24): the ring to ALN and PHE, phasor state to PHE. -/
def grantSpk (b : Block) : Block :=
  b |> grant (.mem 2) 97 0 3 |> grant (.mem 2) 98 0 1 |> grant (.mem 3) 98 0 3 |> grant (.mem 3) 64 0 1 |> grant (.mem 4) 64 1 1

/-- The port that was being started when the step failed is disabled (R154). -/
def disablePort (detail : Nat) (b : Block) : Block :=
  let m := detail - 1
  if detail = 0 ∨ 14 < detail then b
  else b |> (fun b => wr (actKey b (R.MAC_PORTCFG m)) (putBits (rd b (actKey b (R.MAC_PORTCFG m))) (F.MAC_PORTCFG_mode m).hi (F.MAC_PORTCFG_mode m).lo 0) b)
    |> takeDown m

/-- The cells that recovery examines. -/
def allCells : List Nat := (List.range 8) ++ (List.range 64).map (· + 8)

/-- S03: an alarm of fallow, the cells of the set in use, the device root where cell 0 is empty, and a life-cycle change that a cut left half
done (R183, R186, R191, R196, R200, R226). While the test cells are in use no production cell is read or written. -/
def stepS03 (b : Block) : Block :=
  let lvl := b.trust.fallowLevel
  let b := { b with trust := { b.trust with fallowLevel := 0 } }
  if lvl = 3 then b |> zeroiseCells |> raise EV.TMP_LEVEL3 |> setLcs 4 |> tamperStart
  else
    let b := if 1 ≤ lvl then raise EV.TMP_FALLOW b else b
    let b := { b with key := { b.key with noLoad := decide (lvl = 2) } }
    if testSet b then b |> recoverCells allCells |> loadPersisted
    else
      let b := { b with key := { b.key with test := ⟨[], 0⟩ } } |> recoverCells allCells
      let b := if lcs b = 0 ∧ b.key.prod.cell 0 = KCell.empty then (match entropy 32 b with | (r, b) => newRoot r b) else b
      match cellLcs b with
      | some s => if s ≠ lcs b then b |> setLcs s |> doReset 0x0A 2 else loadPersisted b
      | none => loadPersisted b

/-- Take the image of type `t` from a slot, and say whether it passes: the outcome of its checks is recorded, and a good one is measured and
kept in mind for its floor (R210–R212, R217, R229). -/
def takeImage (t i : Nat) (slotB : Bool) (b : Block) : Bool × Block :=
  let (o, r, h) := loadImage b t slotB
  let b := vresult o r t b
  if o ≠ 0 then (false, b)
  else (true, b |> measExtend i (Config.shake256 32 h)
      |> modStart (fun s => { s with images := (t, (imgHdr h).svn, bitOf (imgHdr h).flags 0) :: s.images }))

/-- S08: the copy with the higher counter that verifies, or the other one (R164). -/
def chooseRecord (alt : Bool) (b : Block) : Option (List Byte) :=
  match spkRecord b 0, spkRecord b 1 with
  | some x, some y =>
    let best := if spkCounter x < spkCounter y then y else x
    some (if alt then (if spkCounter x < spkCounter y then x else y) else best)
  | some x, none => if alt then none else some x
  | none, some y => if alt then none else some y
  | none, none => none

/-- S09: SVI, ALN, phasor unit 0, PUB and BIO run the SPK configuration, and the SPK serves (R154, R165, R348, R366, R387, R409). -/
def stepS09 (b : Block) : Block :=
  let r := b.spk.record
  b |> each binSample (List.range 32) |> grantSpk |> spkConfigure r (if r.isEmpty then 0 else recRate r) |> spkFnom r |> spkSlots r |> alnStart
    |> cond (!r.isEmpty) (fun b => b |> fset F.BIO_STAT_spkctl 1 |> setService 1 |> spkShow)

/-- What a step does when it begins, its entry written; `was` is the detail of its entry at its last begin. -/
def stepBegin (n way was ms : Nat) (b : Block) : Block :=
  match n with
  | 1 => stepS01 ms b
  | 2 => harrowBegin 1 b
  | 3 => stepS03 b
  | 4 => if fget b F.STL_STAT_class = 2 then harrowBegin 3 b else b
  | 6 => if way = 1 then disablePort was b else b
  | 10 => harrowBegin 1 b
  | 13 => if way = 1 then disablePort was b else b
  | 15 => if way = 1 then modTwn (fun t => { t with laneOff := true }) b else b
  | 17 => modStart (fun s => { s with leftOut := if way = 1 then some was else none }) b
  | _ => b

/-- What a step's completion needs and does, and whether its work has succeeded. S03 tries both slots (R210). -/
def stepWork (n way ms : Nat) (b : Block) : Bool × Block :=
  let idle := !fon b F.HRW_STAT_busy
  match n with
  | 2 => (idle, b)
  | 3 => match takeImage 1 1 false b with | (true, b) => (true, b) | (false, b) => takeImage 1 1 true b
  | 4 => (idle, cond idle (fun b => b |> grantElg |> elgSearch) b)
  | 5 =>
    let b := timStart (mnat b 0x1801000010 8) b
    let tp := ns b - ms * 1000000
    (true, b |> modPwr (fun p => { p with aoValid := true, tp := tp }) |> mput 0x1801000010 8 tp |> twnStart)
  | 7 => takeImage 2 2 (way == 1) b
  | 8 => match chooseRecord (way == 1) b with
    | some r => (true, b |> modSpk (spkFresh r) |> measExtend 3 (Config.shake256 32 r))
    | none => (true, b)
  | 9 => (true, stepS09 b)
  | 10 => (idle, b)
  | 11 => takeImage 3 4 (way == 1) b
  | 12 => (true, b |> measExtend 0 ((b.start.ways.take 12).map (BitVec.ofNat 8)) |> fset F.TMP_STAT_closed 1 |> raise EV.TMP_MEASCLOSED
      |> (fun b => modStart (fun s => { s with wdog := some (ns b) }) b))
  | 15 => (true, fldStart b)
  | 16 => (!b.bnk.first, b)
  | 18 => (fon b F.SCH_STAT_run && (!spkRuns b || b.start.handover == some 0), b)
  | _ => (true, b)

/-- A step is done: its entry, and what follows S18 (R156, R158, R160, R169, R212). -/
def stepDone (n way ms : Nat) (b : Block) : Block :=
  let a := entAddrL n
  let b := b |> mput (a + 4) 4 (startNo b) |> mput (a + 14) 2 (min 0xFFFF (ms - b.start.beganMs)) |> mput (a + 9) 1 0
    |> cond (ledState b n == 2) (mput (a + 8) 1 0)
    |> cond (way == 1) (fun b => b |> wr R.STL_ALTMAP (rd b R.STL_ALTMAP ||| 2 ^ n) |> raiseP EV.STL_ALTERNATE (leBytes 4 n))
    |> modStart (fun s => { s with busy := false, last := n })
  if n ≠ 18 then b
  else b |> fset F.STL_STAT_complete 1 |> wr R.STL_ELAPSED ms |> raise EV.STL_COMPLETE |> setService 2
    |> each (fun i b => if i.2.2 then raiseFloor i.1 i.2.1 b else b) b.start.images

/-- START_STEP: the next step begins, or the one in progress may be done, `ms` from tp, with what it has in progress in `detail`; for the end of
S03 a `detail` other than 0 says that the enclave's self-test failed, which keeps the step from being done (R154, R207). -/
def startStep (begins : Bool) (ms detail : Nat) (b : Block) : Block :=
  if b.start.halted then b
  else if begins then
    let n := b.start.last + 1
    if b.start.busy = true ∨ lastStep (lcs b) < n then b
    else
      let way := if n = 1 then 0 else b.start.ways.getD (n - 1) 0
      let a := entAddrL n
      let was := mnat b (a + 11) 1
      let b := b |> fset F.STL_STAT_step n
      if way = 2 then
        b |> mput a 4 (startNo b) |> mput (a + 4) 4 (startNo b) |> mput (a + 9) 1 0 |> mput (a + 10) 1 2 |> mput (a + 12) 2 (min 0xFFFF ms)
          |> mput (a + 14) 2 0 |> modStart (fun s => { s with last := n }) |> wr R.STL_SKIPMAP (rd b R.STL_SKIPMAP ||| 2 ^ n)
          |> raiseP EV.STL_SKIPPED (leBytes 4 n)
      else
        let b := if n = 1 then b else b |> mput a 4 (startNo b) |> mput (a + 10) 1 way |> mput (a + 11) 1 detail |> mput (a + 12) 2 (min 0xFFFF ms)
        b |> modStart (fun s => { s with busy := true, step := n, beganMs := ms }) |> stepBegin n way was ms
  else if !b.start.busy then b
  else
    let n := b.start.step
    let way := b.start.ways.getD (n - 1) 0
    if n = 3 ∧ detail ≠ 0 then setErr 0x04 2 0 b
    else match stepWork n way ms b with
    | (true, b) => stepDone n way ms b
    | (false, b) => b

/-- STEP_LIMIT: the step in progress is not done by its limit (R154, R168). -/
def stepLimit (b : Block) : Block := if b.start.busy && !b.start.halted then coldReset 5 b else b

/-- HARROW_PASS_DONE: a pass of the start completes after `us` µs (R151, R152). -/
def harrowPassDone (fails : List Upset) (us : Nat) (b : Block) : Block :=
  if !fon b F.HRW_STAT_busy then b
  else match fget b F.HRW_STAT_kind with
  | 1 =>
    if b.start.step = 10 then harrowDone 1 [(0, (memSpan b.part 0).2 + 1)] fails us b
    else b |> harrowDone 1 [(0x1000000000, 0x4000000), (0x1100000000, 0x1000000), (0x1200000000, 0x400000), (packetSram, 0x1C00000)] fails us
  | 3 => b |> harrowDone 3 [(0x1801100000, 0x2F00000)] fails us |> wr R.MEM_DEVMARK 0
  | _ => b

/-- STL_CMD CLEAR of step `n`, 0 for every step (R160, R170). -/
def stlClear (n : Nat) (b : Block) : Nat × Block :=
  if 18 < n then (0x12, b)
  else (0, each (fun i b => b |> mput (entAddrL i + 8) 1 0 |> mput (entAddrL i + 9) 1 0) (if n = 0 then (List.range 18).map (· + 1) else [n]) b)

/-! ### Hand-over (R165) -/

/-- SPK_HANDOVER: the overlap has passed at a boundary, and the SPK goes to watching. -/
def spkHandover (b : Block) : Block :=
  if b.start.handover ≠ some 0 ∨ b.start.halted = true then b
  else
    let b := b |> modStart (fun s => { s with handover := none }) |> fset F.BIO_STAT_spkctl 0 |> spkShow
    if b.start.busy = true ∧ b.start.step = 18 then stepDone 18 (b.start.ways.getD 17 0) ((ns b - b.pwr.tp) / 1000000) b else setService 2 b

/-! ### The watchdog (R172, R174) -/

/-- Watchdog period in ns. -/
def wdogPeriod (b : Block) : Nat := fget b F.SYS_WDOG_period * 1000000

/-- WATCHDOG_EXPIRY. -/
def watchdogExpiry (b : Block) : Block :=
  match b.start.wdog with
  | none => b
  | some t =>
    if b.start.wdogHit || !fon b F.SYS_CTL_wden then b
    else b |> advanceTo (t + wdogPeriod b) |> modStart (fun s => { s with wdogHit := true }) |> modSpk (fun s => { s with fb := true })

/-- WATCHDOG_AUTOWARM. -/
def watchdogAutowarm (b : Block) : Block :=
  match b.start.wdog with
  | none => b
  | some t =>
    if !b.start.wdogHit || !fon b F.SYS_CTL_wden || !fon b F.SYS_CTL_autowarm then b
    else b |> advanceTo (t + 2 * wdogPeriod b) |> doReset 8 1

/-- SYS_WDOGKICK: a write by the manager restarts the period. -/
def wdogKick (rqid : Nat) (b : Block) : Block :=
  let need := Need.write
  let j := judge b rqid R.SYS_WDOGKICK (.word 4) need
  let b := { b with resp := ⟨j.status, 0⟩ }
  if j.status ≠ .ok then accessFault j rqid R.SYS_WDOGKICK need b
  else if rqid ≠ 0x081 ∨ b.start.wdog.isNone = true then b
  else modStart (fun s => { s with wdog := some (ns b), wdogHit := false }) b

/-! ### SYS commands (R167, R168, R173) -/

/-- The peer is not in full service while a restart would leave neither twin serving (R168). -/
def peerNotFull (b : Block) : Bool :=
  paired b && spanUp b && (match b.twn.hb with | some h => h.service != 2 | none => true)

/-- The holder releases the lease and the peer is told before a commanded reset (R525, R528). -/
def sayLeaving (b : Block) : Block := b |> leaseGiveUp |> (fun b => if spanUp b then spanSend (.notice 5 []) b else b)

/-- SYS_CMD WARM. -/
def sysWarm (force : Bool) (b : Block) : Nat × Block :=
  if peerNotFull b && !force then (0x10, b) else (1, b |> sayLeaving |> doReset 7 1)

/-- SYS_CMD COLD. -/
def sysCold (force : Bool) (b : Block) : Nat × Block :=
  if peerNotFull b && !force then (0x10, b) else (1, b |> sayLeaving |> complete (pg 0x00 0x2C) 0 |> coldReset 6)

/-- SYS_CMD FALLOW. -/
def sysFallow (b : Block) : Nat × Block :=
  if holder b || b.bnk.pend.isSome then (0x10, b)
  else (0, b |> sayLeaving |> cond (fon b F.SCH_STAT_run) schHalt |> modSpk (fun _ => Spk.init) |> saveParts 4 true |> zeroiseCache
    |> fset F.SYS_RSTCAUSE_prevstep (prevStep b) |> modPwr (fun p => { p with phase := .fallow }) |> fset F.PWR_STAT_pwrok 0 |> outputsOff)

/-- SYS_CMD SPKSET; the record taken is measured (R164, R217). -/
def sysSpkset (copy : Nat) (b : Block) : Nat × Block :=
  match spkSet copy b with
  | (0, b) => (0, match b.spk.next with | some r => measExtend 3 (Config.shake256 32 r) b | none => b)
  | x => x

/-- FALLOW_WAKE: the seconds count reaches SYS_WAKESEC, or an alarm of level 3 is latched (R167, R226). -/
def fallowWake (b : Block) : Block :=
  if b.pwr.phase ≠ .fallow then b
  else
    let w := rd b R.SYS_WAKESEC
    let go (b : Block) : Block := modPwr (fun p => { p with phase := .rising, nextCause := 9, t0 := ns b }) b
    if 3 ≤ b.trust.fallowLevel then go b
    else if w = 0 then b
    else
      let s := secOf b
      go (advanceTo ((s + (w + 2 ^ 32 - s % 2 ^ 32) % 2 ^ 32) * 1000000000) b)

end Sys2Proof.Machine
end

