-- ==== Sys2Proof/Machine/Boundary.lean ====
section
/-! DEFINITION. The sheaf boundary (R27–R29) and what settles with a sheaf: every command after which a sheaf was released or settled
ends here. -/

namespace Sys2Proof.Machine

/-- The boundary of primary sheaf `k`, released with horizon `h` (R27, R29): the global swap, share changes with START and RESUME, and
instance swaps, in this order; then leaves that wait for it (R201), relay frames, PHE, SCH, the SPK and PUB. -/
def sheafBoundary (k h : Nat) (b : Block) : Block :=
  let b := wr64 R.BNK_CURIDX_LO k b
  let b := match b.bnk.pend with
    | some s => if s.idx ≤ k then globalSwap k s b else b
    | none => b
  let b := b |> shareApply k |> startsApply k |> instSwaps
  let revs := (b.aln.applied.filter (fun a => decide (a.bnd ≤ k))).map (fun a => (a.k, a.ch))
  b |> leavesBoundary |> relayBoundary k revs |> pheBoundary k h
    |> modAln (fun a => { a with applied := a.applied.filter (fun x => decide (k < x.bnd)) })
    |> schBoundary k |> spkBoundary |> pubBoundary k

/-- Hold the boundaries that are due, in index order, and hand the sheaves that settled to PUB. -/
def drain (b : Block) : Block :=
  let due := b.aln.due
  let b := each (fun x => sheafBoundary x.1 x.2) due (modAln (fun a => { a with due := [] }) b)
  let set := b.aln.settled
  each pubSettled set (modAln (fun a => { a with settled := [] }) b)

end Sys2Proof.Machine
end

