-- ==== Sys2Proof/Machine/Commands.lean ====
section
/-! DEFINITION. The command codes of every CMD register (R107 and each block's command text): what a write of a word to CMD of a page
or of an instance sub-page does. The command rows call the same meanings one by one. -/

namespace Sys2Proof.Machine

/-- Command codes of the SYS, PWR, STL, KEY, TMP, ACT, BNK, MEM and DBG pages; none for a code the page does not know. -/
def sysCommand (p n v : Nat) : Option (Block → Nat × Block) :=
  match p, n with
  | 0x00, 1 => some (sysWarm (bitOf v 8))
  | 0x00, 2 => some (sysCold (bitOf v 8))
  | 0x00, 3 => some sysFallow
  | 0x00, 4 => some sysFallback
  | 0x00, 5 => some sysResume
  | 0x00, 6 => some (sysSpkset (bitsOf v 8 8))
  | 0x01, 1 => some clearMin
  | 0x02, 1 => some (stlClear (bitsOf v 12 8))
  | 0x05, 1 => some tmpClear
  | 0x05, 2 => some (tmpVerify (bitsOf v 9 8) (bitsOf v 21 16))
  | 0x05, 3 => some (tmpRaise (bitsOf v 9 8))
  | 0x05, 4 => some tmpMeasure
  | 0x08, 1 => some (bnkSwap (bitOf v 8) (bitOf v 9))
  | 0x08, 2 => some bnkCancel
  | 0x08, 3 => some bnkCopyback
  | 0x42, 1 => some memPop
  | 0x42, 2 => some (memInject (bitsOf v 9 8) (bitOf v 10))
  | 0x44, 1 => some dbgChallenge
  | 0x44, 2 => some dbgAuth
  | 0x44, 3 => some dbgClose
  | _, _ => none

/-- KEY_CMD codes (R202). -/
def keyCommand (n v : Nat) : Option (Block → Nat × Block) :=
  match n with
  | 1 => some (keyCmd 1 keyMordant)
  | 2 => some (keyCmd 2 keyIdread)
  | 3 => some (keyCmd 3 keyAttest)
  | 4 => some (keyCmd 4 keyKex)
  | 5 => some (keyCmd 5 (keyLeafload (bitsOf v 18 8)))
  | 6 => some (keyCmd 6 (keyLeafdrop (bitsOf v 18 8)))
  | 7 => some (keyCmd 7 (keyLeafpersist (bitsOf v 18 8) (bitsOf v 29 24)))
  | 8 => some (keyCmd 8 (keyDeriveleaf (bitsOf v 10 8)))
  | 9 => some (keyCmd 9 (keyLeafinfo (bitsOf v 18 8)))
  | 0xA => some (keyCmd 0xA keyRekey)
  | 0xB => some (keyCmd 0xB keyAnchorset)
  | 0xC => some (keyCmd 0xC keyZeroise)
  | _ => none

/-- ACT_CMD POP (R141). -/
def actPop (b : Block) : Nat × Block := (0, { b with actFifo := b.actFifo.drop 1 })

/-- ACT_CMD LOOKUP of operations `op` (bit 0 read, 1 write, 2 fetch, 3 atomic; 0 as a read): the width and alignment rules are not
judged, and nothing is recorded (R9, R141). -/
def actLookup (op : Nat) (b : Block) : Nat × Block :=
  let rq := fget b F.ACT_QRQID_rqid
  let a := rd b R.ACT_QADDR_LO + fget b F.ACT_QADDR_HI_addr * 2 ^ 32
  let need : Need := if op % 16 = 0 then Need.read else ⟨bitOf op 0 || bitOf op 3, bitOf op 1 || bitOf op 3, bitOf op 2, bitOf op 3⟩
  let t := targetOf b.part a
  let j := match t with | .mem _ => judge b rq a (.word 1) need | _ => judge b rq (a / 4 * 4) (.word 4) need
  let res := match j.status with | .ok => 1 | .absent => 2 | .address => 3 | _ => 0
  (0, wr R.ACT_QRES (res * 2 ^ 30 + t.num * 2 ^ 20 + j.region % 16 * 2 ^ 16 + j.perm % 16) b)

/-- Command codes of the network and serial pages. -/
def netCommand (rqid p n v : Nat) : Option (Block → Nat × Block) :=
  if 0x10 ≤ p ∧ p ≤ 0x1E then
    match n with
    | 1 => some (macClrcnt (p - 0x10))
    | 2 => some (macAnrestart (p - 0x10))
    | 3 => some (macVerify (p - 0x10))
    | _ => none
  else match p, n with
  | 0x20, 1 => some (swcTread (bitsOf v 11 8))
  | 0x20, 2 => some (swcTwrite (bitsOf v 11 8))
  | 0x20, 3 => some (swcFlush (bitsOf v 23 12))
  | 0x20, 4 => some swcClrcnt
  | 0x21, 1 => some prpClrcnt
  | 0x21, 2 => some prpFlushnodes
  | 0x36, 1 => some (serSend rqid (bitsOf v 8 8))
  | 0x36, 2 => some (serPop rqid (bitsOf v 8 8))
  | 0x36, 3 => some (serAbort rqid (bitsOf v 8 8))
  | _, _ => none

/-- Command codes of the time, ingest, sheaf and engine pages. -/
def timeCommand (p n v : Nat) : Option (Block → Nat × Block) :=
  let t := bitsOf v 11 8
  match p, n with
  | 0x24, 1 => some timStep
  | 0x24, 2 => some timStepcancel
  | 0x24, 3 => some timTxqclr
  | 0x24, 4 => some timRelock
  | 0x28, 1 => some (sviTread t)
  | 0x28, 2 => some (sviTwrite t)
  | 0x28, 3 => some (sviClrcnt (bitsOf v 18 8) (bitOf v 19))
  | 0x29, 1 => some alnClrcnt
  | 0x2A, 1 => some aapClrcnt
  | 0x2C, 1 => some (pheTread t)
  | 0x2C, 2 => some (pheTwrite t)
  | 0x2C, 3 => some pheClrcnt
  | 0x30, 1 => some schStart
  | 0x30, 2 => some schStop
  | 0x30, 3 => some (schTread t)
  | 0x30, 4 => some (schTwrite t)
  | 0x30, 5 => some (schClrcnt (bitsOf v 21 12) (bitOf v 22))
  | _, _ => none

/-- Command codes of the instance manager, DMA and DPL (R476, R481, R483). -/
def vimCommand (p n v : Nat) : Option (Block → Nat × Block) :=
  let i := bitsOf v 13 8
  let t := bitsOf v 11 8
  match p, n with
  | 0x31, 1 => some (vimAsk 0 0)
  | 0x31, 2 => some vimCancelshare
  | 0x31, 3 => some (vimAsk 1 i)
  | 0x31, 4 => some (vimQuiesce i)
  | 0x31, 5 => some (vimAsk 2 i)
  | 0x31, 6 => some (vimReset i)
  | 0x31, 7 => some (vimForceReset i [])
  | 0x31, 8 => some vimMap
  | 0x31, 9 => some vimUnmap
  | 0x31, 0xA => some (vimTread t)
  | 0x31, 0xB => some (vimTwrite t)
  | 0x32, 1 => some dmaClrcnt
  | 0x33, 1 => some dplClrcnt
  | _, _ => none

/-- Command codes of the publishing, twin, logic, metering and recorder pages. -/
def pubCommand (p n v : Nat) : Option (Block → Nat × Block) :=
  let t := bitsOf v 11 8
  match p, n with
  | 0x34, 1 => some (pubTread t)
  | 0x34, 2 => some (pubTwrite t)
  | 0x34, 3 => some pubClrcnt
  | 0x35, 1 => some bioClrcnt
  | 0x38, 1 => some (twnCheck none (bitsOf v 23 8))
  | 0x38, 2 => some twnRelease
  | 0x38, 3 => some twnRejoin
  | 0x38, 4 => some twnClrcnt
  | 0x39, 1 => some (fldTread t)
  | 0x39, 2 => some (fldTwrite t)
  | 0x39, 3 => some fldClrcnt
  | 0x3C, 1 => some (lgrTread t)
  | 0x3C, 2 => some (lgrTwrite t)
  | 0x3C, 3 => some lgrClrcnt
  | 0x3C, 4 => some (lgrRetclr (bitsOf v 19 12))
  | 0x3E, 1 => some (mtrSnapCmd (bitsOf v 14 8) (bitsOf v 22 15))
  | 0x3E, 2 => some (mtrTread t)
  | 0x3E, 3 => some (mtrTwrite t)
  | 0x3E, 4 => some (mtrZero (bitsOf v 14 8))
  | 0x3E, 5 => some mtrClrcnt
  | 0x3F, 1 => some plsClrcnt
  | 0x40, 1 => some elgClear
  | 0x40, 2 => some elgClrcnt
  | _, _ => none

/-- What a command word `v` written to CMD of page `p` by `rqid` carries out; none for an unknown code (R107). -/
def pageCommand (rqid p v : Nat) : Option (Block → Nat × Block) :=
  let n := v % 256
  if p = 0x04 then keyCommand n v
  else if p = 0x06 then (match n with | 1 => some actPop | 2 => some (actLookup (bitsOf v 11 8)) | _ => none)
  else (sysCommand p n v).orElse fun _ => (netCommand rqid p n v).orElse fun _ => (timeCommand p n v).orElse fun _ =>
    (vimCommand p n v).orElse fun _ => pubCommand p n v

/-- A command that may be unknown: an unknown code completes with 0x12 (R107). -/
def runCommand (f : Option (Block → Nat × Block)) (b : Block) : Nat × Block :=
  match f with | some g => g b | none => (0x12, b)

/-- Offsets of CMD and CMDSTAT of the sub-pages that have them (R107, R147, R261 and the like). -/
def subCmdAt (p : Nat) : Option (Nat × Nat) :=
  match p with
  | 0x08 => some (0x100, 0x104)
  | 0x2C => some (0x1F0, 0x1F4)
  | 0x36 => some (0x1F0, 0x1F4)
  | 0x38 => some (0x1F0, 0x1F4)
  | 0x3E => some (0x1F0, 0x1F4)
  | 0x40 => some (0x1F0, 0x1F4)
  | _ => none

/-- What a command word `v` written to CMD of the sub-page of page `p` of instance `i` carries out. -/
def subCommand (rqid p i v : Nat) : Option (Block → Nat × Block) :=
  match p, v % 256 with
  | 0x08, 1 => some (bnkISwap rqid i)
  | 0x08, 2 => some (bnkICancel rqid i)
  | 0x2C, 1 => some (pheITread i (bitsOf v 11 8))
  | 0x2C, 2 => some (pheITwrite i (bitsOf v 11 8))
  | 0x36, 1 => some (serSend rqid (bitsOf v 8 8))
  | 0x36, 2 => some (serPop rqid (bitsOf v 8 8))
  | 0x36, 3 => some (serAbort rqid (bitsOf v 8 8))
  | 0x38, 1 => some (twnCheck (some i) (bitsOf v 23 8))
  | 0x3E, 1 => some (mtrISnapCmd i (bitsOf v 14 8) (bitsOf v 22 15))
  | 0x40, 1 => some (elgLog i (bitsOf v 17 8) (bitsOf v 20 18))
  | _, _ => none

/-- UNKNOWN_COMMAND: a write of a word to CMD of page `p`. -/
def commandWrite (rqid p v : Nat) (b : Block) : Block := cmdWrite rqid p (runCommand (pageCommand rqid p v)) b

/-- A write of a word to CMD of a sub-page. -/
def subCommandWrite (rqid p i v : Nat) (b : Block) : Block :=
  match subCmdAt p with
  | some (o, so) => subCmdWrite rqid p i o so (runCommand (subCommand rqid p i v)) b
  | none => b

end Sys2Proof.Machine
end

