-- ==== Sys2Proof/Machine/Access.lean ====
section
/-! DEFINITION. Accesses to block pages, instance sub-pages and memory (R102–R111, R124–R132, R621, R622): what a register reads as,
what a read does, what a write does, and a core's access. -/

namespace Sys2Proof.Machine

/-! ### What a register reads as -/

/-- Byte `i` on of a list, as a little-endian word. -/
def wordAt (l : List Byte) (i : Nat) : Nat := leNat ((l.drop i).take 4)

/-- Words of the TMP block tables (R228): MEAS0–MEAS7, instance slots, image floors, allow-list. -/
def tmpTable (b : Block) (o : Nat) : Nat :=
  if o < 0x8100 then wordAt (b.key.meas.getD ((o - 0x8000) / 32) []) (o % 32)
  else if o < 0x8900 then wordAt (instSlot b ((o - 0x8100) / 32)) ((o - 0x8100) % 32)
  else if o < 0x8920 then imgFloor b ((o - 0x8900) / 4)
  else if 0xA000 ≤ o then wordAt b.trust.allow (o - 0xA000)
  else 0

/-- Words of the witness table of served pairs (R544). -/
def witTable (b : Block) (o : Nat) : Nat :=
  let p := (o - 0x8000) / 16
  if 16 ≤ p then 0
  else
    let s := serve b (2 * p)
    match o % 16 / 4 with
    | 0 => s.epoch
    | 1 => s.holder * 65536
    | 2 => ceilDiv (s.exp - ns b) 1000000
    | _ => min 0xFFFF (msSince (ns b) s.heardX) + min 0xFFFF (msSince (ns b) s.heardY) * 65536

/-- `BNKSTAT` of page `p` (R120). -/
def bnkstat (b : Block) (p : Nat) : Nat := rd b (pg p 0x20) + 2 * b2n b.bnk.pend.isSome + 8 * b2n (cfgLocked b p)

/-- Registers of the SYS to DBG pages that show what other state holds. -/
def shownSys (b : Block) (p o : Nat) : Option Nat :=
  match p, o with
  | 0x01, 0x110 => some (mnat b 0x1801000800 4)
  | 0x01, 0x114 => some (mnat b 0x1801000804 2)
  | 0x01, 0x118 => some (mnat b 0x1801000808 4)
  | 0x01, 0x11C => some (mnat b 0x180100080C 4)
  | 0x01, 0x120 => some (mnat b 0x1801000810 4)
  | 0x01, 0x124 => some (mnat b 0x1801000820 4)
  | 0x02, 0x100 => some (startNo b)
  | 0x02, 0x104 => some (ledgerMap b (fun s => decide (s = 1 ∨ s = 3)))
  | 0x02, 0x110 => some (ledgerMap b (fun s => decide (s = 2)))
  | 0x04, 0x00C => some (rd b R.KEY_STAT + keyCells b * 2 ^ 20)
  | 0x04, 0x11C => some ((store b).ctr)
  | 0x04, 0x120 => some ((store b).ctr / 2 ^ 32)
  | 0x04, 0x124 => some b.part.did
  | 0x04, 0x128 => some (b.part.did / 2 ^ 32)
  | 0x04, 0x12C => some (b.part.did / 2 ^ 64)
  | 0x04, 0x130 => some (b.part.did / 2 ^ 96)
  | 0x04, 0x134 => some (fleetId b)
  | 0x04, 0x138 => some (modIdx b)
  | 0x04, 0x13C => some (leafCount b)
  | 0x06, 0x00C => some b.actFifo.length
  | 0x06, 0x100 => some (match b.actFifo with | r :: _ => r.addr | [] => 0)
  | 0x06, 0x104 => some (match b.actFifo with | r :: _ => r.addr / 2 ^ 32 | [] => 0)
  | 0x06, 0x108 => some (match b.actFifo with
      | r :: _ => 2 ^ 31 + r.kind * 2 ^ 28 + r.region % 16 * 2 ^ 24 + r.op * 2 ^ 20 + r.target * 2 ^ 12 + r.rqid
      | [] => 0)
  | 0x06, 0x10C => some (match b.actFifo with | r :: _ => r.time | [] => 0)
  | 0x07, 0x00C => some (rd b R.EVR_STAT + b.evr.sq.length * 512 + b.evr.mq.length)
  | 0x42, 0x00C => some (b.memFifo.length * 16 + ((List.range 4).map (fun s => fget b (F.MEM_DEVMARK_marked s) * 2 ^ s)).sum)
  | 0x42, 0x100 => some (match b.memFifo with | r :: _ => r.addr | [] => 0)
  | 0x42, 0x104 => some (match b.memFifo with | r :: _ => r.addr / 2 ^ 32 | [] => 0)
  | 0x42, 0x108 => some (memHeadInfo b)
  | 0x42, 0x10C => some (match b.memFifo with | r :: _ => r.time | [] => 0)
  | _, _ => none

/-- The sequence of the oldest record of the reserve log (R613, R618). -/
def elgRfirst (b : Block) : Nat :=
  let seqs := b.elg.reserve.map (fun x => wordAt x.2 8)
  seqs.foldl (fun m x => if seqAfter m x then x else m) (seqs.headD 0)

/-- Registers of the other pages that show what other state holds. -/
def shownUnit (b : Block) (p o : Nat) : Option Nat :=
  match p, o with
  | 0x1E, 0x00C => some 0xF   -- H: link up at code 7, 100G (R254)
  | 0x20, 0x00C => some (cellsUsed b + b2n (ringPair b).isSome * 2 ^ 31)
  | 0x21, 0x00C => some (((List.range 6).map (fun i => b2n (pairKind b i != 0) * 2 ^ i)).sum + b2n (bothLan b) * 2 ^ F.PRP_STAT_bothlan.lo)
  | 0x21, 0x1C0 => some b.net.nodes.length
  | 0x24, 0x100 => some (ns b)
  | 0x24, 0x104 => some (ns b / 2 ^ 32)
  | 0x24, 0x108 => some (secOf b)
  | 0x24, 0x10C => some (secOf b / 2 ^ 32 % 65536)
  | 0x24, 0x110 => some (ns b % 1000000000)
  | 0x24, 0x114 => some (b.time % 65536)
  | 0x24, 0x118 => some (fast b)
  | 0x24, 0x124 => some (holdSec b)
  | 0x36, 0x00C => some (((List.range 2).map (fun q => (rd b R.SER_STAT / 2 ^ (8 * q) % 8 + b2n (decide (8 ≤ (serial b q).occ)) * 8 + (serial b q).occ % 16 * 16)
      * 2 ^ (8 * q))).sum)
  | 0x38, 0x00C => some (rd b R.TWN_STAT &&& (0xFFFFFFFF ^^^
      (if b.twn.lease.lastReply + leaseLen b / 2 < ns b then 2 ^ 18 else 0)))
  | 0x38, 0x104 => some (leaseLeft b)
  | 0x3E, 0x158 => some (match mtrBest b with | some x => x.2.1 | none => 0)
  | 0x3E, 0x15C => some (b.mtr.ao.getD 0)
  | 0x3E, 0x160 => some (b.mtr.ao.getD 0 / 2 ^ 32)
  | 0x40, 0x00C => some (rd b R.ELG_STAT + b2n (fon b F.ELG_CTL_hold) * 2 ^ 29 + min 0xFFF b.elg.held.length * 256 + min 0xFF b.elg.queue.length)
  | 0x40, 0x108 => some (elgRfirst b)
  | _, _ => none

/-- The value that offset `o` of block page `p` reads as (R105, R106, R114). -/
def pageVal (b : Block) (p o : Nat) : Nat :=
  if 0x5000 ≤ o ∧ o < 0x8000 then (if (p = 0x1C ∨ p = 0x1D) ∧ o = 0x5000 then 1 else rd b (shdKey b (pg p (o - 0x4000))))
  else if 0x1000 ≤ o ∧ o < 0x4000 then (if (p = 0x1C ∨ p = 0x1D) ∧ o = 0x1000 then 1 else rd b (actKey b (pg p o)))
  else if 0x4000 ≤ o ∧ o < 0x5000 then 0
  else if o = 0x20 then bnkstat b p
  else if p = 0x05 ∧ 0x8000 ≤ o ∧ o < 0xF000 then tmpTable b o
  else if p = 0x38 ∧ 0x8000 ≤ o ∧ o < 0xF000 then witTable b o
  else if p = 0x20 ∧ 0x400 ≤ o ∧ o < 0x800 ∧ o % 8 = 4 then qocc b ((o - 0x400) / 64) ((o - 0x400) % 64 / 8)
  else if p = 0x40 ∧ 0x124 ≤ o ∧ o < 0x164 then wordAt (sget (fun _ => []) b.elg.reserve (rd b R.ELG_RIDX)) (o - 0x124)
  else match shownSys b p o with
    | some v => v
    | none => (match shownUnit b p o with | some v => v | none => rd b (pg p o))

/-- The register of another page that offset `o` of a sub-page of instance `n` mirrors: none where it mirrors none, and address 0 for a
mirror of something the instance does not own (R268, R325, R603). -/
def mirror (b : Block) (p n o : Nat) : Option Nat :=
  match p with
  | 0x24 => if 0x100 ≤ o ∧ o < 0x200 ∧ o % 16 ≠ 12 then
      some (if cmpOwner b ((o - 0x100) / 16) = some n then pg 0x24 (o + 0x100) else 0) else none
  | 0x36 => if 0x100 ≤ o ∧ o < 0x140 then some (if serOwner b ((o - 0x100) / 32) = n then pg 0x36 o else 0) else none
  | 0x3F => if 0x100 ≤ o ∧ o < 0x200 ∧ o % 16 ≠ 12 then
      some (if plsOwner (cfgR b (R.PLS_CFG_w0 ((o - 0x100) / 16))) = some n then pg 0x3F o else 0) else none
  | _ => none

/-- EVR_I_TOP of instance `n` (R136, R144). -/
def evrTop (b : Block) (n : Nat) : Nat :=
  let on (v : Nat) : Bool :=
    bitOf (rd b (if v < 32 then R.EVR_I_PEND0 n else R.EVR_I_PEND1 n) &&& rd b (if v < 32 then R.EVR_I_MASK0 n else R.EVR_I_MASK1 n)) (v % 32)
  let pr (v : Nat) : Nat := sget (fun _ => 0) b.evr.prio (64 * n + v)
  match (List.range 64).filter on with
  | [] => 0
  | x :: l => 2 ^ 31 + l.foldl (fun m v => if pr m < pr v then v else m) x

/-- Registers of sub-pages that show what other state holds. -/
def shownSub (b : Block) (p n o : Nat) : Option Nat :=
  match p, o with
  | 0x07, 0x110 => some (evrTop b n)
  | 0x08, 0x108 => some (rd b (R.BNK_I_STAT n) + b2n (b.bnk.instPend.contains n))
  | 0x29, 0x100 => some (rd b R.ALN_CURIDX_LO)
  | 0x29, 0x104 => some (rd b R.ALN_CURIDX_HI)
  | 0x29, 0x108 => some (rd b R.ALN_SETIDX_LO)
  | 0x29, 0x10C => some (rd b R.ALN_SETIDX_HI)
  | 0x31, 0x100 => some (rd b (R.VIM_ISTATE n))
  | 0x31, 0x104 => some (rd b (R.VIM_QRES n))
  | 0x31, 0x108 => some (shareW b n 0 % 2 ^ 17)
  | 0x31, 0x10C => some (instCells b n)
  | 0x31, 0x110 => some (shareW b n 1 % 64)
  | 0x35, 0x100 => some (rd b R.BIO_BIN)
  | 0x38, 0x100 => some (fget b F.TWN_STAT_state + b2n (paired b) * 256 + b2n (holder b) * 512)
  | 0x38, 0x108 => some (leaseLeft b)
  | 0x3C, 0x10C => some (((List.range 256).map (fun q =>
      if lEn (lgrEnt b q) && tInst (taskEnt b (lTask (lgrEnt b q))) == n then (forcesOf b q).length else 0)).sum)
  | _, _ => none

/-- The subscriptions 32w to 32w + 31 that `n` owns, one bit each: an instance, or the manager for none (R360, R362). -/
def gooMask (b : Block) (n : Option Nat) (w : Nat) : Nat :=
  ((List.range 32).map (fun k =>
    let w0 := gooW b (32 * w + k) 0
    b2n (match n with | none => gooOwner w0 == 0 | some n => gooOwner w0 == 1 && bitsOf w0 21 16 == n) * 2 ^ k)).sum

/-- The value that offset `o` of the sub-page of page `p` of instance `n` reads as (R113 and the sub-pages' own tables). -/
def subVal (b : Block) (p n o : Nat) : Nat :=
  if o = 0x00C then b2n (b.instB.contains n) * 2 ^ 31 + (if p = 0x30 then b2n (fon b (F.VIM_ISTATE_faulted n)) else 0)
  else if p = 0x28 ∧ 0x100 ≤ o ∧ o < 0x200 then rd b (sp n p o) &&& gooMask b (some n) ((o - 0x100) % 128 / 4)
  else if p = 0x30 ∧ 0x104 ≤ o ∧ o < 0x124 then
    (let t := rd b (R.SCH_I_TIDX n)
     if tInst (taskEnt b t) = n ∧ tEn (taskEnt b t) then schWord b 4 t ((o - 0x104) / 4) else 0)
  else match mirror b p n o with
    | some a => if a = 0 then 0 else rd b a
    | none => (match shownSub b p n o with | some v => v | none => rd b (sp n p o))

/-! ### What a read does -/

/-- The _LO registers of a page (R104): offset, count and spacing; each _HI lies 4 above. -/
def loRegs (p : Nat) : List (Nat × Nat × Nat) :=
  match p with
  | 0x03 => [(0x100, 1, 4), (0x110, 1, 4)]
  | 0x04 => [(0x100, 1, 4), (0x10C, 1, 4), (0x11C, 1, 4)]
  | 0x05 => [(0x11C, 1, 4)]
  | 0x06 => [(0x100, 1, 4), (0x118, 1, 4)]
  | 0x08 => [(0x100, 1, 4), (0x108, 1, 4), (0x110, 1, 4)]
  | 0x10 => [(0x104, 1, 4), (0x140, 1, 4)]
  | 0x24 => [(0x100, 1, 4)]
  | 0x25 => [(0x108, 1, 4)]
  | 0x29 => [(0x100, 1, 4), (0x108, 1, 4), (0x128, 1, 4), (0x100C, 1, 4)]
  | 0x2C => [(0x124, 1, 4)]
  | 0x30 => [(0x144, 1, 4)]
  | 0x32 => [(0x100, 1, 4)]
  | 0x33 => [(0x200, 64, 32)]
  | 0x36 => [(0x100, 2, 32), (0x100C, 2, 32)]
  | 0x38 => [(0x110, 1, 4), (0x144, 1, 4), (0x1004, 1, 4)]
  | 0x39 => [(0x134, 1, 4), (0x1008, 1, 4)]
  | 0x3C => [(0x1000, 1, 4)]
  | 0x3E => [(0x144, 1, 4), (0x150, 1, 4), (0x15C, 1, 4)]
  | 0x40 => [(0x110, 1, 4)]
  | 0x42 => [(0x100, 1, 4), (0x128, 1, 4)]
  | 0x44 => [(0x100, 1, 4)]
  | _ => []

/-- The _LO registers of the sub-page of a page. -/
def loSubRegs (p : Nat) : List (Nat × Nat × Nat) :=
  match p with
  | 0x29 => [(0x100, 1, 4), (0x108, 1, 4), (0x110, 1, 4)]
  | 0x2C => [(0x100, 1, 4), (0x108, 1, 4)]
  | 0x30 => [(0x128, 1, 4)]
  | 0x32 => [(0x100, 1, 4)]
  | 0x36 => [(0x100, 2, 32)]
  | 0x3C => [(0x104, 1, 4)]
  | 0x3E => [(0x100, 1, 4)]
  | _ => []

/-- Whether `o` is listed. -/
def listedAt (l : List (Nat × Nat × Nat)) (o : Nat) : Bool :=
  l.any (fun x => decide (x.1 ≤ o) && decide ((o - x.1) % x.2.2 = 0) && decide ((o - x.1) / x.2.2 < x.2.1))

/-- Offset of a register in the active view, for one that is read in the shadow view. -/
def viewOff (o : Nat) : Nat := if 0x5000 ≤ o ∧ o < 0x8000 then o - 0x4000 else o

/-- Whether a target is a _LO register of a pair (R104). -/
def isLo (t : Target) : Bool :=
  match t with
  | .page p o => listedAt (loRegs (layoutPage p)) (viewOff o)
  | .sub p _ o => listedAt (loSubRegs p) o
  | _ => false

/-- The value a target that is a register reads as. -/
def targetVal (b : Block) (t : Target) : Nat :=
  (match t with | .page p o => pageVal b p o | .sub p n o => subVal b p n o | _ => 0) % 2 ^ 32

/-- The head of the manager queue: the oldest entry of the highest non-empty priority (R136). -/
def mqHead (b : Block) : Option EvEnt :=
  match b.evr.mq with
  | [] => none
  | x :: l => some (l.foldl (fun m e => if m.prio < e.prio then e else m) x)

/-- A read of EVR_MQ0 or EVR_SQ0 by `rqid` (R142). -/
def queueLatch (sq : Bool) (rqid : Nat) (b : Block) : Nat × Block :=
  match (if sq then b.evr.sq.head? else mqHead b) with
  | none => (0, b)
  | some e =>
    (e.t, { b with evr :=
      if sq then { b.evr with sLatch := (rqid, e) :: b.evr.sLatch.filter (fun x => x.1 != rqid) }
      else { b.evr with mLatch := (rqid, e) :: b.evr.mLatch.filter (fun x => x.1 != rqid) } })

/-- A read of EVR_MQ1 or EVR_SQ1 by `rqid`: the latched entry, popped; nothing without a latch or once another requester has popped
it (R142). -/
def queuePop (sq : Bool) (rqid : Nat) (b : Block) : Nat × Block :=
  match (if sq then b.evr.sLatch else b.evr.mLatch).find? (fun x => x.1 == rqid) with
  | none => (0, b)
  | some (_, e) =>
    let q := if sq then b.evr.sq else b.evr.mq
    let here := q.any (fun x => x.id == e.id)
    let q' := q.filter (fun x => x.id != e.id)
    let b := { b with evr :=
      if sq then { b.evr with sq := q', sLatch := b.evr.sLatch.filter (fun x => x.1 != rqid) }
      else { b.evr with mq := q', mLatch := b.evr.mLatch.filter (fun x => x.1 != rqid) } }
    (if here then 2 ^ 31 + e.prio % 8 * 2 ^ 28 + e.ev % 1024 else 0, b)

/-- A read of a register that answers a latched value first: the latch is used up (R104, R324). -/
def takeLatch (rqid a v : Nat) (b : Block) : Nat × Block :=
  if b.hiLatch.any (fun e => e.1 == (rqid, a)) then
    (latched b rqid a, { b with hiLatch := b.hiLatch.filter (fun e => e.1 != (rqid, a)) })
  else (v, b)

/-- What a granted read of the register at `a` answers and does. -/
def readReg (rqid a : Nat) (b : Block) : Nat × Block :=
  let by_ (f : Block → Block) : Nat × Block := ((f b).resp.data, f b)
  let t := targetOf b.part a
  if a = R.EVR_MQ0 then queueLatch false rqid b
  else if a = R.EVR_MQ1 then queuePop false rqid b
  else if a = R.EVR_SQ0 then queueLatch true rqid b
  else if a = R.EVR_SQ1 then queuePop true rqid b
  else if a = R.TIM_SEC_LO then by_ (timSecRead rqid)
  else if a = R.TIM_TXQ0 then by_ (timTxq0Read rqid)
  else if a = R.TIM_TXQ2 then by_ (timTxq2Read rqid)
  else if a = R.BIO_BINQ0 then by_ (binq0Read rqid)
  else if a = R.BIO_BINQ2 then by_ (binq2Read rqid)
  else if a = R.TIM_TXQ1 then (txq1Val b rqid, b)
  else if a = R.BIO_BINQ1 then (binq1Val b rqid, b)
  else if isLo t then (targetVal b t, latch rqid (a + 4) (targetVal b (targetOf b.part (a + 4))) b)
  else takeLatch rqid a (targetVal b t) b

/-- An access that ends with `st` and `v`. -/
def answer (st : Status) (v rqid a : Nat) (b : Block) : Block := accessErr st rqid a { b with resp := ⟨st, if st = .ok then v else 0⟩ }

/-- A checked read of memory by a core. -/
def coreRead (rqid a n : Nat) (wd : Width) (need : Need) (b : Block) : Block :=
  match busRead rqid a n wd need b with
  | (st, l, b) => answer st (leNat l) rqid a b

/-- A checked 32-bit read of `a` by `rqid` (R104, R110, R128). -/
def registerRead (rqid a : Nat) (b : Block) : Block :=
  match targetOf b.part a with
  | .mem _ => coreRead rqid a 4 (.word 4) Need.read b
  | _ =>
  let j := judge b rqid a (.word 4) Need.read
  if j.status = .ok then (let (v, b) := readReg rqid a b; { b with resp := ⟨.ok, v⟩ })
  else accessFault j rqid a Need.read { b with resp := ⟨j.status, 0⟩ }

/-! ### What a write does -/

/-- Store `v` into the writable bits of the register at key `a`, and clear its write-1-to-clear bits. -/
def regStore (a v : Nat) (i : RegInfo) (b : Block) : Block :=
  let old := rd b a
  wr a (((old &&& (0xFFFFFFFF ^^^ i.wr)) ||| (v &&& i.wr)) &&& (0xFFFFFFFF ^^^ (v &&& i.w1c))) b

/-- A write of the shadow view at active offset `o` (R108, R114, R118). -/
def shadowWrite (p o v : Nat) (b : Block) : Block :=
  let i := pageInfo b.part p o
  if i.wr = 0 ∨ ((p = 0x1C ∨ p = 0x1D) ∧ o = 0x1000) then b
  else if cfgLocked b p then lockedWrite p b
  else if shadowsFrozen b then pendWrite p b
  else b |> regStore (shdKey b (pg p o)) v i |> markDirty p

/-- A write of an access-table word: `base` is the table, `o` the offset in it; bits of a limit below the granule read as ones (R126, R127). -/
def tableWrite (lockPage base o v : Nat) (b : Block) : Block :=
  let a := base + o
  if bitOf (rd b (pg lockPage 0x24)) 1 then lockedWrite lockPage b
  else if 0x400 ≤ o then
    (match o % 16 / 4 with
     | 1 => wr a (v % 256) b
     | 2 => wr a (v ||| (if lockPage = 0x06 ∧ base ≠ pg 0x06 0xF000 ∧ base ≠ pg 0x06 0x9800 then 0xFFF else 0xFF)) b
     | 3 => wr a (v &&& 0x300FF) b
     | _ => wr a v b)
  else if o % 8 = 0 then { b with heldLow := (a, w32 v) :: b.heldLow.filter (fun e => e.1 != a) }
  else
    match b.heldLow.find? (fun e => e.1 == a - 4) with
    | some e => { b with heldLow := b.heldLow.filter (fun x => x.1 != a - 4) } |> wr (a - 4) e.2.toNat |> wr a v
    | none => wr a v b

/-- A write of LOCK (R108): each bit is set by a 1. -/
def lockWrite (p v : Nat) (b : Block) : Block := wr (pg p 0x24) (rd b (pg p 0x24) ||| v % 4) b

/-- What else a write of CTL of page `p` does. -/
def ctlHook (p old v : Nat) (b : Block) : Block :=
  if 0x10 ≤ p ∧ p ≤ 0x1E then (if bitOf v 0 && !bitOf old 0 then takeDown (p - 0x10) b else b)
  else if p = 0x40 then (if bitOf v 0 != bitOf old 0 then elgHold (bitOf v 0) [] (wr R.ELG_CTL old b) else b)
  else b

/-- A write of CTL of page `p` (R106, R108). -/
def ctlWrite (p v : Nat) (b : Block) : Block :=
  let a := pg p 0x08
  if cfgLocked b p then lockedWrite p b
  else ctlHook p (rd b a) v (regStore a v (pageInfo b.part p 0x08) b)

/-- A write of EVT of page `p`: the sticky bits that go with it are cleared (R143, R318). -/
def evtWrite (p v : Nat) (b : Block) : Block :=
  let b := regStore (pg p 0x10) v ⟨0, 0xFFFFFFFF, 0⟩ b
  match p with
  | 0x07 => b |> cond (bitOf v 0) (fset F.EVR_STAT_mqovf 0) |> cond (bitOf v 1) (fset F.EVR_STAT_sqovf 0)
  | 0x24 => cond (match evLoc EV.TIM_TXQOVF with | some (_, o) => bitOf v o | none => false) (fset F.TIM_STAT_txqovf 0) b
  | _ => b

/-- A write of an operational register of page `p` (R99, R146, R174, R483). -/
def operWrite (p o v : Nat) (b : Block) : Block :=
  let i := pageInfo b.part p o
  let put := regStore (pg p o) v i b
  match p with
  | 0x00 => if o = 0x104 ∧ (v % 2 ^ 14 < 10 ∨ 10000 < v % 2 ^ 14) then b else put
  | 0x08 => if (o = 0x100 ∨ o = 0x104) ∧ b.bnk.pend.isSome then b else put
  | 0x32 => if o = 0x10C then wr (pg p o) (v % 4096) b else put
  | 0x33 =>
    if 0x200 ≤ o ∧ o < 0xA00 then
      let n := (o - 0x200) / 32
      let on := fon b (F.DPL_BMP_HI_en n)
      match o % 32 with
      | 4 => if bitOf v 31 && decide (fget b (F.DPL_WINSZ_gran n) = 0) then regStore (pg p o) (v % 2 ^ 31) i b else put
      | _ => if on ∧ i.wr ≠ 0 then lockedWrite 0x33 b else put
    else put
  | _ => put

/-- A granted 32-bit write to offset `o` of block page `p` that has no command meaning (R105, R106, R108, R127). -/
def pageWrite (p o v : Nat) (b : Block) : Block :=
  if o = 0x08 then ctlWrite p v b
  else if o = 0x10 then evtWrite p v b
  else if o = 0x14 then regStore (pg p o) v (pageInfo b.part p o) b
  else if o = 0x18 then regStore (pg p o) v ⟨0, 0xFFFFFFFF, 0⟩ b
  else if o = 0x24 then lockWrite p v b
  else if o < 0x100 then b
  else if o < 0x1000 then operWrite p o v b
  else if o < 0x5000 then b
  else if o < 0x8000 then shadowWrite p (o - 0x4000) v b
  else if 0xF000 ≤ o then (if o < 0xF500 then tableWrite p (pg p 0xF000) (o - 0xF000) v b else b)
  else if p = 0x06 ∧ o < 0xA800 then
    (let m := (o - 0x8000) / 0x800
     let r := (o - 0x8000) % 0x800
     if r < 0x500 then tableWrite 0x06 (pg 0x06 (0x8000 + m * 0x800)) r v b else b)
  else
    let i := pageInfo b.part p o
    if i.wr = 0 then b else if cfgLocked b p then lockedWrite p b else regStore (pg p o) v i b

/-- IEVTEN of a sub-page takes `v`: a newly enabled bit whose IEVT bit is 1 is delivered (R136). -/
def ievtenWrite (p n v : Nat) (b : Block) : Block :=
  let old := rd b (sp n p 0x014)
  let b := wr (sp n p 0x014) v b
  if rd b (sp n p 0x010) &&& v &&& (0xFFFFFFFF ^^^ old) = 0 then b
  else
    let iv := rd b (sp n p 0x004)
    instVector n (iv % 64) (match evBase p with | some (e, _) => e | none => 0) (iv / 256 % 8) b

/-- A granted 32-bit write by `rqid` to offset `o` of the sub-page of page `p` of instance `n` (R113, R268, R325, R482). -/
def subWrite (rqid p n o v : Nat) (b : Block) : Block :=
  if o = 0x014 then ievtenWrite p n v b
  else if p = 0x24 ∧ 0x100 ≤ o ∧ o < 0x200 then
    (let i := (o - 0x100) / 16
     match o % 16 with
     | 0 => cmpTgtWrite rqid (some n) i v b
     | 4 => cmpPerWrite rqid (some n) i v b
     | 8 => if cmpOwner b i = some n then regStore (pg 0x24 (o + 0x100)) v (pageInfo b.part 0x24 (o + 0x100)) b else b
     | _ => b)
  else if p = 0x32 ∧ 0x100 ≤ o ∧ o < 0x10C ∧ bitOf (rd b (sp n p 0x008)) 0 then b
  else if p = 0x32 ∧ o = 0x10C then wr (sp n p o) (v % 4096) b
  else match mirror b p n o with
    | some a => if a = 0 then b else regStore a v (pageInfo b.part p (a % 0x10000)) b
    | none => if o < 0x800 then regStore (sp n p o) v (subInfo p n o) b else b

/-- REGISTER_WRITE of a register that has a row of its own goes to that row's meaning; any other is checked and carried out. -/
def registerWrite (rqid a v : Nat) (b : Block) : Block :=
  let v := v % 2 ^ 32
  let t := targetOf b.part a
  if a % 4 = 0 ∧ t = .page t.num 0x28 then commandWrite rqid t.num v b
  else if a = R.SYS_WDOGKICK then wdogKick rqid b
  else if a = R.PWR_TALLYCTL then tallyctlWrite rqid v b
  else if a = R.SVI_CTL then sviSimWrite rqid v b
  else if a = R.TWN_CTL then noleaseWrite rqid v b
  else match t with
  | .mem _ =>
    let r := busWrite rqid a (leBytes 4 v) (.word 4) Need.write b
    accessErr r.1 rqid a { r.2 with resp := ⟨r.1, 0⟩ }
  | _ =>
  match t with
  | .page 0x24 o =>
    if 0x200 ≤ o ∧ o < 0x300 ∧ o % 16 = 0 then cmpTgtWrite rqid none ((o - 0x200) / 16) v b
    else if 0x200 ≤ o ∧ o < 0x300 ∧ o % 16 = 4 then cmpPerWrite rqid none ((o - 0x200) / 16) v b
    else plain rqid a v t b
  | .sub p n o => if subCmdAt p = some (o, o + 4) then subCommandWrite rqid p n v b else plain rqid a v t b
  | _ => plain rqid a v t b
where
  /-- The check of R128, then the write. -/
  plain (rqid a v : Nat) (t : Target) (b : Block) : Block :=
    let j := judge b rqid a (.word 4) Need.write
    let b := { b with resp := ⟨j.status, 0⟩ }
    if j.status ≠ .ok then accessFault j rqid a Need.write b
    else match t with
      | .page p o => pageWrite p o v b
      | .sub p n o => subWrite rqid p n o v b
      | _ => b

/-- HOLD_WRITE: a write of ELG_CTL, whose end of a hold writes the held records, failing as `fails` says (R612). -/
def holdWrite (rqid v : Nat) (fails : List Bool) (b : Block) : Block :=
  let j := judge b rqid R.ELG_CTL (.word 4) Need.write
  let b := { b with resp := ⟨j.status, 0⟩ }
  if j.status ≠ .ok then accessFault j rqid R.ELG_CTL Need.write b
  else if cfgLocked b 0x40 then lockedWrite 0x40 b
  else if bitOf v 0 = fon b F.ELG_CTL_hold then b
  else elgHold (bitOf v 0) fails b

/-! ### A core's access (R104, R110, R128, R621) -/

/-- The new value of an atomic of `n` bytes on `old` with operand `v`: the read-modify-write operations of the cores' RV64GC
instruction set (R19). -/
def amoVal (op : AmoOp) (n old v : Nat) : Nat :=
  let m := 2 ^ (8 * n)
  let x := old % m
  let y := v % m
  match op with
  | .swap => y
  | .add => (x + y) % m
  | .xor => x ^^^ y
  | .and => x &&& y
  | .or => x ||| y
  | .min => if sNat (8 * n) x ≤ sNat (8 * n) y then x else y
  | .max => if sNat (8 * n) x ≤ sNat (8 * n) y then y else x
  | .minu => min x y
  | .maxu => max x y

/-- Whether an address selects memory. -/
def isMem (b : Block) (a : Nat) : Bool := match targetOf b.part a with | .mem _ => true | _ => false

/-- A checked write of memory by a core. -/
def coreWrite (rqid a : Nat) (l : List Byte) (wd : Width) (b : Block) : Block :=
  match busWrite rqid a l wd Need.write b with
  | (st, b) => answer st 0 rqid a b

/-- An atomic in memory: nothing is written where the read fails (R128, R474). -/
def coreAmo (rqid a : Nat) (op : AmoOp) (n v : Nat) (b : Block) : Block :=
  let need : Need := ⟨true, true, false, true⟩
  match busRead rqid a n (.word n) need b with
  | (.ok, l, b) =>
    (match busWrite rqid a (leBytes n (amoVal op n (leNat l) v)) (.word n) need b with
     | (st, b) => answer st (leNat l) rqid a b)
  | (st, _, b) => answer st 0 rqid a b

/-- Two 32-bit accesses, the lower address first; the second does not follow a refused first one (R104). -/
def both (f : Nat → Block → Block) (a : Nat) (b : Block) : Block :=
  let x := f a b
  if x.resp.status ≠ .ok then x
  else
    let y := f (a + 4) x
    { y with resp := ⟨y.resp.status, if y.resp.status = .ok then x.resp.data + y.resp.data * 2 ^ 32 else 0⟩ }

/-- An instruction fetch of the register at `a`. -/
def regFetch (rqid a : Nat) (b : Block) : Block :=
  let need : Need := ⟨false, false, true, false⟩
  let j := judge b rqid a (.word 4) need
  if j.status ≠ .ok then accessFault j rqid a need { b with resp := ⟨j.status, 0⟩ }
  else { b with resp := ⟨.ok, targetVal b (targetOf b.part a)⟩ }

/-- An atomic of `n` = 4 or 8 bytes on registers: its accesses are granted only together (R127, R128), and one of 8 bytes is two 32-bit reads
and two 32-bit writes, the lower address first (R104). -/
def regAmo (rqid a : Nat) (op : AmoOp) (n v : Nat) (b : Block) : Block :=
  let need : Need := ⟨true, true, false, true⟩
  let refused (x : Nat) : Bool := (judge b rqid x (.word 4) need).status ≠ .ok
  match (if n = 8 then [a, a + 4] else [a]).find? refused with
  | some x =>
    let j := judge b rqid x (.word 4) need
    accessFault j rqid x need { b with resp := ⟨j.status, 0⟩ }
  | none =>
    let b := if n = 8 then both (registerRead rqid) a b else registerRead rqid a b
    let x := b.resp.data
    let y := amoVal op n x v
    let b := if n = 8 then both (fun z => registerWrite rqid z (if z = a then y else y / 2 ^ 32)) a b else registerWrite rqid a y b
    { b with resp := ⟨b.resp.status, if b.resp.status = .ok then x else 0⟩ }

/-- An access to a register range that breaks R104. -/
def badWidth (rqid a : Nat) (need : Need) (b : Block) : Block :=
  accessFault ⟨.address, 0xF, 0, 0⟩ rqid a need { b with resp := ⟨.address, 0⟩ }

/-- What CSR `n` reads as to the task that core `c` runs, `insns` instructions after its latest context switch (R90, R95). -/
def csrVal (b : Block) (c n insns : Nat) : Nat :=
  let x := schCore b c
  match n with
  | 0xC01 => ns b
  | 0xC00 => ns b
  | 0xC02 => (match x.cur with | some r => (schTask b r.snap.task).instret + insns | none => insns)
  | 0xCC0 => fast b
  | 0xCC1 => (match x.cur with | some r => if r.cls = 2 then 0x7FFFFFFF else uInt 32 ((r.dl : Int) - (ns b : Int)) | none => 0x7FFFFFFF)
  | 0xCC2 => fget b F.PWR_TALLYSPD_min
  | _ => 0

/-- The first application core whose open window belongs to instance `n`: the one a fill for `n` is taken to come from, since an RQID does not
name its core (R19; DESIGN CHOICE, log entry 61). -/
def coreOfInst (b : Block) (n : Nat) : Option Nat :=
  (List.range 16).find? (fun c => match (schCore b c).win with | some w => bitsOf w.word 21 16 == n | none => false)

/-- A line joins a cache of 64 KiB, 1,024 lines (R19). -/
def cacheAdd (a : Nat) (l : List Nat) : List Nat := (a :: l.filter (· != a)).take 1024

/-- A line that was filled stands in the instruction or the data cache of the core (R19, R20). -/
def cached (rqid a : Nat) (fetch : Bool) (b : Block) : Block :=
  if b.resp.status ≠ .ok then b
  else match coreOfInst b rqid with
  | none => b
  | some c => modCore c (fun x => if fetch then { x with icache := cacheAdd a x.icache } else { x with dcache := cacheAdd a x.dcache }) b

/-- CORE_MEMORY_ACCESS of kind `op` by `rqid` at `a`. -/
def coreAccess (rqid a : Nat) (op : CoreOp) (b : Block) : Block :=
  match op with
  | .load n =>
    if isMem b a then coreRead rqid a n (.word n) Need.read b
    else if n = 4 then registerRead rqid a b
    else if n = 8 ∧ a % 8 = 0 then both (registerRead rqid) a b
    else badWidth rqid a Need.read b
  | .store n v =>
    if isMem b a then coreWrite rqid a (leBytes n v) (.word n) b
    else if n = 4 then registerWrite rqid a v b
    else if n = 8 ∧ a % 8 = 0 then both (fun x => registerWrite rqid x (if x = a then v else v / 2 ^ 32)) a b
    else badWidth rqid a Need.write b
  | .fetch n =>
    let need : Need := ⟨false, false, true, false⟩
    if isMem b a then coreRead rqid a n (.word n) need b
    else if n = 4 then regFetch rqid a b
    else if n = 8 ∧ a % 8 = 0 then both (regFetch rqid) a b
    else badWidth rqid a need b
  | .fill fetch =>
    let need : Need := if fetch then ⟨false, false, true, false⟩ else Need.read
    if isMem b a then cached rqid a fetch (coreRead rqid a 64 .line need b) else badWidth rqid a need b
  | .writeBack l =>
    if isMem b a then coreWrite rqid a (padTo 0#8 64 (l.take 64)) .line b else badWidth rqid a Need.write b
  | .amo o n v =>
    if isMem b a then coreAmo rqid a o n v b
    else if n = 4 ∨ (n = 8 ∧ a % 8 = 0) then regAmo rqid a o n v b
    else badWidth rqid a ⟨true, true, false, true⟩ b
  | .csr c n insns => { b with resp := ⟨.ok, csrVal b c n insns⟩ }

/-! ### An event raised by a block (R106, R136, R137) -/

/-- EVENT_ASSERT of event `ev`. -/
def eventAssert (ev : Nat) (pl : List Byte) (b : Block) : Block := raiseP ev pl b

/-- IEVTEN_WRITE by `rqid` in the sub-page of page `p` of instance `n`. -/
def ievtenRow (rqid p n v : Nat) (b : Block) : Block := registerWrite rqid (sp n p 0x014) v b

/-- LOCK_WRITE by `rqid` on page `p`. -/
def lockRow (rqid p v : Nat) (b : Block) : Block := registerWrite rqid (pg p 0x24) v b

end Sys2Proof.Machine
end

