-- ==== Sys2Proof/Machine/Ranges.lean ====
section
/-! DEFINITION. The range of each command's operands: one definition per command whose operands have one, from the tables of the rules that
Syntax names. -/

namespace Sys2Proof.Machine

/-- The operands of HOLDUP_READY are in range (R59). -/
def okHoldupReady (cap : Nat) : Bool := decide (cap < 2 ^ 16)

/-- The operands of RAIL_FAULT are in range (R60). -/
def okRailFault (rail : Nat) : Bool := decide (rail < 16)

/-- The operands of PWR_MEASURE are in range (R82). -/
def okPwrMeasure (vin iin tj tplate varray ratio : Nat) : Bool :=
  decide (vin < 65536) && decide (iin < 65536) && decide (tj < 65536) && decide (tplate < 65536) && decide (varray < 65536) &&
    decide (ratio < 65536)

/-- The operands of VIN_WARNING_CROSS are in range (R63). -/
def okVinWarningCross (k : Nat) : Bool := decide (k < 5)

/-- The operands of VIN_RESET_CROSS are in range (R62). -/
def okVinResetCross (k : Nat) : Bool := decide (k < 5)

/-- The operands of JUNCTION_TRIP are in range (R70). -/
def okJunctionTrip (k : Nat) : Bool := decide (k < 5)

/-- The operands of CLEAR_MIN are in range (R81). -/
def okClearMin (rqid : Nat) : Bool := decide (rqid < 1024)

/-- The operands of TALLY_SPEED_REFRESH are in range (R90). -/
def okTallySpeedRefresh (mn mean : Nat) : Bool := decide (mn < 65536) && decide (mean < 65536)

/-- The operands of PWR_TALLYCTL_WRITE are in range (R94). -/
def okPwrTallyctlWrite (rqid v : Nat) : Bool := decide (rqid < 1024) && decide (v < 2 ^ 32)

/-- The operands of MEMORY_PATROL are in range (R32). -/
def okMemoryPatrol (kind : Nat) : Bool := decide (kind < 3)

/-- The operands of MEM_POP are in range (R149). -/
def okMemPop (rqid : Nat) : Bool := decide (rqid < 1024)

/-- The operands of MEM_INJECT are in range (R149). -/
def okMemInject (rqid n : Nat) : Bool := decide (rqid < 1024) && decide (n < 4)

/-- The operands of REGISTER_WRITE are in range (R106). -/
def okRegisterWrite (rqid a v : Nat) : Bool := decide (rqid < 1024) && decide (a < 2 ^ 40) && decide (v < 2 ^ 32)

/-- The operands of LO_REGISTER_READ are in range (R104). -/
def okLoRegisterRead (rqid a : Nat) : Bool := decide (rqid < 1024) && decide (a < 2 ^ 40)

/-- The operands of LOCK_WRITE are in range (R108). -/
def okLockWrite (rqid p v : Nat) : Bool := decide (rqid < 1024) && decide (p < 256) && decide (v < 2 ^ 32)

/-- The operands of UNKNOWN_COMMAND are in range (R107). -/
def okUnknownCommand (rqid p v : Nat) : Bool := decide (rqid < 1024) && decide (p < 256) && decide (v < 2 ^ 32)

/-- The operands of ACCESS_ENTRY_WRITE are in range (R127). -/
def okAccessEntryWrite (rqid a v : Nat) : Bool := decide (rqid < 1024) && decide (a < 2 ^ 40) && decide (v < 2 ^ 32)

/-- The operands of CORE_MEMORY_ACCESS are in range (R128). -/
def okCoreMemoryAccess (rqid a : Nat) (op : CoreOp) : Bool :=
  decide (rqid < 1024) && decide (a < 2 ^ 40)
    && (match op with | .csr c n _ => decide (c < 16) && decide (n ∈ [0xC00, 0xC01, 0xC02, 0xCC0, 0xCC1, 0xCC2]) | _ => true)

/-- The operands of BNK_SWAP are in range (R115). -/
def okBnkSwap (rqid : Nat) : Bool := decide (rqid < 1024)

/-- The operands of BNK_CANCEL are in range (R123). -/
def okBnkCancel (rqid : Nat) : Bool := decide (rqid < 1024)

/-- The operands of BNK_COPYBACK are in range (R145). -/
def okBnkCopyback (rqid : Nat) : Bool := decide (rqid < 1024)

/-- The operands of BNK_I_SWAP are in range (R122). -/
def okBnkISwap (rqid n : Nat) : Bool := decide (rqid < 1024) && decide (n < 64)

/-- The operands of BNK_I_CANCEL are in range (R147). -/
def okBnkICancel (rqid n : Nat) : Bool := decide (rqid < 1024) && decide (n < 64)

/-- The operands of ACT_POP are in range (R141). -/
def okActPop (rqid : Nat) : Bool := decide (rqid < 1024)

/-- The operands of ACT_LOOKUP are in range (R141). -/
def okActLookup (rqid op : Nat) : Bool := decide (rqid < 1024) && decide (op < 16)

/-- The operands of EVENT_ASSERT are in range (R136). -/
def okEventAssert (ev : Nat) : Bool := decide (ev < 1024)

/-- The operands of IEVTEN_WRITE are in range (R136). -/
def okIevtenWrite (rqid p n v : Nat) : Bool := decide (rqid < 1024) && decide (p < 256) && decide (n < 64) && decide (v < 2 ^ 32)

/-- The operands of EVR_QUEUE_LATCH are in range (R142). -/
def okEvrQueueLatch (rqid : Nat) : Bool := decide (rqid < 1024)

/-- The operands of EVR_QUEUE_POP are in range (R142). -/
def okEvrQueuePop (rqid : Nat) : Bool := decide (rqid < 1024)

/-- The operands of START_STEP are in range (R154). -/
def okStartStep (detail : Nat) : Bool := decide (detail < 256)

/-- The operands of STL_CLEAR are in range (R160). -/
def okStlClear (rqid n : Nat) : Bool := decide (rqid < 1024) && decide (n < 32)

/-- The operands of SYS_WDOGKICK are in range (R174). -/
def okSysWdogkick (rqid : Nat) : Bool := decide (rqid < 1024)

/-- The operands of SYS_WARM are in range (R173). -/
def okSysWarm (rqid : Nat) : Bool := decide (rqid < 1024)

/-- The operands of SYS_COLD are in range (R173). -/
def okSysCold (rqid : Nat) : Bool := decide (rqid < 1024)

/-- The operands of SYS_FALLOW are in range (R167). -/
def okSysFallow (rqid : Nat) : Bool := decide (rqid < 1024)

/-- The operands of SYS_FALLBACK are in range (R173). -/
def okSysFallback (rqid : Nat) : Bool := decide (rqid < 1024)

/-- The operands of SYS_RESUME are in range (R173). -/
def okSysResume (rqid : Nat) : Bool := decide (rqid < 1024)

/-- The operands of SYS_SPKSET are in range (R173). -/
def okSysSpkset (rqid copy : Nat) : Bool := decide (rqid < 1024) && decide (copy < 2)

/-- The operands of KEY_MORDANT are in range (R194). -/
def okKeyMordant (rqid : Nat) : Bool := decide (rqid < 1024)

/-- The operands of KEY_IDREAD are in range (R202). -/
def okKeyIdread (rqid : Nat) : Bool := decide (rqid < 1024)

/-- The operands of KEY_ATTEST are in range (R219). -/
def okKeyAttest (rqid : Nat) : Bool := decide (rqid < 1024)

/-- The operands of KEY_KEX are in range (R190). -/
def okKeyKex (rqid : Nat) : Bool := decide (rqid < 1024)

/-- The operands of KEY_LEAFLOAD are in range (R190). -/
def okKeyLeafload (rqid h : Nat) : Bool := decide (rqid < 1024) && decide (h < 2048)

/-- The operands of KEY_LEAFDROP are in range (R202). -/
def okKeyLeafdrop (rqid h : Nat) : Bool := decide (rqid < 1024) && decide (h < 2048)

/-- The operands of KEY_LEAFPERSIST are in range (R191). -/
def okKeyLeafpersist (rqid h n : Nat) : Bool := decide (rqid < 1024) && decide (h < 2048) && decide (n < 64)

/-- The operands of KEY_DERIVELEAF are in range (R185). -/
def okKeyDeriveleaf (rqid kind : Nat) : Bool := decide (rqid < 1024) && decide (kind < 8)

/-- The operands of KEY_LEAFINFO are in range (R187). -/
def okKeyLeafinfo (rqid h : Nat) : Bool := decide (rqid < 1024) && decide (h < 2048)

/-- The operands of KEY_REKEY are in range (R183). -/
def okKeyRekey (rqid : Nat) : Bool := decide (rqid < 1024)

/-- The operands of KEY_ANCHORSET are in range (R202). -/
def okKeyAnchorset (rqid : Nat) : Bool := decide (rqid < 1024)

/-- The operands of KEY_ZEROISE are in range (R202). -/
def okKeyZeroise (rqid : Nat) : Bool := decide (rqid < 1024)

/-- The operands of LEAF_EXPIRY are in range (R189). -/
def okLeafExpiry (h : Nat) : Bool := decide (h < 2048)

/-- The operands of RXGRACE_EXPIRY are in range (R189). -/
def okRxgraceExpiry (h : Nat) : Bool := decide (h < 2048)

/-- The operands of TMP_CLEAR are in range (R228). -/
def okTmpClear (rqid : Nat) : Bool := decide (rqid < 1024)

/-- The operands of TMP_VERIFY are in range (R211). -/
def okTmpVerify (rqid use m : Nat) : Bool := decide (rqid < 1024) && decide (use < 4) && decide (m < 64)

/-- The operands of TMP_RAISE are in range (R228). -/
def okTmpRaise (rqid lvl : Nat) : Bool := decide (rqid < 1024) && decide (lvl < 4)

/-- The operands of TMP_MEASURE are in range (R218). -/
def okTmpMeasure (rqid : Nat) : Bool := decide (rqid < 1024)

/-- The operands of TAMPER_DETECT are in range (R224). -/
def okTamperDetect (src k : Nat) : Bool := decide (src < 9) && decide (k < 5)

/-- The operands of DBG_CHALLENGE are in range (R221). -/
def okDbgChallenge (rqid : Nat) : Bool := decide (rqid < 1024)

/-- The operands of DBG_AUTH are in range (R221). -/
def okDbgAuth (rqid : Nat) : Bool := decide (rqid < 1024)

/-- The operands of DBG_CLOSE are in range (R221). -/
def okDbgClose (rqid : Nat) : Bool := decide (rqid < 1024)

/-- The operands of LINK_UP are in range (R54). -/
def okLinkUp (m rate : Nat) : Bool := decide (m < 15) && decide (rate < 8)

/-- The operands of LINK_DOWN are in range (R239). -/
def okLinkDown (m : Nat) : Bool := decide (m < 15)

/-- The operands of SGMII_CONTROL_WORD are in range (R234). -/
def okSgmiiControlWord (m rate : Nat) : Bool := decide (m < 12) && decide (rate < 8)

/-- The operands of MAC_RECEIVE are in range (R237). -/
def okMacReceive (m : Nat) : Bool := decide (m < 14)

/-- The operands of PAUSE_RECEIVE are in range (R243). -/
def okPauseReceive (m quanta : Nat) : Bool := decide (m < 12) && decide (quanta < 65536)

/-- The operands of PAUSE_TIMER_EXPIRY are in range (R243). -/
def okPauseTimerExpiry (m : Nat) : Bool := decide (m < 12)

/-- The operands of OUTPUT_TRANSMIT are in range (R280). -/
def okOutputTransmit (o : Nat) : Bool := decide (o < 15)

/-- The operands of VERIFY_INTERVAL are in range (R248). -/
def okVerifyInterval (m : Nat) : Bool := decide (m < 12)

/-- The operands of VERIFY_RESPONSE are in range (R248). -/
def okVerifyResponse (m : Nat) : Bool := decide (m < 12)

/-- The operands of DOWNSHIFT_WINDOW_END are in range (R251). -/
def okDownshiftWindowEnd (m : Nat) : Bool := decide (m < 12)

/-- The operands of DOWNSHIFT_HOLD_END are in range (R251). -/
def okDownshiftHoldEnd (m : Nat) : Bool := decide (m < 12)

/-- The operands of DOWNSHIFT_FAIL are in range (R252). -/
def okDownshiftFail (m : Nat) : Bool := decide (m < 12)

/-- The operands of DOWNSHIFT_BLOCK_END are in range (R251). -/
def okDownshiftBlockEnd (m : Nat) : Bool := decide (m < 12)

/-- The operands of MAC_CLRCNT are in range (R255). -/
def okMacClrcnt (rqid m : Nat) : Bool := decide (rqid < 1024) && decide (m < 15)

/-- The operands of MAC_ANRESTART are in range (R255). -/
def okMacAnrestart (rqid m : Nat) : Bool := decide (rqid < 1024) && decide (m < 15)

/-- The operands of MAC_VERIFY are in range (R255). -/
def okMacVerify (rqid m : Nat) : Bool := decide (rqid < 1024) && decide (m < 15)

/-- The operands of H_INGRESS are in range (R240). -/
def okHIngress (cls : Nat) (sid inst : Option Nat) : Bool :=
  decide (cls < 8) && sid.all (fun x => decide (x < 65536)) && inst.all (fun x => decide (x < 64))

/-- The operands of SER_SEND are in range (R264). -/
def okSerSend (rqid : Nat) (inst : Option Nat) (p : Nat) : Bool :=
  decide (rqid < 1024) && inst.all (fun x => decide (x < 64)) && decide (p < 2)

/-- The operands of SER_RXPOP are in range (R265). -/
def okSerRxpop (rqid : Nat) (inst : Option Nat) (p : Nat) : Bool :=
  decide (rqid < 1024) && inst.all (fun x => decide (x < 64)) && decide (p < 2)

/-- The operands of SER_ABORT are in range (R266). -/
def okSerAbort (rqid : Nat) (inst : Option Nat) (p : Nat) : Bool :=
  decide (rqid < 1024) && inst.all (fun x => decide (x < 64)) && decide (p < 2)

/-- The operands of SER_CHARACTER_RECEIVE are in range (R262). -/
def okSerCharacterReceive (p : Nat) : Bool := decide (p < 2)

/-- The operands of SER_GAP_SILENCE are in range (R263). -/
def okSerGapSilence (p : Nat) : Bool := decide (p < 2)

/-- The operands of SER_END_SILENCE are in range (R263). -/
def okSerEndSilence (p : Nat) : Bool := decide (p < 2)

/-- The operands of SER_IDLE_READY are in range (R264). -/
def okSerIdleReady (p : Nat) : Bool := decide (p < 2)

/-- The operands of SER_LEAD_END are in range (R264). -/
def okSerLeadEnd (p : Nat) : Bool := decide (p < 2)

/-- The operands of SER_LAG_END are in range (R264). -/
def okSerLagEnd (p : Nat) : Bool := decide (p < 2)

/-- The operands of SER_REPLY_TIMEOUT are in range (R264). -/
def okSerReplyTimeout (p : Nat) : Bool := decide (p < 2)

/-- The operands of CUT_THROUGH are in range (R282). -/
def okCutThrough (m : Nat) : Bool := decide (m < 12)

/-- The operands of CUT_THROUGH_END are in range (R284). -/
def okCutThroughEnd (o : Nat) : Bool := decide (o < 12)

/-- The operands of SWC_TREAD are in range (R293). -/
def okSwcTread (rqid t : Nat) : Bool := decide (rqid < 1024) && decide (t < 16)

/-- The operands of SWC_TWRITE are in range (R293). -/
def okSwcTwrite (rqid t : Nat) : Bool := decide (rqid < 1024) && decide (t < 16)

/-- The operands of SWC_FLUSH are in range (R293). -/
def okSwcFlush (rqid vid : Nat) : Bool := decide (rqid < 1024) && decide (vid < 4096)

/-- The operands of SWC_CLRCNT are in range (R293). -/
def okSwcClrcnt (rqid : Nat) : Bool := decide (rqid < 1024)

/-- The operands of PRP_SUPERVISION are in range (R287). -/
def okPrpSupervision (p : Nat) : Bool := decide (p < 6)

/-- The operands of PRP_CLRCNT are in range (R297). -/
def okPrpClrcnt (rqid : Nat) : Bool := decide (rqid < 1024)

/-- The operands of PRP_FLUSHNODES are in range (R288). -/
def okPrpFlushnodes (rqid : Nat) : Bool := decide (rqid < 1024)

/-- The operands of PTP_RECEIVE are in range (R312). -/
def okPtpReceive (o : Nat) : Bool := decide (o < 12)

/-- The operands of PTP_INTERVAL are in range (R312). -/
def okPtpInterval (o : Nat) : Bool := decide (o < 12)

/-- The operands of TIM_STEP are in range (R323). -/
def okTimStep (rqid : Nat) : Bool := decide (rqid < 1024)

/-- The operands of TIM_STEPCANCEL are in range (R323). -/
def okTimStepcancel (rqid : Nat) : Bool := decide (rqid < 1024)

/-- The operands of TIM_TXQCLR are in range (R323). -/
def okTimTxqclr (rqid : Nat) : Bool := decide (rqid < 1024)

/-- The operands of TIM_RELOCK are in range (R323). -/
def okTimRelock (rqid : Nat) : Bool := decide (rqid < 1024)

/-- The operands of TIM_CMPTGT_WRITE are in range (R319). -/
def okTimCmptgtWrite (rqid : Nat) (inst : Option Nat) (i v : Nat) : Bool :=
  decide (rqid < 1024) && inst.all (fun x => decide (x < 64)) && decide (i < 16) && decide (v < 2 ^ 32)

/-- The operands of TIM_CMPPER_WRITE are in range (R321). -/
def okTimCmpperWrite (rqid : Nat) (inst : Option Nat) (i v : Nat) : Bool :=
  decide (rqid < 1024) && inst.all (fun x => decide (x < 64)) && decide (i < 16) && decide (v < 2 ^ 32)

/-- The operands of COMPARE_FIRE are in range (R319). -/
def okCompareFire (i : Nat) : Bool := decide (i < 16)

/-- The operands of COMPARE_PULSE_END are in range (R320). -/
def okComparePulseEnd (i : Nat) : Bool := decide (i < 16)

/-- The operands of TIM_SEC_LO_READ are in range (R324). -/
def okTimSecLoRead (rqid : Nat) : Bool := decide (rqid < 1024)

/-- The operands of TIM_TXQ0_READ are in range (R324). -/
def okTimTxq0Read (rqid : Nat) : Bool := decide (rqid < 1024)

/-- The operands of TIM_TXQ2_READ are in range (R324). -/
def okTimTxq2Read (rqid : Nat) : Bool := decide (rqid < 1024)

/-- The operands of SVI_STREAM_FRAME are in range (R332). -/
def okSviStreamFrame (port : Nat) : Bool := decide (port < 15)

/-- The operands of SVI_RELAY_FRAME are in range (R343). -/
def okSviRelayFrame (port : Nat) : Bool := decide (port < 15)

/-- The operands of GOOSE_STALE are in range (R347). -/
def okGooseStale (i : Nat) : Bool := decide (i < 1024)

/-- The operands of SVI_TREAD are in range (R359). -/
def okSviTread (rqid t : Nat) : Bool := decide (rqid < 1024) && decide (t < 16)

/-- The operands of SVI_TWRITE are in range (R359). -/
def okSviTwrite (rqid t : Nat) : Bool := decide (rqid < 1024) && decide (t < 16)

/-- The operands of SVI_CLRCNT are in range (R359). -/
def okSviClrcnt (rqid entry : Nat) : Bool := decide (rqid < 1024) && decide (entry < 2048)

/-- The operands of SVI_SIM_WRITE are in range (R337). -/
def okSviSimWrite (rqid v : Nat) : Bool := decide (rqid < 1024) && decide (v < 2 ^ 32)

/-- The operands of AAP_SAMPLE are in range (R351). -/
def okAapSample (vs : Nat) : Bool := decide (vs < 1024)

/-- The operands of AAP_STUCK are in range (R354). -/
def okAapStuck (i : Nat) : Bool := decide (i < 16)

/-- The operands of AAP_RECOVER are in range (R354). -/
def okAapRecover (i : Nat) : Bool := decide (i < 16)

/-- The operands of AAP_CLRCNT are in range (R363). -/
def okAapClrcnt (rqid : Nat) : Bool := decide (rqid < 1024)

/-- The operands of ALN_CLRCNT are in range (R389). -/
def okAlnClrcnt (rqid : Nat) : Bool := decide (rqid < 1024)

/-- The operands of PHE_LIST_COMPLETE are in range (R397). -/
def okPheListComplete (u first : Nat) : Bool := decide (u < 8) && decide (first < 8192)

/-- The operands of PHE_TREAD are in range (R417). -/
def okPheTread (rqid : Nat) (inst : Option Nat) (t : Nat) : Bool :=
  decide (rqid < 1024) && inst.all (fun x => decide (x < 64)) && decide (t < 16)

/-- The operands of PHE_TWRITE are in range (R417). -/
def okPheTwrite (rqid : Nat) (inst : Option Nat) (t : Nat) : Bool :=
  decide (rqid < 1024) && inst.all (fun x => decide (x < 64)) && decide (t < 16)

/-- The operands of PHE_CLRCNT are in range (R417). -/
def okPheClrcnt (rqid : Nat) : Bool := decide (rqid < 1024)

/-- The operands of WINDOW_OPEN are in range (R427). -/
def okWindowOpen (core : Nat) : Bool := decide (core < 16)

/-- The operands of WINDOW_CLOSE are in range (R427). -/
def okWindowClose (core : Nat) : Bool := decide (core < 16)

/-- The operands of IMAGE_COPY_DONE are in range (R434). -/
def okImageCopyDone (core : Nat) : Bool := decide (core < 16)

/-- The operands of ZDONE are in range (R422). -/
def okZdone (core code : Nat) : Bool := decide (core < 16) && decide (code < 256)

/-- The operands of ZYIELD are in range (R422). -/
def okZyield (core : Nat) : Bool := decide (core < 16)

/-- The operands of TASK_TRAP are in range (R423). -/
def okTaskTrap (core : Nat) : Bool := decide (core < 16)

/-- The operands of DEADLINE_GUARD are in range (R437). -/
def okDeadlineGuard (t : Nat) : Bool := decide (t < 1024)

/-- The operands of L_RELEASE are in range (R428). -/
def okLRelease (t : Nat) : Bool := decide (t < 1024)

/-- The operands of SCH_START are in range (R445). -/
def okSchStart (rqid : Nat) : Bool := decide (rqid < 1024)

/-- The operands of SCH_STOP are in range (R445). -/
def okSchStop (rqid : Nat) : Bool := decide (rqid < 1024)

/-- The operands of SCH_TREAD are in range (R448). -/
def okSchTread (rqid t : Nat) : Bool := decide (rqid < 1024) && decide (t < 16)

/-- The operands of SCH_TWRITE are in range (R448). -/
def okSchTwrite (rqid t : Nat) : Bool := decide (rqid < 1024) && decide (t < 16)

/-- The operands of SCH_CLRCNT are in range (R448). -/
def okSchClrcnt (rqid t : Nat) : Bool := decide (rqid < 1024) && decide (t < 1024)

/-- The operands of VIM_SHARE are in range (R457). -/
def okVimShare (rqid : Nat) : Bool := decide (rqid < 1024)

/-- The operands of VIM_CANCELSHARE are in range (R457). -/
def okVimCancelshare (rqid : Nat) : Bool := decide (rqid < 1024)

/-- The operands of VIM_START are in range (R454). -/
def okVimStart (rqid n : Nat) : Bool := decide (rqid < 1024) && decide (n < 64)

/-- The operands of VIM_QUIESCE are in range (R466). -/
def okVimQuiesce (rqid n : Nat) : Bool := decide (rqid < 1024) && decide (n < 64)

/-- The operands of VIM_RESUME are in range (R454). -/
def okVimResume (rqid n : Nat) : Bool := decide (rqid < 1024) && decide (n < 64)

/-- The operands of VIM_RESET are in range (R468). -/
def okVimReset (rqid n : Nat) : Bool := decide (rqid < 1024) && decide (n < 64)

/-- The operands of VIM_FORCE_RESET are in range (R470). -/
def okVimForceReset (rqid n : Nat) : Bool := decide (rqid < 1024) && decide (n < 64)

/-- The operands of VIM_MAP are in range (R458). -/
def okVimMap (rqid : Nat) : Bool := decide (rqid < 1024)

/-- The operands of VIM_UNMAP are in range (R458). -/
def okVimUnmap (rqid : Nat) : Bool := decide (rqid < 1024)

/-- The operands of VIM_TREAD are in range (R477). -/
def okVimTread (rqid t : Nat) : Bool := decide (rqid < 1024) && decide (t < 16)

/-- The operands of VIM_TWRITE are in range (R477). -/
def okVimTwrite (rqid t : Nat) : Bool := decide (rqid < 1024) && decide (t < 16)

/-- The operands of QUIESCE_DRAINED are in range (R467). -/
def okQuiesceDrained (n : Nat) : Bool := decide (n < 64)

/-- The operands of QUIESCE_TIMEOUT are in range (R467). -/
def okQuiesceTimeout (n : Nat) : Bool := decide (n < 64)

/-- The operands of INSTANCE_RESET_DONE are in range (R468). -/
def okInstanceResetDone (n : Nat) : Bool := decide (n < 64)

/-- The operands of DMA_DOORBELL are in range (R482). -/
def okDmaDoorbell (rqid ring tail : Nat) : Bool := decide (rqid < 1024) && decide (ring < 65) && decide (tail < 2 ^ 32)

/-- The operands of DMA_FETCH are in range (R463). -/
def okDmaFetch (ring : Nat) : Bool := decide (ring < 65)

/-- The operands of DMA_DESCRIPTOR_START are in range (R463). -/
def okDmaDescriptorStart (ring : Nat) : Bool := decide (ring < 65)

/-- The operands of DMA_BURST are in range (R464). -/
def okDmaBurst (chan : Nat) : Bool := decide (chan < 32)

/-- The operands of DMA_CLRCNT are in range (R481). -/
def okDmaClrcnt (rqid : Nat) : Bool := decide (rqid < 1024)

/-- The operands of DPL_CLRCNT are in range (R483). -/
def okDplClrcnt (rqid : Nat) : Bool := decide (rqid < 1024)

/-- The operands of GOOSE_RETRANSMIT are in range (R497). -/
def okGooseRetransmit (p : Nat) : Bool := decide (p < 353)

/-- The operands of MINON_EXPIRY are in range (R486). -/
def okMinonExpiry (j : Nat) : Bool := decide (j < 16)

/-- The operands of BIN_ACCEPT are in range (R489). -/
def okBinAccept (i : Nat) : Bool := decide (i < 32)

/-- The operands of CHATTER_WINDOW_END are in range (R490). -/
def okChatterWindowEnd (i : Nat) : Bool := decide (i < 32)

/-- The operands of SUPERVISION_FILTER are in range (R488). -/
def okSupervisionFilter (j : Nat) : Bool := decide (j < 16)

/-- The operands of PUB_TREAD are in range (R506). -/
def okPubTread (rqid t : Nat) : Bool := decide (rqid < 1024) && decide (t < 16)

/-- The operands of PUB_TWRITE are in range (R506). -/
def okPubTwrite (rqid t : Nat) : Bool := decide (rqid < 1024) && decide (t < 16)

/-- The operands of PUB_CLRCNT are in range (R506). -/
def okPubClrcnt (rqid : Nat) : Bool := decide (rqid < 1024)

/-- The operands of BIO_CLRCNT are in range (R508). -/
def okBioClrcnt (rqid : Nat) : Bool := decide (rqid < 1024)

/-- The operands of BIO_BINQ0_READ are in range (R508). -/
def okBioBinq0Read (rqid : Nat) : Bool := decide (rqid < 1024)

/-- The operands of BIO_BINQ2_READ are in range (R508). -/
def okBioBinq2Read (rqid : Nat) : Bool := decide (rqid < 1024)

/-- The operands of SPAN_HEARTBEAT_RECEIVE are in range (R515). -/
def okSpanHeartbeatReceive (lane : Nat) : Bool := decide (1 ≤ lane) && decide (lane ≤ 2)

/-- The operands of LANE_TIMEOUT are in range (R516). -/
def okLaneTimeout (lane : Nat) : Bool := decide (1 ≤ lane) && decide (lane ≤ 2)

/-- The operands of RESYNC_RECEIVE are in range (R523). -/
def okResyncReceive (seq : Nat) : Bool := decide (seq < 65536)

/-- The operands of NOTICE_RECEIVE are in range (R525). -/
def okNoticeReceive (code : Nat) : Bool := decide (code < 256)

/-- The operands of TUNNEL_RECEIVE are in range (R514). -/
def okTunnelReceive (lane : Nat) : Bool := decide (1 ≤ lane) && decide (lane ≤ 2)

/-- The operands of AGREE_RECEIVE are in range (R116). -/
def okAgreeReceive (kind : Nat) : Bool := decide (1 ≤ kind) && decide (kind ≤ 5)

/-- The operands of RENEW_DUE are in range (R528). -/
def okRenewDue (lease : Nat) : Bool := decide (lease < 2)

/-- The operands of RENEW_RETRY are in range (R528). -/
def okRenewRetry (lease : Nat) : Bool := decide (lease < 2)

/-- The operands of LEASE_EXPIRY are in range (R528). -/
def okLeaseExpiry (lease : Nat) : Bool := decide (lease < 2)

/-- The operands of TWN_CHECK are in range (R533). -/
def okTwnCheck (rqid : Nat) (inst : Option Nat) (margin : Nat) : Bool :=
  decide (rqid < 1024) && inst.all (fun x => decide (x < 64)) && decide (margin < 65536)

/-- The operands of TWN_RELEASE are in range (R543). -/
def okTwnRelease (rqid : Nat) : Bool := decide (rqid < 1024)

/-- The operands of TWN_REJOIN are in range (R543). -/
def okTwnRejoin (rqid : Nat) : Bool := decide (rqid < 1024)

/-- The operands of TWN_CLRCNT are in range (R543). -/
def okTwnClrcnt (rqid : Nat) : Bool := decide (rqid < 1024)

/-- The operands of NOLEASE_WRITE are in range (R534). -/
def okNoleaseWrite (rqid v : Nat) : Bool := decide (rqid < 1024) && decide (v < 2 ^ 32)

/-- The operands of FLD_TREAD are in range (R548). -/
def okFldTread (rqid t : Nat) : Bool := decide (rqid < 1024) && decide (t < 16)

/-- The operands of FLD_TWRITE are in range (R548). -/
def okFldTwrite (rqid t : Nat) : Bool := decide (rqid < 1024) && decide (t < 16)

/-- The operands of FLD_CLRCNT are in range (R548). -/
def okFldClrcnt (rqid : Nat) : Bool := decide (rqid < 1024)

/-- The operands of RETENTIVE_SAVE_DONE are in range (R563). -/
def okRetentiveSaveDone (p : Nat) : Bool := decide (p < 256)

/-- The operands of LGR_TREAD are in range (R574). -/
def okLgrTread (rqid t : Nat) : Bool := decide (rqid < 1024) && decide (t < 16)

/-- The operands of LGR_TWRITE are in range (R574). -/
def okLgrTwrite (rqid t : Nat) : Bool := decide (rqid < 1024) && decide (t < 16)

/-- The operands of LGR_CLRCNT are in range (R574). -/
def okLgrClrcnt (rqid : Nat) : Bool := decide (rqid < 1024)

/-- The operands of LGR_RETCLR are in range (R574). -/
def okLgrRetclr (rqid p : Nat) : Bool := decide (rqid < 1024) && decide (p < 256)

/-- The operands of MTR_SNAP are in range (R585). -/
def okMtrSnap (rqid : Nat) (inst : Option Nat) (first count : Nat) : Bool :=
  decide (rqid < 1024) && inst.all (fun x => decide (x < 64)) && decide (first < 128) && decide (count < 256)

/-- The operands of MTR_TREAD are in range (R596). -/
def okMtrTread (rqid t : Nat) : Bool := decide (rqid < 1024) && decide (t < 16)

/-- The operands of MTR_TWRITE are in range (R596). -/
def okMtrTwrite (rqid t : Nat) : Bool := decide (rqid < 1024) && decide (t < 16)

/-- The operands of MTR_ZERO are in range (R596). -/
def okMtrZero (rqid p : Nat) : Bool := decide (rqid < 1024) && decide (p < 128)

/-- The operands of MTR_CLRCNT are in range (R596). -/
def okMtrClrcnt (rqid : Nat) : Bool := decide (rqid < 1024)

/-- The operands of PULSE_START are in range (R593). -/
def okPulseStart (j : Nat) : Bool := decide (j < 16)

/-- The operands of PULSE_END are in range (R593). -/
def okPulseEnd (j : Nat) : Bool := decide (j < 16)

/-- The operands of PLS_CLRCNT are in range (R601). -/
def okPlsClrcnt (rqid : Nat) : Bool := decide (rqid < 1024)

/-- The operands of ELG_LOG are in range (R615). -/
def okElgLog (rqid n code sev : Nat) : Bool := decide (rqid < 1024) && decide (n < 64) && decide (code < 1024) && decide (sev < 8)

/-- The operands of ELG_CLEAR are in range (R612). -/
def okElgClear (rqid : Nat) : Bool := decide (rqid < 1024)

/-- The operands of ELG_CLRCNT are in range (R618). -/
def okElgClrcnt (rqid : Nat) : Bool := decide (rqid < 1024)

/-- The operands of HOLD_WRITE are in range (R612). -/
def okHoldWrite (rqid v : Nat) : Bool := decide (rqid < 1024) && decide (v < 2 ^ 32)

/-- The operands of BIN_LEVEL_CHANGE are in range (R489). -/
def okBinLevelChange (i : Nat) : Bool := decide (i < 32)

/-- The operands of DRAIN_LEVEL_CHANGE are in range (R488). -/
def okDrainLevelChange (j : Nat) : Bool := decide (j < 16)

end Sys2Proof.Machine
end

