-- ==== Sys2Proof/Machine/State.lean ====
section
/-! DEFINITION. The state of the machine: the commands that wait, and the block. -/

namespace Sys2Proof.Machine

/-- No command of the block stops it with a fault: the manual names an effect for every one. -/
inductive Fault where
  deriving DecidableEq, Repr

/-- Why a command has no meaning. -/
inductive Refusal where
  /-- Raised by an arm of the dispatch that has no meaning yet; no arm does. Safe: the machine stops. -/
  | notModelled (mnemonic : String)
  /-- Raised by every meaning when an operand lies outside the range of its field, so that what was sent is no command of the
  manual. Safe: the machine stops. -/
  | illFormed (mnemonic : String)
  deriving DecidableEq, Repr

/-- The state: commands waiting, first in first out, and the block. -/
structure State where
  pending : List Instr
  blk : Block
  deriving DecidableEq, Repr

/-- The part modelled: a ZL48-32Q-MAS-E of stepping 1 (R2, R3, R138). -/
def State.part : Part :=
  { ddr32 := true
    portQ := true
    optM := true
    optA := true
    optS := true
    gradeE := true
    stepping := 1
    did := Config.deviceId
    mac := Config.ownMac }

/-- The block with its supply up, MOD_RST_N high, PWR_OK high and TWIN_SIDE tied to GND, side X: reset is being released with cause 0, cold (R59, R150). -/
def State.powered : Block :=
  let b := Block.init State.part
  { b with pwr := { b.pwr with phase := .on } }

/-- The machine right after reset: a cold reset of cause 0, before step S01 of the start (R59, R150, R154; DESIGN CHOICE, log entry 26). -/
def State.reset : State := { pending := [], blk := doReset 0 0 State.powered }

end Sys2Proof.Machine
end

