-- ==== Sys2Proof/Machine/Meaning.lean ====
section
/-! DEFINITION. What every meaning shares: the check of the operands, the outputs of a command, and whether the module is in a state in
which the command can act (R43, R59, R64, R70, R167). -/

namespace Sys2Proof.Machine

/-- When a command can act: at any time; while the always-on domain has its supply; while the module runs; while it runs and has not
shed its load (DEDUCED, log entry 27); while the requester's core runs. -/
inductive Guard where
  | any | ao | run | shed
  | core (rqid : Nat)
  deriving DecidableEq, Repr

/-- Whether requester `rqid` can ask: the application and manager cores stop at the load shed (R64). -/
def coreRuns (b : Block) (rqid : Nat) : Bool :=
  running b && !((decide (rqid < 64) || rqid == 0x081) && fget b F.PWR_STAT_state == 2)

/-- Whether a command with guard `g` acts. -/
def Guard.holds (g : Guard) (b : Block) : Bool :=
  match g with
  | .any => true
  | .ao => b.pwr.phase != .off
  | .run => running b
  | .shed => outputsOn b
  | .core r => coreRuns b r

/-- The meaning of a command whose effect on the block is `f`: the outputs of the command before are gone, and what the module sends
now stands in `out`. -/
def meaning (ok : Bool) (mnemonic : String) (g : Guard) (f : Block → Block) (s : State) : Host.Outcome State Fault Refusal :=
  if ok then
    let b := { s.blk with out := [] }
    .next { s with blk := if g.holds b then f b else b }
  else .refused (.illFormed mnemonic)

end Sys2Proof.Machine
end

