-- ==== Sys2Proof/Machine/RowsAccess.lean ====
section
/-! DEFINITION. The commands of accesses, tables, banks and events (R104–R147): one meaning each, over the operations of the unit files. -/

namespace Sys2Proof.Machine

/-- REGISTER_WRITE (R106). -/
def execRegisterWrite (rqid a v : Nat) (s : State) : Host.Outcome State Fault Refusal :=
  meaning (okRegisterWrite rqid a v) "REGISTER_WRITE" (.core rqid) (registerWrite rqid a v) s

/-- LO_REGISTER_READ (R104). -/
def execLoRegisterRead (rqid a : Nat) (s : State) : Host.Outcome State Fault Refusal :=
  meaning (okLoRegisterRead rqid a) "LO_REGISTER_READ" (.core rqid) (registerRead rqid a) s

/-- LOCK_WRITE (R108). -/
def execLockWrite (rqid p v : Nat) (s : State) : Host.Outcome State Fault Refusal :=
  meaning (okLockWrite rqid p v) "LOCK_WRITE" (.core rqid) (lockRow rqid p v) s

/-- UNKNOWN_COMMAND (R107). -/
def execUnknownCommand (rqid p v : Nat) (s : State) : Host.Outcome State Fault Refusal :=
  meaning (okUnknownCommand rqid p v) "UNKNOWN_COMMAND" (.core rqid) (commandWrite rqid p v) s

/-- ACCESS_ENTRY_WRITE (R127). -/
def execAccessEntryWrite (rqid a v : Nat) (s : State) : Host.Outcome State Fault Refusal :=
  meaning (okAccessEntryWrite rqid a v) "ACCESS_ENTRY_WRITE" (.core rqid) (registerWrite rqid a v) s

/-- CORE_MEMORY_ACCESS (R128). -/
def execCoreMemoryAccess (rqid a : Nat) (op : CoreOp) (s : State) : Host.Outcome State Fault Refusal :=
  meaning (okCoreMemoryAccess rqid a op) "CORE_MEMORY_ACCESS" (.core rqid) (coreAccess rqid a op) s

/-- BNK_SWAP (R115). -/
def execBnkSwap (rqid : Nat) (copyback atidx : Bool) (s : State) : Host.Outcome State Fault Refusal :=
  meaning (okBnkSwap rqid) "BNK_SWAP" (.core rqid) (cmdWrite rqid 0x08 (bnkSwap copyback atidx)) s

/-- BNK_CANCEL (R123). -/
def execBnkCancel (rqid : Nat) (s : State) : Host.Outcome State Fault Refusal :=
  meaning (okBnkCancel rqid) "BNK_CANCEL" (.core rqid) (cmdWrite rqid 0x08 (bnkCancel)) s

/-- BNK_COPYBACK (R145). -/
def execBnkCopyback (rqid : Nat) (s : State) : Host.Outcome State Fault Refusal :=
  meaning (okBnkCopyback rqid) "BNK_COPYBACK" (.core rqid) (cmdWrite rqid 0x08 (bnkCopyback)) s

/-- COPYBACK_DONE (R121). -/
def execCopybackDone (s : State) : Host.Outcome State Fault Refusal :=
  meaning true "COPYBACK_DONE" .run (copybackDone) s

/-- BNK_I_SWAP (R122). -/
def execBnkISwap (rqid n : Nat) (s : State) : Host.Outcome State Fault Refusal :=
  meaning (okBnkISwap rqid n) "BNK_I_SWAP" (.core rqid) (subCmdWrite rqid 0x08 n 0x100 0x104 (bnkISwap rqid n)) s

/-- BNK_I_CANCEL (R147). -/
def execBnkICancel (rqid n : Nat) (s : State) : Host.Outcome State Fault Refusal :=
  meaning (okBnkICancel rqid n) "BNK_I_CANCEL" (.core rqid) (subCmdWrite rqid 0x08 n 0x100 0x104 (bnkICancel rqid n)) s

/-- ACT_POP (R141). -/
def execActPop (rqid : Nat) (s : State) : Host.Outcome State Fault Refusal :=
  meaning (okActPop rqid) "ACT_POP" (.core rqid) (cmdWrite rqid 0x06 (actPop)) s

/-- ACT_LOOKUP (R141). -/
def execActLookup (rqid op : Nat) (s : State) : Host.Outcome State Fault Refusal :=
  meaning (okActLookup rqid op) "ACT_LOOKUP" (.core rqid) (cmdWrite rqid 0x06 (actLookup op)) s

/-- EVENT_ASSERT (R136). -/
def execEventAssert (ev : Nat) (pl : List Byte) (s : State) : Host.Outcome State Fault Refusal :=
  meaning (okEventAssert ev) "EVENT_ASSERT" .run (eventAssert ev pl) s

/-- IEVTEN_WRITE (R136). -/
def execIevtenWrite (rqid p n v : Nat) (s : State) : Host.Outcome State Fault Refusal :=
  meaning (okIevtenWrite rqid p n v) "IEVTEN_WRITE" (.core rqid) (ievtenRow rqid p n v) s

/-- EVR_QUEUE_LATCH (R142). -/
def execEvrQueueLatch (rqid : Nat) (sq : Bool) (s : State) : Host.Outcome State Fault Refusal :=
  meaning (okEvrQueueLatch rqid) "EVR_QUEUE_LATCH" (.core rqid) (registerRead rqid (if sq then R.EVR_SQ0 else R.EVR_MQ0)) s

/-- EVR_QUEUE_POP (R142). -/
def execEvrQueuePop (rqid : Nat) (sq : Bool) (s : State) : Host.Outcome State Fault Refusal :=
  meaning (okEvrQueuePop rqid) "EVR_QUEUE_POP" (.core rqid) (registerRead rqid (if sq then R.EVR_SQ1 else R.EVR_MQ1)) s

/-- SWAP_CHECKS_DONE (R115). -/
def execSwapChecksDone (s : State) : Host.Outcome State Fault Refusal :=
  meaning true "SWAP_CHECKS_DONE" .run (swapChecksDone) s

end Sys2Proof.Machine
end

