-- ==== Sys2Proof/Machine/RowsElg.lean ====
section
/-! DEFINITION. The commands of the event recorder (R605–R620): one meaning each, over the operations of the unit files. -/

namespace Sys2Proof.Machine

/-- RECORD_WRITE (R607). -/
def execRecordWrite (fails : List Bool) (s : State) : Host.Outcome State Fault Refusal :=
  meaning true "RECORD_WRITE" .run (elgStep fails) s

/-- ELG_LOG (R615). -/
def execElgLog (rqid n code sev : Nat) (s : State) : Host.Outcome State Fault Refusal :=
  meaning (okElgLog rqid n code sev) "ELG_LOG" (.core rqid) (subCmdWrite rqid 0x40 n 0x1F0 0x1F4 (elgLog n code sev)) s

/-- ELG_CLEAR (R612). -/
def execElgClear (rqid : Nat) (s : State) : Host.Outcome State Fault Refusal :=
  meaning (okElgClear rqid) "ELG_CLEAR" (.core rqid) (cmdWrite rqid 0x40 (elgClear)) s

/-- ELG_CLEAR_DONE (R612). -/
def execElgClearDone (fails : List Bool) (s : State) : Host.Outcome State Fault Refusal :=
  meaning true "ELG_CLEAR_DONE" .run (elgCleared fails) s

/-- ELG_CLRCNT (R618). -/
def execElgClrcnt (rqid : Nat) (s : State) : Host.Outcome State Fault Refusal :=
  meaning (okElgClrcnt rqid) "ELG_CLRCNT" (.core rqid) (cmdWrite rqid 0x40 (elgClrcnt)) s

/-- HOLD_WRITE (R612). -/
def execHoldWrite (rqid v : Nat) (fails : List Bool) (s : State) : Host.Outcome State Fault Refusal :=
  meaning (okHoldWrite rqid v) "HOLD_WRITE" (.core rqid) (holdWrite rqid v fails) s

/-- HOLD_EXPIRY (R612). -/
def execHoldExpiry (fails : List Bool) (s : State) : Host.Outcome State Fault Refusal :=
  meaning true "HOLD_EXPIRY" .run (holdExpire fails) s

end Sys2Proof.Machine
end

