-- ==== Sys2Proof/Machine/RowsField.lean ====
section
/-! DEFINITION. The commands of the field (R535–R550): one meaning each, over the operations of the unit files. -/

namespace Sys2Proof.Machine

/-- ANNOUNCE_SEND (R535). -/
def execAnnounceSend (s : State) : Host.Outcome State Fault Refusal :=
  meaning true "ANNOUNCE_SEND" .run (announceSend) s

/-- CANDIDATE_SEND (R535). -/
def execCandidateSend (s : State) : Host.Outcome State Fault Refusal :=
  meaning true "CANDIDATE_SEND" .run (candidateSend) s

/-- ANNOUNCE_ABSENT (R535). -/
def execAnnounceAbsent (s : State) : Host.Outcome State Fault Refusal :=
  meaning true "ANNOUNCE_ABSENT" .run (announceAbsent) s

/-- FIELD_ANNOUNCE_RECEIVE (R536). -/
def execFieldAnnounceReceive (f : Frame) (s : State) : Host.Outcome State Fault Refusal :=
  meaning true "FIELD_ANNOUNCE_RECEIVE" .run (fieldAnnounceReceive f) s

/-- EPOCH_GRACE_END (R536). -/
def execEpochGraceEnd (s : State) : Host.Outcome State Fault Refusal :=
  meaning true "EPOCH_GRACE_END" .run (epochGraceEnd) s

/-- FLD_TREAD (R548). -/
def execFldTread (rqid t : Nat) (s : State) : Host.Outcome State Fault Refusal :=
  meaning (okFldTread rqid t) "FLD_TREAD" (.core rqid) (cmdWrite rqid 0x39 (fldTread t)) s

/-- FLD_TWRITE (R548). -/
def execFldTwrite (rqid t : Nat) (s : State) : Host.Outcome State Fault Refusal :=
  meaning (okFldTwrite rqid t) "FLD_TWRITE" (.core rqid) (cmdWrite rqid 0x39 (fldTwrite t)) s

/-- FLD_CLRCNT (R548). -/
def execFldClrcnt (rqid : Nat) (s : State) : Host.Outcome State Fault Refusal :=
  meaning (okFldClrcnt rqid) "FLD_CLRCNT" (.core rqid) (cmdWrite rqid 0x39 (fldClrcnt)) s

end Sys2Proof.Machine
end

