-- ==== Sys2Proof/Machine/RowsIngest.lean ====
section
/-! DEFINITION. The commands of process-bus ingest and the analog path (R329–R364): one meaning each, over the operations of the unit files. -/

namespace Sys2Proof.Machine

/-- SVI_STREAM_FRAME (R332). -/
def execSviStreamFrame (f : Frame) (port rx : Nat) (s : State) : Host.Outcome State Fault Refusal :=
  meaning (okSviStreamFrame port) "SVI_STREAM_FRAME" .run (sviStreamFrame f port rx) s

/-- SVI_RELAY_FRAME (R343). -/
def execSviRelayFrame (f : Frame) (port rx : Nat) (s : State) : Host.Outcome State Fault Refusal :=
  meaning (okSviRelayFrame port) "SVI_RELAY_FRAME" .run (sviRelayFrame f port rx) s

/-- SVI_GOOSE_FRAME (R346). -/
def execSviGooseFrame (f : Frame) (rx : Nat) (s : State) : Host.Outcome State Fault Refusal :=
  meaning true "SVI_GOOSE_FRAME" .run (sviGooseFrame f rx) s

/-- GOOSE_STALE (R347). -/
def execGooseStale (i : Nat) (s : State) : Host.Outcome State Fault Refusal :=
  meaning (okGooseStale i) "GOOSE_STALE" .run (gooseStale i) s

/-- SVI_TREAD (R359). -/
def execSviTread (rqid t : Nat) (s : State) : Host.Outcome State Fault Refusal :=
  meaning (okSviTread rqid t) "SVI_TREAD" (.core rqid) (cmdWrite rqid 0x28 (sviTread t)) s

/-- SVI_TWRITE (R359). -/
def execSviTwrite (rqid t : Nat) (s : State) : Host.Outcome State Fault Refusal :=
  meaning (okSviTwrite rqid t) "SVI_TWRITE" (.core rqid) (cmdWrite rqid 0x28 (sviTwrite t)) s

/-- SVI_CLRCNT (R359). -/
def execSviClrcnt (rqid entry : Nat) (goose : Bool) (s : State) : Host.Outcome State Fault Refusal :=
  meaning (okSviClrcnt rqid entry) "SVI_CLRCNT" (.core rqid) (cmdWrite rqid 0x28 (sviClrcnt entry goose)) s

/-- SVI_SIM_WRITE (R337). -/
def execSviSimWrite (rqid v : Nat) (s : State) : Host.Outcome State Fault Refusal :=
  meaning (okSviSimWrite rqid v) "SVI_SIM_WRITE" (.core rqid) (sviSimWrite rqid v) s

/-- AAP_SAMPLE (R351). -/
def execAapSample (vs k : Nat) (l : List AapIn) (s : State) : Host.Outcome State Fault Refusal :=
  meaning (okAapSample vs) "AAP_SAMPLE" .run (aapSample vs k l) s

/-- AAP_STUCK (R354). -/
def execAapStuck (i : Nat) (low : Bool) (s : State) : Host.Outcome State Fault Refusal :=
  meaning (okAapStuck i) "AAP_STUCK" .run (aapStuck i low) s

/-- AAP_RECOVER (R354). -/
def execAapRecover (i : Nat) (low : Bool) (s : State) : Host.Outcome State Fault Refusal :=
  meaning (okAapRecover i) "AAP_RECOVER" .run (aapRecover i low) s

/-- AAP_CLRCNT (R363). -/
def execAapClrcnt (rqid : Nat) (s : State) : Host.Outcome State Fault Refusal :=
  meaning (okAapClrcnt rqid) "AAP_CLRCNT" (.core rqid) (cmdWrite rqid 0x2A (aapClrcnt)) s

end Sys2Proof.Machine
end

