-- ==== Sys2Proof/Machine/RowsKey.lean ====
section
/-! DEFINITION. The commands of the key enclave (R175–R208): one meaning each, over the operations of the unit files. -/

namespace Sys2Proof.Machine

/-- KEY_MORDANT (R194). -/
def execKeyMordant (rqid : Nat) (s : State) : Host.Outcome State Fault Refusal :=
  meaning (okKeyMordant rqid) "KEY_MORDANT" (.core rqid) (cmdWrite rqid 0x04 (keyCmd 1 keyMordant)) s

/-- KEY_IDREAD (R202). -/
def execKeyIdread (rqid : Nat) (s : State) : Host.Outcome State Fault Refusal :=
  meaning (okKeyIdread rqid) "KEY_IDREAD" (.core rqid) (cmdWrite rqid 0x04 (keyCmd 2 keyIdread)) s

/-- KEY_ATTEST (R219). -/
def execKeyAttest (rqid : Nat) (s : State) : Host.Outcome State Fault Refusal :=
  meaning (okKeyAttest rqid) "KEY_ATTEST" (.core rqid) (cmdWrite rqid 0x04 (keyCmd 3 keyAttest)) s

/-- KEY_KEX (R190). -/
def execKeyKex (rqid : Nat) (s : State) : Host.Outcome State Fault Refusal :=
  meaning (okKeyKex rqid) "KEY_KEX" (.core rqid) (cmdWrite rqid 0x04 (keyCmd 4 keyKex)) s

/-- KEY_LEAFLOAD (R190). -/
def execKeyLeafload (rqid h : Nat) (s : State) : Host.Outcome State Fault Refusal :=
  meaning (okKeyLeafload rqid h) "KEY_LEAFLOAD" (.core rqid) (cmdWrite rqid 0x04 (keyCmd 5 (keyLeafload h))) s

/-- KEY_LEAFDROP (R202). -/
def execKeyLeafdrop (rqid h : Nat) (s : State) : Host.Outcome State Fault Refusal :=
  meaning (okKeyLeafdrop rqid h) "KEY_LEAFDROP" (.core rqid) (cmdWrite rqid 0x04 (keyCmd 6 (keyLeafdrop h))) s

/-- KEY_LEAFPERSIST (R191). -/
def execKeyLeafpersist (rqid h n : Nat) (s : State) : Host.Outcome State Fault Refusal :=
  meaning (okKeyLeafpersist rqid h n) "KEY_LEAFPERSIST" (.core rqid) (cmdWrite rqid 0x04 (keyCmd 7 (keyLeafpersist h n))) s

/-- KEY_DERIVELEAF (R185). -/
def execKeyDeriveleaf (rqid kind : Nat) (s : State) : Host.Outcome State Fault Refusal :=
  meaning (okKeyDeriveleaf rqid kind) "KEY_DERIVELEAF" (.core rqid) (cmdWrite rqid 0x04 (keyCmd 8 (keyDeriveleaf kind))) s

/-- KEY_LEAFINFO (R187). -/
def execKeyLeafinfo (rqid h : Nat) (s : State) : Host.Outcome State Fault Refusal :=
  meaning (okKeyLeafinfo rqid h) "KEY_LEAFINFO" (.core rqid) (cmdWrite rqid 0x04 (keyCmd 9 (keyLeafinfo h))) s

/-- KEY_REKEY (R183). -/
def execKeyRekey (rqid : Nat) (s : State) : Host.Outcome State Fault Refusal :=
  meaning (okKeyRekey rqid) "KEY_REKEY" (.core rqid) (cmdWrite rqid 0x04 (keyCmd 0xA keyRekey)) s

/-- KEY_ANCHORSET (R202). -/
def execKeyAnchorset (rqid : Nat) (s : State) : Host.Outcome State Fault Refusal :=
  meaning (okKeyAnchorset rqid) "KEY_ANCHORSET" (.core rqid) (cmdWrite rqid 0x04 (keyCmd 0xB keyAnchorset)) s

/-- KEY_ZEROISE (R202). -/
def execKeyZeroise (rqid : Nat) (s : State) : Host.Outcome State Fault Refusal :=
  meaning (okKeyZeroise rqid) "KEY_ZEROISE" (.core rqid) (cmdWrite rqid 0x04 (keyCmd 0xC keyZeroise)) s

/-- ENTROPY_HEALTH_TEST (R177). -/
def execEntropyHealthTest (ok : Bool) (s : State) : Host.Outcome State Fault Refusal :=
  meaning true "ENTROPY_HEALTH_TEST" .run (rngTest ok) s

/-- LEAF_EXPIRY (R189). -/
def execLeafExpiry (h : Nat) (s : State) : Host.Outcome State Fault Refusal :=
  meaning (okLeafExpiry h) "LEAF_EXPIRY" .run (leafExpire h) s

/-- RXGRACE_EXPIRY (R189). -/
def execRxgraceExpiry (h : Nat) (s : State) : Host.Outcome State Fault Refusal :=
  meaning (okRxgraceExpiry h) "RXGRACE_EXPIRY" .run (leafGraceEnd h) s

/-- ENCLAVE_COMMAND_DONE (R203). -/
def execEnclaveCommandDone (s : State) : Host.Outcome State Fault Refusal :=
  meaning true "ENCLAVE_COMMAND_DONE" .run (keyDone) s

end Sys2Proof.Machine
end

