-- ==== Sys2Proof/Machine/RowsLgr.lean ====
section
/-! DEFINITION. The commands of the logic runtime (R551–R577): one meaning each, over the operations of the unit files. -/

namespace Sys2Proof.Machine

/-- RETENTIVE_SAVE_DONE (R563). -/
def execRetentiveSaveDone (p : Nat) (good : Bool) (s : State) : Host.Outcome State Fault Refusal :=
  meaning (okRetentiveSaveDone p) "RETENTIVE_SAVE_DONE" .run (retentiveSaveDone p good) s

/-- LGR_TREAD (R574). -/
def execLgrTread (rqid t : Nat) (s : State) : Host.Outcome State Fault Refusal :=
  meaning (okLgrTread rqid t) "LGR_TREAD" (.core rqid) (cmdWrite rqid 0x3C (lgrTread t)) s

/-- LGR_TWRITE (R574). -/
def execLgrTwrite (rqid t : Nat) (s : State) : Host.Outcome State Fault Refusal :=
  meaning (okLgrTwrite rqid t) "LGR_TWRITE" (.core rqid) (cmdWrite rqid 0x3C (lgrTwrite t)) s

/-- LGR_CLRCNT (R574). -/
def execLgrClrcnt (rqid : Nat) (s : State) : Host.Outcome State Fault Refusal :=
  meaning (okLgrClrcnt rqid) "LGR_CLRCNT" (.core rqid) (cmdWrite rqid 0x3C (lgrClrcnt)) s

/-- LGR_RETCLR (R574). -/
def execLgrRetclr (rqid p : Nat) (s : State) : Host.Outcome State Fault Refusal :=
  meaning (okLgrRetclr rqid p) "LGR_RETCLR" (.core rqid) (cmdWrite rqid 0x3C (lgrRetclr p)) s

end Sys2Proof.Machine
end

