-- ==== Sys2Proof/Machine/RowsMemory.lean ====
section
/-! DEFINITION. The commands of memory patrols and MEM's commands (R32, R76, R149): one meaning each, over the operations of the unit files. -/

namespace Sys2Proof.Machine

/-- MEMORY_PATROL (R32). -/
def execMemoryPatrol (kind : Nat) (us : List Upset) (s : State) : Host.Outcome State Fault Refusal :=
  meaning (okMemoryPatrol kind) "MEMORY_PATROL" .run (memoryPatrol kind us) s

/-- FLASH_PATROL (R76). -/
def execFlashPatrol (l : List FlashBlk) (s : State) : Host.Outcome State Fault Refusal :=
  meaning true "FLASH_PATROL" .run (flashPatrol l) s

/-- MEM_POP (R149). -/
def execMemPop (rqid : Nat) (s : State) : Host.Outcome State Fault Refusal :=
  meaning (okMemPop rqid) "MEM_POP" (.core rqid) (cmdWrite rqid 0x42 (memPop)) s

/-- MEM_INJECT (R149). -/
def execMemInject (rqid n : Nat) (pz : Bool) (s : State) : Host.Outcome State Fault Refusal :=
  meaning (okMemInject rqid n) "MEM_INJECT" (.core rqid) (cmdWrite rqid 0x42 (memInject n pz)) s

end Sys2Proof.Machine
end

