-- ==== Sys2Proof/Machine/RowsMtr.lean ====
section
/-! DEFINITION. The commands of metering and pulses (R578–R604): one meaning each, over the operations of the unit files. -/

namespace Sys2Proof.Machine

/-- METERING_SHEAF (R579). -/
def execMeteringSheaf (s : State) : Host.Outcome State Fault Refusal :=
  meaning true "METERING_SHEAF" .run (meteringSheaf) s

/-- MTR_PERIODIC_SAVE (R587). -/
def execMtrPeriodicSave (s : State) : Host.Outcome State Fault Refusal :=
  meaning true "MTR_PERIODIC_SAVE" .run (mtrPeriodic) s

/-- MTR_SAVE_DONE (R587). -/
def execMtrSaveDone (good : Bool) (s : State) : Host.Outcome State Fault Refusal :=
  meaning true "MTR_SAVE_DONE" .run (fun b => powerSettle (mtrSaveDone good b)) s

/-- MTR_SNAP (R585). -/
def execMtrSnap (rqid : Nat) (inst : Option Nat) (first count : Nat) (s : State) : Host.Outcome State Fault Refusal :=
  meaning (okMtrSnap rqid inst first count) "MTR_SNAP" (.core rqid)
    (match inst with | some n => subCmdWrite rqid 0x3E n 0x1F0 0x1F4 (mtrISnapCmd n first count) | none => cmdWrite rqid 0x3E (mtrSnapCmd first count)) s

/-- MTR_TREAD (R596). -/
def execMtrTread (rqid t : Nat) (s : State) : Host.Outcome State Fault Refusal :=
  meaning (okMtrTread rqid t) "MTR_TREAD" (.core rqid) (cmdWrite rqid 0x3E (mtrTread t)) s

/-- MTR_TWRITE (R596). -/
def execMtrTwrite (rqid t : Nat) (s : State) : Host.Outcome State Fault Refusal :=
  meaning (okMtrTwrite rqid t) "MTR_TWRITE" (.core rqid) (cmdWrite rqid 0x3E (mtrTwrite t)) s

/-- MTR_ZERO (R596). -/
def execMtrZero (rqid p : Nat) (s : State) : Host.Outcome State Fault Refusal :=
  meaning (okMtrZero rqid p) "MTR_ZERO" (.core rqid) (cmdWrite rqid 0x3E (mtrZero p)) s

/-- MTR_CLRCNT (R596). -/
def execMtrClrcnt (rqid : Nat) (s : State) : Host.Outcome State Fault Refusal :=
  meaning (okMtrClrcnt rqid) "MTR_CLRCNT" (.core rqid) (cmdWrite rqid 0x3E (mtrClrcnt)) s

/-- PULSE_START (R593). -/
def execPulseStart (j : Nat) (s : State) : Host.Outcome State Fault Refusal :=
  meaning (okPulseStart j) "PULSE_START" .run (pulseStart j) s

/-- PULSE_END (R593). -/
def execPulseEnd (j : Nat) (s : State) : Host.Outcome State Fault Refusal :=
  meaning (okPulseEnd j) "PULSE_END" .run (pulseEnd j) s

/-- PLS_CLRCNT (R601). -/
def execPlsClrcnt (rqid : Nat) (s : State) : Host.Outcome State Fault Refusal :=
  meaning (okPlsClrcnt rqid) "PLS_CLRCNT" (.core rqid) (cmdWrite rqid 0x3F (plsClrcnt)) s

end Sys2Proof.Machine
end

