-- ==== Sys2Proof/Machine/RowsPhe.lean ====
section
/-! DEFINITION. The commands of the phasor engine (R395–R420): one meaning each, over the operations of the unit files. -/

namespace Sys2Proof.Machine

/-- PHE_LIST_COMPLETE (R397). -/
def execPheListComplete (u first : Nat) (s : State) : Host.Outcome State Fault Refusal :=
  meaning (okPheListComplete u first) "PHE_LIST_COMPLETE" .run (listComplete u first) s

/-- PHE_TREAD (R417). -/
def execPheTread (rqid : Nat) (inst : Option Nat) (t : Nat) (s : State) : Host.Outcome State Fault Refusal :=
  meaning (okPheTread rqid inst t) "PHE_TREAD" (.core rqid)
    (match inst with | some n => subCmdWrite rqid 0x2C n 0x1F0 0x1F4 (pheITread n t) | none => cmdWrite rqid 0x2C (pheTread t)) s

/-- PHE_TWRITE (R417). -/
def execPheTwrite (rqid : Nat) (inst : Option Nat) (t : Nat) (s : State) : Host.Outcome State Fault Refusal :=
  meaning (okPheTwrite rqid inst t) "PHE_TWRITE" (.core rqid)
    (match inst with | some n => subCmdWrite rqid 0x2C n 0x1F0 0x1F4 (pheITwrite n t) | none => cmdWrite rqid 0x2C (pheTwrite t)) s

/-- PHE_CLRCNT (R417). -/
def execPheClrcnt (rqid : Nat) (s : State) : Host.Outcome State Fault Refusal :=
  meaning (okPheClrcnt rqid) "PHE_CLRCNT" (.core rqid) (cmdWrite rqid 0x2C (pheClrcnt)) s

end Sys2Proof.Machine
end

