-- ==== Sys2Proof/Machine/RowsPort.lean ====
section
/-! DEFINITION. The commands of MACs (R233–R260): one meaning each, over the operations of the unit files. -/

namespace Sys2Proof.Machine

/-- LINK_UP (R54). -/
def execLinkUp (m rate : Nat) (s : State) : Host.Outcome State Fault Refusal :=
  meaning (okLinkUp m rate) "LINK_UP" .shed (linkUpEv m rate) s

/-- LINK_DOWN (R239). -/
def execLinkDown (m : Nat) (s : State) : Host.Outcome State Fault Refusal :=
  meaning (okLinkDown m) "LINK_DOWN" .run (linkDownEv m) s

/-- SGMII_CONTROL_WORD (R234). -/
def execSgmiiControlWord (m : Nat) (up half : Bool) (rate : Nat) (s : State) : Host.Outcome State Fault Refusal :=
  meaning (okSgmiiControlWord m rate) "SGMII_CONTROL_WORD" .run (sgmiiWord m up half rate) s

/-- MAC_RECEIVE (R237). -/
def execMacReceive (m : Nat) (f : Frame) (s : State) : Host.Outcome State Fault Refusal :=
  meaning (okMacReceive m) "MAC_RECEIVE" .run (macReceive m f) s

/-- PAUSE_RECEIVE (R243). -/
def execPauseReceive (m quanta : Nat) (s : State) : Host.Outcome State Fault Refusal :=
  meaning (okPauseReceive m quanta) "PAUSE_RECEIVE" .run (pauseReceive m quanta) s

/-- PAUSE_TIMER_EXPIRY (R243). -/
def execPauseTimerExpiry (m : Nat) (s : State) : Host.Outcome State Fault Refusal :=
  meaning (okPauseTimerExpiry m) "PAUSE_TIMER_EXPIRY" .run (pauseExpire m) s

/-- OUTPUT_TRANSMIT (R280). -/
def execOutputTransmit (o : Nat) (preempt : Bool) (s : State) : Host.Outcome State Fault Refusal :=
  meaning (okOutputTransmit o) "OUTPUT_TRANSMIT" .shed (outputTransmit o preempt) s

/-- VERIFY_INTERVAL (R248). -/
def execVerifyInterval (m : Nat) (s : State) : Host.Outcome State Fault Refusal :=
  meaning (okVerifyInterval m) "VERIFY_INTERVAL" .run (verifyInterval m) s

/-- VERIFY_RESPONSE (R248). -/
def execVerifyResponse (m : Nat) (s : State) : Host.Outcome State Fault Refusal :=
  meaning (okVerifyResponse m) "VERIFY_RESPONSE" .run (verifyResponse m) s

/-- DOWNSHIFT_WINDOW_END (R251). -/
def execDownshiftWindowEnd (m : Nat) (s : State) : Host.Outcome State Fault Refusal :=
  meaning (okDownshiftWindowEnd m) "DOWNSHIFT_WINDOW_END" .run (windowEnd m) s

/-- DOWNSHIFT_HOLD_END (R251). -/
def execDownshiftHoldEnd (m : Nat) (s : State) : Host.Outcome State Fault Refusal :=
  meaning (okDownshiftHoldEnd m) "DOWNSHIFT_HOLD_END" .run (holdEnd m) s

/-- DOWNSHIFT_FAIL (R252). -/
def execDownshiftFail (m : Nat) (s : State) : Host.Outcome State Fault Refusal :=
  meaning (okDownshiftFail m) "DOWNSHIFT_FAIL" .run (shiftTimeout m) s

/-- DOWNSHIFT_BLOCK_END (R251). -/
def execDownshiftBlockEnd (m : Nat) (s : State) : Host.Outcome State Fault Refusal :=
  meaning (okDownshiftBlockEnd m) "DOWNSHIFT_BLOCK_END" .run (blockEnds m) s

/-- MAC_CLRCNT (R255). -/
def execMacClrcnt (rqid m : Nat) (s : State) : Host.Outcome State Fault Refusal :=
  meaning (okMacClrcnt rqid m) "MAC_CLRCNT" (.core rqid) (cmdWrite rqid (0x10 + m) (macClrcnt m)) s

/-- MAC_ANRESTART (R255). -/
def execMacAnrestart (rqid m : Nat) (s : State) : Host.Outcome State Fault Refusal :=
  meaning (okMacAnrestart rqid m) "MAC_ANRESTART" (.core rqid) (cmdWrite rqid (0x10 + m) (macAnrestart m)) s

/-- MAC_VERIFY (R255). -/
def execMacVerify (rqid m : Nat) (s : State) : Host.Outcome State Fault Refusal :=
  meaning (okMacVerify rqid m) "MAC_VERIFY" (.core rqid) (cmdWrite rqid (0x10 + m) (macVerify m)) s

/-- H_INGRESS (R240). -/
def execHIngress (f : Frame) (cls : Nat) (ipReq udpReq : Bool) (sid inst : Option Nat) (s : State) : Host.Outcome State Fault Refusal :=
  meaning (okHIngress cls sid inst) "H_INGRESS" .run (hostFrame f cls ipReq udpReq sid inst) s

end Sys2Proof.Machine
end

