-- ==== Sys2Proof/Machine/RowsPub.lean ====
section
/-! DEFINITION. The commands of publishing and binary inputs and outputs (R484–R510): one meaning each, over the operations of the unit files. -/

namespace Sys2Proof.Machine

/-- GOOSE_RETRANSMIT (R497). -/
def execGooseRetransmit (p : Nat) (s : State) : Host.Outcome State Fault Refusal :=
  meaning (okGooseRetransmit p) "GOOSE_RETRANSMIT" .run (gooseRetransmit p) s

/-- MINON_EXPIRY (R486). -/
def execMinonExpiry (j : Nat) (s : State) : Host.Outcome State Fault Refusal :=
  meaning (okMinonExpiry j) "MINON_EXPIRY" .run (minonExpiry j) s

/-- BIN_ACCEPT (R489). -/
def execBinAccept (i : Nat) (s : State) : Host.Outcome State Fault Refusal :=
  meaning (okBinAccept i) "BIN_ACCEPT" .run (binAccept i) s

/-- CHATTER_WINDOW_END (R490). -/
def execChatterWindowEnd (i : Nat) (s : State) : Host.Outcome State Fault Refusal :=
  meaning (okChatterWindowEnd i) "CHATTER_WINDOW_END" .run (chatterEnd i) s

/-- SUPERVISION_FILTER (R488). -/
def execSupervisionFilter (j : Nat) (s : State) : Host.Outcome State Fault Refusal :=
  meaning (okSupervisionFilter j) "SUPERVISION_FILTER" .run (supFilter j) s

/-- PUB_TREAD (R506). -/
def execPubTread (rqid t : Nat) (s : State) : Host.Outcome State Fault Refusal :=
  meaning (okPubTread rqid t) "PUB_TREAD" (.core rqid) (cmdWrite rqid 0x34 (pubTread t)) s

/-- PUB_TWRITE (R506). -/
def execPubTwrite (rqid t : Nat) (s : State) : Host.Outcome State Fault Refusal :=
  meaning (okPubTwrite rqid t) "PUB_TWRITE" (.core rqid) (cmdWrite rqid 0x34 (pubTwrite t)) s

/-- PUB_CLRCNT (R506). -/
def execPubClrcnt (rqid : Nat) (s : State) : Host.Outcome State Fault Refusal :=
  meaning (okPubClrcnt rqid) "PUB_CLRCNT" (.core rqid) (cmdWrite rqid 0x34 (pubClrcnt)) s

/-- BIO_CLRCNT (R508). -/
def execBioClrcnt (rqid : Nat) (s : State) : Host.Outcome State Fault Refusal :=
  meaning (okBioClrcnt rqid) "BIO_CLRCNT" (.core rqid) (cmdWrite rqid 0x35 (bioClrcnt)) s

/-- BIO_BINQ0_READ (R508). -/
def execBioBinq0Read (rqid : Nat) (s : State) : Host.Outcome State Fault Refusal :=
  meaning (okBioBinq0Read rqid) "BIO_BINQ0_READ" (.core rqid) (binq0Read rqid) s

/-- BIO_BINQ2_READ (R508). -/
def execBioBinq2Read (rqid : Nat) (s : State) : Host.Outcome State Fault Refusal :=
  meaning (okBioBinq2Read rqid) "BIO_BINQ2_READ" (.core rqid) (binq2Read rqid) s

/-- BIN_LEVEL_CHANGE (R489). -/
def execBinLevelChange (i : Nat) (level : Bool) (s : State) : Host.Outcome State Fault Refusal :=
  meaning (okBinLevelChange i) "BIN_LEVEL_CHANGE" .any (binLevel i level) s

/-- DRAIN_LEVEL_CHANGE (R488). -/
def execDrainLevelChange (j : Nat) (high : Bool) (s : State) : Host.Outcome State Fault Refusal :=
  meaning (okDrainLevelChange j) "DRAIN_LEVEL_CHANGE" .run (drainChange j high) s

end Sys2Proof.Machine
end

