-- ==== Sys2Proof/Machine/RowsSch.lean ====
section
/-! DEFINITION. The commands of protection tasks (R421–R452): one meaning each, over the operations of the unit files. -/

namespace Sys2Proof.Machine

/-- WINDOW_OPEN (R427). -/
def execWindowOpen (core : Nat) (ctx : List Byte) (s : State) : Host.Outcome State Fault Refusal :=
  meaning (okWindowOpen core) "WINDOW_OPEN" .shed (windowOpen core ctx) s

/-- WINDOW_CLOSE (R427). -/
def execWindowClose (core insns : Nat) (s : State) : Host.Outcome State Fault Refusal :=
  meaning (okWindowClose core) "WINDOW_CLOSE" .run (windowClose core insns) s

/-- IMAGE_COPY_DONE (R434). -/
def execImageCopyDone (core : Nat) (s : State) : Host.Outcome State Fault Refusal :=
  meaning (okImageCopyDone core) "IMAGE_COPY_DONE" .run (imageCopyDone core) s

/-- ZDONE (R422). -/
def execZdone (core code insns : Nat) (s : State) : Host.Outcome State Fault Refusal :=
  meaning (okZdone core code) "ZDONE" .run (zdone core code insns) s

/-- ZYIELD (R422). -/
def execZyield (core insns : Nat) (s : State) : Host.Outcome State Fault Refusal :=
  meaning (okZyield core) "ZYIELD" .run (zyield core insns) s

/-- TASK_TRAP (R423). -/
def execTaskTrap (core insns : Nat) (s : State) : Host.Outcome State Fault Refusal :=
  meaning (okTaskTrap core) "TASK_TRAP" .run (taskTrap core insns) s

/-- DEADLINE_GUARD (R437). -/
def execDeadlineGuard (t insns : Nat) (s : State) : Host.Outcome State Fault Refusal :=
  meaning (okDeadlineGuard t) "DEADLINE_GUARD" .run (deadlineGuard t insns) s

/-- L_RELEASE (R428). -/
def execLRelease (t : Nat) (s : State) : Host.Outcome State Fault Refusal :=
  meaning (okLRelease t) "L_RELEASE" .shed (lRelease t) s

/-- SCH_START (R445). -/
def execSchStart (rqid : Nat) (s : State) : Host.Outcome State Fault Refusal :=
  meaning (okSchStart rqid) "SCH_START" (.core rqid) (cmdWrite rqid 0x30 (schStart)) s

/-- SCH_STOP (R445). -/
def execSchStop (rqid : Nat) (s : State) : Host.Outcome State Fault Refusal :=
  meaning (okSchStop rqid) "SCH_STOP" (.core rqid) (cmdWrite rqid 0x30 (schStop)) s

/-- SCH_TREAD (R448). -/
def execSchTread (rqid t : Nat) (s : State) : Host.Outcome State Fault Refusal :=
  meaning (okSchTread rqid t) "SCH_TREAD" (.core rqid) (cmdWrite rqid 0x30 (schTread t)) s

/-- SCH_TWRITE (R448). -/
def execSchTwrite (rqid t : Nat) (s : State) : Host.Outcome State Fault Refusal :=
  meaning (okSchTwrite rqid t) "SCH_TWRITE" (.core rqid) (cmdWrite rqid 0x30 (schTwrite t)) s

/-- SCH_CLRCNT (R448). -/
def execSchClrcnt (rqid t : Nat) (all : Bool) (s : State) : Host.Outcome State Fault Refusal :=
  meaning (okSchClrcnt rqid t) "SCH_CLRCNT" (.core rqid) (cmdWrite rqid 0x30 (schClrcnt t all)) s

end Sys2Proof.Machine
end

