-- ==== Sys2Proof/Machine/RowsSerial.lean ====
section
/-! DEFINITION. The commands of the serial lines (R262–R269): one meaning each, over the operations of the unit files. -/

namespace Sys2Proof.Machine

/-- SER_SEND (R264). -/
def execSerSend (rqid : Nat) (inst : Option Nat) (p : Nat) (s : State) : Host.Outcome State Fault Refusal :=
  meaning (okSerSend rqid inst p) "SER_SEND" (.core rqid)
    (match inst with | some n => subCmdWrite rqid 0x36 n 0x1F0 0x1F4 (serSend rqid p) | none => cmdWrite rqid 0x36 (serSend rqid p)) s

/-- SER_RXPOP (R265). -/
def execSerRxpop (rqid : Nat) (inst : Option Nat) (p : Nat) (s : State) : Host.Outcome State Fault Refusal :=
  meaning (okSerRxpop rqid inst p) "SER_RXPOP" (.core rqid)
    (match inst with | some n => subCmdWrite rqid 0x36 n 0x1F0 0x1F4 (serPop rqid p) | none => cmdWrite rqid 0x36 (serPop rqid p)) s

/-- SER_ABORT (R266). -/
def execSerAbort (rqid : Nat) (inst : Option Nat) (p : Nat) (s : State) : Host.Outcome State Fault Refusal :=
  meaning (okSerAbort rqid inst p) "SER_ABORT" (.core rqid)
    (match inst with | some n => subCmdWrite rqid 0x36 n 0x1F0 0x1F4 (serAbort rqid p) | none => cmdWrite rqid 0x36 (serAbort rqid p)) s

/-- SER_CHARACTER_RECEIVE (R262). -/
def execSerCharacterReceive (p : Nat) (x : Byte) (pbit framing brk : Bool) (s : State) : Host.Outcome State Fault Refusal :=
  meaning (okSerCharacterReceive p) "SER_CHARACTER_RECEIVE" .shed (serChar p x pbit framing brk) s

/-- SER_GAP_SILENCE (R263). -/
def execSerGapSilence (p : Nat) (s : State) : Host.Outcome State Fault Refusal :=
  meaning (okSerGapSilence p) "SER_GAP_SILENCE" .shed (serGap p) s

/-- SER_END_SILENCE (R263). -/
def execSerEndSilence (p : Nat) (s : State) : Host.Outcome State Fault Refusal :=
  meaning (okSerEndSilence p) "SER_END_SILENCE" .shed (serEnd p) s

/-- SER_IDLE_READY (R264). -/
def execSerIdleReady (p : Nat) (s : State) : Host.Outcome State Fault Refusal :=
  meaning (okSerIdleReady p) "SER_IDLE_READY" .shed (serIdle p) s

/-- SER_LEAD_END (R264). -/
def execSerLeadEnd (p : Nat) (s : State) : Host.Outcome State Fault Refusal :=
  meaning (okSerLeadEnd p) "SER_LEAD_END" .shed (serLeadEnd p) s

/-- SER_LAG_END (R264). -/
def execSerLagEnd (p : Nat) (s : State) : Host.Outcome State Fault Refusal :=
  meaning (okSerLagEnd p) "SER_LAG_END" .shed (serLagEnd p) s

/-- SER_REPLY_TIMEOUT (R264). -/
def execSerReplyTimeout (p : Nat) (s : State) : Host.Outcome State Fault Refusal :=
  meaning (okSerReplyTimeout p) "SER_REPLY_TIMEOUT" .shed (serTimeout p) s

end Sys2Proof.Machine
end

