-- ==== Sys2Proof/Machine/RowsSheaf.lean ====
section
/-! DEFINITION. The commands of sheaves (R365–R394): one meaning each, over the operations of the unit files. -/

namespace Sys2Proof.Machine

/-- SLOT_CLAIM (R380). -/
def execSlotClaim (sec : Bool) (s : State) : Host.Outcome State Fault Refusal :=
  meaning true "SLOT_CLAIM" .shed (slotClaim sec) s

/-- SAMPLE_PLACE (R368). -/
def execSamplePlace (s : State) : Host.Outcome State Fault Refusal :=
  meaning true "SAMPLE_PLACE" .run (samplePlace) s

/-- LOCAL_RELEASE (R371). -/
def execLocalRelease (sec : Bool) (s : State) : Host.Outcome State Fault Refusal :=
  meaning true "LOCAL_RELEASE" .shed (fun b => drain (localRelease sec b)) s

/-- SPAN_PH1_RECEIVE (R374). -/
def execSpanPh1Receive (sec : Bool) (k bm : Nat) (revs : List RevRec) (s : State) : Host.Outcome State Fault Refusal :=
  meaning true "SPAN_PH1_RECEIVE" .run (fun b => drain (ph1Receive sec k bm revs b)) s

/-- SPAN_PH2_RECEIVE (R374). -/
def execSpanPh2Receive (sec : Bool) (k : Nat) (runs : List Run) (more : Bool) (s : State) : Host.Outcome State Fault Refusal :=
  meaning true "SPAN_PH2_RECEIVE" .run (fun b => drain (ph2Receive sec k runs more b)) s

/-- SPAN_PH3_RECEIVE (R374). -/
def execSpanPh3Receive (sec : Bool) (k digest : Nat) (s : State) : Host.Outcome State Fault Refusal :=
  meaning true "SPAN_PH3_RECEIVE" .run (fun b => drain (ph3Receive sec k digest b)) s

/-- AGREEMENT_TIMEOUT (R25). -/
def execAgreementTimeout (sec : Bool) (s : State) : Host.Outcome State Fault Refusal :=
  meaning true "AGREEMENT_TIMEOUT" .run (fun b => drain (agreeTimeout sec b)) s

/-- GLEAN_CLOSE (R378). -/
def execGleanClose (sec : Bool) (s : State) : Host.Outcome State Fault Refusal :=
  meaning true "GLEAN_CLOSE" .shed (fun b => drain (gleanClose sec b)) s

/-- SPAN_SETTLE_RECEIVE (R378). -/
def execSpanSettleReceive (sec : Bool) (k : Nat) (part : SettlePart) (s : State) : Host.Outcome State Fault Refusal :=
  meaning true "SPAN_SETTLE_RECEIVE" .run (fun b => drain (settleReceive sec k part b)) s

/-- SETTLE_TIMEOUT (R378). -/
def execSettleTimeout (sec : Bool) (s : State) : Host.Outcome State Fault Refusal :=
  meaning true "SETTLE_TIMEOUT" .run (fun b => drain (settleTimeout sec b)) s

/-- ALN_CLRCNT (R389). -/
def execAlnClrcnt (rqid : Nat) (s : State) : Host.Outcome State Fault Refusal :=
  meaning (okAlnClrcnt rqid) "ALN_CLRCNT" (.core rqid) (cmdWrite rqid 0x29 (alnClrcnt)) s

end Sys2Proof.Machine
end

