-- ==== Sys2Proof/Machine/RowsStart.lean ====
section
/-! DEFINITION. The commands of start, standby kernel, watchdog and SYS commands (R150–R174): one meaning each, over the operations of the unit files. -/

namespace Sys2Proof.Machine

/-- START_STEP (R154). -/
def execStartStep (begins : Bool) (ms detail : Nat) (s : State) : Host.Outcome State Fault Refusal :=
  meaning (okStartStep detail) "START_STEP" .run (startStep begins ms detail) s

/-- STEP_LIMIT (R154). -/
def execStepLimit (s : State) : Host.Outcome State Fault Refusal :=
  meaning true "STEP_LIMIT" .run (stepLimit) s

/-- HARROW_PASS_DONE (R152). -/
def execHarrowPassDone (fails : List Upset) (us : Nat) (s : State) : Host.Outcome State Fault Refusal :=
  meaning true "HARROW_PASS_DONE" .run (harrowPassDone fails us) s

/-- STL_CLEAR (R160). -/
def execStlClear (rqid n : Nat) (s : State) : Host.Outcome State Fault Refusal :=
  meaning (okStlClear rqid n) "STL_CLEAR" (.core rqid) (cmdWrite rqid 0x02 (stlClear n)) s

/-- SPK_HANDOVER (R165). -/
def execSpkHandover (s : State) : Host.Outcome State Fault Refusal :=
  meaning true "SPK_HANDOVER" .run (spkHandover) s

/-- SPK_FALLBACK (R165). -/
def execSpkFallback (s : State) : Host.Outcome State Fault Refusal :=
  meaning true "SPK_FALLBACK" .run (spkFallback) s

/-- SPK_EVALUATE (R161). -/
def execSpkEvaluate (s : State) : Host.Outcome State Fault Refusal :=
  meaning true "SPK_EVALUATE" .run (spkEvaluate) s

/-- WATCHDOG_EXPIRY (R172). -/
def execWatchdogExpiry (s : State) : Host.Outcome State Fault Refusal :=
  meaning true "WATCHDOG_EXPIRY" .run (watchdogExpiry) s

/-- WATCHDOG_AUTOWARM (R172). -/
def execWatchdogAutowarm (s : State) : Host.Outcome State Fault Refusal :=
  meaning true "WATCHDOG_AUTOWARM" .run (watchdogAutowarm) s

/-- SYS_WDOGKICK (R174). -/
def execSysWdogkick (rqid : Nat) (s : State) : Host.Outcome State Fault Refusal :=
  meaning (okSysWdogkick rqid) "SYS_WDOGKICK" (.core rqid) (wdogKick rqid) s

/-- SYS_WARM (R173). -/
def execSysWarm (rqid : Nat) (force : Bool) (s : State) : Host.Outcome State Fault Refusal :=
  meaning (okSysWarm rqid) "SYS_WARM" (.core rqid) (cmdWrite rqid 0x00 (sysWarm force)) s

/-- SYS_COLD (R173). -/
def execSysCold (rqid : Nat) (force : Bool) (s : State) : Host.Outcome State Fault Refusal :=
  meaning (okSysCold rqid) "SYS_COLD" (.core rqid) (cmdWrite rqid 0x00 (sysCold force)) s

/-- SYS_FALLOW (R167). -/
def execSysFallow (rqid : Nat) (s : State) : Host.Outcome State Fault Refusal :=
  meaning (okSysFallow rqid) "SYS_FALLOW" (.core rqid) (cmdWrite rqid 0x00 (sysFallow)) s

/-- SYS_FALLBACK (R173). -/
def execSysFallback (rqid : Nat) (s : State) : Host.Outcome State Fault Refusal :=
  meaning (okSysFallback rqid) "SYS_FALLBACK" (.core rqid) (cmdWrite rqid 0x00 (sysFallback)) s

/-- SYS_RESUME (R173). -/
def execSysResume (rqid : Nat) (s : State) : Host.Outcome State Fault Refusal :=
  meaning (okSysResume rqid) "SYS_RESUME" (.core rqid) (cmdWrite rqid 0x00 (sysResume)) s

/-- SYS_SPKSET (R173). -/
def execSysSpkset (rqid copy : Nat) (s : State) : Host.Outcome State Fault Refusal :=
  meaning (okSysSpkset rqid copy) "SYS_SPKSET" (.core rqid) (cmdWrite rqid 0x00 (sysSpkset copy)) s

/-- FALLOW_WAKE (R167). -/
def execFallowWake (s : State) : Host.Outcome State Fault Refusal :=
  meaning true "FALLOW_WAKE" .ao (fallowWake) s

end Sys2Proof.Machine
end

