-- ==== Sys2Proof/Machine/RowsSupply.lean ====
section
/-! DEFINITION. The commands of supply, reset pin, junction and speed (R43, R59–R74, R90–R94): one meaning each, over the operations of the unit files. -/

namespace Sys2Proof.Machine

/-- VIN_START_RISE (R59). -/
def execVinStartRise (aoKept : Bool) (s : State) : Host.Outcome State Fault Refusal :=
  meaning true "VIN_START_RISE" .any (vinStart aoKept) s

/-- PWR_OK_RISE (R59). -/
def execPwrOkRise (s : State) (side : Bool := false) : Host.Outcome State Fault Refusal :=
  meaning true "PWR_OK_RISE" .ao (pwrOkRise side) s

/-- VIN_ABANDON (R59). -/
def execVinAbandon (s : State) : Host.Outcome State Fault Refusal :=
  meaning true "VIN_ABANDON" .ao (vinAbandon) s

/-- HOLDUP_READY (R59). -/
def execHoldupReady (cap : Nat) (s : State) : Host.Outcome State Fault Refusal :=
  meaning (okHoldupReady cap) "HOLDUP_READY" .ao (holdupReady cap) s

/-- RAIL_FAULT (R60). -/
def execRailFault (rail : Nat) (s : State) : Host.Outcome State Fault Refusal :=
  meaning (okRailFault rail) "RAIL_FAULT" .ao (railFault rail) s

/-- MOD_RST_N_LOW (R43). -/
def execModRstNLow (s : State) : Host.Outcome State Fault Refusal :=
  meaning true "MOD_RST_N_LOW" .any (rstNLow) s

/-- MOD_RST_N_RISE (R43). -/
def execModRstNRise (s : State) (side : Bool := false) : Host.Outcome State Fault Refusal :=
  meaning true "MOD_RST_N_RISE" .any (rstNRise side) s

/-- PWR_MEASURE (R82). -/
def execPwrMeasure (vin iin tj tplate varray ratio : Nat) (vsense tsense : Bool) (s : State) : Host.Outcome State Fault Refusal :=
  meaning (okPwrMeasure vin iin tj tplate varray ratio) "PWR_MEASURE" .ao (pwrMeasure vin iin tj tplate varray ratio vsense tsense) s

/-- VIN_WARNING_CROSS (R63). -/
def execVinWarningCross (k : Nat) (s : State) : Host.Outcome State Fault Refusal :=
  meaning (okVinWarningCross k) "VIN_WARNING_CROSS" .ao (vinWarning k) s

/-- SAVE_SET_COMPLETE (R62). -/
def execSaveSetComplete (good : Bool) (s : State) : Host.Outcome State Fault Refusal :=
  meaning true "SAVE_SET_COMPLETE" .ao (saveSetComplete good) s

/-- METERING_SAVE_REPEAT (R63). -/
def execMeteringSaveRepeat (s : State) : Host.Outcome State Fault Refusal :=
  meaning true "METERING_SAVE_REPEAT" .ao (meteringSaveRepeat) s

/-- VIN_RECOVERY_CROSS (R62). -/
def execVinRecoveryCross (s : State) : Host.Outcome State Fault Refusal :=
  meaning true "VIN_RECOVERY_CROSS" .ao (vinRecovery) s

/-- VIN_RESET_CROSS (R62). -/
def execVinResetCross (k : Nat) (s : State) : Host.Outcome State Fault Refusal :=
  meaning (okVinResetCross k) "VIN_RESET_CROSS" .ao (vinReset k) s

/-- HOLDUP_ARRAY_FLOOR (R64). -/
def execHoldupArrayFloor (s : State) : Host.Outcome State Fault Refusal :=
  meaning true "HOLDUP_ARRAY_FLOOR" .ao (holdupFloor) s

/-- JUNCTION_HOT (R70). -/
def execJunctionHot (s : State) : Host.Outcome State Fault Refusal :=
  meaning true "JUNCTION_HOT" .ao (junctionHot) s

/-- JUNCTION_COOL (R70). -/
def execJunctionCool (s : State) : Host.Outcome State Fault Refusal :=
  meaning true "JUNCTION_COOL" .ao (junctionCool) s

/-- JUNCTION_TRIP (R70). -/
def execJunctionTrip (k : Nat) (s : State) : Host.Outcome State Fault Refusal :=
  meaning (okJunctionTrip k) "JUNCTION_TRIP" .ao (junctionTrip k) s

/-- THERMAL_RESTART (R70). -/
def execThermalRestart (s : State) : Host.Outcome State Fault Refusal :=
  meaning true "THERMAL_RESTART" .ao (thermalRestart) s

/-- LIFE_UPDATE (R73). -/
def execLifeUpdate (s : State) : Host.Outcome State Fault Refusal :=
  meaning true "LIFE_UPDATE" .ao (lifeUpdate) s

/-- CLEAR_MIN (R81). -/
def execClearMin (rqid : Nat) (s : State) : Host.Outcome State Fault Refusal :=
  meaning (okClearMin rqid) "CLEAR_MIN" (.core rqid) (cmdWrite rqid 0x01 (clearMin)) s

/-- TALLY_PERIOD_END (R91). -/
def execTallyPeriodEnd (s : State) : Host.Outcome State Fault Refusal :=
  meaning true "TALLY_PERIOD_END" .run (tallyPeriodEnd) s

/-- TALLY_SPEED_REFRESH (R90). -/
def execTallySpeedRefresh (mn mean : Nat) (s : State) : Host.Outcome State Fault Refusal :=
  meaning (okTallySpeedRefresh mn mean) "TALLY_SPEED_REFRESH" .run (tallySpeedRefresh mn mean) s

/-- PWR_TALLYCTL_WRITE (R94). -/
def execPwrTallyctlWrite (rqid v : Nat) (s : State) : Host.Outcome State Fault Refusal :=
  meaning (okPwrTallyctlWrite rqid v) "PWR_TALLYCTL_WRITE" (.core rqid) (tallyctlWrite rqid v) s

end Sys2Proof.Machine
end

