-- ==== Sys2Proof/Machine/RowsSwitch.lean ====
section
/-! DEFINITION. The commands of the switch core and redundancy (R270–R298): one meaning each, over the operations of the unit files. -/

namespace Sys2Proof.Machine

/-- SWITCH_FORWARD (R275). -/
def execSwitchForward (s : State) : Host.Outcome State Fault Refusal :=
  meaning true "SWITCH_FORWARD" .run (switchForward) s

/-- CUT_THROUGH (R282). -/
def execCutThrough (m : Nat) (f : Frame) (s : State) : Host.Outcome State Fault Refusal :=
  meaning (okCutThrough m) "CUT_THROUGH" .run (cutThrough m f) s

/-- CUT_THROUGH_END (R284). -/
def execCutThroughEnd (o : Nat) (e : CtEnd) (s : State) : Host.Outcome State Fault Refusal :=
  meaning (okCutThroughEnd o) "CUT_THROUGH_END" .run (cutEnd o e) s

/-- FDB_AGEING (R276). -/
def execFdbAgeing (s : State) : Host.Outcome State Fault Refusal :=
  meaning true "FDB_AGEING" .run (fdbAge) s

/-- FILTER_WINDOW (R278). -/
def execFilterWindow (s : State) : Host.Outcome State Fault Refusal :=
  meaning true "FILTER_WINDOW" .run (filterWindow) s

/-- SWC_TREAD (R293). -/
def execSwcTread (rqid t : Nat) (s : State) : Host.Outcome State Fault Refusal :=
  meaning (okSwcTread rqid t) "SWC_TREAD" (.core rqid) (cmdWrite rqid 0x20 (swcTread t)) s

/-- SWC_TWRITE (R293). -/
def execSwcTwrite (rqid t : Nat) (s : State) : Host.Outcome State Fault Refusal :=
  meaning (okSwcTwrite rqid t) "SWC_TWRITE" (.core rqid) (cmdWrite rqid 0x20 (swcTwrite t)) s

/-- SWC_FLUSH (R293). -/
def execSwcFlush (rqid vid : Nat) (s : State) : Host.Outcome State Fault Refusal :=
  meaning (okSwcFlush rqid vid) "SWC_FLUSH" (.core rqid) (cmdWrite rqid 0x20 (swcFlush vid)) s

/-- SWC_CLRCNT (R293). -/
def execSwcClrcnt (rqid : Nat) (s : State) : Host.Outcome State Fault Refusal :=
  meaning (okSwcClrcnt rqid) "SWC_CLRCNT" (.core rqid) (cmdWrite rqid 0x20 (swcClrcnt)) s

/-- PRP_SUPERVISION (R287). -/
def execPrpSupervision (p : Nat) (s : State) : Host.Outcome State Fault Refusal :=
  meaning (okPrpSupervision p) "PRP_SUPERVISION" .run (supervision p) s

/-- PRP_NODE_FORGET (R288). -/
def execPrpNodeForget (s : State) : Host.Outcome State Fault Refusal :=
  meaning true "PRP_NODE_FORGET" .run (nodeForget) s

/-- PRP_FORGET (R288). -/
def execPrpForget (s : State) : Host.Outcome State Fault Refusal :=
  meaning true "PRP_FORGET" .run (prpForget) s

/-- PRP_CLRCNT (R297). -/
def execPrpClrcnt (rqid : Nat) (s : State) : Host.Outcome State Fault Refusal :=
  meaning (okPrpClrcnt rqid) "PRP_CLRCNT" (.core rqid) (cmdWrite rqid 0x21 (prpClrcnt)) s

/-- PRP_FLUSHNODES (R288). -/
def execPrpFlushnodes (rqid : Nat) (s : State) : Host.Outcome State Fault Refusal :=
  meaning (okPrpFlushnodes rqid) "PRP_FLUSHNODES" (.core rqid) (cmdWrite rqid 0x21 (prpFlushnodes)) s

end Sys2Proof.Machine
end

