-- ==== Sys2Proof/Machine/RowsTime.lean ====
section
/-! DEFINITION. The commands of the time base (R299–R328): one meaning each, over the operations of the unit files. -/

namespace Sys2Proof.Machine

/-- PPS_IN_EDGE (R305). -/
def execPpsInEdge (t : Nat) (s : State) : Host.Outcome State Fault Refusal :=
  meaning true "PPS_IN_EDGE" .run (ppsInEdge t) s

/-- IRIG_FRAME (R315). -/
def execIrigFrame (t : Nat) (f : Irig) (s : State) : Host.Outcome State Fault Refusal :=
  meaning true "IRIG_FRAME" .run (irigFrame t f) s

/-- PTP_RECEIVE (R312). -/
def execPtpReceive (o rx : Nat) (m : PtpMsg) (s : State) : Host.Outcome State Fault Refusal :=
  meaning (okPtpReceive o) "PTP_RECEIVE" .run (ptpReceive o rx m) s

/-- PTP_INTERVAL (R312). -/
def execPtpInterval (o : Nat) (tick : PtpTick) (s : State) : Host.Outcome State Fault Refusal :=
  meaning (okPtpInterval o) "PTP_INTERVAL" .run (ptpTick o tick) s

/-- SOURCE_LOSS (R306). -/
def execSourceLoss (s : State) : Host.Outcome State Fault Refusal :=
  meaning true "SOURCE_LOSS" .run (sourceLoss) s

/-- HOLDOVER_BOUND (R311). -/
def execHoldoverBound (s : State) : Host.Outcome State Fault Refusal :=
  meaning true "HOLDOVER_BOUND" .run (holdoverBound) s

/-- TIM_STEP (R323). -/
def execTimStep (rqid : Nat) (s : State) : Host.Outcome State Fault Refusal :=
  meaning (okTimStep rqid) "TIM_STEP" (.core rqid) (cmdWrite rqid 0x24 (timStep)) s

/-- TIM_STEPCANCEL (R323). -/
def execTimStepcancel (rqid : Nat) (s : State) : Host.Outcome State Fault Refusal :=
  meaning (okTimStepcancel rqid) "TIM_STEPCANCEL" (.core rqid) (cmdWrite rqid 0x24 (timStepcancel)) s

/-- TIM_TXQCLR (R323). -/
def execTimTxqclr (rqid : Nat) (s : State) : Host.Outcome State Fault Refusal :=
  meaning (okTimTxqclr rqid) "TIM_TXQCLR" (.core rqid) (cmdWrite rqid 0x24 (timTxqclr)) s

/-- TIM_RELOCK (R323). -/
def execTimRelock (rqid : Nat) (s : State) : Host.Outcome State Fault Refusal :=
  meaning (okTimRelock rqid) "TIM_RELOCK" (.core rqid) (cmdWrite rqid 0x24 (timRelock)) s

/-- TIM_CMPTGT_WRITE (R319). -/
def execTimCmptgtWrite (rqid : Nat) (inst : Option Nat) (i v : Nat) (s : State) : Host.Outcome State Fault Refusal :=
  meaning (okTimCmptgtWrite rqid inst i v) "TIM_CMPTGT_WRITE" (.core rqid) (cmpTgtWrite rqid inst i v) s

/-- TIM_CMPPER_WRITE (R321). -/
def execTimCmpperWrite (rqid : Nat) (inst : Option Nat) (i v : Nat) (s : State) : Host.Outcome State Fault Refusal :=
  meaning (okTimCmpperWrite rqid inst i v) "TIM_CMPPER_WRITE" (.core rqid) (cmpPerWrite rqid inst i v) s

/-- COMPARE_FIRE (R319). -/
def execCompareFire (i : Nat) (s : State) : Host.Outcome State Fault Refusal :=
  meaning (okCompareFire i) "COMPARE_FIRE" .shed (cmpFire i) s

/-- COMPARE_PULSE_END (R320). -/
def execComparePulseEnd (i : Nat) (s : State) : Host.Outcome State Fault Refusal :=
  meaning (okComparePulseEnd i) "COMPARE_PULSE_END" .run (cmpPulseEnd i) s

/-- PPS_OUT_RISE (R316). -/
def execPpsOutRise (s : State) : Host.Outcome State Fault Refusal :=
  meaning true "PPS_OUT_RISE" .shed (ppsRise) s

/-- PPS_OUT_FALL (R316). -/
def execPpsOutFall (s : State) : Host.Outcome State Fault Refusal :=
  meaning true "PPS_OUT_FALL" .run (ppsFall) s

/-- TIM_SEC_LO_READ (R324). -/
def execTimSecLoRead (rqid : Nat) (s : State) : Host.Outcome State Fault Refusal :=
  meaning (okTimSecLoRead rqid) "TIM_SEC_LO_READ" (.core rqid) (timSecRead rqid) s

/-- TIM_TXQ0_READ (R324). -/
def execTimTxq0Read (rqid : Nat) (s : State) : Host.Outcome State Fault Refusal :=
  meaning (okTimTxq0Read rqid) "TIM_TXQ0_READ" (.core rqid) (timTxq0Read rqid) s

/-- TIM_TXQ2_READ (R324). -/
def execTimTxq2Read (rqid : Nat) (s : State) : Host.Outcome State Fault Refusal :=
  meaning (okTimTxq2Read rqid) "TIM_TXQ2_READ" (.core rqid) (timTxq2Read rqid) s

end Sys2Proof.Machine
end

