-- ==== Sys2Proof/Machine/RowsTrust.lean ====
section
/-! DEFINITION. The commands of containers, tamper and debug (R209–R232): one meaning each, over the operations of the unit files. -/

namespace Sys2Proof.Machine

/-- TMP_CLEAR (R228). -/
def execTmpClear (rqid : Nat) (s : State) : Host.Outcome State Fault Refusal :=
  meaning (okTmpClear rqid) "TMP_CLEAR" (.core rqid) (cmdWrite rqid 0x05 (tmpClear)) s

/-- TMP_VERIFY (R211). -/
def execTmpVerify (rqid use m : Nat) (s : State) : Host.Outcome State Fault Refusal :=
  meaning (okTmpVerify rqid use m) "TMP_VERIFY" (.core rqid) (cmdWrite rqid 0x05 (tmpVerify use m)) s

/-- TMP_RAISE (R228). -/
def execTmpRaise (rqid lvl : Nat) (s : State) : Host.Outcome State Fault Refusal :=
  meaning (okTmpRaise rqid lvl) "TMP_RAISE" (.core rqid) (cmdWrite rqid 0x05 (tmpRaise lvl)) s

/-- TMP_MEASURE (R218). -/
def execTmpMeasure (rqid : Nat) (s : State) : Host.Outcome State Fault Refusal :=
  meaning (okTmpMeasure rqid) "TMP_MEASURE" (.core rqid) (cmdWrite rqid 0x05 (tmpMeasure)) s

/-- TAMPER_DETECT (R224). -/
def execTamperDetect (src : Nat) (sign : TamperSign) (selftest : Bool) (k : Nat) (s : State) : Host.Outcome State Fault Refusal :=
  meaning (okTamperDetect src k) "TAMPER_DETECT" .ao (tamperDetect src sign.how sign.rail selftest k) s

/-- TAMPER_LOOP_MEASURE (R45). -/
def execTamperLoopMeasure (ohm : Option Nat) (short : Bool) (s : State) : Host.Outcome State Fault Refusal :=
  meaning true "TAMPER_LOOP_MEASURE" .ao (loopMeasure ohm short) s

/-- TAP_INSTRUCTION (R51). -/
def execTapInstruction (ir : TapIr) (s : State) : Host.Outcome State Fault Refusal :=
  meaning true "TAP_INSTRUCTION" .run (tapInstruction ir) s

/-- DBG_CHALLENGE (R221). -/
def execDbgChallenge (rqid : Nat) (s : State) : Host.Outcome State Fault Refusal :=
  meaning (okDbgChallenge rqid) "DBG_CHALLENGE" (.core rqid) (cmdWrite rqid 0x44 (dbgChallenge)) s

/-- DBG_AUTH (R221). -/
def execDbgAuth (rqid : Nat) (s : State) : Host.Outcome State Fault Refusal :=
  meaning (okDbgAuth rqid) "DBG_AUTH" (.core rqid) (cmdWrite rqid 0x44 (dbgAuth)) s

/-- DBG_CLOSE (R221). -/
def execDbgClose (rqid : Nat) (s : State) : Host.Outcome State Fault Refusal :=
  meaning (okDbgClose rqid) "DBG_CLOSE" (.core rqid) (cmdWrite rqid 0x44 (dbgClose)) s

end Sys2Proof.Machine
end

