-- ==== Sys2Proof/Machine/RowsTwin.lean ====
section
/-! DEFINITION. The commands of twins and the control lease (R511–R546): one meaning each, over the operations of the unit files. -/

namespace Sys2Proof.Machine

/-- HEARTBEAT_SEND (R515). -/
def execHeartbeatSend (s : State) : Host.Outcome State Fault Refusal :=
  meaning true "HEARTBEAT_SEND" .run (heartbeatSend) s

/-- SPAN_HEARTBEAT_RECEIVE (R515). -/
def execSpanHeartbeatReceive (lane : Nat) (h : Heartbeat) (s : State) : Host.Outcome State Fault Refusal :=
  meaning (okSpanHeartbeatReceive lane) "SPAN_HEARTBEAT_RECEIVE" .run (fun b => drain (heartbeatReceive lane h b)) s

/-- LANE_TIMEOUT (R516). -/
def execLaneTimeout (lane : Nat) (s : State) : Host.Outcome State Fault Refusal :=
  meaning (okLaneTimeout lane) "LANE_TIMEOUT" .run (laneTimeout lane) s

/-- SPAN_LOST (R516). -/
def execSpanLost (s : State) : Host.Outcome State Fault Refusal :=
  meaning true "SPAN_LOST" .run (fun b => drain (spanLostEv b)) s

/-- HELLO_SEND (R517). -/
def execHelloSend (s : State) : Host.Outcome State Fault Refusal :=
  meaning true "HELLO_SEND" .run (helloSend) s

/-- HELLO_RECEIVE (R517). -/
def execHelloReceive (h : Hello) (s : State) : Host.Outcome State Fault Refusal :=
  meaning true "HELLO_RECEIVE" .run (helloReceive h) s

/-- PAIRED_JOIN (R523). -/
def execPairedJoin (s : State) : Host.Outcome State Fault Refusal :=
  meaning true "PAIRED_JOIN" .run (pairedJoin) s

/-- RESYNC_RECEIVE (R523). -/
def execResyncReceive (seq : Nat) (abs : List (Nat × Nat)) (pubs : List PubSync) (s : State) : Host.Outcome State Fault Refusal :=
  meaning (okResyncReceive seq) "RESYNC_RECEIVE" .run (resyncReceive seq abs pubs) s

/-- FRAMEDIG_RECEIVE (R521). -/
def execFramedigReceive (l : List FrameRec) (s : State) : Host.Outcome State Fault Refusal :=
  meaning true "FRAMEDIG_RECEIVE" .run (framedigReceive l) s

/-- DIGEST_PARTNER_TIMEOUT (R522). -/
def execDigestPartnerTimeout (s : State) : Host.Outcome State Fault Refusal :=
  meaning true "DIGEST_PARTNER_TIMEOUT" .run (digestTimeout) s

/-- TIME_SEND (R524). -/
def execTimeSend (s : State) : Host.Outcome State Fault Refusal :=
  meaning true "TIME_SEND" .run (timeSend) s

/-- SPAN_TIME_RECEIVE (R524). -/
def execSpanTimeReceive (t1 echo t2 t3 : Nat) (s : State) : Host.Outcome State Fault Refusal :=
  meaning true "SPAN_TIME_RECEIVE" .run (timeReceive t1 echo t2 t3) s

/-- NOTICE_RECEIVE (R525). -/
def execNoticeReceive (code : Nat) (detail : List Byte) (s : State) : Host.Outcome State Fault Refusal :=
  meaning (okNoticeReceive code) "NOTICE_RECEIVE" .run (fun b => drain (noticeReceive code detail b)) s

/-- TUNNEL_RECEIVE (R514). -/
def execTunnelReceive (lane : Nat) (f : Frame) (s : State) : Host.Outcome State Fault Refusal :=
  meaning (okTunnelReceive lane) "TUNNEL_RECEIVE" .run (tunnelReceive lane f) s

/-- AGREE_RECEIVE (R116). -/
def execAgreeReceive (kind : Nat) (copyback good : Bool) (idx digest : Nat) (s : State) : Host.Outcome State Fault Refusal :=
  meaning (okAgreeReceive kind) "AGREE_RECEIVE" .run (askReceive kind copyback good idx digest) s

/-- AGREE_TIMEOUT (R116). -/
def execAgreeTimeout (s : State) : Host.Outcome State Fault Refusal :=
  meaning true "AGREE_TIMEOUT" .run (askTimeout) s

/-- RENEW_DUE (R528). -/
def execRenewDue (lease : Nat) (s : State) : Host.Outcome State Fault Refusal :=
  meaning (okRenewDue lease) "RENEW_DUE" .run (fun b => if lease = 0 then renewDue b else renewDue1 b) s

/-- RENEW_RETRY (R528). -/
def execRenewRetry (lease : Nat) (s : State) : Host.Outcome State Fault Refusal :=
  meaning (okRenewRetry lease) "RENEW_RETRY" .run (fun b => if lease = 0 then renewRetry b else renewRetry1 b) s

/-- GRANT_RECEIVE (R528). -/
def execGrantReceive (f : Frame) (s : State) : Host.Outcome State Fault Refusal :=
  meaning true "GRANT_RECEIVE" .run (grantReceive f) s

/-- STATUS_RECEIVE (R528). -/
def execStatusReceive (f : Frame) (s : State) : Host.Outcome State Fault Refusal :=
  meaning true "STATUS_RECEIVE" .run (statusReceive f) s

/-- LEASE_EXPIRY (R528). -/
def execLeaseExpiry (lease : Nat) (s : State) : Host.Outcome State Fault Refusal :=
  meaning (okLeaseExpiry lease) "LEASE_EXPIRY" .run (fun b => if lease = 0 then leaseExpiry b else lease1Expiry b) s

/-- PRESENT_SEND (R529). -/
def execPresentSend (s : State) : Host.Outcome State Fault Refusal :=
  meaning true "PRESENT_SEND" .run (presentSend) s

/-- REQUEST_REPEAT (R529). -/
def execRequestRepeat (s : State) : Host.Outcome State Fault Refusal :=
  meaning true "REQUEST_REPEAT" .run (requestRepeat) s

/-- STATUS_REMAINING_EXPIRY (R529). -/
def execStatusRemainingExpiry (s : State) : Host.Outcome State Fault Refusal :=
  meaning true "STATUS_REMAINING_EXPIRY" .run (statusExpiry) s

/-- WITNESS_MESSAGE (R530). -/
def execWitnessMessage (f : Frame) (s : State) : Host.Outcome State Fault Refusal :=
  meaning true "WITNESS_MESSAGE" .run (witnessMessage f) s

/-- WITNESS_QUARANTINE_END (R531). -/
def execWitnessQuarantineEnd (s : State) : Host.Outcome State Fault Refusal :=
  meaning true "WITNESS_QUARANTINE_END" .run (witQuarEnd) s

/-- TWN_CHECK (R533). -/
def execTwnCheck (rqid : Nat) (inst : Option Nat) (margin : Nat) (s : State) : Host.Outcome State Fault Refusal :=
  meaning (okTwnCheck rqid inst margin) "TWN_CHECK" (.core rqid)
    (match inst with | some n => subCmdWrite rqid 0x38 n 0x1F0 0x1F4 (twnCheck (some n) margin) | none => cmdWrite rqid 0x38 (twnCheck none margin)) s

/-- TWN_RELEASE (R543). -/
def execTwnRelease (rqid : Nat) (s : State) : Host.Outcome State Fault Refusal :=
  meaning (okTwnRelease rqid) "TWN_RELEASE" (.core rqid) (cmdWrite rqid 0x38 (twnRelease)) s

/-- TWN_REJOIN (R543). -/
def execTwnRejoin (rqid : Nat) (s : State) : Host.Outcome State Fault Refusal :=
  meaning (okTwnRejoin rqid) "TWN_REJOIN" (.core rqid) (cmdWrite rqid 0x38 (twnRejoin)) s

/-- TWN_CLRCNT (R543). -/
def execTwnClrcnt (rqid : Nat) (s : State) : Host.Outcome State Fault Refusal :=
  meaning (okTwnClrcnt rqid) "TWN_CLRCNT" (.core rqid) (cmdWrite rqid 0x38 (twnClrcnt)) s

/-- NOLEASE_WRITE (R534). -/
def execNoleaseWrite (rqid v : Nat) (s : State) : Host.Outcome State Fault Refusal :=
  meaning (okNoleaseWrite rqid v) "NOLEASE_WRITE" (.core rqid) (noleaseWrite rqid v) s

end Sys2Proof.Machine
end

