-- ==== Sys2Proof/Machine/DmaBurst.lean ====
section
/-! DEFINITION. DMA_BURST (R464, R465): a burst of a running descriptor. -/

namespace Sys2Proof.Machine

/-- Bytes of the fill pattern for `n` bytes from position `done` (R464). -/
def fillBytes (pattern done n : Nat) : List Byte :=
  (List.range n).map (fun i => BitVec.ofNat 8 (pattern / 2 ^ (8 * ((done + i) % 8))))

/-- Whether a burst of `n` bytes at `a` is a register access (R104). -/
def regBurst (b : Block) (a n : Nat) : Bool := !isMem b a && decide (n = 4 ∧ a % 4 = 0)

/-- A burst's read of `n` bytes at `a`. -/
def burstRead (rqid a n : Nat) (b : Block) : Status × List Byte × Block :=
  if regBurst b a n then
    let j := judge b rqid a (.word 4) Need.read
    if j.status = .ok then (let (v, b) := readReg rqid a b; (.ok, leBytes 4 v, b))
    else if j.status = .absent then (.ok, leBytes 4 0, b)
    else (j.status, [], recordFault j rqid a Need.read b)
  else engRead rqid a n b

/-- A burst's write of bytes at `a`; a register write goes through the meaning of that register. -/
def burstWrite (rqid a : Nat) (l : List Byte) (b : Block) : Status × Block :=
  if regBurst b a l.length then
    let j := judge b rqid a (.word 4) Need.write
    if j.status = .ok then (.ok, { registerWrite rqid a (leNat l) b with resp := b.resp })
    else if j.status = .absent then (.ok, b)
    else (j.status, recordFault j rqid a Need.write b)
  else engWrite rqid a l b

/-- Poison the destination codewords that a bad source codeword among `[src, src + n)` went to (R35, R465). -/
def poisonCopied (src dst n : Nat) (b : Block) : Block :=
  let bad := (List.range n).filter (fun i => b.poisoned.contains (cwOf (src + i)).1 || b.uncorr.contains (cwOf (src + i)).1)
  each poison ((bad.map (fun i => (cwOf (dst + i)).1)).eraseDups) b

/-- The running descriptor after `n` more bytes. -/
def dmaMoved (d : DmaDesc) (n : Nat) (b : Block) : DmaDesc × Block :=
  let d' := { d with done := d.done + n }
  (d', { b with dma := b.dma.map (fun x => if x = d then d' else x) })

/-- DMA_BURST on channel `c`. -/
def dmaBurst (c : Nat) (b : Block) : Block :=
  match b.dma.find? (fun d => d.chan == some c) with
  | none => b
  | some d =>
    let rq := ringRqid d.ring
    let dst := d.dst + d.done
    let n := min (d.len - d.done) (256 - dst % 256)
    let fill := bitOf d.flags 2
    let src := d.src + d.done
    let (st, l, b) := if fill then (.ok, fillBytes d.src d.done n, b) else burstRead rq src n b
    match st with
    | .ok =>
      let (w, b) := burstWrite rq dst l b
      if w = .ok then
        let (d', b) := dmaMoved d n b
        if d.len ≤ d'.done then dmaEnd d' 1 0 b else b
      else (let (k, cls) := dmaCode w; dmaEnd d k cls b)
    | .ue => bad rq d src dst n b
    | .poison => bad rq d src dst n b
    | s => (let (k, cls) := dmaCode s; dmaEnd d k cls b)
where
  /-- The source holds a word past correction: what is there moves, its destination word is poisoned, and the descriptor ends. -/
  bad (rq : Nat) (d : DmaDesc) (src dst n : Nat) (b : Block) : Block :=
    let (w, b) := burstWrite rq dst (mread b src n) b
    if w = .ok then
      let b := poisonCopied src dst n b
      let (d', b) := dmaMoved d n b
      dmaEnd d' 4 2 b
    else (let (k, cls) := dmaCode w; dmaEnd d k cls b)

end Sys2Proof.Machine
end

