-- ==== Sys2Proof/Machine/RowsVim.lean ====
section
/-! DEFINITION. The commands of instances, DMA and the dirty-page log (R453–R483): one meaning each, over the operations of the unit files. -/

namespace Sys2Proof.Machine

/-- VIM_SHARE (R457). -/
def execVimShare (rqid : Nat) (s : State) : Host.Outcome State Fault Refusal :=
  meaning (okVimShare rqid) "VIM_SHARE" (.core rqid) (cmdWrite rqid 0x31 (vimAsk 0 0)) s

/-- VIM_CANCELSHARE (R457). -/
def execVimCancelshare (rqid : Nat) (s : State) : Host.Outcome State Fault Refusal :=
  meaning (okVimCancelshare rqid) "VIM_CANCELSHARE" (.core rqid) (cmdWrite rqid 0x31 (vimCancelshare)) s

/-- VIM_START (R454). -/
def execVimStart (rqid n : Nat) (s : State) : Host.Outcome State Fault Refusal :=
  meaning (okVimStart rqid n) "VIM_START" (.core rqid) (cmdWrite rqid 0x31 (vimAsk 1 n)) s

/-- VIM_QUIESCE (R466). -/
def execVimQuiesce (rqid n : Nat) (s : State) : Host.Outcome State Fault Refusal :=
  meaning (okVimQuiesce rqid n) "VIM_QUIESCE" (.core rqid) (cmdWrite rqid 0x31 (vimQuiesce n)) s

/-- VIM_RESUME (R454). -/
def execVimResume (rqid n : Nat) (s : State) : Host.Outcome State Fault Refusal :=
  meaning (okVimResume rqid n) "VIM_RESUME" (.core rqid) (cmdWrite rqid 0x31 (vimAsk 2 n)) s

/-- VIM_RESET (R468). -/
def execVimReset (rqid n : Nat) (s : State) : Host.Outcome State Fault Refusal :=
  meaning (okVimReset rqid n) "VIM_RESET" (.core rqid) (cmdWrite rqid 0x31 (vimReset n)) s

/-- VIM_FORCE_RESET (R470). -/
def execVimForceReset (rqid n : Nat) (begun : List (Nat × Nat)) (s : State) : Host.Outcome State Fault Refusal :=
  meaning (okVimForceReset rqid n) "VIM_FORCE_RESET" (.core rqid) (cmdWrite rqid 0x31 (vimForceReset n begun)) s

/-- VIM_MAP (R458). -/
def execVimMap (rqid : Nat) (s : State) : Host.Outcome State Fault Refusal :=
  meaning (okVimMap rqid) "VIM_MAP" (.core rqid) (cmdWrite rqid 0x31 (vimMap)) s

/-- VIM_UNMAP (R458). -/
def execVimUnmap (rqid : Nat) (s : State) : Host.Outcome State Fault Refusal :=
  meaning (okVimUnmap rqid) "VIM_UNMAP" (.core rqid) (cmdWrite rqid 0x31 (vimUnmap)) s

/-- VIM_TREAD (R477). -/
def execVimTread (rqid t : Nat) (s : State) : Host.Outcome State Fault Refusal :=
  meaning (okVimTread rqid t) "VIM_TREAD" (.core rqid) (cmdWrite rqid 0x31 (vimTread t)) s

/-- VIM_TWRITE (R477). -/
def execVimTwrite (rqid t : Nat) (s : State) : Host.Outcome State Fault Refusal :=
  meaning (okVimTwrite rqid t) "VIM_TWRITE" (.core rqid) (cmdWrite rqid 0x31 (vimTwrite t)) s

/-- SHARE_HARROW_DONE (R459). -/
def execShareHarrowDone (fails : List Upset) (us : Nat) (s : State) : Host.Outcome State Fault Refusal :=
  meaning true "SHARE_HARROW_DONE" .run (shareHarrowDone fails us) s

/-- QUIESCE_DRAINED (R467). -/
def execQuiesceDrained (n : Nat) (s : State) : Host.Outcome State Fault Refusal :=
  meaning (okQuiesceDrained n) "QUIESCE_DRAINED" .run (quiesced n) s

/-- QUIESCE_TIMEOUT (R467). -/
def execQuiesceTimeout (n : Nat) (s : State) : Host.Outcome State Fault Refusal :=
  meaning (okQuiesceTimeout n) "QUIESCE_TIMEOUT" .run (quiesceTimeout n) s

/-- INSTANCE_RESET_DONE (R468). -/
def execInstanceResetDone (n : Nat) (fails : List Upset) (us : Nat) (s : State) : Host.Outcome State Fault Refusal :=
  meaning (okInstanceResetDone n) "INSTANCE_RESET_DONE" .run (instanceResetDone n fails us) s

/-- DMA_DOORBELL (R482). -/
def execDmaDoorbell (rqid ring tail : Nat) (s : State) : Host.Outcome State Fault Refusal :=
  meaning (okDmaDoorbell rqid ring tail) "DMA_DOORBELL" (.core rqid) (dmaDoorbell rqid ring tail) s

/-- DMA_FETCH (R463). -/
def execDmaFetch (ring : Nat) (s : State) : Host.Outcome State Fault Refusal :=
  meaning (okDmaFetch ring) "DMA_FETCH" .run (dmaFetch ring) s

/-- DMA_DESCRIPTOR_START (R463). -/
def execDmaDescriptorStart (ring : Nat) (s : State) : Host.Outcome State Fault Refusal :=
  meaning (okDmaDescriptorStart ring) "DMA_DESCRIPTOR_START" .run (dmaStart ring) s

/-- DMA_BURST (R464). -/
def execDmaBurst (chan : Nat) (s : State) : Host.Outcome State Fault Refusal :=
  meaning (okDmaBurst chan) "DMA_BURST" .run (dmaBurst chan) s

/-- DMA_CLRCNT (R481). -/
def execDmaClrcnt (rqid : Nat) (s : State) : Host.Outcome State Fault Refusal :=
  meaning (okDmaClrcnt rqid) "DMA_CLRCNT" (.core rqid) (cmdWrite rqid 0x32 (dmaClrcnt)) s

/-- DPL_CLRCNT (R483). -/
def execDplClrcnt (rqid : Nat) (s : State) : Host.Outcome State Fault Refusal :=
  meaning (okDplClrcnt rqid) "DPL_CLRCNT" (.core rqid) (cmdWrite rqid 0x33 (dplClrcnt)) s

end Sys2Proof.Machine
end

