-- ==== Sys2Proof/Machine/Dispatch.lean ====
section
/-! DEFINITION. The dispatch: one arm per command, each a direct call of that command's meaning. -/

namespace Sys2Proof.Machine

def exec (i : Instr) (s : State) : Host.Outcome State Fault Refusal :=
  match i with
  | .vinStartRise aoKept => Sys2Proof.Machine.execVinStartRise aoKept s
  | .pwrOkRise side => Sys2Proof.Machine.execPwrOkRise s side
  | .vinAbandon => Sys2Proof.Machine.execVinAbandon s
  | .holdupReady cap => Sys2Proof.Machine.execHoldupReady cap s
  | .railFault rail => Sys2Proof.Machine.execRailFault rail s
  | .modRstNLow => Sys2Proof.Machine.execModRstNLow s
  | .modRstNRise side => Sys2Proof.Machine.execModRstNRise s side
  | .pwrMeasure vin iin tj tplate varray ratio vsense tsense => Sys2Proof.Machine.execPwrMeasure vin iin tj tplate varray ratio vsense tsense s
  | .vinWarningCross k => Sys2Proof.Machine.execVinWarningCross k s
  | .saveSetComplete good => Sys2Proof.Machine.execSaveSetComplete good s
  | .meteringSaveRepeat => Sys2Proof.Machine.execMeteringSaveRepeat s
  | .vinRecoveryCross => Sys2Proof.Machine.execVinRecoveryCross s
  | .vinResetCross k => Sys2Proof.Machine.execVinResetCross k s
  | .holdupArrayFloor => Sys2Proof.Machine.execHoldupArrayFloor s
  | .junctionHot => Sys2Proof.Machine.execJunctionHot s
  | .junctionCool => Sys2Proof.Machine.execJunctionCool s
  | .junctionTrip k => Sys2Proof.Machine.execJunctionTrip k s
  | .thermalRestart => Sys2Proof.Machine.execThermalRestart s
  | .lifeUpdate => Sys2Proof.Machine.execLifeUpdate s
  | .clearMin rqid => Sys2Proof.Machine.execClearMin rqid s
  | .tallyPeriodEnd => Sys2Proof.Machine.execTallyPeriodEnd s
  | .tallySpeedRefresh mn mean => Sys2Proof.Machine.execTallySpeedRefresh mn mean s
  | .pwrTallyctlWrite rqid v => Sys2Proof.Machine.execPwrTallyctlWrite rqid v s
  | .memoryPatrol kind us => Sys2Proof.Machine.execMemoryPatrol kind us s
  | .flashPatrol l => Sys2Proof.Machine.execFlashPatrol l s
  | .memPop rqid => Sys2Proof.Machine.execMemPop rqid s
  | .memInject rqid n pz => Sys2Proof.Machine.execMemInject rqid n pz s
  | .registerWrite rqid a v => Sys2Proof.Machine.execRegisterWrite rqid a v s
  | .loRegisterRead rqid a => Sys2Proof.Machine.execLoRegisterRead rqid a s
  | .lockWrite rqid p v => Sys2Proof.Machine.execLockWrite rqid p v s
  | .unknownCommand rqid p v => Sys2Proof.Machine.execUnknownCommand rqid p v s
  | .accessEntryWrite rqid a v => Sys2Proof.Machine.execAccessEntryWrite rqid a v s
  | .coreMemoryAccess rqid a op => Sys2Proof.Machine.execCoreMemoryAccess rqid a op s
  | .bnkSwap rqid copyback atidx => Sys2Proof.Machine.execBnkSwap rqid copyback atidx s
  | .bnkCancel rqid => Sys2Proof.Machine.execBnkCancel rqid s
  | .bnkCopyback rqid => Sys2Proof.Machine.execBnkCopyback rqid s
  | .copybackDone => Sys2Proof.Machine.execCopybackDone s
  | .bnkISwap rqid n => Sys2Proof.Machine.execBnkISwap rqid n s
  | .bnkICancel rqid n => Sys2Proof.Machine.execBnkICancel rqid n s
  | .actPop rqid => Sys2Proof.Machine.execActPop rqid s
  | .actLookup rqid op => Sys2Proof.Machine.execActLookup rqid op s
  | .eventAssert ev pl => Sys2Proof.Machine.execEventAssert ev pl s
  | .ievtenWrite rqid p n v => Sys2Proof.Machine.execIevtenWrite rqid p n v s
  | .evrQueueLatch rqid sq => Sys2Proof.Machine.execEvrQueueLatch rqid sq s
  | .evrQueuePop rqid sq => Sys2Proof.Machine.execEvrQueuePop rqid sq s
  | .startStep begins ms detail => Sys2Proof.Machine.execStartStep begins ms detail s
  | .stepLimit => Sys2Proof.Machine.execStepLimit s
  | .harrowPassDone fails us => Sys2Proof.Machine.execHarrowPassDone fails us s
  | .stlClear rqid n => Sys2Proof.Machine.execStlClear rqid n s
  | .spkHandover => Sys2Proof.Machine.execSpkHandover s
  | .spkFallback => Sys2Proof.Machine.execSpkFallback s
  | .spkEvaluate => Sys2Proof.Machine.execSpkEvaluate s
  | .watchdogExpiry => Sys2Proof.Machine.execWatchdogExpiry s
  | .watchdogAutowarm => Sys2Proof.Machine.execWatchdogAutowarm s
  | .sysWdogkick rqid => Sys2Proof.Machine.execSysWdogkick rqid s
  | .sysWarm rqid force => Sys2Proof.Machine.execSysWarm rqid force s
  | .sysCold rqid force => Sys2Proof.Machine.execSysCold rqid force s
  | .sysFallow rqid => Sys2Proof.Machine.execSysFallow rqid s
  | .sysFallback rqid => Sys2Proof.Machine.execSysFallback rqid s
  | .sysResume rqid => Sys2Proof.Machine.execSysResume rqid s
  | .sysSpkset rqid copy => Sys2Proof.Machine.execSysSpkset rqid copy s
  | .fallowWake => Sys2Proof.Machine.execFallowWake s
  | .keyMordant rqid => Sys2Proof.Machine.execKeyMordant rqid s
  | .keyIdread rqid => Sys2Proof.Machine.execKeyIdread rqid s
  | .keyAttest rqid => Sys2Proof.Machine.execKeyAttest rqid s
  | .keyKex rqid => Sys2Proof.Machine.execKeyKex rqid s
  | .keyLeafload rqid h => Sys2Proof.Machine.execKeyLeafload rqid h s
  | .keyLeafdrop rqid h => Sys2Proof.Machine.execKeyLeafdrop rqid h s
  | .keyLeafpersist rqid h n => Sys2Proof.Machine.execKeyLeafpersist rqid h n s
  | .keyDeriveleaf rqid kind => Sys2Proof.Machine.execKeyDeriveleaf rqid kind s
  | .keyLeafinfo rqid h => Sys2Proof.Machine.execKeyLeafinfo rqid h s
  | .keyRekey rqid => Sys2Proof.Machine.execKeyRekey rqid s
  | .keyAnchorset rqid => Sys2Proof.Machine.execKeyAnchorset rqid s
  | .keyZeroise rqid => Sys2Proof.Machine.execKeyZeroise rqid s
  | .entropyHealthTest ok => Sys2Proof.Machine.execEntropyHealthTest ok s
  | .leafExpiry h => Sys2Proof.Machine.execLeafExpiry h s
  | .rxgraceExpiry h => Sys2Proof.Machine.execRxgraceExpiry h s
  | .tmpClear rqid => Sys2Proof.Machine.execTmpClear rqid s
  | .tmpVerify rqid use m => Sys2Proof.Machine.execTmpVerify rqid use m s
  | .tmpRaise rqid lvl => Sys2Proof.Machine.execTmpRaise rqid lvl s
  | .tmpMeasure rqid => Sys2Proof.Machine.execTmpMeasure rqid s
  | .tamperDetect src sign selftest k => Sys2Proof.Machine.execTamperDetect src sign selftest k s
  | .tamperLoopMeasure ohm short => Sys2Proof.Machine.execTamperLoopMeasure ohm short s
  | .tapInstruction ir => Sys2Proof.Machine.execTapInstruction ir s
  | .dbgChallenge rqid => Sys2Proof.Machine.execDbgChallenge rqid s
  | .dbgAuth rqid => Sys2Proof.Machine.execDbgAuth rqid s
  | .dbgClose rqid => Sys2Proof.Machine.execDbgClose rqid s
  | .linkUp m rate => Sys2Proof.Machine.execLinkUp m rate s
  | .linkDown m => Sys2Proof.Machine.execLinkDown m s
  | .sgmiiControlWord m up half rate => Sys2Proof.Machine.execSgmiiControlWord m up half rate s
  | .macReceive m f => Sys2Proof.Machine.execMacReceive m f s
  | .pauseReceive m quanta => Sys2Proof.Machine.execPauseReceive m quanta s
  | .pauseTimerExpiry m => Sys2Proof.Machine.execPauseTimerExpiry m s
  | .outputTransmit o preempt => Sys2Proof.Machine.execOutputTransmit o preempt s
  | .verifyInterval m => Sys2Proof.Machine.execVerifyInterval m s
  | .verifyResponse m => Sys2Proof.Machine.execVerifyResponse m s
  | .downshiftWindowEnd m => Sys2Proof.Machine.execDownshiftWindowEnd m s
  | .downshiftHoldEnd m => Sys2Proof.Machine.execDownshiftHoldEnd m s
  | .downshiftFail m => Sys2Proof.Machine.execDownshiftFail m s
  | .downshiftBlockEnd m => Sys2Proof.Machine.execDownshiftBlockEnd m s
  | .macClrcnt rqid m => Sys2Proof.Machine.execMacClrcnt rqid m s
  | .macAnrestart rqid m => Sys2Proof.Machine.execMacAnrestart rqid m s
  | .macVerify rqid m => Sys2Proof.Machine.execMacVerify rqid m s
  | .hIngress f cls ipReq udpReq sid inst => Sys2Proof.Machine.execHIngress f cls ipReq udpReq sid inst s
  | .serSend rqid inst p => Sys2Proof.Machine.execSerSend rqid inst p s
  | .serRxpop rqid inst p => Sys2Proof.Machine.execSerRxpop rqid inst p s
  | .serAbort rqid inst p => Sys2Proof.Machine.execSerAbort rqid inst p s
  | .serCharacterReceive p x parity framing brk => Sys2Proof.Machine.execSerCharacterReceive p x parity framing brk s
  | .serGapSilence p => Sys2Proof.Machine.execSerGapSilence p s
  | .serEndSilence p => Sys2Proof.Machine.execSerEndSilence p s
  | .serIdleReady p => Sys2Proof.Machine.execSerIdleReady p s
  | .serLeadEnd p => Sys2Proof.Machine.execSerLeadEnd p s
  | .serLagEnd p => Sys2Proof.Machine.execSerLagEnd p s
  | .serReplyTimeout p => Sys2Proof.Machine.execSerReplyTimeout p s
  | .switchForward => Sys2Proof.Machine.execSwitchForward s
  | .cutThrough m f => Sys2Proof.Machine.execCutThrough m f s
  | .cutThroughEnd o e => Sys2Proof.Machine.execCutThroughEnd o e s
  | .fdbAgeing => Sys2Proof.Machine.execFdbAgeing s
  | .filterWindow => Sys2Proof.Machine.execFilterWindow s
  | .swcTread rqid t => Sys2Proof.Machine.execSwcTread rqid t s
  | .swcTwrite rqid t => Sys2Proof.Machine.execSwcTwrite rqid t s
  | .swcFlush rqid vid => Sys2Proof.Machine.execSwcFlush rqid vid s
  | .swcClrcnt rqid => Sys2Proof.Machine.execSwcClrcnt rqid s
  | .prpSupervision p => Sys2Proof.Machine.execPrpSupervision p s
  | .prpNodeForget => Sys2Proof.Machine.execPrpNodeForget s
  | .prpForget => Sys2Proof.Machine.execPrpForget s
  | .prpClrcnt rqid => Sys2Proof.Machine.execPrpClrcnt rqid s
  | .prpFlushnodes rqid => Sys2Proof.Machine.execPrpFlushnodes rqid s
  | .ppsInEdge t => Sys2Proof.Machine.execPpsInEdge t s
  | .irigFrame t f => Sys2Proof.Machine.execIrigFrame t f s
  | .ptpReceive o rx m => Sys2Proof.Machine.execPtpReceive o rx m s
  | .ptpInterval o tick => Sys2Proof.Machine.execPtpInterval o tick s
  | .sourceLoss => Sys2Proof.Machine.execSourceLoss s
  | .holdoverBound => Sys2Proof.Machine.execHoldoverBound s
  | .timStep rqid => Sys2Proof.Machine.execTimStep rqid s
  | .timStepcancel rqid => Sys2Proof.Machine.execTimStepcancel rqid s
  | .timTxqclr rqid => Sys2Proof.Machine.execTimTxqclr rqid s
  | .timRelock rqid => Sys2Proof.Machine.execTimRelock rqid s
  | .timCmptgtWrite rqid inst ix v => Sys2Proof.Machine.execTimCmptgtWrite rqid inst ix v s
  | .timCmpperWrite rqid inst ix v => Sys2Proof.Machine.execTimCmpperWrite rqid inst ix v s
  | .compareFire ix => Sys2Proof.Machine.execCompareFire ix s
  | .comparePulseEnd ix => Sys2Proof.Machine.execComparePulseEnd ix s
  | .ppsOutRise => Sys2Proof.Machine.execPpsOutRise s
  | .ppsOutFall => Sys2Proof.Machine.execPpsOutFall s
  | .timSecLoRead rqid => Sys2Proof.Machine.execTimSecLoRead rqid s
  | .timTxq0Read rqid => Sys2Proof.Machine.execTimTxq0Read rqid s
  | .timTxq2Read rqid => Sys2Proof.Machine.execTimTxq2Read rqid s
  | .sviStreamFrame f port rx => Sys2Proof.Machine.execSviStreamFrame f port rx s
  | .sviRelayFrame f port rx => Sys2Proof.Machine.execSviRelayFrame f port rx s
  | .sviGooseFrame f rx => Sys2Proof.Machine.execSviGooseFrame f rx s
  | .gooseStale ix => Sys2Proof.Machine.execGooseStale ix s
  | .sviTread rqid t => Sys2Proof.Machine.execSviTread rqid t s
  | .sviTwrite rqid t => Sys2Proof.Machine.execSviTwrite rqid t s
  | .sviClrcnt rqid entry goose => Sys2Proof.Machine.execSviClrcnt rqid entry goose s
  | .sviSimWrite rqid v => Sys2Proof.Machine.execSviSimWrite rqid v s
  | .aapSample vs k l => Sys2Proof.Machine.execAapSample vs k l s
  | .aapStuck ix low => Sys2Proof.Machine.execAapStuck ix low s
  | .aapRecover ix low => Sys2Proof.Machine.execAapRecover ix low s
  | .aapClrcnt rqid => Sys2Proof.Machine.execAapClrcnt rqid s
  | .slotClaim sec => Sys2Proof.Machine.execSlotClaim sec s
  | .samplePlace => Sys2Proof.Machine.execSamplePlace s
  | .localRelease sec => Sys2Proof.Machine.execLocalRelease sec s
  | .spanPh1Receive sec k bm revs => Sys2Proof.Machine.execSpanPh1Receive sec k bm revs s
  | .spanPh2Receive sec k runs more => Sys2Proof.Machine.execSpanPh2Receive sec k runs more s
  | .spanPh3Receive sec k digest => Sys2Proof.Machine.execSpanPh3Receive sec k digest s
  | .agreementTimeout sec => Sys2Proof.Machine.execAgreementTimeout sec s
  | .gleanClose sec => Sys2Proof.Machine.execGleanClose sec s
  | .spanSettleReceive sec k part => Sys2Proof.Machine.execSpanSettleReceive sec k part s
  | .settleTimeout sec => Sys2Proof.Machine.execSettleTimeout sec s
  | .alnClrcnt rqid => Sys2Proof.Machine.execAlnClrcnt rqid s
  | .pheListComplete u first => Sys2Proof.Machine.execPheListComplete u first s
  | .pheTread rqid inst t => Sys2Proof.Machine.execPheTread rqid inst t s
  | .pheTwrite rqid inst t => Sys2Proof.Machine.execPheTwrite rqid inst t s
  | .pheClrcnt rqid => Sys2Proof.Machine.execPheClrcnt rqid s
  | .windowOpen core ctx => Sys2Proof.Machine.execWindowOpen core ctx s
  | .windowClose core insns => Sys2Proof.Machine.execWindowClose core insns s
  | .imageCopyDone core => Sys2Proof.Machine.execImageCopyDone core s
  | .zdone core code insns => Sys2Proof.Machine.execZdone core code insns s
  | .zyield core insns => Sys2Proof.Machine.execZyield core insns s
  | .taskTrap core insns => Sys2Proof.Machine.execTaskTrap core insns s
  | .deadlineGuard t insns => Sys2Proof.Machine.execDeadlineGuard t insns s
  | .lRelease t => Sys2Proof.Machine.execLRelease t s
  | .schStart rqid => Sys2Proof.Machine.execSchStart rqid s
  | .schStop rqid => Sys2Proof.Machine.execSchStop rqid s
  | .schTread rqid t => Sys2Proof.Machine.execSchTread rqid t s
  | .schTwrite rqid t => Sys2Proof.Machine.execSchTwrite rqid t s
  | .schClrcnt rqid t all => Sys2Proof.Machine.execSchClrcnt rqid t all s
  | .vimShare rqid => Sys2Proof.Machine.execVimShare rqid s
  | .vimCancelshare rqid => Sys2Proof.Machine.execVimCancelshare rqid s
  | .vimStart rqid n => Sys2Proof.Machine.execVimStart rqid n s
  | .vimQuiesce rqid n => Sys2Proof.Machine.execVimQuiesce rqid n s
  | .vimResume rqid n => Sys2Proof.Machine.execVimResume rqid n s
  | .vimReset rqid n => Sys2Proof.Machine.execVimReset rqid n s
  | .vimForceReset rqid n begun => Sys2Proof.Machine.execVimForceReset rqid n begun s
  | .vimMap rqid => Sys2Proof.Machine.execVimMap rqid s
  | .vimUnmap rqid => Sys2Proof.Machine.execVimUnmap rqid s
  | .vimTread rqid t => Sys2Proof.Machine.execVimTread rqid t s
  | .vimTwrite rqid t => Sys2Proof.Machine.execVimTwrite rqid t s
  | .shareHarrowDone fails us => Sys2Proof.Machine.execShareHarrowDone fails us s
  | .quiesceDrained n => Sys2Proof.Machine.execQuiesceDrained n s
  | .quiesceTimeout n => Sys2Proof.Machine.execQuiesceTimeout n s
  | .instanceResetDone n fails us => Sys2Proof.Machine.execInstanceResetDone n fails us s
  | .dmaDoorbell rqid ring tail => Sys2Proof.Machine.execDmaDoorbell rqid ring tail s
  | .dmaFetch ring => Sys2Proof.Machine.execDmaFetch ring s
  | .dmaDescriptorStart ring => Sys2Proof.Machine.execDmaDescriptorStart ring s
  | .dmaBurst chan => Sys2Proof.Machine.execDmaBurst chan s
  | .dmaClrcnt rqid => Sys2Proof.Machine.execDmaClrcnt rqid s
  | .dplClrcnt rqid => Sys2Proof.Machine.execDplClrcnt rqid s
  | .gooseRetransmit p => Sys2Proof.Machine.execGooseRetransmit p s
  | .minonExpiry j => Sys2Proof.Machine.execMinonExpiry j s
  | .binAccept ix => Sys2Proof.Machine.execBinAccept ix s
  | .chatterWindowEnd ix => Sys2Proof.Machine.execChatterWindowEnd ix s
  | .supervisionFilter j => Sys2Proof.Machine.execSupervisionFilter j s
  | .pubTread rqid t => Sys2Proof.Machine.execPubTread rqid t s
  | .pubTwrite rqid t => Sys2Proof.Machine.execPubTwrite rqid t s
  | .pubClrcnt rqid => Sys2Proof.Machine.execPubClrcnt rqid s
  | .bioClrcnt rqid => Sys2Proof.Machine.execBioClrcnt rqid s
  | .bioBinq0Read rqid => Sys2Proof.Machine.execBioBinq0Read rqid s
  | .bioBinq2Read rqid => Sys2Proof.Machine.execBioBinq2Read rqid s
  | .heartbeatSend => Sys2Proof.Machine.execHeartbeatSend s
  | .spanHeartbeatReceive lane h => Sys2Proof.Machine.execSpanHeartbeatReceive lane h s
  | .laneTimeout lane => Sys2Proof.Machine.execLaneTimeout lane s
  | .spanLost => Sys2Proof.Machine.execSpanLost s
  | .helloSend => Sys2Proof.Machine.execHelloSend s
  | .helloReceive h => Sys2Proof.Machine.execHelloReceive h s
  | .pairedJoin => Sys2Proof.Machine.execPairedJoin s
  | .resyncReceive seq abs pubs => Sys2Proof.Machine.execResyncReceive seq abs pubs s
  | .framedigReceive l => Sys2Proof.Machine.execFramedigReceive l s
  | .digestPartnerTimeout => Sys2Proof.Machine.execDigestPartnerTimeout s
  | .timeSend => Sys2Proof.Machine.execTimeSend s
  | .spanTimeReceive t1 echo t2 t3 => Sys2Proof.Machine.execSpanTimeReceive t1 echo t2 t3 s
  | .noticeReceive code detail => Sys2Proof.Machine.execNoticeReceive code detail s
  | .tunnelReceive lane f => Sys2Proof.Machine.execTunnelReceive lane f s
  | .agreeReceive kind copyback good idx digest => Sys2Proof.Machine.execAgreeReceive kind copyback good idx digest s
  | .agreeTimeout => Sys2Proof.Machine.execAgreeTimeout s
  | .renewDue lease => Sys2Proof.Machine.execRenewDue lease s
  | .renewRetry lease => Sys2Proof.Machine.execRenewRetry lease s
  | .grantReceive f => Sys2Proof.Machine.execGrantReceive f s
  | .statusReceive f => Sys2Proof.Machine.execStatusReceive f s
  | .leaseExpiry lease => Sys2Proof.Machine.execLeaseExpiry lease s
  | .presentSend => Sys2Proof.Machine.execPresentSend s
  | .requestRepeat => Sys2Proof.Machine.execRequestRepeat s
  | .statusRemainingExpiry => Sys2Proof.Machine.execStatusRemainingExpiry s
  | .witnessMessage f => Sys2Proof.Machine.execWitnessMessage f s
  | .witnessQuarantineEnd => Sys2Proof.Machine.execWitnessQuarantineEnd s
  | .twnCheck rqid inst margin => Sys2Proof.Machine.execTwnCheck rqid inst margin s
  | .twnRelease rqid => Sys2Proof.Machine.execTwnRelease rqid s
  | .twnRejoin rqid => Sys2Proof.Machine.execTwnRejoin rqid s
  | .twnClrcnt rqid => Sys2Proof.Machine.execTwnClrcnt rqid s
  | .noleaseWrite rqid v => Sys2Proof.Machine.execNoleaseWrite rqid v s
  | .announceSend => Sys2Proof.Machine.execAnnounceSend s
  | .candidateSend => Sys2Proof.Machine.execCandidateSend s
  | .announceAbsent => Sys2Proof.Machine.execAnnounceAbsent s
  | .fieldAnnounceReceive f => Sys2Proof.Machine.execFieldAnnounceReceive f s
  | .epochGraceEnd => Sys2Proof.Machine.execEpochGraceEnd s
  | .fldTread rqid t => Sys2Proof.Machine.execFldTread rqid t s
  | .fldTwrite rqid t => Sys2Proof.Machine.execFldTwrite rqid t s
  | .fldClrcnt rqid => Sys2Proof.Machine.execFldClrcnt rqid s
  | .retentiveSaveDone p good => Sys2Proof.Machine.execRetentiveSaveDone p good s
  | .lgrTread rqid t => Sys2Proof.Machine.execLgrTread rqid t s
  | .lgrTwrite rqid t => Sys2Proof.Machine.execLgrTwrite rqid t s
  | .lgrClrcnt rqid => Sys2Proof.Machine.execLgrClrcnt rqid s
  | .lgrRetclr rqid p => Sys2Proof.Machine.execLgrRetclr rqid p s
  | .meteringSheaf => Sys2Proof.Machine.execMeteringSheaf s
  | .mtrPeriodicSave => Sys2Proof.Machine.execMtrPeriodicSave s
  | .mtrSaveDone good => Sys2Proof.Machine.execMtrSaveDone good s
  | .mtrSnap rqid inst first count => Sys2Proof.Machine.execMtrSnap rqid inst first count s
  | .mtrTread rqid t => Sys2Proof.Machine.execMtrTread rqid t s
  | .mtrTwrite rqid t => Sys2Proof.Machine.execMtrTwrite rqid t s
  | .mtrZero rqid p => Sys2Proof.Machine.execMtrZero rqid p s
  | .mtrClrcnt rqid => Sys2Proof.Machine.execMtrClrcnt rqid s
  | .pulseStart j => Sys2Proof.Machine.execPulseStart j s
  | .pulseEnd j => Sys2Proof.Machine.execPulseEnd j s
  | .plsClrcnt rqid => Sys2Proof.Machine.execPlsClrcnt rqid s
  | .recordWrite fails => Sys2Proof.Machine.execRecordWrite fails s
  | .elgLog rqid n code sev => Sys2Proof.Machine.execElgLog rqid n code sev s
  | .elgClear rqid => Sys2Proof.Machine.execElgClear rqid s
  | .elgClearDone fails => Sys2Proof.Machine.execElgClearDone fails s
  | .elgClrcnt rqid => Sys2Proof.Machine.execElgClrcnt rqid s
  | .holdWrite rqid v fails => Sys2Proof.Machine.execHoldWrite rqid v fails s
  | .holdExpiry fails => Sys2Proof.Machine.execHoldExpiry fails s
  | .enclaveCommandDone => Sys2Proof.Machine.execEnclaveCommandDone s
  | .swapChecksDone => Sys2Proof.Machine.execSwapChecksDone s
  | .binLevelChange ix level => Sys2Proof.Machine.execBinLevelChange ix level s
  | .drainLevelChange j high => Sys2Proof.Machine.execDrainLevelChange j high s

end Sys2Proof.Machine
end

