-- ==== Sys2Proof/Machine/Step.lean ====
section
/-! DEFINITION. A step: the command at the front of the queue; with none waiting, one step of the time counter. -/

namespace Sys2Proof.Machine

/-- What happens while no command waits: module time advances by one step of its counter (R299; DESIGN CHOICE, log entry 1). -/
def idle (s : State) : State := { s with blk := timTick { s.blk with out := [] } }

/-- One step. -/
def step (s : State) : Host.Outcome State Fault Refusal :=
  match s.pending with
  | [] => .next (idle s)
  | c :: rest => exec c { s with pending := rest }

/-- `s` with the command that a word spells in front of its queue: no word spells one. -/
def State.withFetchWord (s : State) (nbits w : Nat) : State :=
  match Sys2Proof.decodeTableWord nbits w with
  | none => s
  | some c => { s with pending := c :: s.pending }

end Sys2Proof.Machine
end

