-- ==== Sys2Proof/WellFormed.lean ====
section
/-! DEFINITION. Which commands are well formed: each operand within the range its field has in the manual. -/

namespace Sys2Proof

/-- Whether a command's operands lie in the ranges of their fields (the tables of the rules that Syntax names). -/
def Instr.wf (i : Instr) : Bool :=
  match i with
  | .vinStartRise _ => true
  | .pwrOkRise _ => true
  | .vinAbandon => true
  | .holdupReady cap => Machine.okHoldupReady cap
  | .railFault rail => Machine.okRailFault rail
  | .modRstNLow => true
  | .modRstNRise _ => true
  | .pwrMeasure vin iin tj tplate varray ratio _ _ => Machine.okPwrMeasure vin iin tj tplate varray ratio
  | .vinWarningCross k => Machine.okVinWarningCross k
  | .saveSetComplete _ => true
  | .meteringSaveRepeat => true
  | .vinRecoveryCross => true
  | .vinResetCross k => Machine.okVinResetCross k
  | .holdupArrayFloor => true
  | .junctionHot => true
  | .junctionCool => true
  | .junctionTrip k => Machine.okJunctionTrip k
  | .thermalRestart => true
  | .lifeUpdate => true
  | .clearMin rqid => Machine.okClearMin rqid
  | .tallyPeriodEnd => true
  | .tallySpeedRefresh mn mean => Machine.okTallySpeedRefresh mn mean
  | .pwrTallyctlWrite rqid v => Machine.okPwrTallyctlWrite rqid v
  | .memoryPatrol kind _ => Machine.okMemoryPatrol kind
  | .flashPatrol _ => true
  | .memPop rqid => Machine.okMemPop rqid
  | .memInject rqid n _ => Machine.okMemInject rqid n
  | .registerWrite rqid a v => Machine.okRegisterWrite rqid a v
  | .loRegisterRead rqid a => Machine.okLoRegisterRead rqid a
  | .lockWrite rqid p v => Machine.okLockWrite rqid p v
  | .unknownCommand rqid p v => Machine.okUnknownCommand rqid p v
  | .accessEntryWrite rqid a v => Machine.okAccessEntryWrite rqid a v
  | .coreMemoryAccess rqid a op => Machine.okCoreMemoryAccess rqid a op
  | .bnkSwap rqid _ _ => Machine.okBnkSwap rqid
  | .bnkCancel rqid => Machine.okBnkCancel rqid
  | .bnkCopyback rqid => Machine.okBnkCopyback rqid
  | .copybackDone => true
  | .bnkISwap rqid n => Machine.okBnkISwap rqid n
  | .bnkICancel rqid n => Machine.okBnkICancel rqid n
  | .actPop rqid => Machine.okActPop rqid
  | .actLookup rqid op => Machine.okActLookup rqid op
  | .eventAssert ev _ => Machine.okEventAssert ev
  | .ievtenWrite rqid p n v => Machine.okIevtenWrite rqid p n v
  | .evrQueueLatch rqid _ => Machine.okEvrQueueLatch rqid
  | .evrQueuePop rqid _ => Machine.okEvrQueuePop rqid
  | .startStep _ _ detail => Machine.okStartStep detail
  | .stepLimit => true
  | .harrowPassDone _ _ => true
  | .stlClear rqid n => Machine.okStlClear rqid n
  | .spkHandover => true
  | .spkFallback => true
  | .spkEvaluate => true
  | .watchdogExpiry => true
  | .watchdogAutowarm => true
  | .sysWdogkick rqid => Machine.okSysWdogkick rqid
  | .sysWarm rqid _ => Machine.okSysWarm rqid
  | .sysCold rqid _ => Machine.okSysCold rqid
  | .sysFallow rqid => Machine.okSysFallow rqid
  | .sysFallback rqid => Machine.okSysFallback rqid
  | .sysResume rqid => Machine.okSysResume rqid
  | .sysSpkset rqid copy => Machine.okSysSpkset rqid copy
  | .fallowWake => true
  | .keyMordant rqid => Machine.okKeyMordant rqid
  | .keyIdread rqid => Machine.okKeyIdread rqid
  | .keyAttest rqid => Machine.okKeyAttest rqid
  | .keyKex rqid => Machine.okKeyKex rqid
  | .keyLeafload rqid h => Machine.okKeyLeafload rqid h
  | .keyLeafdrop rqid h => Machine.okKeyLeafdrop rqid h
  | .keyLeafpersist rqid h n => Machine.okKeyLeafpersist rqid h n
  | .keyDeriveleaf rqid kind => Machine.okKeyDeriveleaf rqid kind
  | .keyLeafinfo rqid h => Machine.okKeyLeafinfo rqid h
  | .keyRekey rqid => Machine.okKeyRekey rqid
  | .keyAnchorset rqid => Machine.okKeyAnchorset rqid
  | .keyZeroise rqid => Machine.okKeyZeroise rqid
  | .entropyHealthTest _ => true
  | .leafExpiry h => Machine.okLeafExpiry h
  | .rxgraceExpiry h => Machine.okRxgraceExpiry h
  | .tmpClear rqid => Machine.okTmpClear rqid
  | .tmpVerify rqid use m => Machine.okTmpVerify rqid use m
  | .tmpRaise rqid lvl => Machine.okTmpRaise rqid lvl
  | .tmpMeasure rqid => Machine.okTmpMeasure rqid
  | .tamperDetect src _ _ k => Machine.okTamperDetect src k
  | .tamperLoopMeasure _ _ => true
  | .tapInstruction _ => true
  | .dbgChallenge rqid => Machine.okDbgChallenge rqid
  | .dbgAuth rqid => Machine.okDbgAuth rqid
  | .dbgClose rqid => Machine.okDbgClose rqid
  | .linkUp m rate => Machine.okLinkUp m rate
  | .linkDown m => Machine.okLinkDown m
  | .sgmiiControlWord m _ _ rate => Machine.okSgmiiControlWord m rate
  | .macReceive m _ => Machine.okMacReceive m
  | .pauseReceive m quanta => Machine.okPauseReceive m quanta
  | .pauseTimerExpiry m => Machine.okPauseTimerExpiry m
  | .outputTransmit o _ => Machine.okOutputTransmit o
  | .verifyInterval m => Machine.okVerifyInterval m
  | .verifyResponse m => Machine.okVerifyResponse m
  | .downshiftWindowEnd m => Machine.okDownshiftWindowEnd m
  | .downshiftHoldEnd m => Machine.okDownshiftHoldEnd m
  | .downshiftFail m => Machine.okDownshiftFail m
  | .downshiftBlockEnd m => Machine.okDownshiftBlockEnd m
  | .macClrcnt rqid m => Machine.okMacClrcnt rqid m
  | .macAnrestart rqid m => Machine.okMacAnrestart rqid m
  | .macVerify rqid m => Machine.okMacVerify rqid m
  | .hIngress _ cls _ _ sid inst => Machine.okHIngress cls sid inst
  | .serSend rqid inst p => Machine.okSerSend rqid inst p
  | .serRxpop rqid inst p => Machine.okSerRxpop rqid inst p
  | .serAbort rqid inst p => Machine.okSerAbort rqid inst p
  | .serCharacterReceive p _ _ _ _ => Machine.okSerCharacterReceive p
  | .serGapSilence p => Machine.okSerGapSilence p
  | .serEndSilence p => Machine.okSerEndSilence p
  | .serIdleReady p => Machine.okSerIdleReady p
  | .serLeadEnd p => Machine.okSerLeadEnd p
  | .serLagEnd p => Machine.okSerLagEnd p
  | .serReplyTimeout p => Machine.okSerReplyTimeout p
  | .switchForward => true
  | .cutThrough m _ => Machine.okCutThrough m
  | .cutThroughEnd o _ => Machine.okCutThroughEnd o
  | .fdbAgeing => true
  | .filterWindow => true
  | .swcTread rqid t => Machine.okSwcTread rqid t
  | .swcTwrite rqid t => Machine.okSwcTwrite rqid t
  | .swcFlush rqid vid => Machine.okSwcFlush rqid vid
  | .swcClrcnt rqid => Machine.okSwcClrcnt rqid
  | .prpSupervision p => Machine.okPrpSupervision p
  | .prpNodeForget => true
  | .prpForget => true
  | .prpClrcnt rqid => Machine.okPrpClrcnt rqid
  | .prpFlushnodes rqid => Machine.okPrpFlushnodes rqid
  | .ppsInEdge _ => true
  | .irigFrame _ _ => true
  | .ptpReceive o _ _ => Machine.okPtpReceive o
  | .ptpInterval o _ => Machine.okPtpInterval o
  | .sourceLoss => true
  | .holdoverBound => true
  | .timStep rqid => Machine.okTimStep rqid
  | .timStepcancel rqid => Machine.okTimStepcancel rqid
  | .timTxqclr rqid => Machine.okTimTxqclr rqid
  | .timRelock rqid => Machine.okTimRelock rqid
  | .timCmptgtWrite rqid inst i v => Machine.okTimCmptgtWrite rqid inst i v
  | .timCmpperWrite rqid inst i v => Machine.okTimCmpperWrite rqid inst i v
  | .compareFire i => Machine.okCompareFire i
  | .comparePulseEnd i => Machine.okComparePulseEnd i
  | .ppsOutRise => true
  | .ppsOutFall => true
  | .timSecLoRead rqid => Machine.okTimSecLoRead rqid
  | .timTxq0Read rqid => Machine.okTimTxq0Read rqid
  | .timTxq2Read rqid => Machine.okTimTxq2Read rqid
  | .sviStreamFrame _ port _ => Machine.okSviStreamFrame port
  | .sviRelayFrame _ port _ => Machine.okSviRelayFrame port
  | .sviGooseFrame _ _ => true
  | .gooseStale i => Machine.okGooseStale i
  | .sviTread rqid t => Machine.okSviTread rqid t
  | .sviTwrite rqid t => Machine.okSviTwrite rqid t
  | .sviClrcnt rqid entry _ => Machine.okSviClrcnt rqid entry
  | .sviSimWrite rqid v => Machine.okSviSimWrite rqid v
  | .aapSample vs _ _ => Machine.okAapSample vs
  | .aapStuck i _ => Machine.okAapStuck i
  | .aapRecover i _ => Machine.okAapRecover i
  | .aapClrcnt rqid => Machine.okAapClrcnt rqid
  | .slotClaim _ => true
  | .samplePlace => true
  | .localRelease _ => true
  | .spanPh1Receive _ _ _ _ => true
  | .spanPh2Receive _ _ _ _ => true
  | .spanPh3Receive _ _ _ => true
  | .agreementTimeout _ => true
  | .gleanClose _ => true
  | .spanSettleReceive _ _ _ => true
  | .settleTimeout _ => true
  | .alnClrcnt rqid => Machine.okAlnClrcnt rqid
  | .pheListComplete u first => Machine.okPheListComplete u first
  | .pheTread rqid inst t => Machine.okPheTread rqid inst t
  | .pheTwrite rqid inst t => Machine.okPheTwrite rqid inst t
  | .pheClrcnt rqid => Machine.okPheClrcnt rqid
  | .windowOpen core _ => Machine.okWindowOpen core
  | .windowClose core _ => Machine.okWindowClose core
  | .imageCopyDone core => Machine.okImageCopyDone core
  | .zdone core code _ => Machine.okZdone core code
  | .zyield core _ => Machine.okZyield core
  | .taskTrap core _ => Machine.okTaskTrap core
  | .deadlineGuard t _ => Machine.okDeadlineGuard t
  | .lRelease t => Machine.okLRelease t
  | .schStart rqid => Machine.okSchStart rqid
  | .schStop rqid => Machine.okSchStop rqid
  | .schTread rqid t => Machine.okSchTread rqid t
  | .schTwrite rqid t => Machine.okSchTwrite rqid t
  | .schClrcnt rqid t _ => Machine.okSchClrcnt rqid t
  | .vimShare rqid => Machine.okVimShare rqid
  | .vimCancelshare rqid => Machine.okVimCancelshare rqid
  | .vimStart rqid n => Machine.okVimStart rqid n
  | .vimQuiesce rqid n => Machine.okVimQuiesce rqid n
  | .vimResume rqid n => Machine.okVimResume rqid n
  | .vimReset rqid n => Machine.okVimReset rqid n
  | .vimForceReset rqid n _ => Machine.okVimForceReset rqid n
  | .vimMap rqid => Machine.okVimMap rqid
  | .vimUnmap rqid => Machine.okVimUnmap rqid
  | .vimTread rqid t => Machine.okVimTread rqid t
  | .vimTwrite rqid t => Machine.okVimTwrite rqid t
  | .shareHarrowDone _ _ => true
  | .quiesceDrained n => Machine.okQuiesceDrained n
  | .quiesceTimeout n => Machine.okQuiesceTimeout n
  | .instanceResetDone n _ _ => Machine.okInstanceResetDone n
  | .dmaDoorbell rqid ring tail => Machine.okDmaDoorbell rqid ring tail
  | .dmaFetch ring => Machine.okDmaFetch ring
  | .dmaDescriptorStart ring => Machine.okDmaDescriptorStart ring
  | .dmaBurst chan => Machine.okDmaBurst chan
  | .dmaClrcnt rqid => Machine.okDmaClrcnt rqid
  | .dplClrcnt rqid => Machine.okDplClrcnt rqid
  | .gooseRetransmit p => Machine.okGooseRetransmit p
  | .minonExpiry j => Machine.okMinonExpiry j
  | .binAccept i => Machine.okBinAccept i
  | .chatterWindowEnd i => Machine.okChatterWindowEnd i
  | .supervisionFilter j => Machine.okSupervisionFilter j
  | .pubTread rqid t => Machine.okPubTread rqid t
  | .pubTwrite rqid t => Machine.okPubTwrite rqid t
  | .pubClrcnt rqid => Machine.okPubClrcnt rqid
  | .bioClrcnt rqid => Machine.okBioClrcnt rqid
  | .bioBinq0Read rqid => Machine.okBioBinq0Read rqid
  | .bioBinq2Read rqid => Machine.okBioBinq2Read rqid
  | .heartbeatSend => true
  | .spanHeartbeatReceive lane _ => Machine.okSpanHeartbeatReceive lane
  | .laneTimeout lane => Machine.okLaneTimeout lane
  | .spanLost => true
  | .helloSend => true
  | .helloReceive _ => true
  | .pairedJoin => true
  | .resyncReceive seq _ _ => Machine.okResyncReceive seq
  | .framedigReceive _ => true
  | .digestPartnerTimeout => true
  | .timeSend => true
  | .spanTimeReceive _ _ _ _ => true
  | .noticeReceive code _ => Machine.okNoticeReceive code
  | .tunnelReceive lane _ => Machine.okTunnelReceive lane
  | .agreeReceive kind _ _ _ _ => Machine.okAgreeReceive kind
  | .agreeTimeout => true
  | .renewDue lease => Machine.okRenewDue lease
  | .renewRetry lease => Machine.okRenewRetry lease
  | .grantReceive _ => true
  | .statusReceive _ => true
  | .leaseExpiry lease => Machine.okLeaseExpiry lease
  | .presentSend => true
  | .requestRepeat => true
  | .statusRemainingExpiry => true
  | .witnessMessage _ => true
  | .witnessQuarantineEnd => true
  | .twnCheck rqid inst margin => Machine.okTwnCheck rqid inst margin
  | .twnRelease rqid => Machine.okTwnRelease rqid
  | .twnRejoin rqid => Machine.okTwnRejoin rqid
  | .twnClrcnt rqid => Machine.okTwnClrcnt rqid
  | .noleaseWrite rqid v => Machine.okNoleaseWrite rqid v
  | .announceSend => true
  | .candidateSend => true
  | .announceAbsent => true
  | .fieldAnnounceReceive _ => true
  | .epochGraceEnd => true
  | .fldTread rqid t => Machine.okFldTread rqid t
  | .fldTwrite rqid t => Machine.okFldTwrite rqid t
  | .fldClrcnt rqid => Machine.okFldClrcnt rqid
  | .retentiveSaveDone p _ => Machine.okRetentiveSaveDone p
  | .lgrTread rqid t => Machine.okLgrTread rqid t
  | .lgrTwrite rqid t => Machine.okLgrTwrite rqid t
  | .lgrClrcnt rqid => Machine.okLgrClrcnt rqid
  | .lgrRetclr rqid p => Machine.okLgrRetclr rqid p
  | .meteringSheaf => true
  | .mtrPeriodicSave => true
  | .mtrSaveDone _ => true
  | .mtrSnap rqid inst first count => Machine.okMtrSnap rqid inst first count
  | .mtrTread rqid t => Machine.okMtrTread rqid t
  | .mtrTwrite rqid t => Machine.okMtrTwrite rqid t
  | .mtrZero rqid p => Machine.okMtrZero rqid p
  | .mtrClrcnt rqid => Machine.okMtrClrcnt rqid
  | .pulseStart j => Machine.okPulseStart j
  | .pulseEnd j => Machine.okPulseEnd j
  | .plsClrcnt rqid => Machine.okPlsClrcnt rqid
  | .recordWrite _ => true
  | .elgLog rqid n code sev => Machine.okElgLog rqid n code sev
  | .elgClear rqid => Machine.okElgClear rqid
  | .elgClearDone _ => true
  | .elgClrcnt rqid => Machine.okElgClrcnt rqid
  | .holdWrite rqid v _ => Machine.okHoldWrite rqid v
  | .holdExpiry _ => true
  | .enclaveCommandDone => true
  | .swapChecksDone => true
  | .binLevelChange i _ => Machine.okBinLevelChange i
  | .drainLevelChange j _ => Machine.okDrainLevelChange j

end Sys2Proof
end

