-- ==== Sys2Proof/Safety.lean ====
section
/-! DEFINITION. What a safe run is, and the words in which statements say what a command needs and what it leaves: no step is refused,
a command is taken, nothing but named registers differs. -/

namespace Sys2Proof

/-- The commands that act on the supply, the pins and the always-on domain, which have effect while the module does not run. -/
def Instr.alwaysOn (i : Instr) : Bool :=
  match i with
  | .vinStartRise _ => true
  | .pwrOkRise _ => true
  | .vinAbandon => true
  | .holdupReady _ => true
  | .railFault _ => true
  | .modRstNLow => true
  | .modRstNRise _ => true
  | .pwrMeasure _ _ _ _ _ _ _ _ => true
  | .vinWarningCross _ => true
  | .saveSetComplete _ => true
  | .meteringSaveRepeat => true
  | .vinRecoveryCross => true
  | .vinResetCross _ => true
  | .holdupArrayFloor => true
  | .junctionHot => true
  | .junctionCool => true
  | .junctionTrip _ => true
  | .thermalRestart => true
  | .lifeUpdate => true
  | .fallowWake => true
  | .tamperDetect _ _ _ _ => true
  | .tamperLoopMeasure _ _ => true
  | .binLevelChange _ _ => true
  | _ => false

/-- The requester and the block page of a command that is a word written to CMD of a block page. -/
def Instr.command (i : Instr) : Option (Nat × Nat) :=
  match i with
  | .clearMin rqid => some (rqid, 0x01)
  | .memPop rqid => some (rqid, 0x42)
  | .memInject rqid _ _ => some (rqid, 0x42)
  | .bnkSwap rqid _ _ => some (rqid, 0x08)
  | .bnkCancel rqid => some (rqid, 0x08)
  | .bnkCopyback rqid => some (rqid, 0x08)
  | .actPop rqid => some (rqid, 0x06)
  | .actLookup rqid _ => some (rqid, 0x06)
  | .stlClear rqid _ => some (rqid, 0x02)
  | .sysWarm rqid _ => some (rqid, 0x00)
  | .sysCold rqid _ => some (rqid, 0x00)
  | .sysFallow rqid => some (rqid, 0x00)
  | .sysFallback rqid => some (rqid, 0x00)
  | .sysResume rqid => some (rqid, 0x00)
  | .sysSpkset rqid _ => some (rqid, 0x00)
  | .keyMordant rqid => some (rqid, 0x04)
  | .keyIdread rqid => some (rqid, 0x04)
  | .keyAttest rqid => some (rqid, 0x04)
  | .keyKex rqid => some (rqid, 0x04)
  | .keyLeafload rqid _ => some (rqid, 0x04)
  | .keyLeafdrop rqid _ => some (rqid, 0x04)
  | .keyLeafpersist rqid _ _ => some (rqid, 0x04)
  | .keyDeriveleaf rqid _ => some (rqid, 0x04)
  | .keyLeafinfo rqid _ => some (rqid, 0x04)
  | .keyRekey rqid => some (rqid, 0x04)
  | .keyAnchorset rqid => some (rqid, 0x04)
  | .keyZeroise rqid => some (rqid, 0x04)
  | .tmpClear rqid => some (rqid, 0x05)
  | .tmpVerify rqid _ _ => some (rqid, 0x05)
  | .tmpRaise rqid _ => some (rqid, 0x05)
  | .tmpMeasure rqid => some (rqid, 0x05)
  | .dbgChallenge rqid => some (rqid, 0x44)
  | .dbgAuth rqid => some (rqid, 0x44)
  | .dbgClose rqid => some (rqid, 0x44)
  | .macClrcnt rqid m => some (rqid, 0x10 + m)
  | .macAnrestart rqid m => some (rqid, 0x10 + m)
  | .macVerify rqid m => some (rqid, 0x10 + m)
  | .serSend rqid .none _ => some (rqid, 0x36)
  | .serRxpop rqid .none _ => some (rqid, 0x36)
  | .serAbort rqid .none _ => some (rqid, 0x36)
  | .swcTread rqid _ => some (rqid, 0x20)
  | .swcTwrite rqid _ => some (rqid, 0x20)
  | .swcFlush rqid _ => some (rqid, 0x20)
  | .swcClrcnt rqid => some (rqid, 0x20)
  | .prpClrcnt rqid => some (rqid, 0x21)
  | .prpFlushnodes rqid => some (rqid, 0x21)
  | .timStep rqid => some (rqid, 0x24)
  | .timStepcancel rqid => some (rqid, 0x24)
  | .timTxqclr rqid => some (rqid, 0x24)
  | .timRelock rqid => some (rqid, 0x24)
  | .sviTread rqid _ => some (rqid, 0x28)
  | .sviTwrite rqid _ => some (rqid, 0x28)
  | .sviClrcnt rqid _ _ => some (rqid, 0x28)
  | .aapClrcnt rqid => some (rqid, 0x2A)
  | .alnClrcnt rqid => some (rqid, 0x29)
  | .pheTread rqid .none _ => some (rqid, 0x2C)
  | .pheTwrite rqid .none _ => some (rqid, 0x2C)
  | .pheClrcnt rqid => some (rqid, 0x2C)
  | .schStart rqid => some (rqid, 0x30)
  | .schStop rqid => some (rqid, 0x30)
  | .schTread rqid _ => some (rqid, 0x30)
  | .schTwrite rqid _ => some (rqid, 0x30)
  | .schClrcnt rqid _ _ => some (rqid, 0x30)
  | .vimShare rqid => some (rqid, 0x31)
  | .vimCancelshare rqid => some (rqid, 0x31)
  | .vimStart rqid _ => some (rqid, 0x31)
  | .vimQuiesce rqid _ => some (rqid, 0x31)
  | .vimResume rqid _ => some (rqid, 0x31)
  | .vimReset rqid _ => some (rqid, 0x31)
  | .vimForceReset rqid _ _ => some (rqid, 0x31)
  | .vimMap rqid => some (rqid, 0x31)
  | .vimUnmap rqid => some (rqid, 0x31)
  | .vimTread rqid _ => some (rqid, 0x31)
  | .vimTwrite rqid _ => some (rqid, 0x31)
  | .dmaClrcnt rqid => some (rqid, 0x32)
  | .dplClrcnt rqid => some (rqid, 0x33)
  | .pubTread rqid _ => some (rqid, 0x34)
  | .pubTwrite rqid _ => some (rqid, 0x34)
  | .pubClrcnt rqid => some (rqid, 0x34)
  | .bioClrcnt rqid => some (rqid, 0x35)
  | .twnCheck rqid .none _ => some (rqid, 0x38)
  | .twnRelease rqid => some (rqid, 0x38)
  | .twnRejoin rqid => some (rqid, 0x38)
  | .twnClrcnt rqid => some (rqid, 0x38)
  | .fldTread rqid _ => some (rqid, 0x39)
  | .fldTwrite rqid _ => some (rqid, 0x39)
  | .fldClrcnt rqid => some (rqid, 0x39)
  | .lgrTread rqid _ => some (rqid, 0x3C)
  | .lgrTwrite rqid _ => some (rqid, 0x3C)
  | .lgrClrcnt rqid => some (rqid, 0x3C)
  | .lgrRetclr rqid _ => some (rqid, 0x3C)
  | .mtrSnap rqid .none _ _ => some (rqid, 0x3E)
  | .mtrTread rqid _ => some (rqid, 0x3E)
  | .mtrTwrite rqid _ => some (rqid, 0x3E)
  | .mtrZero rqid _ => some (rqid, 0x3E)
  | .mtrClrcnt rqid => some (rqid, 0x3E)
  | .plsClrcnt rqid => some (rqid, 0x3F)
  | .elgClear rqid => some (rqid, 0x40)
  | .elgClrcnt rqid => some (rqid, 0x40)
  | .unknownCommand rqid p _ => some (rqid, p)
  | _ => none

end Sys2Proof

namespace Sys2Proof.Machine

/-- Every command that waits is well formed, so that no step of it is refused. -/
def State.sound (s : State) : Bool := s.pending.all Sys2Proof.Instr.wf

/-! ### When a command is taken -/

/-- A write by `rqid` to the register at `a` is granted (R128). -/
def mayWrite (b : Block) (rqid a : Nat) : Prop := (judge b rqid a (.word 4) Need.write).status = .ok

/-- A read by `rqid` of the register at `a` is granted (R128). -/
def mayRead (b : Block) (rqid a : Nat) : Prop := (judge b rqid a (.word 4) Need.read).status = .ok

/-- The core of `rqid` runs (R64), `rqid` may write CMD of page `p`, and no command of that page runs (R107). -/
def cmdFree (b : Block) (rqid p : Nat) : Prop :=
  coreRuns b rqid = true ∧ rqid < 1024 ∧ mayWrite b rqid (pg p 0x28) ∧ cmdBusy b (pg p 0x2C) = false

/-- The core of `rqid` runs, `rqid` may write the CMD register at offset `o` of the sub-page of page `p` of instance `n`, and no command of that
sub-page runs (R107). -/
def subFree (b : Block) (rqid p n o so : Nat) : Prop :=
  coreRuns b rqid = true ∧ rqid < 1024 ∧ n < 64 ∧ mayWrite b rqid (sp n p o) ∧ cmdBusy b (sp n p so) = false

/-- The command was taken at the CMDSTAT register `a` and ended with `code`: the tag has advanced by 1 modulo 2¹⁶, and the access was
granted (R107). -/
def answered (b b' : Block) (a code : Nat) : Prop :=
  rd b' a = (rd b a / 65536 + 1) % 65536 * 65536 + code ∧ b'.resp = ⟨.ok, 0⟩

/-! ### What a command leaves -/

/-- The registers that raising an event may write: EVT of a block page, the registers of EVR and its sub-pages, and ELG_LOST. -/
def evKey (a : Nat) : Bool :=
  (decide (0x2000000000 ≤ a) && decide (a % 0x10000 = 0x10)) || decide (a / 0x10000 = 0x200007) || decide (a = R.ELG_LOST) ||
    (decide (0x3000000000 ≤ a) && decide (a % 0x100000 / 0x1000 = 7))

/-- The registers that an error record writes beside: ERR and ERRINFO of a block page, IERR and IERRINFO of a sub-page. -/
def errKey (a : Nat) : Bool :=
  evKey a || (decide (0x2000000000 ≤ a) && (decide (a % 0x10000 = 0x18) || decide (a % 0x10000 = 0x1C))) ||
    (decide (0x3000000000 ≤ a) && (decide (a % 0x1000 = 0x18) || decide (a % 0x1000 = 0x1C)))

/-- Every register but those of `l` reads as before. -/
def RegsBut (l : List Nat) (b b' : Block) : Prop := ∀ a, a ∉ l → rd b' a = rd b a

/-- Every register but those of `l` and those that raising an event may write reads as before. -/
def RegsButEv (l : List Nat) (b b' : Block) : Prop := ∀ a, a ∉ l → evKey a = false → rd b' a = rd b a

/-- Every table word and every byte of memory reads as before. -/
def SameMem (b b' : Block) : Prop := (∀ k, tget b' k = tget b k) ∧ ∀ a, mget b' a = mget b a

/-- No table word, no byte of memory, no queue and no register differs but the registers of `l`, the outputs and the answer. -/
def RegsOnly (l : List Nat) (b b' : Block) : Prop :=
  b' = { b with regs := b'.regs, out := b'.out, resp := b'.resp } ∧ RegsBut l b b' ∧ SameMem b b'

/-- The same, beside what raising an event changes: the event registers, the event queues and the recorder's intake. -/
def RegsEvOnly (l : List Nat) (b b' : Block) : Prop :=
  b' = { b with regs := b'.regs, out := b'.out, resp := b'.resp, evr := b'.evr, elg := b'.elg } ∧ RegsButEv l b b' ∧ SameMem b b'

/-- Two blocks that differ at most in event registers, the event queues and the recorder's intake, no EVT bit of a block page being
cleared. -/
def EvOnly (b b' : Block) : Prop :=
  b' = { b with regs := b'.regs, evr := b'.evr, elg := b'.elg } ∧ (∀ a, evKey a = false → rd b' a = rd b a) ∧
    ∀ p i, p < 256 → (rd b (pg p 0x10)).testBit i = true → (rd b' (pg p 0x10)).testBit i = true

/-- What a reset with `cause` and class `cls` (not 2, which also clears the domain that fallow keeps) leaves (R150, R151): every register but
those that a reset keeps, every table word and every unit's state at its reset value, memory and flash as they were. -/
def WasReset (cause cls : Nat) (b b' : Block) : Prop :=
  fget b' F.SYS_RSTCAUSE_cause = cause ∧ fget b' F.SYS_RSTCAUSE_class = cls ∧
    (∀ a, a ∉ keptOf cls → a ∉ [R.SYS_RSTCAUSE, R.STL_STAT, R.SYS_STAT, R.PWR_STAT] → rd b' a = (regReset b.part a).toNat) ∧
    (∀ k, tget b' k = (tabReset k).toNat) ∧ (∀ a, mget b' a = mget b a) ∧ b'.flash = b.flash ∧ b'.part = b.part ∧ b'.time = b.time ∧
    b'.bankB = [] ∧ b'.instB = [] ∧ b'.actFifo = [] ∧ b'.memFifo = [] ∧ b'.evr = Evr.init ∧ b'.elg = Elg.init ∧ b'.sch = Sch.init ∧
    b'.vim = Vim.init ∧ b'.dma = [] ∧ b'.spk = Spk.init ∧ b'.key.prod = b.key.prod ∧ b'.start.last = 0

end Sys2Proof.Machine
end

