-- ==== Sys2Proof/Certificates/Slice0/Obligations.lean ====
section
/-! DEFINITION. The statements for the provers. Each is about every state, reached or not, and every operand that its hypotheses admit;
`t` is the state that the command leaves. -/

open Sys2Proof Sys2Proof.Machine

/-! ### The machine -/

/-- A step takes the command at the front of the queue and runs it with the queue's rest. -/
def Obligations.StepRunsTheFrontCommand : Prop :=
  ∀ (c : Instr) (rest : List Instr) (s : State), s.pending = c :: rest → step s = exec c { s with pending := rest }

/-- With no command waiting, a step moves module time on and touches nothing but time and the outputs: by 2 ns while the frequency
correction and the remainder carried over are 0, and not at all while VIN is off (the model's choice, log entry 1). -/
def Obligations.IdleStepAdvancesTime : Prop :=
  ∀ s : State, s.pending = [] → ∃ t, step s = .next t ∧ t.pending = [] ∧
    t.blk = { s.blk with out := [], time := t.blk.time, tim := t.blk.tim } ∧ RegsBut [] s.blk t.blk ∧ SameMem s.blk t.blk ∧
    (s.blk.pwr.phase = .off → t.blk.time = s.blk.time) ∧
    (s.blk.pwr.phase ≠ .off → rd s.blk R.TIM_FREQ = 0 → s.blk.tim.tickRem = 0 → t.blk.time = s.blk.time + 131072 ∧ t.blk.tim.tickRem = 0)

/-- No command faults: a well-formed one answers a next state and leaves the queue alone, an ill-formed one is refused by name. -/
def Obligations.EveryCommandAnswers : Prop :=
  ∀ (c : Instr) (s : State),
    (c.wf = true → ∃ b, exec c s = .next { s with blk := b }) ∧ (c.wf = false → ∃ m, exec c s = .refused (.illFormed m))

/-- While every waiting command is well formed, a step answers a next state, and every command still waiting is well formed; the step
takes at most one command from the queue. -/
def Obligations.StepKeepsSound : Prop :=
  ∀ s : State, s.sound = true → ∃ t, step s = .next t ∧ t.sound = true ∧ t.pending = s.pending.drop 1

/-- Nothing waits at reset. -/
def Obligations.ResetSound : Prop := State.reset.sound = true ∧ State.reset.pending = []

/-- While the module does not run (PWR_OK low or MOD_RST_N low), no command but those of the supply, the pins and the always-on domain
has any effect. -/
def Obligations.NothingRunsInReset : Prop :=
  ∀ (c : Instr) (s : State), c.wf = true → c.alwaysOn = false → running s.blk = false →
    exec c s = .next { s with blk := { s.blk with out := [] } }

/-! ### Writes of CMD -/

/-- R110, R128: a command word whose write is not granted changes nothing but fault and error records, events and the answer: no CMDSTAT,
no table word, no byte of memory and no unit's own state. -/
def Obligations.RefusedCommandHasNoEffect : Prop :=
  ∀ (c : Instr) (rqid p : Nat) (s : State), c.command = some (rqid, p) → c.wf = true → coreRuns s.blk rqid = true → ¬ mayWrite s.blk rqid (pg p 0x28) →
    ∃ t, exec c s = .next t ∧ t.pending = s.pending ∧ t.blk.resp.status ≠ .ok ∧ t.blk.resp.data = 0 ∧
      t.blk = { s.blk with regs := t.blk.regs, out := [], resp := t.blk.resp, evr := t.blk.evr, elg := t.blk.elg,
                           actFifo := t.blk.actFifo, memFifo := t.blk.memFifo } ∧
      (∀ a, a ≠ R.ACT_FLTOVF → a ≠ R.MEM_FLTOVF → errKey a = false → rd t.blk a = rd s.blk a) ∧ SameMem s.blk t.blk

/-- R107: a command word written while a command of the page runs is ignored, and the page records ERR.cmdbusy. -/
def Obligations.BusyPageIgnoresCommands : Prop :=
  ∀ (c : Instr) (rqid p : Nat) (s : State), c.command = some (rqid, p) → c.wf = true → coreRuns s.blk rqid = true → mayWrite s.blk rqid (pg p 0x28) →
    cmdBusy s.blk (pg p 0x2C) = true →
    ∃ t, exec c s = .next t ∧ t.pending = s.pending ∧ (rd t.blk (pg p 0x18)).testBit 31 = true ∧ rd t.blk (pg p 0x2C) = rd s.blk (pg p 0x2C) ∧
      RegsOnly [pg p 0x18, pg p 0x1C] s.blk t.blk

/-! ### Commands that clear and pop -/

/-- R115's page text and its like, R363, R417, R481, R483, R508, R548, R601, R618: CLRCNT of the pages whose counters are registers zeroes
exactly those registers, and ends with code 0. -/
def Obligations.ClrcntZeroesCounterRegisters : Prop :=
  ∀ (rqid : Nat) (s : State),
    (let clears (c : Instr) (p : Nat) (l : List Nat) : Prop := cmdFree s.blk rqid p →
        ∃ t, exec c s = .next t ∧ t.pending = s.pending ∧ answered s.blk t.blk (pg p 0x2C) 0 ∧ (∀ a ∈ l, rd t.blk a = 0) ∧
          RegsOnly (pg p 0x2C :: l) s.blk t.blk
     clears (.dmaClrcnt rqid) 0x32 (R.DMA_DONE :: (List.range 64).map R.DMA_I_DONE) ∧
     clears (.dplClrcnt rqid) 0x33 ((List.range 64).map R.DPL_OUTSIDE) ∧
     clears (.bioClrcnt rqid) 0x35 [R.BIO_BINQOVF] ∧
     clears (.plsClrcnt rqid) 0x3F ((List.range 16).map R.PLS_CNT ++ (List.range 16).map R.PLS_DROP) ∧
     clears (.aapClrcnt rqid) 0x2A ((List.range 16).map R.AAP_SWCNT ++ (List.range 16).map R.AAP_CLIP) ∧
     clears (.pheClrcnt rqid) 0x2C ([R.PHE_LATECNT, R.PHE_ABANDCNT, R.PHE_CORRCNT, R.PHE_CORRDEFER, R.PHE_CORRDROP] ++
       (List.range 8).map R.PHE_UNITDUR) ∧
     clears (.fldClrcnt rqid) 0x39 [R.FLD_TXDATA, R.FLD_TXREV, R.FLD_IMPDROP] ∧
     clears (.twnClrcnt rqid) 0x38 ((List.range 5).map R.TWN_DIVCNT ++ [R.TWN_HBMISS, R.TWN_WITRX, R.TWN_WITTO, R.TWN_WITBAD]) ∧
     clears (.elgClrcnt rqid) 0x40 (R.ELG_LOST :: (List.range 64).map R.ELG_I_DROP) ∧
     clears (.prpClrcnt rqid) 0x21 (R.PRP_NODEFULL :: ((List.range 6).map (fun i =>
       [R.PRP_DUPDROP i, R.PRP_OUTWIN i, R.PRP_OWNSRC i, R.PRP_NORCT i, R.PRP_RINGFWD i, R.PRP_LANERR i])).flatten) ∧
     ∀ m, m ≤ 14 → clears (.macClrcnt rqid m) (0x10 + m) (macCounters m))

/-- R293: SWC_CMD CLRCNT zeroes every counter of the switch core, among them those of the filters' present window. -/
def Obligations.SwcClrcnt : Prop :=
  ∀ (rqid : Nat) (s : State), cmdFree s.blk rqid 0x20 →
    (let l := [R.SWC_PARTIALMC, R.SWC_LEARNFULL, R.SWC_CTFWD, R.SWC_CTSTOMP, R.SWC_NOCELL] ++
       ((List.range 15).map (fun i => [R.SWC_VLANDROP i, R.SWC_NODEST i, R.SWC_FILTDROP i] ++ (List.range 8).map (R.SWC_QDROP i))).flatten
     ∃ t, exec (.swcClrcnt rqid) s = .next t ∧ t.pending = s.pending ∧ answered s.blk t.blk (pg 0x20 0x2C) 0 ∧ (∀ a ∈ l, rd t.blk a = 0) ∧
       t.blk.net = { s.blk.net with filtDrop := [] } ∧
       t.blk = { s.blk with regs := t.blk.regs, out := t.blk.out, resp := t.blk.resp, net := t.blk.net } ∧
       RegsBut (pg 0x20 0x2C :: l) s.blk t.blk ∧ SameMem s.blk t.blk)

/-- R506, R574, R596, R355, R448: CLRCNT of the pages whose counters are table words zeroes those words alone; a stream's `latmin` and a
task's least headland return to their largest values. -/
def Obligations.ClrcntClearsCounterTables : Prop :=
  ∀ (rqid : Nat) (s : State),
    (let clears (c : Instr) (p : Nat) (key : Nat → Prop) (v : Nat → Nat) : Prop := cmdFree s.blk rqid p →
        ∃ t, exec c s = .next t ∧ t.pending = s.pending ∧ answered s.blk t.blk (pg p 0x2C) 0 ∧
          (∀ k, key k → tget t.blk k = v k) ∧ (∀ k, ¬ key k → tget t.blk k = tget s.blk k) ∧ RegsBut [pg p 0x2C] s.blk t.blk ∧
          (∀ a, mget t.blk a = mget s.blk a) ∧
          t.blk = { s.blk with regs := t.blk.regs, tabs := t.blk.tabs, out := t.blk.out, resp := t.blk.resp }
     clears (.pubClrcnt rqid) 0x34 (fun k => ∃ p w, p < 353 ∧ (w = 2 ∨ w = 3 ∨ w = 7) ∧ k = tkey 0x34 2 p w) (fun _ => 0) ∧
     clears (.lgrClrcnt rqid) 0x3C (fun k => ∃ p w, p < 256 ∧ w < 8 ∧ k = tkey 0x3C 5 p w) (fun _ => 0) ∧
     clears (.mtrClrcnt rqid) 0x3E (fun k => ∃ p, p < 128 ∧ k = tkey 0x3E 2 p 0) (fun _ => 0) ∧
     (∀ e, e < 512 → clears (.sviClrcnt rqid e false) 0x28 (fun k => ∃ w, w < 16 ∧ k = tkey 0x28 4 e w)
        (fun k => if k % 256 = 12 then 0xFFFFFFFF else 0)) ∧
     clears (.sviClrcnt rqid 0x7FF false) 0x28 (fun k => ∃ e w, e < 512 ∧ w < 16 ∧ k = tkey 0x28 4 e w)
        (fun k => if k % 256 = 12 then 0xFFFFFFFF else 0) ∧
     clears (.sviClrcnt rqid 0x7FF true) 0x28 (fun k => ∃ e w, e < 1024 ∧ w < 16 ∧ k = tkey 0x28 5 e w) (fun _ => 0))

/-- R448, R449: SCH_CMD CLRCNT of one task returns the least headland of its statistics to 0x7FFF_FFFF and zeroes every other word, the
count of consecutive overruns apart (the model's choice, log entry 50), and touches the statistics of no other task. -/
def Obligations.SchClrcntOfOneTask : Prop :=
  ∀ (rqid k : Nat) (s : State), k < 1024 → cmdFree s.blk rqid 0x30 →
    ∃ t, exec (.schClrcnt rqid k false) s = .next t ∧ t.pending = s.pending ∧ answered s.blk t.blk (pg 0x30 0x2C) 0 ∧
      tget t.blk (tkey 0x30 4 k 0) = 0x7FFFFFFF ∧ (∀ w, 1 ≤ w → w < 8 → w ≠ 5 → tget t.blk (tkey 0x30 4 k w) = 0) ∧
      tget t.blk (tkey 0x30 4 k 5) = min 15 (tget s.blk (tkey 0x30 4 k 5) % 16) ∧
      (∀ x, x / 256 ≠ tkey 0x30 4 k 0 / 256 → tget t.blk x = tget s.blk x) ∧ RegsBut [pg 0x30 0x2C] s.blk t.blk ∧
      (∀ a, mget t.blk a = mget s.blk a) ∧ t.blk = { s.blk with regs := t.blk.regs, tabs := t.blk.tabs, out := t.blk.out, resp := t.blk.resp }

/-! ### Supply and power -/

/-- R59, R43, R42, R70, R167: VIN recognised from off starts the rails at t0 (and what the always-on domain held goes where it had lost its
supply); VIN falling away before PWR_OK ends the attempt with no cause kept; MOD_RST_N low and high, and the restart after a thermal hold,
move the supply's state and the pins that PWR_STAT shows, and nothing else; leaving reset samples TWIN_SIDE. -/
def Obligations.SupplySequence : Prop :=
  ∀ s : State,
    (s.blk.pwr.phase = .off → ∃ t, exec (.vinStartRise true) s = .next t ∧ t.pending = s.pending ∧
      t.blk = { s.blk with out := [], pwr := { s.blk.pwr with phase := .rising, t0 := ns s.blk } }) ∧
    (s.blk.pwr.phase = .off → ∃ t, exec (.vinStartRise false) s = .next t ∧ t.pending = s.pending ∧
      t.blk.pwr = { s.blk.pwr with phase := .rising, t0 := ns s.blk, aoValid := false } ∧ t.blk.mtr.ao = none ∧ t.blk.trust.dbgOpen = false ∧
      (∀ a ∈ [R.DBG_STAT, R.PWR_ERR, R.PWR_ERRINFO], rd t.blk a = 0) ∧ RegsBut [R.DBG_STAT, R.PWR_ERR, R.PWR_ERRINFO] s.blk t.blk ∧
      SameMem s.blk t.blk) ∧
    (s.blk.pwr.phase = .rising → ∃ t, exec .vinAbandon s = .next t ∧ t.pending = s.pending ∧
      t.blk = { s.blk with out := [], pwr := { s.blk.pwr with phase := .off, nextCause := 0 } }) ∧
    (s.blk.pwr.phase ≠ .fallow → s.blk.pwr.phase ≠ .on → ∃ t, exec .modRstNLow s = .next t ∧ t.pending = s.pending ∧
      t.blk.pwr = { s.blk.pwr with rstLow := true } ∧ fget t.blk F.PWR_STAT_rstpin = 0 ∧
      t.blk = { s.blk with regs := t.blk.regs, out := [], pwr := t.blk.pwr } ∧ RegsBut [R.PWR_STAT] s.blk t.blk ∧ SameMem s.blk t.blk) ∧
    (s.blk.pwr.phase = .fallow → ∃ t, exec .modRstNLow s = .next t ∧ t.pending = s.pending ∧
      t.blk.pwr = { s.blk.pwr with rstLow := true, phase := .rising, nextCause := 9, t0 := ns s.blk } ∧ fget t.blk F.PWR_STAT_rstpin = 0 ∧
      RegsBut [R.PWR_STAT] s.blk t.blk ∧ SameMem s.blk t.blk) ∧
    (∀ side, s.blk.pwr.rstLow = true → ∃ t, exec (.modRstNRise side) s = .next t ∧ t.pending = s.pending ∧
      t.blk.pwr = { s.blk.pwr with rstLow := false, tp := ns s.blk, strap := side } ∧ fget t.blk F.PWR_STAT_rstpin = 1 ∧
      (s.blk.pwr.phase = .on → fget t.blk F.PWR_STAT_side = (if side then 1 else 0)) ∧
      (s.blk.pwr.phase ≠ .on → fget t.blk F.PWR_STAT_side = fget s.blk F.PWR_STAT_side) ∧
      t.blk = { s.blk with regs := t.blk.regs, out := [], pwr := t.blk.pwr } ∧ RegsBut [R.PWR_STAT] s.blk t.blk ∧ SameMem s.blk t.blk) ∧
    (s.blk.pwr.phase = .thermal → ∃ t, exec .thermalRestart s = .next t ∧ t.pending = s.pending ∧
      t.blk.pwr = { s.blk.pwr with phase := .on, tp := ns s.blk } ∧ fget t.blk F.PWR_STAT_pwrok = 1 ∧
      (s.blk.pwr.rstLow = false → fget t.blk F.PWR_STAT_side = (if s.blk.pwr.strap then 1 else 0)) ∧
      t.blk = { s.blk with regs := t.blk.regs, out := [], pwr := t.blk.pwr } ∧ RegsBut [R.PWR_STAT] s.blk t.blk ∧ SameMem s.blk t.blk)

/-- R59, R60, R62, R67, R70, R150, R224: PWR_OK rising releases reset with the cause the rails started with; a rail fault and MOD_RST_N held
low while no save of the last gasp runs reset the module with causes 3 and 1, the holdup array at 12 V with 2, or 4 after a thermal trip,
or 0x0B where a level 3 response waits; while a save runs MOD_RST_N defers the reset and takes the outputs to their inactive state at once.
A rail fault is kept in PWR_ERR and PWR_ERRINFO. With no metering save to cut, the reset leaves exactly what a reset leaves. -/
def Obligations.SupplyResets : Prop :=
  ∀ s : State,
    (∀ side, s.blk.pwr.phase = .rising → s.blk.pwr.nextCause < 16 → ∃ t, exec (.pwrOkRise side) s = .next t ∧ t.pending = s.pending ∧
      WasReset s.blk.pwr.nextCause (classOf s.blk.pwr.nextCause) s.blk t.blk ∧ t.blk.pwr.phase = .on ∧ t.blk.pwr.nextCause = 0 ∧
      t.blk.pwr.strap = side ∧ fget t.blk F.SYS_RSTCAUSE_prevstep = fget s.blk F.SYS_RSTCAUSE_prevstep) ∧
    (∀ r, r < 16 → s.blk.pwr.phase = .on → ∃ t, exec (.railFault r) s = .next t ∧ t.pending = s.pending ∧
      t.blk.pwr.phase = .rising ∧ t.blk.pwr.nextCause = 3 ∧ t.blk.pwr.t0 = ns s.blk ∧ fget t.blk F.SYS_RSTCAUSE_cause = 3 ∧
      fget t.blk F.PWR_STAT_pwrok = 0 ∧ fget t.blk F.PWR_ERR_rail = 1 ∧ fget t.blk F.PWR_ERRINFO_rail = r ∧ t.blk.mtr.save = none ∧
      (s.blk.mtr.save = none → WasReset 3 0 s.blk t.blk)) ∧
    (s.blk.pwr.phase = .on → gaspBusy s.blk = false → ∃ t, exec .modRstNLow s = .next t ∧ t.pending = s.pending ∧
      WasReset 1 0 s.blk t.blk ∧ t.blk.pwr.rstLow = true ∧ fget t.blk F.PWR_STAT_rstpin = 0) ∧
    (s.blk.pwr.phase = .on → gaspBusy s.blk = true → ∃ t, exec .modRstNLow s = .next t ∧ t.pending = s.pending ∧
      t.blk.pwr = { s.blk.pwr with rstLow := true, deferred := if s.blk.pwr.deferred = .cold 0x0B then .cold 0x0B else .cold 1 } ∧
      fget t.blk F.PWR_STAT_rstpin = 0 ∧ t.blk.tim.pulse = [] ∧ t.blk.tim.tog = [] ∧ t.blk.tim.pps = none ∧ SameMem s.blk t.blk) ∧
    (s.blk.pwr.phase ≠ .off → pwrState s.blk = 2 → ∃ t, exec .holdupArrayFloor s = .next t ∧ t.pending = s.pending ∧
      (let c := if s.blk.pwr.deferred = .cold 0x0B then 0x0B else if s.blk.pwr.thermal then 4 else 2
       t.blk.pwr.phase = (if s.blk.pwr.thermal then .thermal else .off) ∧ t.blk.pwr.nextCause = c ∧ fget t.blk F.SYS_RSTCAUSE_cause = c ∧
       (s.blk.pwr.saving = false → s.blk.mtr.save = none → WasReset c (classOf c) s.blk t.blk)))

/-- R59, R70, R73, R74, R78, R80, R81, R82, R90: what the module measures is what its registers show. HOLDUP_READY sets holdup_ready, the
capacitance and gasp_at_risk (below 482 µF), and raises EV_PWR_HOLDUP_LOW below 525 µF; a measurement writes VIN, input current, both
temperatures, the array's voltage and the ageing ratio, keeps holdup_ready to the array's 34 V once it has been charged, latches sensors that
disagree, and, while PWR_OK is high, lowers PWR_VINMIN and reports the ageing limit passed; the crossings of 120 °C and 115 °C set and clear
PWR_STAT.hot with their events; CLEAR_MIN sets PWR_VINMIN to the present VIN; the speed refresh writes PWR_TALLYSPD; an hour adds to the age
what its base-face temperature gives (its resolution is the model's choice, log entry 4). -/
def Obligations.SupplyMeasurements : Prop :=
  ∀ s : State,
    (∀ cap, cap < 65536 → s.blk.pwr.phase = .on → fon s.blk F.PWR_STAT_holdup_ready = false →
      ∃ t, exec (.holdupReady cap) s = .next t ∧ t.pending = s.pending ∧ fget t.blk F.PWR_STAT_holdup_ready = 1 ∧ fget t.blk F.PWR_HOLDUP_cap = cap ∧
        fget t.blk F.PWR_STAT_gasp_at_risk = (if cap < 482 then 1 else 0) ∧ (cap < 525 → fget t.blk F.PWR_EVT_holdup_low = 1) ∧
        RegsEvOnly [R.PWR_STAT, R.PWR_HOLDUP] s.blk t.blk) ∧
    (∀ vin iin tj tplate varray ratio vsense tsense, (Instr.pwrMeasure vin iin tj tplate varray ratio vsense tsense).wf = true →
      s.blk.pwr.phase ≠ .off →
      ∃ t, exec (.pwrMeasure vin iin tj tplate varray ratio vsense tsense) s = .next t ∧ t.pending = s.pending ∧
        fget t.blk F.PWR_VIN_vin = vin ∧ fget t.blk F.PWR_VIN_iin = iin ∧ fget t.blk F.PWR_TEMP_tj = tj ∧ fget t.blk F.PWR_TEMP_tplate = tplate ∧
        fget t.blk F.PWR_HOLDUP_varray = varray ∧ fget t.blk F.PWR_HOLDUP_cap = fget s.blk F.PWR_HOLDUP_cap ∧ fget t.blk F.PWR_AGEMON_ratio = ratio ∧
        fget t.blk F.PWR_STAT_holdup_ready =
          (if fget s.blk F.PWR_HOLDUP_cap = 0 then fget s.blk F.PWR_STAT_holdup_ready else if 3400 ≤ varray then 1 else 0) ∧
        (∀ i, i ≠ 4 → (rd t.blk R.PWR_STAT).testBit i = (rd s.blk R.PWR_STAT).testBit i) ∧
        t.blk.pwr = { s.blk.pwr with vinMinDip := min s.blk.pwr.vinMinDip vin } ∧
        (s.blk.pwr.phase = .on → fget t.blk F.PWR_VINMIN_min = min (fget s.blk F.PWR_VINMIN_min) vin ∧
          (vsense = true → fget t.blk F.PWR_ERR_vsense = 1) ∧ (tsense = true → fget t.blk F.PWR_ERR_tsense = 1) ∧
          (fget s.blk F.PWR_AGEMON_ratio < fget s.blk F.PWR_AGEMON_limit → fget s.blk F.PWR_AGEMON_limit ≤ ratio →
            fget t.blk F.PWR_EVT_agelimit = 1)) ∧
        RegsButEv [R.PWR_VIN, R.PWR_TEMP, R.PWR_HOLDUP, R.PWR_AGEMON, R.PWR_VINMIN, R.PWR_STAT, R.PWR_ERR] s.blk t.blk ∧
        (s.blk.pwr.phase ≠ .on → RegsBut [R.PWR_VIN, R.PWR_TEMP, R.PWR_HOLDUP, R.PWR_AGEMON, R.PWR_STAT] s.blk t.blk) ∧ SameMem s.blk t.blk) ∧
    (s.blk.pwr.phase ≠ .off → fon s.blk F.PWR_STAT_hot = false → ∃ t, exec .junctionHot s = .next t ∧ t.pending = s.pending ∧
      fget t.blk F.PWR_STAT_hot = 1 ∧ fget t.blk F.PWR_EVT_hot = 1 ∧ RegsEvOnly [R.PWR_STAT] s.blk t.blk) ∧
    (s.blk.pwr.phase ≠ .off → fon s.blk F.PWR_STAT_hot = true → ∃ t, exec .junctionCool s = .next t ∧ t.pending = s.pending ∧
      fget t.blk F.PWR_STAT_hot = 0 ∧ fget t.blk F.PWR_EVT_cool = 1 ∧ RegsEvOnly [R.PWR_STAT] s.blk t.blk) ∧
    (∀ rqid, cmdFree s.blk rqid 0x01 → ∃ t, exec (.clearMin rqid) s = .next t ∧ t.pending = s.pending ∧ answered s.blk t.blk (pg 0x01 0x2C) 0 ∧
      fget t.blk F.PWR_VINMIN_min = fget s.blk F.PWR_VIN_vin ∧ RegsOnly [pg 0x01 0x2C, R.PWR_VINMIN] s.blk t.blk) ∧
    (∀ mn mean, mn < 65536 → mean < 65536 → running s.blk = true → ∃ t, exec (.tallySpeedRefresh mn mean) s = .next t ∧ t.pending = s.pending ∧
      fget t.blk F.PWR_TALLYSPD_min = mn ∧ fget t.blk F.PWR_TALLYSPD_mean = mean ∧ RegsOnly [R.PWR_TALLYSPD] s.blk t.blk) ∧
    (s.blk.pwr.phase ≠ .off → ∃ t, exec .lifeUpdate s = .next t ∧ t.pending = s.pending ∧
      (let ms := mnat s.blk 0x1801000880 4 + lifeIncrement (fget s.blk F.PWR_TEMP_tplate)
       mnat t.blk 0x1801000880 4 = ms % 1000 ∧ mnat t.blk 0x1801000820 4 = (mnat s.blk 0x1801000820 4 + ms / 1000) % 2 ^ 32) ∧
      (∀ a, a < 0x1801000820 ∨ 0x1801000840 ≤ a → a < 0x1801000880 ∨ 0x1801000884 ≤ a → mget t.blk a = mget s.blk a) ∧
      (∀ k, tget t.blk k = tget s.blk k) ∧ RegsButEv [] s.blk t.blk)

/-- R62, R63, R66, R67, R70: VIN below the warning level enters WARNED, starts the last gasp and raises EV_PWR_WARN; a commit of the life-cycle
cell that ends then resets the module, so that case is apart; with no commit running and no lease held nothing else changes. In WARNED a new
crossing cancels a recovery that waits. The save set ends; where a recovery waits and no reset was deferred, the module is NORMAL again and the
dip is recorded. Each later metering save follows the one before by 1 ms. VIN above the recovery level while a save runs is remembered, and
otherwise ends the dip. VIN below 5.00 V or a junction trip enters DECIDED from NORMAL or while a save runs in WARNED: Vcore falls to 0.72 V,
the ports go down and every compare output and pulse ends; with no save running in WARNED the reset follows at once. Supply lost while the
module rests switches it off. -/
def Obligations.SupplyMonitor : Prop :=
  ∀ s : State,
    (∀ k, k < 5 → s.blk.pwr.phase = .on → pwrState s.blk = 0 → (∀ v ctr z, s.blk.key.run ≠ some (.commit 3 v ctr z)) →
      ∃ t, exec (.vinWarningCross k) s = .next t ∧ t.pending = s.pending ∧ pwrState t.blk = 1 ∧ t.blk.pwr.saving = true ∧
        t.blk.pwr.firstSave = false ∧ t.blk.pwr.recoverAt = none ∧ t.blk.pwr.warnAt = ns s.blk - 20000 ∧
        t.blk.pwr.vinMinDip = vinNow s.blk ∧ fget t.blk F.PWR_EVT_warn = 1) ∧
    (∀ k, k < 5 → s.blk.pwr.phase = .on → pwrState s.blk = 0 → s.blk.key.run = none → holder s.blk = false →
      ∃ t, exec (.vinWarningCross k) s = .next t ∧ t.pending = s.pending ∧ RegsButEv [R.PWR_STAT, R.PWR_TALLYSTAT] s.blk t.blk ∧
        SameMem s.blk t.blk ∧
        t.blk = { s.blk with regs := t.blk.regs, out := t.blk.out, evr := t.blk.evr, elg := t.blk.elg, pwr := t.blk.pwr }) ∧
    (∀ k, k < 5 → s.blk.pwr.phase = .on → pwrState s.blk = 1 → ∃ t, exec (.vinWarningCross k) s = .next t ∧ t.pending = s.pending ∧
        t.blk = { s.blk with out := [], pwr := { s.blk.pwr with recoverAt := none } }) ∧
    (∀ good, s.blk.pwr.phase ≠ .off → s.blk.pwr.saving = true → pwrState s.blk = 1 → s.blk.pwr.deferred = .none → s.blk.pwr.recoverAt = none →
      ∃ t, exec (.saveSetComplete good) s = .next t ∧ t.pending = s.pending ∧ t.blk.pwr = { s.blk.pwr with saving := false, firstSave := true } ∧
        t.blk.mtr.save = none ∧ pwrState t.blk = 1 ∧ (fon s.blk F.ELG_STAT_ready = false → s.blk.mtr.next = none → s.blk.mtr.save = none →
          mget t.blk 0x180100000C = 1#8 ∧ ∀ a, a ≠ 0x180100000C → mget t.blk a = mget s.blk a)) ∧
    (∀ good r, s.blk.pwr.phase ≠ .off → s.blk.pwr.saving = true → pwrState s.blk = 1 → s.blk.pwr.deferred = .none →
      s.blk.pwr.recoverAt = some r → ∃ t, exec (.saveSetComplete good) s = .next t ∧ t.pending = s.pending ∧ t.blk.pwr.saving = false ∧
        pwrState t.blk = 0 ∧ t.blk.pwr.recoverAt = none ∧ fget t.blk F.PWR_EVT_recover = 1) ∧
    (s.blk.pwr.phase ≠ .off → pwrState s.blk = 1 → s.blk.pwr.firstSave = true → s.blk.mtr.save = none → s.blk.part.optM = true →
      s.blk.mtr.next.isSome = true → ∃ t, exec .meteringSaveRepeat s = .next t ∧ t.pending = s.pending ∧ t.blk.mtr.save.isSome = true ∧
        fget t.blk F.MTR_STAT_saving = 1 ∧ s.blk.mtr.saveAt + 1000000 ≤ ns t.blk ∧ t.blk.mtr.saveAt = ns t.blk ∧ RegsBut [R.MTR_STAT] s.blk t.blk ∧
        SameMem s.blk t.blk) ∧
    (s.blk.pwr.phase ≠ .off → pwrState s.blk = 1 → gaspBusy s.blk = true → ∃ t, exec .vinRecoveryCross s = .next t ∧ t.pending = s.pending ∧
        t.blk = { s.blk with out := [], pwr := { s.blk.pwr with recoverAt := some (ns s.blk - 20000) } }) ∧
    (s.blk.pwr.phase ≠ .off → pwrState s.blk = 1 → gaspBusy s.blk = false → s.blk.pwr.deferred = .none →
      ∃ t, exec .vinRecoveryCross s = .next t ∧ t.pending = s.pending ∧ pwrState t.blk = 0 ∧ t.blk.pwr.recoverAt = none ∧
        fget t.blk F.PWR_EVT_recover = 1 ∧ mnat t.blk 0x1801000800 4 = (mnat s.blk 0x1801000800 4 + 1) % 2 ^ 32 ∧
        mnat t.blk 0x1801000804 4 = s.blk.pwr.vinMinDip % 2 ^ 32 ∧
        mnat t.blk 0x1801000808 4 = (ns s.blk - 20000 - s.blk.pwr.warnAt) / 1000 % 2 ^ 32 ∧
        mnat t.blk 0x180100080C 4 = s.blk.pwr.warnAt / 1000000000 % 2 ^ 32 ∧ mnat t.blk 0x1801000810 4 = s.blk.pwr.warnAt % 1000000000 ∧
        ∀ a, a < 0x1801000800 ∨ 0x1801000814 ≤ a → mget t.blk a = mget s.blk a) ∧
    (∀ k, k < 5 → (s.blk.pwr.phase = .fallow ∨ s.blk.pwr.phase = .thermal) → ∃ t, exec (.vinResetCross k) s = .next t ∧ t.pending = s.pending ∧
        t.blk = { s.blk with out := [], pwr := { s.blk.pwr with phase := .off, nextCause := 0 } }) ∧
    (∀ k c, k < 5 → (c = .vinResetCross k ∨ c = .junctionTrip k) → s.blk.pwr.phase = .on →
      (pwrState s.blk = 0 ∨ (pwrState s.blk = 1 ∧ gaspBusy s.blk = true)) → ∃ t, exec c s = .next t ∧ t.pending = s.pending ∧
        pwrState t.blk = 2 ∧ vcore t.blk = 720 ∧ (∀ m, m < 14 → fget t.blk (F.MAC_STAT_link m) = 0) ∧
        t.blk.tim.pulse = [] ∧ t.blk.tim.tog = [] ∧ t.blk.tim.pps = none ∧ t.blk.lgr.saves = []) ∧
    (∀ k, k < 5 → s.blk.pwr.phase = .on → pwrState s.blk = 1 → gaspBusy s.blk = false →
      (let c := if s.blk.pwr.deferred = .cold 0x0B then 0x0B else 2
       s.blk.pwr.thermal = false → ∃ t, exec (.vinResetCross k) s = .next t ∧ t.pending = s.pending ∧ t.blk.pwr.phase = .off ∧
        fget t.blk F.SYS_RSTCAUSE_cause = c) ∧
      (let c := if s.blk.pwr.deferred = .cold 0x0B then 0x0B else 4
       ∃ t, exec (.junctionTrip k) s = .next t ∧ t.pending = s.pending ∧ t.blk.pwr.phase = .thermal ∧ fget t.blk F.SYS_RSTCAUSE_cause = c))

/-- R91, R92, R93, R94: the tally loop. A period ends PWR_TALLYPER after the one before (or where time already stands), shows its least
headland in PWR_TALLYHL and leaves nothing of it; while the loop does not act Vcore stays and the count of low periods is 0. While it acts,
in the supply state NORMAL and with no deadline guard in the period and no hold left, a headland below the target raises Vcore by one step, no
further than vmax (0.80 V while the junction is hot), and one above the band, or no headland, lowers it by one step, no further than vmin; a
low headland at vmax counts, and the fourth in a row sets atmax and raises EV_PWR_TALLYMAX; a hold left counts down instead. A write of
PWR_TALLYCTL with a vset outside 720 to 900 mV is ignored; one inside is stored, and in FIXED mode sets Vcore while the supply is NORMAL and
the scheduler runs. (That atmax is raised at exactly four, and that 16 whole periods are held: the model's choice, log entry 60.) -/
def Obligations.TallyLoop : Prop :=
  (∀ s : State, running s.blk = true →
    (let cf := cfg s.blk
     let low : Bool := match s.blk.sch.minH with | some x => decide (x < (cf F.PWR_TALLY_target : Int)) | none => false
     let high : Bool := match s.blk.sch.minH with | some x => decide ((cf F.PWR_TALLY_target : Int) + (cf F.PWR_TALLY_band : Int) < x) | none => true
     let n := if low = true ∧ vcore s.blk = cf F.PWR_TALLYCFG_vmax then s.blk.pwr.atmaxCnt + 1 else 0
     ∃ t, exec .tallyPeriodEnd s = .next t ∧ t.pending = s.pending ∧
      rd t.blk R.PWR_TALLYHL = (match s.blk.sch.minH with | some x => uInt 32 x | none => 0xFFFFFFFF) ∧ t.blk.sch.minH = none ∧
      t.blk.pwr.tallyJump = false ∧ t.blk.pwr.tallyEnd = ns t.blk ∧ t.blk.time = max s.blk.time ((s.blk.pwr.tallyEnd + cf F.PWR_TALLYPER_period * 1000000) * 65536) ∧
      RegsButEv [R.PWR_TALLYHL, R.PWR_TALLYSTAT] s.blk t.blk ∧ SameMem s.blk t.blk ∧
      (tallyOn s.blk = false → t.blk.pwr.atmaxCnt = 0 ∧ RegsBut [R.PWR_TALLYHL] s.blk t.blk) ∧
      (tallyOn s.blk = true → t.blk.pwr.atmaxCnt = n ∧ (n = 4 → fget t.blk F.PWR_TALLYSTAT_atmax = 1 ∧ fget t.blk F.PWR_EVT_tallymax = 1)) ∧
      (tallyOn s.blk = true → s.blk.pwr.tallyJump = true → vcore t.blk = vcore s.blk) ∧
      (tallyOn s.blk = true → s.blk.pwr.tallyJump = false → fget s.blk F.PWR_TALLYSTAT_holdleft ≠ 0 → vcore t.blk = vcore s.blk ∧
        fget t.blk F.PWR_TALLYSTAT_holdleft = fget s.blk F.PWR_TALLYSTAT_holdleft - 1) ∧
      (tallyOn s.blk = true → pwrState s.blk ≠ 0 → vcore t.blk = vcore s.blk) ∧
      (tallyOn s.blk = true → s.blk.pwr.tallyJump = false → fget s.blk F.PWR_TALLYSTAT_holdleft = 0 → pwrState s.blk = 0 →
        (low = true → fon s.blk F.PWR_STAT_hot = false →
          vcore t.blk = max (vcore s.blk) (min (cf F.PWR_TALLYCFG_vmax) (vcore s.blk + cf F.PWR_TALLYCFG_step))) ∧
        (low = true → fon s.blk F.PWR_STAT_hot = true →
          vcore t.blk = max (vcore s.blk) (min (min 800 (cf F.PWR_TALLYCFG_vmax)) (vcore s.blk + cf F.PWR_TALLYCFG_step))) ∧
        (low = false → high = true →
          vcore t.blk = min (vcore s.blk) (max (cf F.PWR_TALLYCFG_vmin) (vcore s.blk - cf F.PWR_TALLYCFG_step))) ∧
        (low = false → high = false → vcore t.blk = vcore s.blk)))) ∧
  (∀ (rqid v : Nat) (s : State), coreRuns s.blk rqid = true → rqid < 1024 → v < 2 ^ 32 → mayWrite s.blk rqid R.PWR_TALLYCTL →
    ((bitsOf v 27 16 < 720 ∨ 900 < bitsOf v 27 16) →
      exec (.pwrTallyctlWrite rqid v) s = .next { s with blk := { s.blk with out := [], resp := ⟨.ok, 0⟩ } }) ∧
    (720 ≤ bitsOf v 27 16 → bitsOf v 27 16 ≤ 900 →
      ∃ t, exec (.pwrTallyctlWrite rqid v) s = .next t ∧ t.pending = s.pending ∧ t.blk.resp = ⟨.ok, 0⟩ ∧
        fget t.blk F.PWR_TALLYCTL_vset = bitsOf v 27 16 ∧ fget t.blk F.PWR_TALLYCTL_mode = bitsOf v 0 0 ∧
        RegsOnly [R.PWR_TALLYCTL, R.PWR_TALLYSTAT] s.blk t.blk ∧
        (pwrState s.blk = 0 → fon s.blk F.SCH_STAT_run = true → bitOf v 0 = false →
          vcore t.blk = bitsOf v 27 16 ∧ fget t.blk F.PWR_TALLYSTAT_active = 0) ∧
        (pwrState s.blk = 0 → fon s.blk F.SCH_STAT_run = true → bitOf v 0 = true →
          vcore t.blk = vcore s.blk ∧ fget t.blk F.PWR_TALLYSTAT_active = 1) ∧
        (pwrState s.blk = 0 → fon s.blk F.SCH_STAT_run = false → vcore t.blk = 800) ∧ (pwrState s.blk = 1 → vcore t.blk = vcore s.blk)))


/-! ### Tables -/

/-- R293, R359, R417, R448, R477, R506, R548, R574, R596: TREAD shows the entry that TIDX names, of the table that the command names, in
the TDATA words, a word that the table does not have as 0, and changes no other register, no table and no memory; an index beyond the
table ends it with code 0x12 and shows nothing. -/
def Obligations.TreadShowsTheEntry : Prop :=
  ∀ (rqid : Nat) (s : State),
    (let reads (c : Instr) (p : Nat) (data : Nat → Nat) (n size i : Nat) (word : Nat → Nat) : Prop := cmdFree s.blk rqid p →
        (i < size → ∃ t, exec c s = .next t ∧ t.pending = s.pending ∧ answered s.blk t.blk (pg p 0x2C) 0 ∧
          (∀ w, w < n → rd t.blk (data w) = word w) ∧ RegsOnly (pg p 0x2C :: (List.range n).map data) s.blk t.blk) ∧
        (size ≤ i → ∃ t, exec c s = .next t ∧ t.pending = s.pending ∧ answered s.blk t.blk (pg p 0x2C) 0x12 ∧ RegsOnly [pg p 0x2C] s.blk t.blk)
     let b := s.blk
     let pub := rd b R.PUB_TIDX
     let svi := rd b R.SVI_TIDX
     let sch := rd b R.SCH_TIDX
     let lgr := rd b R.LGR_TIDX
     let mtr := fget b F.MTR_TIDX_idx
     let fld := fget b F.FLD_TIDX_idx
     let phe := fget b F.PHE_TIDX_idx
     let upto (m : Nat) (f : Nat → Nat) (w : Nat) : Nat := if w < m then f w else 0
     reads (.pubTread rqid 0) 0x34 R.PUB_TDATA 128 352 pub (fun w => tshd b 0x34 0 pub w) ∧
     reads (.pubTread rqid 1) 0x34 R.PUB_TDATA 128 352 pub (fun w => tact b 0x34 0 pub w) ∧
     reads (.pubTread rqid 2) 0x34 R.PUB_TDATA 128 353 pub (upto 8 fun w => tget b (tkey 0x34 2 pub w)) ∧
     reads (.pubTread rqid 3) 0x34 R.PUB_TDATA 128 1025 pub (upto 16 fun w => tget b (tkey 0x34 3 pub w)) ∧
     reads (.sviTread rqid 0) 0x28 R.SVI_TDATA 32 512 svi (upto 16 fun w => tshd b 0x28 0 svi w) ∧
     reads (.sviTread rqid 1) 0x28 R.SVI_TDATA 32 512 svi (upto 16 fun w => tact b 0x28 0 svi w) ∧
     reads (.sviTread rqid 2) 0x28 R.SVI_TDATA 32 1024 svi (fun w => tshd b 0x28 2 svi w) ∧
     reads (.sviTread rqid 3) 0x28 R.SVI_TDATA 32 1024 svi (fun w => tact b 0x28 2 svi w) ∧
     reads (.sviTread rqid 4) 0x28 R.SVI_TDATA 32 512 svi (upto 16 fun w => tget b (tkey 0x28 4 svi w)) ∧
     reads (.sviTread rqid 5) 0x28 R.SVI_TDATA 32 1024 svi (upto 16 fun w => tget b (tkey 0x28 5 svi w)) ∧
     reads (.schTread rqid 0) 0x30 R.SCH_TDATA 16 1024 sch (upto 4 fun w => tshd b 0x30 0 sch w) ∧
     reads (.schTread rqid 1) 0x30 R.SCH_TDATA 16 1024 sch (upto 4 fun w => tact b 0x30 0 sch w) ∧
     reads (.schTread rqid 2) 0x30 R.SCH_TDATA 16 1024 sch (fun w => tshd b 0x30 2 sch w) ∧
     reads (.schTread rqid 3) 0x30 R.SCH_TDATA 16 1024 sch (fun w => tact b 0x30 2 sch w) ∧
     reads (.schTread rqid 4) 0x30 R.SCH_TDATA 16 1024 sch (upto 8 fun w => tget b (tkey 0x30 4 sch w)) ∧
     reads (.lgrTread rqid 0) 0x3C R.LGR_TDATA 16 256 lgr (fun w => tshd b 0x3C 0 lgr w) ∧
     reads (.lgrTread rqid 1) 0x3C R.LGR_TDATA 16 256 lgr (fun w => tact b 0x3C 0 lgr w) ∧
     reads (.lgrTread rqid 2) 0x3C R.LGR_TDATA 16 1024 lgr (upto 4 fun w => tshd b 0x3C 2 lgr w) ∧
     reads (.lgrTread rqid 3) 0x3C R.LGR_TDATA 16 1024 lgr (upto 4 fun w => tact b 0x3C 2 lgr w) ∧
     reads (.lgrTread rqid 4) 0x3C R.LGR_TDATA 16 4096 lgr (upto 4 fun w => tget b (tkey 0x3C 4 lgr w)) ∧
     reads (.lgrTread rqid 5) 0x3C R.LGR_TDATA 16 256 lgr (upto 8 fun w => tget b (tkey 0x3C 5 lgr w)) ∧
     reads (.mtrTread rqid 0) 0x3E R.MTR_TDATA 16 128 mtr (fun w => tshd b 0x3E 0 mtr w) ∧
     reads (.mtrTread rqid 1) 0x3E R.MTR_TDATA 16 128 mtr (fun w => tact b 0x3E 0 mtr w) ∧
     reads (.mtrTread rqid 2) 0x3E R.MTR_TDATA 16 128 mtr (fun w => tget b (tkey 0x3E 2 mtr w)) ∧
     reads (.mtrTread rqid 3) 0x3E R.MTR_TDATA 16 32 mtr (fun w => (b.mtr.recs.getD mtr []).getD w 0 % 2 ^ 32) ∧
     reads (.fldTread rqid 0) 0x39 R.FLD_TDATA 8 (fld + 1) fld (fun w => tshd b 0x39 0 fld w) ∧
     reads (.fldTread rqid 1) 0x39 R.FLD_TDATA 8 (fld + 1) fld (fun w => tact b 0x39 0 fld w) ∧
     reads (.pheTread rqid none 0) 0x2C R.PHE_TDATA 8 (phe + 1) phe (fun w => mnat b (jobAddr false phe + 4 * w) 4) ∧
     reads (.pheTread rqid none 1) 0x2C R.PHE_TDATA 8 (phe + 1) phe (fun w => mnat b (jobAddr true phe + 4 * w) 4))

/-- R118, R293, R359, R448, R506, R548, R574, R596: TWRITE writes the TDATA words, without the bits that the entry does not keep, to the
shadow copy of the entry that TIDX names and marks the page's DIRTY; the active copy, every other table word and every other register stand.
While CFGLOCK is set it ends with code 0x10 and ERR.locked, and from a SWAP's acceptance until it is applied, and during a copy-back, with
code 0x10 and ERR.pendwr, and writes nothing. -/
def Obligations.TwriteWritesTheShadow : Prop :=
  ∀ (rqid : Nat) (s : State),
    (let writes (c : Instr) (p tab : Nat) (data : Nat → Nat) (n size i : Nat) (mask : Nat → Nat) : Prop := cmdFree s.blk rqid p →
        (cfgLocked s.blk p = false → shadowsFrozen s.blk = false → i < size → ∃ t, exec c s = .next t ∧ t.pending = s.pending ∧
          answered s.blk t.blk (pg p 0x2C) 0 ∧ (∀ w, w < n → tshd t.blk p tab i w = rd s.blk (data w) &&& mask w) ∧
          (∀ k, (∀ w, w < n → k ≠ tkey p tab i w + if p ∈ s.blk.bankB then 0 else copyB) → tget t.blk k = tget s.blk k) ∧
          rd t.blk (pg p 0x20) = rd s.blk (pg p 0x20) ||| 1 ∧ RegsBut [pg p 0x2C, pg p 0x20] s.blk t.blk ∧ (∀ a, mget t.blk a = mget s.blk a) ∧
          t.blk = { s.blk with regs := t.blk.regs, tabs := t.blk.tabs, out := t.blk.out, resp := t.blk.resp }) ∧
        (cfgLocked s.blk p = true → ∃ t, exec c s = .next t ∧ t.pending = s.pending ∧ answered s.blk t.blk (pg p 0x2C) 0x10 ∧
          (rd t.blk (pg p 0x18)).testBit 30 = true ∧ RegsOnly [pg p 0x2C, pg p 0x18, pg p 0x1C] s.blk t.blk) ∧
        (cfgLocked s.blk p = false → shadowsFrozen s.blk = true → ∃ t, exec c s = .next t ∧ t.pending = s.pending ∧
          answered s.blk t.blk (pg p 0x2C) 0x10 ∧ (rd t.blk (pg p 0x18)).testBit 29 = true ∧
          RegsOnly [pg p 0x2C, pg p 0x18, pg p 0x1C] s.blk t.blk)
     let b := s.blk
     writes (.pubTwrite rqid 0) 0x34 0 R.PUB_TDATA 128 352 (rd b R.PUB_TIDX) pubMask ∧
     writes (.sviTwrite rqid 0) 0x28 0 R.SVI_TDATA 16 512 (rd b R.SVI_TIDX) strWr ∧
     writes (.sviTwrite rqid 2) 0x28 2 R.SVI_TDATA 32 1024 (rd b R.SVI_TIDX) gooWr ∧
     writes (.schTwrite rqid 0) 0x30 0 R.SCH_TDATA 4 1024 (rd b R.SCH_TIDX) winMask ∧
     writes (.schTwrite rqid 2) 0x30 2 R.SCH_TDATA 16 1024 (rd b R.SCH_TIDX) taskMask ∧
     writes (.lgrTwrite rqid 0) 0x3C 0 R.LGR_TDATA 16 256 (rd b R.LGR_TIDX) lgrMask ∧
     writes (.lgrTwrite rqid 2) 0x3C 2 R.LGR_TDATA 4 1024 (rd b R.LGR_TIDX) forceMask ∧
     writes (.mtrTwrite rqid 0) 0x3E 0 R.MTR_TDATA 16 128 (fget b F.MTR_TIDX_idx) mtrMask ∧
     writes (.fldTwrite rqid 0) 0x39 0 R.FLD_TDATA 8 (fget b F.FLD_TIDX_idx + 1) (fget b F.FLD_TIDX_idx) expWr)

/-- R293, R359, R417, R448, R477, R506, R548, R574, R596: a TWRITE of a table that only hardware writes, an active copy among them, ends with
code 0x11 and changes nothing else; a table that the page does not have ends a TREAD and a TWRITE with code 0x12. -/
def Obligations.TablesThatCommandsDoNotWrite : Prop :=
  ∀ (rqid x : Nat) (s : State), x < 16 →
    (let ends (c : Instr) (p code : Nat) : Prop := cmdFree s.blk rqid p →
        ∃ t, exec c s = .next t ∧ t.pending = s.pending ∧ answered s.blk t.blk (pg p 0x2C) code ∧ RegsOnly [pg p 0x2C] s.blk t.blk
     let barred (c : Nat → Instr) (p : Nat) (l : List Nat) (n : Nat) : Prop := (x ∈ l → ends (c x) p 0x11) ∧ (n ≤ x → ends (c x) p 0x12)
     barred (.pubTwrite rqid) 0x34 [1, 2, 3] 4 ∧ barred (.sviTwrite rqid) 0x28 [1, 3, 4, 5] 6 ∧ barred (.schTwrite rqid) 0x30 [1, 3, 4] 5 ∧
     barred (.lgrTwrite rqid) 0x3C [1, 3, 4, 5] 6 ∧ barred (.mtrTwrite rqid) 0x3E [1, 2, 3] 4 ∧ barred (.fldTwrite rqid) 0x39 [1] 2 ∧
     barred (.swcTwrite rqid) 0x20 [1, 4] 5 ∧ barred (.vimTwrite rqid) 0x31 [1, 3, 5, 7] 8 ∧ barred (.pheTwrite rqid none) 0x2C [1] 2 ∧
     barred (.pubTread rqid) 0x34 [] 4 ∧ barred (.sviTread rqid) 0x28 [] 6 ∧ barred (.schTread rqid) 0x30 [] 5 ∧
     barred (.lgrTread rqid) 0x3C [] 6 ∧ barred (.mtrTread rqid) 0x3E [] 4 ∧ barred (.fldTread rqid) 0x39 [] 2 ∧
     barred (.swcTread rqid) 0x20 [] 5 ∧ barred (.vimTread rqid) 0x31 [] 8 ∧ barred (.pheTread rqid none) 0x2C [] 2)

/-- R293, R294: the switch core's tables. TREAD of a VLAN, a filter or a forwarding slot shows its words; TWRITE of a VLAN or a filter writes
its shadow; TWRITE of a forwarding entry that exists replaces it in its slot, and with valid 0 deletes it, TIDX naming the slot; FLUSH removes
every learned entry, or those of one VID, and no static one. -/
def Obligations.SwitchTables : Prop :=
  ∀ (rqid : Nat) (s : State), cmdFree s.blk rqid 0x20 →
    (let k := fget s.blk F.SWC_TIDX_idx
     let d (i : Nat) : Nat := rd s.blk (R.SWC_TDATA i)
     let key := d 0 + d 1 % 65536 * 2 ^ 32
     let shows (c : Instr) (word : Nat → Nat) : Prop := ∃ t, exec c s = .next t ∧ t.pending = s.pending ∧ answered s.blk t.blk (pg 0x20 0x2C) 0 ∧
        (∀ w, w < 4 → rd t.blk (R.SWC_TDATA w) = word w) ∧ RegsOnly (pg 0x20 0x2C :: (List.range 4).map R.SWC_TDATA) s.blk t.blk
     let writes (c : Instr) (tab n : Nat) (mask : Nat → Nat) : Prop := ∃ t, exec c s = .next t ∧ t.pending = s.pending ∧
        answered s.blk t.blk (pg 0x20 0x2C) 0 ∧ (∀ w, w < n → tshd t.blk 0x20 tab k w = d w &&& mask w) ∧
        (∀ x, (∀ w, w < n → x ≠ tkey 0x20 tab k w + if 0x20 ∈ s.blk.bankB then 0 else copyB) → tget t.blk x = tget s.blk x) ∧
        rd t.blk (pg 0x20 0x20) = rd s.blk (pg 0x20 0x20) ||| 1 ∧ RegsBut [pg 0x20 0x2C, pg 0x20 0x20] s.blk t.blk
     let onlyFdb (c : Instr) (l : List (Nat × FdbEnt)) (regs : List Nat) (idx : Nat) : Prop := ∃ t, exec c s = .next t ∧ t.pending = s.pending ∧
        answered s.blk t.blk (pg 0x20 0x2C) 0 ∧ t.blk = { s.blk with regs := t.blk.regs, out := t.blk.out, resp := t.blk.resp, net := t.blk.net } ∧
        t.blk.net = { s.blk.net with fdb := l } ∧ fget t.blk F.SWC_TIDX_idx = idx ∧ RegsBut (pg 0x20 0x2C :: regs) s.blk t.blk ∧ SameMem s.blk t.blk
     (1 ≤ k → k < 4095 → shows (.swcTread rqid 0) (fun w => if w < 2 then tshd s.blk 0x20 0 k w else 0)) ∧
     (1 ≤ k → k < 4095 → shows (.swcTread rqid 1) (fun w => if w < 2 then tact s.blk 0x20 0 k w else 0)) ∧
     (fdbAt s.blk k = none → shows (.swcTread rqid 2) (fun _ => 0)) ∧
     (k < 512 → shows (.swcTread rqid 3) (fun w => if w < 3 then tshd s.blk 0x20 3 k w else tshd s.blk 0x20 3 k 3 % 65536)) ∧
     (cfgLocked s.blk 0x20 = false → shadowsFrozen s.blk = false → 1 ≤ k → k < 4095 →
       writes (.swcTwrite rqid 0) 0 2 (fun w => if w = 0 then 0xFFFF7FFF else 0xF)) ∧
     (cfgLocked s.blk 0x20 = false → shadowsFrozen s.blk = false → k < 512 →
       writes (.swcTwrite rqid 3) 3 4 (fun w => ([0xFFFFFFFF, 0x8FFFFFFF, 0x0FFF7FFF, 0xFFFF] : List Nat).getD w 0)) ∧
     (∀ slot e, cfgLocked s.blk 0x20 = false → fdbFind s.blk (bitsOf (d 1) 27 16) key = some (slot, e) → slot < 16384 → bitOf (d 1) 31 = true →
       onlyFdb (.swcTwrite rqid 2) ((slot, ⟨key, bitsOf (d 1) 27 16, d 2 % 2 ^ 15, bitOf (d 2) 16, ns s.blk⟩) ::
         s.blk.net.fdb.filter (fun x => x.1 != slot)) [R.SWC_TIDX] slot) ∧
     (∀ slot e, cfgLocked s.blk 0x20 = false → fdbFind s.blk (bitsOf (d 1) 27 16) key = some (slot, e) → slot < 16384 → bitOf (d 1) 31 = false →
       onlyFdb (.swcTwrite rqid 2) (s.blk.net.fdb.filter (fun x => x.1 != slot)) [R.SWC_TIDX] slot) ∧
     (∀ v, v < 4096 → onlyFdb (.swcFlush rqid v) (s.blk.net.fdb.filter (fun e => e.2.static || (v != 0 && e.2.vid != v))) [] k))

/-- R417, R420, R477: the tables of shares and of jobs. TREAD of an instance's share shows the share's copy that commands read (the shadow of
an even table, the active copy of an odd one); TWRITE of an even table writes the copy that the next share installs. TREAD and TWRITE of a
job slot reach the phasor engine's memory, and through a sub-page only the slots of the instance's share: another slot ends TREAD with
code 0x11. -/
def Obligations.ShareAndJobTables : Prop :=
  ∀ (rqid : Nat) (s : State),
    (let k := fget s.blk F.VIM_TIDX_idx
     (∀ t, t < 4 → k < vimSize t → cmdFree s.blk rqid 0x31 → ∃ u, exec (.vimTread rqid t) s = .next u ∧ u.pending = s.pending ∧
        answered s.blk u.blk (pg 0x31 0x2C) 0 ∧
        (∀ w, w < 16 → rd u.blk (R.VIM_TDATA w) = tget s.blk (vimKey t k w + if s.blk.shareB == (t % 2 == 1) then copyB else 0)) ∧
        RegsOnly (pg 0x31 0x2C :: (List.range 16).map R.VIM_TDATA) s.blk u.blk) ∧
     (∀ t, t < 4 → t % 2 = 0 → k < vimSize t → cmdFree s.blk rqid 0x31 → cfgLocked s.blk 0x31 = false → s.blk.vim.pend = none → s.blk.vim.ask = none →
        ∃ u, exec (.vimTwrite rqid t) s = .next u ∧ u.pending = s.pending ∧ answered s.blk u.blk (pg 0x31 0x2C) 0 ∧
        (∀ w, w < 16 → tget u.blk (vimKey t k w + if s.blk.shareB then 0 else copyB) = rd s.blk (R.VIM_TDATA w) &&& vimMask t w) ∧
        (∀ x, (∀ w, w < 16 → x ≠ vimKey t k w + if s.blk.shareB then 0 else copyB) → tget u.blk x = tget s.blk x) ∧
        RegsBut [pg 0x31 0x2C] s.blk u.blk) ∧
     (let j := fget s.blk F.PHE_TIDX_idx
      160 ≤ j → cmdFree s.blk rqid 0x2C → cfgLocked s.blk 0x2C = false → shadowsFrozen s.blk = false → slotOwner s.blk j = none →
        ∃ u, exec (.pheTwrite rqid none 0) s = .next u ∧ u.pending = s.pending ∧ answered s.blk u.blk (pg 0x2C 0x2C) 0 ∧
        mnat u.blk (jobAddr false j) 4 = rd s.blk (R.PHE_TDATA 0) &&& 0x9FFFFFFF ∧
        (∀ w, 1 ≤ w → w < 8 → mnat u.blk (jobAddr false j + 4 * w) 4 = rd s.blk (R.PHE_TDATA w)) ∧
        (∀ a, a < jobAddr false j ∨ jobAddr false j + 32 ≤ a → mget u.blk a = mget s.blk a) ∧
        rd u.blk (pg 0x2C 0x20) = rd s.blk (pg 0x2C 0x20) ||| 1 ∧ RegsBut [pg 0x2C 0x2C, pg 0x2C 0x20] s.blk u.blk) ∧
     (∀ n, subFree s.blk rqid 0x2C n 0x1F0 0x1F4 →
        (let j := fget s.blk (F.PHE_I_TIDX_idx n)
         (∀ t, t < 2 → slotOwner s.blk j = some n → ∃ u, exec (.pheTread rqid (some n) t) s = .next u ∧ u.pending = s.pending ∧
           answered s.blk u.blk (sp n 0x2C 0x1F4) 0 ∧
           (∀ w, w < 8 → rd u.blk (R.PHE_I_TDATA n w) = mnat s.blk (jobAddr (t == 1) j + 4 * w) 4) ∧
           RegsOnly (sp n 0x2C 0x1F4 :: (List.range 8).map (R.PHE_I_TDATA n)) s.blk u.blk) ∧
         (∀ t, t < 2 → slotOwner s.blk j ≠ some n → ∃ u, exec (.pheTread rqid (some n) t) s = .next u ∧ u.pending = s.pending ∧
           answered s.blk u.blk (sp n 0x2C 0x1F4) 0x11 ∧ RegsOnly [sp n 0x2C 0x1F4] s.blk u.blk) ∧
         (slotOwner s.blk j = some n → cfgLocked s.blk 0x2C = false → n ∉ s.blk.bnk.instPend → ∃ u, exec (.pheTwrite rqid (some n) 0) s = .next u ∧
           u.pending = s.pending ∧ answered s.blk u.blk (sp n 0x2C 0x1F4) 0 ∧
           mnat u.blk (jobAddr false j) 4 = rd s.blk (R.PHE_I_TDATA n 0) &&& 0x9FFFFFFF ∧
           (∀ w, 1 ≤ w → w < 8 → mnat u.blk (jobAddr false j + 4 * w) 4 = rd s.blk (R.PHE_I_TDATA n w)) ∧
           (∀ a, a < jobAddr false j ∨ jobAddr false j + 32 ≤ a → mget u.blk a = mget s.blk a) ∧ RegsBut [sp n 0x2C 0x1F4] s.blk u.blk))))

/-! ### Memory and accesses -/

/-- R32, R34, R35, R64, R148: a patrol of a memory kind clears the correctable codewords of that kind alone and adds their number to the
kind's counter (one of DDR5 may also mark a device and judge its other words again); one that meets an uncorrectable codeword poisons it and
queues a fault record of kind 4 with requester 0x3FF; DDR5 in self-refresh is not patrolled. R76: a flash patrol moves a block with a sector of
12 corrected bits or more, or that is two years old, to its spare block, and of the image slots A and B only one in a pass. -/
def Obligations.PatrolsMendMemory : Prop :=
  ∀ s : State, running s.blk = true →
    (let cnt (kind : Nat) : Nat := if kind = 1 then R.MEM_CEDDR else if kind = 2 then R.MEM_CEMRAM else R.MEM_CESRAM
     (∀ kind, (kind = 0 ∨ kind = 2) → ofKind kind s.blk.uncorr = [] → ∃ t, exec (.memoryPatrol kind []) s = .next t ∧ t.pending = s.pending ∧
      t.blk.corr = s.blk.corr.filter (fun c => memKind c != kind) ∧ t.blk.uncorr = s.blk.uncorr ∧ t.blk.poisoned = s.blk.poisoned ∧
      rd t.blk (cnt kind) = min 0xFFFFFFFF (rd s.blk (cnt kind) + (ofKind kind s.blk.corr).length) ∧ RegsButEv [cnt kind] s.blk t.blk ∧
      SameMem s.blk t.blk) ∧
     (pwrState s.blk ≠ 2 → ∃ t, exec (.memoryPatrol 1 []) s = .next t ∧ t.pending = s.pending ∧ (∀ c ∈ ofKind 1 s.blk.corr, c ∉ t.blk.corr) ∧
      rd t.blk (cnt 1) = min 0xFFFFFFFF (rd s.blk (cnt 1) + (ofKind 1 s.blk.corr).length) ∧
      RegsButEv [cnt 1, R.MEM_DEVMARK, R.MEM_FLTOVF] s.blk t.blk ∧ SameMem s.blk t.blk)) ∧
    (pwrState s.blk = 2 → exec (.memoryPatrol 1 []) s = .next { s with blk := { s.blk with out := [] } }) ∧
    (∀ kind c, kind < 3 → (kind = 1 → pwrState s.blk ≠ 2) → s.blk.uncorr = [c] → memKind c = kind → (cwOf c).1 = c → c ∉ s.blk.poisoned →
      s.blk.corr = [] → s.blk.memFifo.length < 32 →
      ∃ t, exec (.memoryPatrol kind []) s = .next t ∧ t.pending = s.pending ∧ t.blk.uncorr = [] ∧ t.blk.poisoned = c :: s.blk.poisoned ∧
      t.blk.memFifo = s.blk.memFifo ++ [⟨c, 4, kind, 0, 0x3FF, fast s.blk⟩] ∧ RegsButEv [] s.blk t.blk ∧ SameMem s.blk t.blk) ∧
    (∀ x : FlashBlk, x.slot = none → ∃ t, exec (.flashPatrol [x]) s = .next t ∧ t.pending = s.pending ∧
      t.blk = { s.blk with out := [], remap := t.blk.remap } ∧
      sget (fun i => i) t.blk.remap x.block = (if 12 ≤ x.bits ∨ x.old = true then x.spare else sget (fun i => i) s.blk.remap x.block) ∧
      ∀ i, i ≠ x.block → sget (fun i => i) t.blk.remap i = sget (fun i => i) s.blk.remap i) ∧
    (∀ x y : FlashBlk, x.slot = some 0 → y.slot = some 1 → x.old = true → y.old = true → x.block ≠ y.block →
      ∃ t, exec (.flashPatrol [x, y]) s = .next t ∧ t.pending = s.pending ∧ sget (fun i => i) t.blk.remap x.block = x.spare ∧
      sget (fun i => i) t.blk.remap y.block = sget (fun i => i) s.blk.remap y.block)

/-- R31, R33, R35, R149, R220: MEM_CMD POP discards the head of the fault FIFO; INJECT is refused with code 0x11 unless debug with bit 3 of its
scope is open, and with 0x12 outside memory or of nothing, and else poisons the codeword at MEM_INJADDR, or adds its symbol errors to a good
one: one or two leave a correctable error, three an uncorrectable one outside DDR5 and a correctable one in DDR5. A poisoned codeword stays
poisoned. -/
def Obligations.MemPopAndInject : Prop :=
  ∀ (rqid : Nat) (s : State), cmdFree s.blk rqid 0x42 →
    (∃ t, exec (.memPop rqid) s = .next t ∧ t.pending = s.pending ∧ answered s.blk t.blk (pg 0x42 0x2C) 0 ∧
      t.blk = { s.blk with regs := t.blk.regs, out := t.blk.out, resp := t.blk.resp, memFifo := s.blk.memFifo.drop 1 } ∧
      RegsBut [pg 0x42 0x2C] s.blk t.blk) ∧
    (∀ n pz, n < 4 → debugMay s.blk 3 = false → ∃ t, exec (.memInject rqid n pz) s = .next t ∧ t.pending = s.pending ∧
      answered s.blk t.blk (pg 0x42 0x2C) 0x11 ∧ RegsOnly [pg 0x42 0x2C] s.blk t.blk) ∧
    (let a := fget s.blk F.MEM_INJADDR_LO_addr + fget s.blk F.MEM_INJADDR_HI_addr * 2 ^ 32
     let c := (cwOf a).1
     debugMay s.blk 3 = true →
      (∀ n pz, n < 4 → (∀ m, targetOf s.blk.part a ≠ .mem m) → ∃ t, exec (.memInject rqid n pz) s = .next t ∧ t.pending = s.pending ∧
        answered s.blk t.blk (pg 0x42 0x2C) 0x12 ∧ RegsOnly [pg 0x42 0x2C] s.blk t.blk) ∧
      ∀ m, targetOf s.blk.part a = .mem m →
       (∀ n, n < 4 → ∃ t, exec (.memInject rqid n true) s = .next t ∧ t.pending = s.pending ∧ answered s.blk t.blk (pg 0x42 0x2C) 0 ∧
         c ∈ t.blk.poisoned ∧ RegsBut [pg 0x42 0x2C] s.blk t.blk ∧ SameMem s.blk t.blk) ∧
       (∃ t, exec (.memInject rqid 0 false) s = .next t ∧ t.pending = s.pending ∧ answered s.blk t.blk (pg 0x42 0x2C) 0x12 ∧
         RegsOnly [pg 0x42 0x2C] s.blk t.blk) ∧
       (∀ n, 1 ≤ n → n < 4 → c ∈ s.blk.poisoned → ∃ t, exec (.memInject rqid n false) s = .next t ∧ t.pending = s.pending ∧
         answered s.blk t.blk (pg 0x42 0x2C) 0 ∧ RegsOnly [pg 0x42 0x2C] s.blk t.blk) ∧
       (∀ n, 1 ≤ n → n < 4 → c ∉ s.blk.poisoned → c ∉ s.blk.uncorr → s.blk.errs.find? (fun e => e.addr == c) = none →
         ∃ t, exec (.memInject rqid n false) s = .next t ∧ t.pending = s.pending ∧ answered s.blk t.blk (pg 0x42 0x2C) 0 ∧
         (if n = 3 ∧ memKind c ≠ 1 then c ∈ t.blk.uncorr ∧ c ∉ t.blk.corr else c ∈ t.blk.corr ∧ c ∉ t.blk.uncorr) ∧ c ∉ t.blk.poisoned ∧
         (∀ x, x ≠ c → (x ∈ t.blk.uncorr ↔ x ∈ s.blk.uncorr) ∧ (x ∈ t.blk.corr ↔ x ∈ s.blk.corr)) ∧
         RegsBut [pg 0x42 0x2C] s.blk t.blk ∧ SameMem s.blk t.blk))

/-- R8: every register of an absent block page and of its instance sub-pages reads 0, and every write to one is ignored; neither raises an
access fault. -/
def Obligations.AbsentPagesReadZero : Prop :=
  ∀ (rqid a v p o n : Nat) (s : State), rqid < 1024 → a < 2 ^ 40 → v < 2 ^ 32 → a % 4 = 0 → coreRuns s.blk rqid = true → absentPage s.blk.part p = true →
    (targetOf s.blk.part a = .page p o ∨ targetOf s.blk.part a = .sub p n o) →
    (∃ t, exec (.loRegisterRead rqid a) s = .next t ∧ t.pending = s.pending ∧ t.blk.resp.data = 0 ∧
      t.blk = { s.blk with out := [], resp := t.blk.resp }) ∧
    (∃ t, exec (.registerWrite rqid a v) s = .next t ∧ t.pending = s.pending ∧ t.blk = { s.blk with out := [], resp := t.blk.resp })

/-- R129: an access to aperture n with an instance RQID is denied unless the RQID is n, whatever the table grants: it reads 0 and changes nothing
but fault and error records and events. -/
def Obligations.ForeignAperturesAreDenied : Prop :=
  ∀ (rqid n p o v : Nat) (s : State), rqid < 64 → n < 64 → rqid ≠ n → p ∈ subPages → o < 0x1000 → o % 4 = 0 → v < 2 ^ 32 → coreRuns s.blk rqid = true →
    absentPage s.blk.part p = false →
    (let denied (c : Instr) : Prop := ∃ t, exec c s = .next t ∧ t.pending = s.pending ∧ t.blk.resp = ⟨.denied, 0⟩ ∧
       t.blk = { s.blk with regs := t.blk.regs, out := [], resp := t.blk.resp, evr := t.blk.evr, elg := t.blk.elg, actFifo := t.blk.actFifo } ∧
       (∀ a, a ≠ R.ACT_FLTOVF → errKey a = false → rd t.blk a = rd s.blk a) ∧ SameMem s.blk t.blk
     denied (.loRegisterRead rqid (sp n p o)) ∧ denied (.registerWrite rqid (sp n p o) v) ∧ denied (.coreMemoryAccess rqid (sp n p o) (.load 4)))

/-- R104, R106, R108, R127: what a granted access of a register does. A write of EVTEN stores it (of PWR's, its nine event bits, R79); a write of EVT clears the bits written as 1;
a write of LOCK sets lock bits and clears none; an entry's low word is held until its high word is written, and then both are stored, unless
LOCK.act is set; a _LO read shows the register and latches its _HI partner for that requester; any other read shows the register, or what was
latched. -/
def Obligations.RegisterAccess : Prop :=
  ∀ (rqid : Nat) (s : State), rqid < 1024 → coreRuns s.blk rqid = true →
    (∀ p v, p ∈ allPages → v < 2 ^ 32 → mayWrite s.blk rqid (pg p 0x14) → ∃ t, exec (.registerWrite rqid (pg p 0x14) v) s = .next t ∧
      t.pending = s.pending ∧ t.blk.resp = ⟨.ok, 0⟩ ∧ rd t.blk (pg p 0x14) = (if p = 0x01 then v % 512 else v) ∧ RegsOnly [pg p 0x14] s.blk t.blk) ∧
    (∀ p v, p ∈ allPages → p ≠ 0x07 → p ≠ 0x24 → v < 2 ^ 32 → mayWrite s.blk rqid (pg p 0x10) → ∃ t, exec (.registerWrite rqid (pg p 0x10) v) s = .next t ∧
      t.pending = s.pending ∧ (∀ i, (rd t.blk (pg p 0x10)).testBit i = ((rd s.blk (pg p 0x10)).testBit i && !v.testBit i)) ∧
      RegsOnly [pg p 0x10] s.blk t.blk) ∧
    (∀ p v, p ∈ allPages → v < 2 ^ 32 → mayWrite s.blk rqid (pg p 0x24) → ∃ t, exec (.lockWrite rqid p v) s = .next t ∧ t.pending = s.pending ∧
      rd t.blk (pg p 0x24) = rd s.blk (pg p 0x24) ||| v % 4 ∧ RegsOnly [pg p 0x24] s.blk t.blk) ∧
    (∀ p e v w, p ∈ allPages → e < 128 → v < 2 ^ 32 → w < 2 ^ 32 → mayWrite s.blk rqid (pg p 0xF000 + 8 * e) →
      mayWrite s.blk rqid (pg p 0xF000 + 8 * e + 4) → bitOf (rd s.blk (pg p 0x24)) 1 = false →
      ∃ t, exec (.accessEntryWrite rqid (pg p 0xF000 + 8 * e) v) s = .next t ∧ t.pending = s.pending ∧ (∀ a, rd t.blk a = rd s.blk a) ∧
        (t.blk.heldLow.find? (fun x => x.1 == pg p 0xF000 + 8 * e)) = some (pg p 0xF000 + 8 * e, w32 v) ∧ SameMem s.blk t.blk ∧
        ∃ x, exec (.accessEntryWrite rqid (pg p 0xF000 + 8 * e + 4) w) t = .next x ∧ x.pending = s.pending ∧ rd x.blk (pg p 0xF000 + 8 * e) = v ∧
          rd x.blk (pg p 0xF000 + 8 * e + 4) = w ∧ RegsBut [pg p 0xF000 + 8 * e, pg p 0xF000 + 8 * e + 4] s.blk x.blk ∧ SameMem s.blk x.blk) ∧
    (∀ p e v, p ∈ allPages → e < 128 → v < 2 ^ 32 → mayWrite s.blk rqid (pg p 0xF000 + 8 * e) → bitOf (rd s.blk (pg p 0x24)) 1 = true →
      ∃ t, exec (.accessEntryWrite rqid (pg p 0xF000 + 8 * e) v) s = .next t ∧ t.pending = s.pending ∧ (rd t.blk (pg p 0x18)).testBit 30 = true ∧
        RegsOnly [pg p 0x18, pg p 0x1C] s.blk t.blk) ∧
    (∀ a, a < 2 ^ 40 → mayRead s.blk rqid a → isMem s.blk a = false → isLo (targetOf s.blk.part a) = true →
      a ∉ [R.EVR_MQ0, R.EVR_MQ1, R.EVR_SQ0, R.EVR_SQ1, R.TIM_SEC_LO, R.TIM_TXQ0, R.TIM_TXQ1, R.TIM_TXQ2, R.BIO_BINQ0, R.BIO_BINQ1, R.BIO_BINQ2] →
      (let v (x : Nat) : Nat := targetVal s.blk (targetOf s.blk.part x)
       let l := ((rqid, a + 4), w32 (v (a + 4))) :: s.blk.hiLatch.filter (fun e => e.1 != (rqid, a + 4))
       exec (.loRegisterRead rqid a) s = .next { s with blk := { s.blk with out := [], resp := ⟨.ok, v a⟩, hiLatch := l } })) ∧
    (∀ a, a < 2 ^ 40 → mayRead s.blk rqid a → isMem s.blk a = false → isLo (targetOf s.blk.part a) = false →
      a ∉ [R.EVR_MQ0, R.EVR_MQ1, R.EVR_SQ0, R.EVR_SQ1, R.TIM_SEC_LO, R.TIM_TXQ0, R.TIM_TXQ1, R.TIM_TXQ2, R.BIO_BINQ0, R.BIO_BINQ1, R.BIO_BINQ2] →
      s.blk.hiLatch.any (fun e => e.1 == (rqid, a)) = false →
      exec (.loRegisterRead rqid a) s = .next { s with blk := { s.blk with out := [], resp := ⟨.ok, targetVal s.blk (targetOf s.blk.part a)⟩ } })

/-- R20, R95, R104, R128, R621: what a core's granted, aligned access of memory does, where the codewords hold no error. A store of 1, 2, 4 or 8
bytes writes them in little-endian order and no other byte; a load or fetch answers them (an instance sees of the sample ring only its own
channels); a fill of a line does too and puts the line into the caches of the core that runs the instance; a write-back writes the 64 bytes of
a line, whatever error stood there; an atomic answers the old value and stores the new one. A read of a poisoned codeword answers no data and
queues a fault record of kind 2. Outside memory a load or store of 4 bytes is the register's read or write. A CSR reads module time, the
present task's instructions, fast time, its headland or the die speed (that this command carries the CSR reads: the model's choice, log entry
61). -/
def Obligations.CoreMemoryAccess : Prop :=
  ∀ (rqid a n v : Nat) (s : State), rqid < 1024 → a < 2 ^ 40 → n ∈ [1, 2, 4, 8] → coreRuns s.blk rqid = true →
    (let m := s.blk
     let clean (k : Nat) : Prop := ∀ c ∈ cwsOf a k, c ∉ m.poisoned ∧ c ∉ m.uncorr ∧ c ∉ m.corr
     let ok (wd : Width) (need : Need) : Prop := (judge m rqid a wd need).status = .ok
     let ring : Prop := rqid < 64 ∧ 0x1100000000 ≤ a ∧ a ≤ 0x1100FFFFFF
     (isMem m a = true →
      (ok (.word n) Need.write → clean n → ∃ t, exec (.coreMemoryAccess rqid a (.store n v)) s = .next t ∧ t.pending = s.pending ∧
        t.blk.resp = ⟨.ok, 0⟩ ∧ mnat t.blk a n = v % 2 ^ (8 * n) ∧ (∀ x, x < a ∨ a + n ≤ x → mget t.blk x = mget m x) ∧
        (∀ k, tget t.blk k = tget m k) ∧ RegsBut [] m t.blk) ∧
      (ok (.word n) Need.read → clean n → ∃ t, exec (.coreMemoryAccess rqid a (.load n)) s = .next t ∧ t.pending = s.pending ∧
        t.blk.resp = ⟨.ok, leNat (mview m rqid a n)⟩ ∧ (¬ ring → t.blk.resp.data = mnat m a n) ∧ t.blk = { m with out := [], resp := t.blk.resp }) ∧
      (ok (.word n) ⟨false, false, true, false⟩ → clean n → ∃ t, exec (.coreMemoryAccess rqid a (.fetch n)) s = .next t ∧ t.pending = s.pending ∧
        t.blk.resp = ⟨.ok, leNat (mview m rqid a n)⟩ ∧ (¬ ring → t.blk.resp.data = mnat m a n) ∧ t.blk = { m with out := [], resp := t.blk.resp }) ∧
      (∀ f : Bool, ok .line (if f then ⟨false, false, true, false⟩ else Need.read) → clean 64 →
        ∃ t, exec (.coreMemoryAccess rqid a (.fill f)) s = .next t ∧ t.pending = s.pending ∧ t.blk.resp = ⟨.ok, leNat (mview m rqid a 64)⟩ ∧
        (∀ c, coreOfInst m rqid = some c → a ∈ (if f then (schCore t.blk c).icache else (schCore t.blk c).dcache)) ∧
        t.blk = { m with out := [], resp := t.blk.resp, sch := t.blk.sch }) ∧
      (∀ l, l.length = 64 → ok .line Need.write → ∃ t, exec (.coreMemoryAccess rqid a (.writeBack l)) s = .next t ∧ t.pending = s.pending ∧
        t.blk.resp = ⟨.ok, 0⟩ ∧ mread t.blk a 64 = l ∧ (∀ x, x < a ∨ a + 64 ≤ x → mget t.blk x = mget m x) ∧
        (∀ c ∈ cwsOf a 64, c ∉ t.blk.poisoned ∧ c ∉ t.blk.uncorr) ∧ RegsBut [] m t.blk) ∧
      (∀ op, ok (.word n) ⟨true, true, false, true⟩ → clean n → ¬ ring → ∃ t, exec (.coreMemoryAccess rqid a (.amo op n v)) s = .next t ∧
        t.pending = s.pending ∧ t.blk.resp = ⟨.ok, mnat m a n⟩ ∧ mnat t.blk a n = amoVal op n (mnat m a n) v ∧
        (∀ x, x < a ∨ a + n ≤ x → mget t.blk x = mget m x) ∧ RegsBut [] m t.blk) ∧
      (ok (.word n) Need.read → (cwOf a).1 ∈ m.poisoned → m.memFifo.length < 32 → 64 ≤ rqid →
        ∃ t, exec (.coreMemoryAccess rqid a (.load n)) s = .next t ∧ t.pending = s.pending ∧ t.blk.resp = ⟨.poison, 0⟩ ∧
        t.blk.memFifo = m.memFifo ++ [⟨a, 2, memKind a, 1, rqid, fast m⟩] ∧ RegsButEv [] m t.blk ∧ SameMem m t.blk)) ∧
     (isMem m a = false → exec (.coreMemoryAccess rqid a (.load 4)) s = exec (.loRegisterRead rqid a) s ∧
      (v < 2 ^ 32 → exec (.coreMemoryAccess rqid a (.store 4 v)) s = exec (.registerWrite rqid a v) s)) ∧
     (∀ c k, c < 16 →
       (let csr (n x : Nat) : Prop := exec (.coreMemoryAccess rqid a (.csr c n k)) s = .next { s with blk := { m with out := [], resp := ⟨.ok, x⟩ } }
        csr 0xC01 (ns m) ∧ csr 0xC00 (ns m) ∧ csr 0xCC0 (fast m) ∧ csr 0xCC2 (fget m F.PWR_TALLYSPD_min) ∧
        (∀ r, (schCore m c).cur = some r → csr 0xC02 ((schTask m r.snap.task).instret + k) ∧
          csr 0xCC1 (if r.cls = 2 then 0x7FFFFFFF else uInt 32 ((r.dl : Int) - (ns m : Int)))))))

/-- R107: a command code that a page does not have ends with code 0x12 and does nothing. R141: ACT_CMD POP discards the head of the fault FIFO;
LOOKUP writes ACT_QRES with the outcome, target, region and permission of the access that ACT_QADDR and ACT_QRQID name, and makes no access. -/
def Obligations.UnknownCommandsAndAct : Prop :=
  ∀ (rqid : Nat) (s : State),
    (∀ p v, p < 256 → v < 2 ^ 32 → pageCommand rqid p v = none → cmdFree s.blk rqid p → ∃ t, exec (.unknownCommand rqid p v) s = .next t ∧
      t.pending = s.pending ∧ answered s.blk t.blk (pg p 0x2C) 0x12 ∧ RegsOnly [pg p 0x2C] s.blk t.blk) ∧
    (cmdFree s.blk rqid 0x06 → ∃ t, exec (.actPop rqid) s = .next t ∧ t.pending = s.pending ∧ answered s.blk t.blk (pg 0x06 0x2C) 0 ∧
      t.blk = { s.blk with regs := t.blk.regs, out := t.blk.out, resp := t.blk.resp, actFifo := s.blk.actFifo.drop 1 } ∧
      RegsBut [pg 0x06 0x2C] s.blk t.blk) ∧
    (∀ op, op < 16 → cmdFree s.blk rqid 0x06 → ∃ t, exec (.actLookup rqid op) s = .next t ∧ t.pending = s.pending ∧
      answered s.blk t.blk (pg 0x06 0x2C) 0 ∧ RegsOnly [pg 0x06 0x2C, R.ACT_QRES] s.blk t.blk ∧
      (let a := rd s.blk R.ACT_QADDR_LO + fget s.blk F.ACT_QADDR_HI_addr * 2 ^ 32
       let need : Need := if op = 0 then Need.read else ⟨bitOf op 0 || bitOf op 3, bitOf op 1 || bitOf op 3, bitOf op 2, bitOf op 3⟩
       let st := if isMem s.blk a = true then (judge s.blk (fget s.blk F.ACT_QRQID_rqid) a (.word 1) need).status
         else (judge s.blk (fget s.blk F.ACT_QRQID_rqid) (a / 4 * 4) (.word 4) need).status
       rd t.blk R.ACT_QRES / 2 ^ 30 = (match st with | .ok => 1 | .absent => 2 | .address => 3 | _ => 0) ∧
       (targetOf s.blk.part a = .unmapped → rd t.blk R.ACT_QRES / 2 ^ 30 = 3)))

/-! ### Events and banks -/

/-- R106, R136, R137: an event sets its EVT bit; with its EVTEN bit clear nothing else happens; with it set, the event joins the queue its
route names (of the manager, by priority, or of the SPK), or sets the vector of the instance it names, and with the route's `rec` bit a copy
joins the recorder's queue. An event number of no present block does nothing. -/
def Obligations.EventsReachTheirRoute : Prop :=
  ∀ (ev : Nat) (pl : List Byte) (s : State), ev < 1024 → running s.blk = true →
    (evLoc ev = none → exec (.eventAssert ev pl) s = .next { s with blk := { s.blk with out := [] } }) ∧
    ∀ p off, evLoc ev = some (p, off) → p < 256 →
      (absentPage s.blk.part p = true → exec (.eventAssert ev pl) s = .next { s with blk := { s.blk with out := [] } }) ∧
      (absentPage s.blk.part p = false → off < 32 →
        (let e := pg p 0x10
         let b := s.blk
         let r := rd b (R.EVR_ROUTE ev)
         let set (t : State) : Prop := t.pending = s.pending ∧ rd t.blk e = rd b e ||| 2 ^ off ∧ SameMem b t.blk
         (bitOf (rd b (pg p 0x14)) off = false → ∃ t, exec (.eventAssert ev pl) s = .next t ∧ set t ∧ t.blk = { b with regs := t.blk.regs, out := [] } ∧
           RegsBut [e] b t.blk) ∧
         (bitOf (rd b (pg p 0x14)) off = true → bitOf r 31 = false → bitsOf r 17 16 = 0 → ∃ t, exec (.eventAssert ev pl) s = .next t ∧ set t ∧
           t.blk = { b with regs := t.blk.regs, out := [] } ∧ RegsBut [e] b t.blk) ∧
         (bitOf (rd b (pg p 0x14)) off = true → bitOf r 31 = false → bitsOf r 17 16 = 1 →
           (b.evr.mq.filter (fun x => x.prio == bitsOf r 30 28)).length < 32 → ∃ t, exec (.eventAssert ev pl) s = .next t ∧ set t ∧
           t.blk.evr = { b.evr with mq := b.evr.mq ++ [⟨b.evr.nextId, fast b, bitsOf r 30 28, ev⟩], nextId := b.evr.nextId + 1 } ∧
           t.blk = { b with regs := t.blk.regs, out := [], evr := t.blk.evr } ∧ RegsBut [e] b t.blk) ∧
         (bitOf (rd b (pg p 0x14)) off = true → bitOf r 31 = false → bitsOf r 17 16 = 2 → b.evr.sq.length < 64 →
           ∃ t, exec (.eventAssert ev pl) s = .next t ∧ set t ∧
           t.blk.evr = { b.evr with sq := b.evr.sq ++ [⟨b.evr.nextId, fast b, bitsOf r 30 28, ev⟩], nextId := b.evr.nextId + 1 } ∧
           t.blk = { b with regs := t.blk.regs, out := [], evr := t.blk.evr } ∧ RegsBut [e] b t.blk) ∧
         (bitOf (rd b (pg p 0x14)) off = true → bitOf r 31 = false → bitsOf r 17 16 = 3 → instExists b (bitsOf r 13 8) = true →
           (let n := bitsOf r 13 8
            let v := bitsOf r 5 0
            let pend := if v < 32 then R.EVR_I_PEND0 n else R.EVR_I_PEND1 n
            ∃ t, exec (.eventAssert ev pl) s = .next t ∧ set t ∧ rd t.blk pend = rd b pend ||| 2 ^ (v % 32) ∧ fget t.blk (F.EVR_I_SRC_ev n v) = ev ∧
              RegsBut [e, pend, R.EVR_I_SRC n v] b t.blk)) ∧
         (bitOf (rd b (pg p 0x14)) off = true → bitOf r 31 = true → ev ≠ EV.ELG_DEAD → bitsOf r 17 16 = 0 → fon b F.ELG_STAT_dead = false →
           fon b F.ELG_CTL_hold = false → b.elg.queue.length < 256 → ∃ t, exec (.eventAssert ev pl) s = .next t ∧ set t ∧
           t.blk.elg = { b.elg with queue := b.elg.queue ++ [⟨0, ev, ownRqid p, bitsOf r 30 28, ns b, padTo 0#8 32 pl, fon b F.PWR_STAT_state⟩] } ∧
           t.blk = { b with regs := t.blk.regs, out := [], elg := t.blk.elg } ∧ RegsBut [e] b t.blk)))

/-- R136: a write of IEVTEN stores it, and where it enables a bit whose IEVT bit is set already, sets the pending bit of the vector that IVEC
names. R142: a read of EVR_MQ0 (EVR_SQ0) answers the head entry's time and latches the entry for that requester, and a read of EVR_MQ1 (EVR_SQ1)
answers the latched entry and pops it; with no latch it answers 0 and pops nothing. -/
def Obligations.QueuesAndEnables : Prop :=
  ∀ (rqid : Nat) (s : State), rqid < 1024 → coreRuns s.blk rqid = true →
    (∀ p n v, p ∈ subPages → n < 64 → v < 2 ^ 32 → mayWrite s.blk rqid (sp n p 0x014) →
      rd s.blk (sp n p 0x010) &&& v &&& (0xFFFFFFFF ^^^ rd s.blk (sp n p 0x014)) = 0 →
      ∃ t, exec (.ievtenWrite rqid p n v) s = .next t ∧ t.pending = s.pending ∧ rd t.blk (sp n p 0x014) = v ∧ t.blk.resp = ⟨.ok, 0⟩ ∧
        RegsOnly [sp n p 0x014] s.blk t.blk) ∧
    (∀ n v, n < 64 → v < 2 ^ 32 → mayWrite s.blk rqid (sp n 0x30 0x014) →
      rd s.blk (sp n 0x30 0x010) &&& v &&& (0xFFFFFFFF ^^^ rd s.blk (sp n 0x30 0x014)) ≠ 0 →
      (let vec := rd s.blk (sp n 0x30 0x004) % 64
       let pend := if vec < 32 then R.EVR_I_PEND0 n else R.EVR_I_PEND1 n
       ∃ t, exec (.ievtenWrite rqid 0x30 n v) s = .next t ∧ t.pending = s.pending ∧ rd t.blk (sp n 0x30 0x014) = v ∧
         rd t.blk pend = rd s.blk pend ||| 2 ^ (vec % 32) ∧ fget t.blk (F.EVR_I_SRC_ev n vec) = 672 ∧
         RegsBut [sp n 0x30 0x014, pend, R.EVR_I_SRC n vec] s.blk t.blk ∧ SameMem s.blk t.blk)) ∧
    (mayRead s.blk rqid R.EVR_MQ0 → (∀ e, mqHead s.blk = some e → ∃ t, exec (.evrQueueLatch rqid false) s = .next t ∧ t.pending = s.pending ∧
        t.blk.resp = ⟨.ok, e.t⟩ ∧ t.blk.evr = { s.blk.evr with mLatch := (rqid, e) :: s.blk.evr.mLatch.filter (fun x => x.1 != rqid) } ∧
        t.blk = { s.blk with out := [], resp := t.blk.resp, evr := t.blk.evr }) ∧
      (s.blk.evr.mq = [] → exec (.evrQueueLatch rqid false) s = .next { s with blk := { s.blk with out := [], resp := ⟨.ok, 0⟩ } })) ∧
    (mayRead s.blk rqid R.EVR_SQ0 → ∀ e l, s.blk.evr.sq = e :: l → ∃ t, exec (.evrQueueLatch rqid true) s = .next t ∧ t.pending = s.pending ∧
        t.blk.resp = ⟨.ok, e.t⟩ ∧ t.blk.evr = { s.blk.evr with sLatch := (rqid, e) :: s.blk.evr.sLatch.filter (fun x => x.1 != rqid) } ∧
        t.blk = { s.blk with out := [], resp := t.blk.resp, evr := t.blk.evr }) ∧
    (mayRead s.blk rqid R.EVR_MQ1 →
      (∀ e l, s.blk.evr.mLatch = (rqid, e) :: l → e ∈ s.blk.evr.mq → e.prio < 8 → e.ev < 1024 → ∃ t, exec (.evrQueuePop rqid false) s = .next t ∧
        t.pending = s.pending ∧ t.blk.resp = ⟨.ok, 2 ^ 31 + e.prio * 2 ^ 28 + e.ev⟩ ∧
        t.blk.evr = { s.blk.evr with mq := s.blk.evr.mq.filter (fun x => x.id != e.id), mLatch := l.filter (fun x => x.1 != rqid) } ∧
        t.blk = { s.blk with out := [], resp := t.blk.resp, evr := t.blk.evr }) ∧
      (s.blk.evr.mLatch.find? (fun x => x.1 == rqid) = none →
        exec (.evrQueuePop rqid false) s = .next { s with blk := { s.blk with out := [], resp := ⟨.ok, 0⟩ } })) ∧
    (mayRead s.blk rqid R.EVR_SQ1 → ∀ e l, s.blk.evr.sLatch = (rqid, e) :: l → e ∈ s.blk.evr.sq → e.prio < 8 → e.ev < 1024 →
      ∃ t, exec (.evrQueuePop rqid true) s = .next t ∧ t.pending = s.pending ∧ t.blk.resp = ⟨.ok, 2 ^ 31 + e.prio * 2 ^ 28 + e.ev⟩ ∧
        t.blk.evr = { s.blk.evr with sq := s.blk.evr.sq.filter (fun x => x.id != e.id), sLatch := l.filter (fun x => x.1 != rqid) } ∧
        t.blk = { s.blk with out := [], resp := t.blk.resp, evr := t.blk.evr })

/-- R115, R116, R119, R121, R123, R145, R146: BNK_CMD SWAP on a module that is not paired, or whose twins do not agree on the state, starts its
checks, and ends with code 0x13 on a paired module without the lease, with code 0x10 while a swap is pending or a copy-back runs, with code 0x12
for an index that is not ahead; with the twin in agreement it refuses a bad shadow at once and otherwise sends AGREE and runs on. Checks that
find no refusing page schedule the swap, of a paired module 16 sheaves ahead, and end the command with code 0; those that find one refuse it
with the lowest such page in BNK_REFUSER; CANCEL drops a pending swap; COPYBACK starts a copy-back, and its end clears DIRTY. -/
def Obligations.BankSwap : Prop :=
  ∀ (rqid : Nat) (s : State),
    (let b := s.blk
     let cs := pg 0x08 0x2C
     (∀ cb ai, cmdFree b rqid 0x08 → (b.bnk.pend.isSome = true ∨ b.bnk.copying = true) → ∃ t, exec (.bnkSwap rqid cb ai) s = .next t ∧
       t.pending = s.pending ∧ answered b t.blk cs 0x10 ∧ RegsOnly [cs] b t.blk) ∧
     (∀ cb, cmdFree b rqid 0x08 → b.bnk.pend = none → b.bnk.copying = false → paired b = false → swapIdx b ≤ curIdx b →
       ∃ t, exec (.bnkSwap rqid cb true) s = .next t ∧ t.pending = s.pending ∧ answered b t.blk cs 0x12 ∧ RegsOnly [cs] b t.blk) ∧
     (∀ cb ai, cmdFree b rqid 0x08 → b.bnk.pend = none → b.bnk.copying = false → paired b = true → holder b = false →
       ∃ t, exec (.bnkSwap rqid cb ai) s = .next t ∧ t.pending = s.pending ∧ answered b t.blk cs 0x13 ∧ RegsOnly [cs] b t.blk) ∧
     (∀ cb ai, cmdFree b rqid 0x08 → b.bnk.pend = none → b.bnk.copying = false → (paired b = false ∨ (holder b = true ∧ agreed b = false)) →
       (ai = true → curIdx b < swapIdx b) →
       ∃ t, exec (.bnkSwap rqid cb ai) s = .next t ∧ t.pending = s.pending ∧ rd t.blk cs = (rd b cs / 65536 + 1) % 65536 * 65536 + 1 ∧
         t.blk.resp = ⟨.ok, 0⟩ ∧ rd t.blk R.BNK_REFUSER = 0 ∧ t.blk.bnk = { b.bnk with check := some ⟨cb, ai, false, swapIdx b, ns b⟩ } ∧
         t.blk = { b with regs := t.blk.regs, out := t.blk.out, resp := t.blk.resp, bnk := t.blk.bnk } ∧ RegsBut [cs, R.BNK_REFUSER] b t.blk ∧
         SameMem b t.blk) ∧
     (∀ cb ai, cmdFree b rqid 0x08 → b.bnk.pend = none → b.bnk.copying = false → paired b = true → holder b = true → agreed b = true →
       (ai = true → curIdx b < swapIdx b) → (let idx := if ai then swapIdx b else curIdx b + 16
       let bad := refusers idx (wr R.BNK_REFUSER 0 (accept cs { b with out := [], resp := ⟨.ok, 0⟩ }))
       ∃ t, exec (.bnkSwap rqid cb ai) s = .next t ∧ t.pending = s.pending ∧ SameMem b t.blk ∧
         RegsButEv ([cs, R.BNK_REFUSER] ++ allPages.map (fun p => pg p 0x20)) b t.blk ∧
         (bad = [] → rd t.blk cs = (rd b cs / 65536 + 1) % 65536 * 65536 + 1 ∧
           t.blk.bnk = { b.bnk with check := some ⟨cb, ai, true, idx, ns b⟩ }) ∧
         (bad ≠ [] → answered b t.blk cs 0x12 ∧ t.blk.bnk = b.bnk ∧
           rd t.blk R.BNK_REFUSER = 2 ^ 31 + 0x12 * 256 + minPage bad))) ∧
     (∀ cb ai c sent, running b = true → b.bnk.check = some ⟨cb, ai, false, c, sent⟩ → (ai = true → curIdx b < c) →
       (let idx := if ai then c else curIdx b + (if paired b then 16 else 1)
        refusers idx b = [] → ∃ t, exec .swapChecksDone s = .next t ∧ t.pending = s.pending ∧ t.blk.bnk.check = none ∧
         t.blk.bnk.pend = some ⟨idx, cb, ai, false⟩ ∧ fget t.blk F.BNK_STAT_pending = 1 ∧ rd t.blk cs % 256 = 0 ∧
         rd t.blk cs / 65536 = rd b cs / 65536 ∧ RegsBut ([cs, R.BNK_STAT] ++ allPages.map (fun p => pg p 0x20)) b t.blk ∧ SameMem b t.blk)) ∧
     (∀ cb ai c sent p l, running b = true → b.bnk.check = some ⟨cb, ai, false, c, sent⟩ →
       refusers (if ai then c else curIdx b + (if paired b then 16 else 1)) b = p :: l →
       ∃ t, exec .swapChecksDone s = .next t ∧ t.pending = s.pending ∧ t.blk.bnk.check = none ∧ t.blk.bnk.pend = b.bnk.pend ∧
         rd t.blk R.BNK_REFUSER = 2 ^ 31 + 0x12 * 256 + minPage (p :: l) ∧ rd t.blk cs % 256 = 0x12 ∧ bitOf (rd t.blk (pg 0x08 0x10)) 1 = true ∧
         RegsButEv ([cs, R.BNK_REFUSER] ++ allPages.map (fun p => pg p 0x20)) b t.blk ∧ SameMem b t.blk) ∧
     (cmdFree b rqid 0x08 → b.bnk.pend = none → ∃ t, exec (.bnkCancel rqid) s = .next t ∧ t.pending = s.pending ∧ answered b t.blk cs 0x10 ∧
       RegsOnly [cs] b t.blk) ∧
     (cmdFree b rqid 0x08 → b.bnk.pend.isSome = true → ∃ t, exec (.bnkCancel rqid) s = .next t ∧ t.pending = s.pending ∧ answered b t.blk cs 0 ∧
       t.blk.bnk = { b.bnk with pend := none } ∧ fget t.blk F.BNK_STAT_pending = 0 ∧ bitOf (rd t.blk (pg 0x08 0x10)) 3 = true ∧
       RegsButEv [cs, R.BNK_STAT] b t.blk ∧ SameMem b t.blk) ∧
     (cmdFree b rqid 0x08 → b.bnk.pend = none → b.bnk.copying = false → ∃ t, exec (.bnkCopyback rqid) s = .next t ∧ t.pending = s.pending ∧
       rd t.blk cs = (rd b cs / 65536 + 1) % 65536 * 65536 + 1 ∧ t.blk.bnk = { b.bnk with copying := true, copyCmd := true } ∧
       fget t.blk F.BNK_STAT_copying = 1 ∧ RegsBut [cs, R.BNK_STAT] b t.blk ∧ SameMem b t.blk) ∧
     (running b = true → b.bnk.copying = true → ∃ t, exec .copybackDone s = .next t ∧ t.pending = s.pending ∧
       t.blk.bnk.copying = false ∧ t.blk.bnk.copyCmd = false ∧ fget t.blk F.BNK_STAT_copying = 0 ∧ bitOf (rd t.blk (pg 0x08 0x10)) 2 = true ∧
       (∀ p ∈ allPages, bitOf (rd t.blk (pg p 0x20)) 0 = false) ∧ (b.bnk.copyCmd = true → rd t.blk cs % 256 = 0) ∧ t.blk.bankB = b.bankB ∧ t.blk.bnk.pend = b.bnk.pend))

/-- R122, R147: BNK_I_CMD SWAP of an instance by the instance or the manager makes its swap pending, and is refused with code 0x11 to another
requester, 0x10 while one is pending, 0x12 when a job entry of its slots is bad; CANCEL drops a pending one, and is refused with code 0x10 while
there is none. -/
def Obligations.InstanceBankSwap : Prop :=
  ∀ (rqid n : Nat) (s : State), subFree s.blk rqid 0x08 n 0x100 0x104 →
    (let b := s.blk
     let cs := sp n 0x08 0x104
     let ends (c : Instr) (code : Nat) (l : List Nat) : Prop := ∃ t, exec c s = .next t ∧ t.pending = s.pending ∧ answered b t.blk cs code ∧
       t.blk.bnk = { b.bnk with instPend := l } ∧ t.blk = { b with regs := t.blk.regs, out := t.blk.out, resp := t.blk.resp, bnk := t.blk.bnk } ∧
       RegsBut [cs] b t.blk ∧ SameMem b t.blk
     (rqid ≠ n → rqid ≠ 0x081 → ends (.bnkISwap rqid n) 0x11 b.bnk.instPend ∧ ends (.bnkICancel rqid n) 0x11 b.bnk.instPend) ∧
     ((rqid = n ∨ rqid = 0x081) → n ∈ b.bnk.instPend → ends (.bnkISwap rqid n) 0x10 b.bnk.instPend ∧
       ends (.bnkICancel rqid n) 0 (b.bnk.instPend.filter (fun x => x != n))) ∧
     ((rqid = n ∨ rqid = 0x081) → n ∉ b.bnk.instPend → ends (.bnkICancel rqid n) 0x10 b.bnk.instPend) ∧
     ((rqid = n ∨ rqid = 0x081) → n ∉ b.bnk.instPend → pheInstRefuses n b b = true → ends (.bnkISwap rqid n) 0x12 b.bnk.instPend) ∧
     ((rqid = n ∨ rqid = 0x081) → n ∉ b.bnk.instPend → pheInstRefuses n b b = false → ends (.bnkISwap rqid n) 0 (b.bnk.instPend ++ [n])))

/-! ### Start, reset and the standby protection kernel -/

/-- R154, R157, R158, R160, R207: a start step that begins in its normal way writes its ledger entry and becomes the step in progress; one that is
skipped is done at once and recorded in STL_SKIPMAP; one that is done records its completion; a self-test that fails keeps S03 from its end and is latched; a halted start begins nothing. Only the entry's
16 bytes change. -/
def Obligations.StartSteps : Prop :=
  ∀ (ms detail : Nat) (s : State), running s.blk = true → detail < 256 →
    (let b := s.blk
     let entry (n : Nat) (t : State) : Prop := t.pending = s.pending ∧ (∀ x, x < entAddrL n ∨ entAddrL n + 16 ≤ x → mget t.blk x = mget b x) ∧
       ∀ k, tget t.blk k = tget b k
     (∀ g, b.start.halted = true → exec (.startStep g ms detail) s = .next { s with blk := { b with out := [] } }) ∧
     (∀ n, n ∈ [5, 6, 7, 8, 9, 11, 12, 13, 14, 15, 16, 17, 18] → b.start.halted = false → b.start.busy = false → b.start.last + 1 = n → n ≤ lastStep (lcs b) →
       b.start.ways.getD (n - 1) 0 = 0 → ∃ t, exec (.startStep true ms detail) s = .next t ∧ entry n t ∧
         t.blk.start = { b.start with busy := true, step := n, beganMs := ms, leftOut := if n = 17 then none else b.start.leftOut } ∧
         fget t.blk F.STL_STAT_step = n ∧
         mnat t.blk (entAddrL n) 4 = startNo b ∧ mnat t.blk (entAddrL n + 10) 1 = 0 ∧ mnat t.blk (entAddrL n + 11) 1 = detail ∧
         mnat t.blk (entAddrL n + 12) 2 = min 0xFFFF ms ∧ RegsBut [R.STL_STAT] b t.blk) ∧
     (b.start.halted = false → b.start.busy = false → b.start.last = 13 → 14 ≤ lastStep (lcs b) → b.start.ways.getD 13 0 = 2 →
       ∃ t, exec (.startStep true ms detail) s = .next t ∧ entry 14 t ∧ t.blk.start = { b.start with last := 14 } ∧
         mnat t.blk (entAddrL 14) 4 = startNo b ∧ mnat t.blk (entAddrL 14 + 4) 4 = startNo b ∧ mnat t.blk (entAddrL 14 + 9) 1 = 0 ∧
         (rd t.blk R.STL_SKIPMAP).testBit 14 = true ∧ bitOf (rd t.blk (pg 0x02 0x10)) 2 = true ∧ RegsButEv [R.STL_STAT, R.STL_SKIPMAP] b t.blk) ∧
     (b.start.halted = false → b.start.busy = false → b.start.last = 1 → 2 ≤ lastStep (lcs b) → b.start.ways.getD 1 0 = 0 →
       ∃ t, exec (.startStep true ms detail) s = .next t ∧ entry 2 t ∧ t.blk.start = { b.start with busy := true, step := 2, beganMs := ms } ∧
         fget t.blk F.HRW_STAT_busy = 1 ∧ fget t.blk F.HRW_STAT_kind = 1 ∧ RegsBut [R.STL_STAT, R.HRW_STAT] b t.blk) ∧
     (∀ n, n ∈ [6, 13, 14, 17] → b.start.halted = false → b.start.busy = true → b.start.step = n → b.start.ways.getD (n - 1) 0 = 0 →
       ∃ t, exec (.startStep false ms detail) s = .next t ∧ entry n t ∧ t.blk.start = { b.start with busy := false, last := n } ∧
         mnat t.blk (entAddrL n + 4) 4 = startNo b ∧ mnat t.blk (entAddrL n + 9) 1 = 0 ∧
         mnat t.blk (entAddrL n + 14) 2 = min 0xFFFF (ms - b.start.beganMs) ∧ RegsBut [] b t.blk) ∧
     (b.start.halted = false → b.start.busy = true → b.start.step = 3 → detail ≠ 0 →
       ∃ t, exec (.startStep false ms detail) s = .next t ∧ entry 3 t ∧ t.blk.start = b.start ∧ (rd t.blk (pg 0x04 0x18)).testBit 2 = true ∧
         RegsBut [pg 0x04 0x18, pg 0x04 0x1C] b t.blk ∧ ∀ x, mget t.blk x = mget b x))

/-- R150, R154, R172: a step that passes its limit and a watchdog whose second period passes without a kick reset the module, with causes 5
(class cold) and 8 (class warm); the first period's end asks the SPK to take over; a kick by the manager restarts the period. -/
def Obligations.StepLimitAndWatchdog : Prop :=
  ∀ s : State, running s.blk = true →
    (let b := s.blk
     (b.start.busy = true → b.start.halted = false → gaspBusy b = false → ∃ t, exec .stepLimit s = .next t ∧
       t.pending = s.pending ∧ WasReset 5 0 b t.blk) ∧
     (b.start.busy = true → b.start.halted = false → gaspBusy b = true → b.pwr.deferred ≠ .cold 0x0B → exec .stepLimit s =
       .next { s with blk := { b with out := [], pwr := { b.pwr with deferred := .cold 5 } } }) ∧
     (b.start.busy = false → exec .stepLimit s = .next { s with blk := { b with out := [] } }) ∧
     (∀ w, b.start.wdog = some w → b.start.wdogHit = false → fon b F.SYS_CTL_wden = true →
       (let t := { b with out := [], time := max b.time ((w + wdogPeriod b) * 65536), start := { b.start with wdogHit := true }, spk := { b.spk with fb := true } }
        exec .watchdogExpiry s = .next { s with blk := t })) ∧
     (∀ w, b.start.wdog = some w → b.start.wdogHit = true → fon b F.SYS_CTL_wden = true → fon b F.SYS_CTL_autowarm = true →
       ∃ t, exec .watchdogAutowarm s = .next t ∧ t.pending = s.pending ∧ WasReset 8 1 (advanceTo (w + 2 * wdogPeriod b) b) t.blk) ∧
     (∀ w, coreRuns b 0x081 = true → b.start.wdog = some w → mayWrite b 0x081 R.SYS_WDOGKICK →
       (let t := { b with out := [], resp := ⟨.ok, 0⟩, start := { b.start with wdog := some (ns b), wdogHit := false } }
        exec (.sysWdogkick 0x081) s = .next { s with blk := t })))

/-- R21, R34, R151, R152, R157, R160, R170: a harrow pass that ends zeroes its memories and nothing else, and its registers say so: the on-die
memories (of the start's step 10 the DDR5), or the MRAM that instances use, with which the device marks go; STL_CMD CLEAR of a step zeroes the
state and the misses of its entry, of step 0 those of every entry, and leaves every other byte. -/
def Obligations.HarrowAndLedgerClear : Prop :=
  ∀ s : State, running s.blk = true →
    (let b := s.blk
     let die (a : Nat) : Prop := (0x1000000000 ≤ a ∧ a < 0x1004000000) ∨ (0x1100000000 ≤ a ∧ a < 0x1101000000) ∨
       (0x1200000000 ≤ a ∧ a < 0x1200400000) ∨ (packetSram ≤ a ∧ a < packetSram + 0x1C00000)
     let mram (a : Nat) : Prop := 0x1801100000 ≤ a ∧ a < 0x1804000000
     let hrw := [R.HRW_STAT, R.HRW_BYTES_LO, R.HRW_BYTES_HI, R.HRW_DURUS, R.HRW_ERRADDR_LO, R.HRW_ERRADDR_HI]
     let zeroes (us : Nat) (inside : Nat → Prop) (regs : List Nat) : Prop := ∃ t, exec (.harrowPassDone [] us) s = .next t ∧
       t.pending = s.pending ∧ (∀ a, inside a → mget t.blk a = 0#8) ∧ (∀ a, ¬ inside a → mget t.blk a = mget b a) ∧ fget t.blk F.HRW_STAT_busy = 0 ∧
       rd t.blk R.HRW_DURUS = us % 2 ^ 32 ∧ RegsButEv (hrw ++ regs) b t.blk ∧ ∀ k, tget t.blk k = tget b k
     (∀ us, fon b F.HRW_STAT_busy = true → fget b F.HRW_STAT_kind = 1 → b.start.step ≠ 10 → zeroes us die []) ∧
     (∀ us, fon b F.HRW_STAT_busy = true → fget b F.HRW_STAT_kind = 1 → b.start.step = 10 → zeroes us (fun a => a ≤ (memSpan b.part 0).2) []) ∧
     (∀ us, fon b F.HRW_STAT_busy = true → fget b F.HRW_STAT_kind = 3 → zeroes us mram [R.MEM_DEVMARK]) ∧
     (∀ us fails, fon b F.HRW_STAT_busy = false → exec (.harrowPassDone fails us) s = .next { s with blk := { b with out := [] } }) ∧
     (∀ rqid n, n ≤ 18 → cmdFree b rqid 0x02 → ∃ t, exec (.stlClear rqid n) s = .next t ∧ t.pending = s.pending ∧ answered b t.blk (pg 0x02 0x2C) 0 ∧
       (∀ i, 1 ≤ i → i ≤ 18 → (n = 0 ∨ i = n) → mget t.blk (entAddrL i + 8) = 0#8 ∧ mget t.blk (entAddrL i + 9) = 0#8) ∧
       (∀ a, (∀ i, 1 ≤ i → i ≤ 18 → (n = 0 ∨ i = n) → a ≠ entAddrL i + 8 ∧ a ≠ entAddrL i + 9) → mget t.blk a = mget b a) ∧
       (∀ k, tget t.blk k = tget b k) ∧ RegsBut [pg 0x02 0x2C] b t.blk))

/-- R156, R161, R165, R166, R226: the hand-over's end gives the outputs to the scheduled tasks and full service, and with step 18 in progress completes
the start; a halted start hands nothing over; a fallback gives them to the SPK and
reduced service; the SPK evaluates each sheaf that its phasor unit has completed once, and its trips are those of its elements. -/
def Obligations.StandbyKernel : Prop :=
  ∀ s : State, running s.blk = true →
    (let b := s.blk
     (b.start.handover = some 0 → b.start.halted = false → b.start.busy = false → ∃ t, exec .spkHandover s = .next t ∧ t.pending = s.pending ∧
       t.blk.start.handover = none ∧ fget t.blk F.SYS_STAT_service = 2) ∧
     (b.start.handover = some 0 → b.start.halted = false → b.start.busy = true → b.start.step = 18 → ∃ t, exec .spkHandover s = .next t ∧
       t.pending = s.pending ∧ t.blk.start.handover = none ∧ t.blk.start.last = 18 ∧ t.blk.start.busy = false ∧
       fget t.blk F.STL_STAT_complete = 1 ∧ fget t.blk F.SYS_STAT_service = 2) ∧
     (b.start.halted = true → exec .spkHandover s = .next { s with blk := { b with out := [] } }) ∧
     (b.spk.fb = true → b.spk.record ≠ [] → ∃ t, exec .spkFallback s = .next t ∧ t.pending = s.pending ∧ t.blk.spk.fb = false ∧
       t.blk.start.handover = none ∧ fget t.blk F.SYS_STAT_service = 1) ∧
     (b.spk.fb = false → exec .spkFallback s = .next { s with blk := { b with out := [] } }) ∧
     (∀ k, (b.phe.units.getD 0 PheUnit.init).done = some k → b.spk.record ≠ [] → b.spk.evalK ≠ some k → ∃ t, exec .spkEvaluate s = .next t ∧
       t.pending = s.pending ∧ t.blk.spk.evalK = some k ∧ t.blk.spk.trips = elBits SpkEl.trip t.blk.spk.els ∧ t.blk.spk.record = b.spk.record) ∧
     (∀ k, (b.phe.units.getD 0 PheUnit.init).done = some k → b.spk.evalK = some k → exec .spkEvaluate s = .next { s with blk := { b with out := [] } }))

/-- R164, R167, R168, R173: SYS_CMD WARM and COLD reset the module with causes 7 (class warm) and 6 (class cold); FALLOW is refused to the holder
of the lease and while a swap is pending; FALLBACK and RESUME are refused where there is nothing to fall back to or to resume, and else ask for the
change; SPKSET takes a record whose counter is higher. A module in fallow wakes at once for a latched alarm of level 3 (R226), else
at SYS_WAKESEC, and not while that is 0. -/
def Obligations.SysCommands : Prop :=
  ∀ (rqid : Nat) (s : State),
    (let b := s.blk
     let cs := pg 0x00 0x2C
     let ends (c : Instr) (code : Nat) : Prop := ∃ t, exec c s = .next t ∧ t.pending = s.pending ∧ answered b t.blk cs code ∧ RegsOnly [cs] b t.blk
     (∀ g, cmdFree b rqid 0x00 → (peerNotFull b = false ∨ g = true) → ∃ t, exec (.sysWarm rqid g) s = .next t ∧ t.pending = s.pending ∧
       fget t.blk F.SYS_RSTCAUSE_cause = 7 ∧ fget t.blk F.SYS_RSTCAUSE_class = 1 ∧ t.blk.start.last = 0 ∧ t.blk.sch = Sch.init ∧
       (holder b = false → spanUp b = false → WasReset 7 1 b t.blk)) ∧
     (∀ g, cmdFree b rqid 0x00 → (peerNotFull b = false ∨ g = true) → gaspBusy b = false → ∃ t, exec (.sysCold rqid g) s = .next t ∧
       t.pending = s.pending ∧ fget t.blk F.SYS_RSTCAUSE_cause = 6 ∧ fget t.blk F.SYS_RSTCAUSE_class = 0 ∧ t.blk.start.last = 0 ∧
       t.blk.sch = Sch.init ∧ (holder b = false → spanUp b = false → WasReset 6 0 b t.blk)) ∧
     (cmdFree b rqid 0x00 → peerNotFull b = true → ends (.sysWarm rqid false) 0x10 ∧ ends (.sysCold rqid false) 0x10) ∧
     (cmdFree b rqid 0x00 → (holder b = true ∨ b.bnk.pend.isSome = true) → ends (.sysFallow rqid) 0x10) ∧
     (cmdFree b rqid 0x00 → holder b = false → b.bnk.pend = none → ∃ t, exec (.sysFallow rqid) s = .next t ∧
       t.pending = s.pending ∧ t.blk.pwr.phase = .fallow ∧ fget t.blk F.PWR_STAT_pwrok = 0 ∧ t.blk.spk = Spk.init ∧ t.blk.key.leaves = [] ∧
       rd t.blk cs % 256 = 0) ∧
     (cmdFree b rqid 0x00 → b.spk.record = [] → ends (.sysFallback rqid) 0x10) ∧
     (cmdFree b rqid 0x00 → b.spk.record ≠ [] → ∃ t, exec (.sysFallback rqid) s = .next t ∧ t.pending = s.pending ∧ answered b t.blk cs 0 ∧
       t.blk.spk = { b.spk with fb := true } ∧ RegsBut [cs] b t.blk ∧ SameMem b t.blk) ∧
     (cmdFree b rqid 0x00 → (fget b F.SYS_STAT_service ≠ 1 ∨ fon b F.SCH_STAT_run = false) → ends (.sysResume rqid) 0x10) ∧
     (cmdFree b rqid 0x00 → fget b F.SYS_STAT_service = 1 → fon b F.SCH_STAT_run = true → ∃ t, exec (.sysResume rqid) s = .next t ∧ t.pending = s.pending ∧
       answered b t.blk cs 0 ∧ t.blk.start = { b.start with handover := some (primRate b) } ∧ RegsBut [cs] b t.blk ∧ SameMem b t.blk) ∧
     (∀ copy, copy < 2 → cmdFree b rqid 0x00 → noLease b = false → ∃ t, exec (.sysSpkset rqid copy) s = .next t ∧ t.pending = s.pending ∧
       (∀ r, spkRecord b copy = some r → spkCounter b.spk.record < spkCounter r → answered b t.blk cs 0 ∧
         t.blk.spk = { b.spk with next := some r } ∧ RegsBut [cs] b t.blk ∧ SameMem b t.blk) ∧
       (spkRecord b copy = none → answered b t.blk cs 0x20 ∧ RegsOnly [cs] b t.blk)) ∧
     (b.pwr.phase = .fallow → 3 ≤ b.trust.fallowLevel → exec .fallowWake s =
       .next { s with blk := { b with out := [], pwr := { b.pwr with phase := .rising, nextCause := 9, t0 := ns b } } }) ∧
     (b.pwr.phase = .fallow → b.trust.fallowLevel < 3 → rd b R.SYS_WAKESEC = 0 → exec .fallowWake s = .next { s with blk := { b with out := [] } }) ∧
     (b.pwr.phase = .fallow → b.trust.fallowLevel < 3 → rd b R.SYS_WAKESEC ≠ 0 → secOf b < rd b R.SYS_WAKESEC → ∃ t, exec .fallowWake s = .next t ∧
       t.pending = s.pending ∧ t.blk.pwr.phase = .rising ∧ t.blk.pwr.nextCause = 9 ∧ ns t.blk = rd b R.SYS_WAKESEC * 1000000000 ∧ t.blk.pwr.t0 = ns t.blk ∧
       RegsBut [] b t.blk ∧ SameMem b t.blk))

/-! ### Key enclave -/

/-- R176, R201, R202, R204: the commands that answer in the response buffer. IDREAD answers the identity record and LEAFINFO a leaf's record;
a buffer too short ends either with code 0x12 and reason 0x0B and writes nothing. KEY_RESULT.len gives the bytes written, and no byte of memory
outside them changes. -/
def Obligations.KeyReadCommands : Prop :=
  ∀ (rqid h : Nat) (s : State), h < 2048 → cmdFree s.blk rqid 0x04 →
    (let b := s.blk
     let cs := pg 0x04 0x2C
     let rsp := rd b R.KEY_RSPADDR_LO + rd b R.KEY_RSPADDR_HI % 256 * 2 ^ 32
     let answers (c : Instr) (l : List Byte) : Prop :=
       (l.length ≤ rd b R.KEY_RSPLEN % 65536 → (engWrite 0x082 rsp l b).1 = .ok → b.corr = [] → ∃ t, exec c s = .next t ∧ t.pending = s.pending ∧
         answered b t.blk cs 0 ∧ fget t.blk F.KEY_RESULT_reason = 0 ∧ fget t.blk F.KEY_RESULT_len = l.length % 65536 ∧ mread t.blk rsp l.length = l ∧
         fget t.blk F.KEY_EVT_done = 1 ∧ t.blk.key = b.key) ∧
       (rd b R.KEY_RSPLEN % 65536 < l.length → ∃ t, exec c s = .next t ∧ t.pending = s.pending ∧ answered b t.blk cs 0x12 ∧
         fget t.blk F.KEY_RESULT_reason = 0x0B ∧ RegsButEv [cs, R.KEY_STAT, R.KEY_RESULT] b t.blk ∧ SameMem b t.blk ∧ t.blk.key = b.key)
     answers (.keyIdread rqid) (idRecord b) ∧ answers (.keyLeafinfo rqid h) (leafRecord h (leaf b h)))

/-- R175, R180, R187, R189, R191, R201, R202: the commands that change leaves. LEAFDROP frees its handle; ZEROISE empties the working-key cache
and the tag-unit key registers; LEAFPERSIST of a valid leaf makes it leaf n, at once while no SPK record runs and else at the next sheaf boundary,
and is refused with code 0x12 and reason 0x0C for a leaf that is not valid; a leaf expires at its not-after, with its key kept for the grace time
only where KEY_CTL.rxgrace is set, and loses it at the grace's end. A leaf is re-shared when it is set, and keeps its key. -/
def Obligations.LeafCommands : Prop :=
  ∀ (rqid h n : Nat) (s : State), h < 2048 → n < 64 →
    (let b := s.blk
     let cs := pg 0x04 0x2C
     let same (x y : Leaf) : Prop := x.kind = y.kind ∧ x.state = y.state ∧ x.keyId = y.keyId ∧ x.nb = y.nb ∧ x.na = y.na ∧ x.grace = y.grace ∧ x.key = y.key
     (cmdFree b rqid 0x04 → ∃ t, exec (.keyLeafdrop rqid h) s = .next t ∧ t.pending = s.pending ∧ answered b t.blk cs 0 ∧ leaf t.blk h = Leaf.free ∧
       (∀ u, u < 4 → tagKey t.blk u h = []) ∧ (∀ i, i ≠ h → leaf t.blk i = leaf b i) ∧
       t.blk.key = { b.key with leaves := t.blk.key.leaves, tags := t.blk.key.tags } ∧
       RegsButEv [cs, R.KEY_STAT, R.KEY_RESULT] b t.blk ∧ SameMem b t.blk) ∧
     (cmdFree b rqid 0x04 → ∃ t, exec (.keyZeroise rqid) s = .next t ∧ t.pending = s.pending ∧ answered b t.blk cs 0 ∧
       t.blk.key = { b.key with leaves := [], next := [], tags := [] } ∧ RegsButEv [cs, R.KEY_STAT, R.KEY_RESULT] b t.blk ∧ SameMem b t.blk) ∧
     (cmdFree b rqid 0x04 → (leaf b h).state = 1 → (deviceRoot b).isSome = true → ∃ t, exec (.keyLeafpersist rqid h n) s = .next t ∧
       t.pending = s.pending ∧ answered b t.blk cs 0 ∧ (∀ i, i ≠ n → leaf t.blk i = leaf b i) ∧
       (b.spk.record = [] → same (leaf t.blk n) (leaf b h)) ∧
       (b.spk.record ≠ [] → leaf t.blk n = leaf b n ∧ t.blk.key.next = (n, leaf b h) :: b.key.next.filter (fun x => x.1 != n)) ∧
       fget t.blk F.KEY_EVT_commit = 1 ∧ RegsButEv [cs, R.KEY_STAT, R.KEY_RESULT] b t.blk ∧ SameMem b t.blk) ∧
     (cmdFree b rqid 0x04 → (leaf b h).state ≠ 1 → ∃ t, exec (.keyLeafpersist rqid h n) s = .next t ∧ t.pending = s.pending ∧ answered b t.blk cs 0x12 ∧
       fget t.blk F.KEY_RESULT_reason = 0x0C ∧ t.blk.key = b.key ∧ RegsButEv [cs, R.KEY_STAT, R.KEY_RESULT] b t.blk ∧ SameMem b t.blk) ∧
     (running b = true → (leaf b h).state = 1 → (leaf b h).na ≠ 0xFFFFFFFFFFFFFFFF → ∃ t, exec (.leafExpiry h) s = .next t ∧ t.pending = s.pending ∧
       (leaf t.blk h).state = 2 ∧ (leaf t.blk h).key = (if fon b F.KEY_CTL_rxgrace then (leaf b h).key else []) ∧
       (leaf t.blk h).grace = fon b F.KEY_CTL_rxgrace ∧ (∀ i, i ≠ h → leaf t.blk i = leaf b i) ∧ t.blk.time = max b.time ((leaf b h).na * 1000000000 * 65536) ∧
       fget t.blk F.KEY_EVT_leafexp = 1 ∧ RegsButEv [] b t.blk ∧ SameMem b t.blk) ∧
     (running b = true → (leaf b h).grace = true → ∃ t, exec (.rxgraceExpiry h) s = .next t ∧ t.pending = s.pending ∧
       leaf t.blk h = { (leaf b h).wiped with grace := false } ∧ (∀ i, i ≠ h → leaf t.blk i = leaf b i) ∧
       t.blk.time = max b.time (((leaf b h).na + 60) * 1000000000 * 65536) ∧ RegsBut [] b t.blk ∧ SameMem b t.blk))

/-- R166, R177, R180, R190, R194, R199, R202: the commands that run on. ATTEST, KEX and REKEY with a healthy entropy source, a readable request
and a buffer that fits start their run; a MORDANT message starts a commit when every check passes and else ends with the check's code and reason,
with 0x21 and 0x0F while the supply is not NORMAL; LEAFLOAD under a valid SA leaf installs the leaves of its message and answers their records, and
under a handle that is none ends with code 0x12 and reason 8; DERIVELEAF installs the leaf of its label at the lowest free handle; ANCHORSET in
state MANUFACTURE stores its anchor. Cells that are read may be re-masked, which changes the stored cells alone. -/
def Obligations.KeyRequests : Prop :=
  ∀ (rqid : Nat) (m : List Byte) (s : State), cmdFree s.blk rqid 0x04 →
    (let b := s.blk
     let cs := pg 0x04 0x2C
     let req := rd b R.KEY_REQADDR_LO + rd b R.KEY_REQADDR_HI % 256 * 2 ^ 32
     let rsp := rd b R.KEY_RSPADDR_LO + rd b R.KEY_RSPADDR_HI % 256 * 2 ^ 32
     let given (n : Nat) : Prop := reqLen b = n ∧ engRead 0x082 req n b = (.ok, m, b)
     let ended (t : State) (code reason : Nat) : Prop := rd t.blk cs = (rd b cs / 65536 + 1) % 65536 * 65536 + code ∧
       fget t.blk F.KEY_RESULT_reason = reason ∧ t.blk.key = { b.key with prod := t.blk.key.prod, test := t.blk.key.test } ∧
       RegsButEv [cs, R.KEY_STAT, R.KEY_RESULT] b t.blk ∧ SameMem b t.blk
     let ends (t : State) (code reason : Nat) : Prop := ended t code reason ∧ t.blk.key = b.key
     let runs (t : State) (r : KeyRun) : Prop := rd t.blk cs = (rd b cs / 65536 + 1) % 65536 * 65536 + 1 ∧
       t.blk.key = { b.key with run := some r, prod := t.blk.key.prod, test := t.blk.key.test } ∧ RegsBut [cs, R.KEY_STAT] b t.blk ∧ SameMem b t.blk
     (given 64 → rngOk b = true → rspFits 7173 b = true → ∃ t, exec (.keyAttest rqid) s = .next t ∧ t.pending = s.pending ∧
       runs t (.attest (reportBody m b)) ∧ t.blk.key.prod = b.key.prod ∧ t.blk.key.test = b.key.test) ∧
     (rngOk b = false → ∃ t, exec (.keyAttest rqid) s = .next t ∧ t.pending = s.pending ∧ ends t 0x20 0x0D) ∧
     (∀ h, given 120 → rngOk b = true → rspFits 172 b = true → (deviceRoot b).isSome = true → freeHandle b = some h →
       ∃ t, exec (.keyKex rqid) s = .next t ∧ t.pending = s.pending ∧ ∃ r l, runs t (.kex r h l) ∧ l.kind = 5 ∧ l.state = 1) ∧
     (lcs b = 4 → rngOk b = true → rspFits 13806 b = true → ∃ t, exec (.keyRekey rqid) s = .next t ∧ t.pending = s.pending ∧ ∃ r, runs t (.rekey r)) ∧
     (lcs b ≠ 4 → ∃ t, exec (.keyRekey rqid) s = .next t ∧ t.pending = s.pending ∧ ends t 0x10 0x07) ∧
     (∀ n, given n → ∃ t, exec (.keyMordant rqid) s = .next t ∧ t.pending = s.pending ∧
       (∀ code reason, mordantCheck b m = .stop code reason → ended t code reason) ∧
       (∀ c p ctr, mordantCheck b m = .val (c, p, ctr) → fget b F.PWR_STAT_state = 0 → runs t (.commit c p ctr (fleetChanges b c p))) ∧
       (∀ x, mordantCheck b m = .val x → fget b F.PWR_STAT_state ≠ 0 → ended t 0x21 0x0F)) ∧
     (∀ n h, h < 2048 → given n → ((leaf b h).kind ≠ 5 ∨ (leaf b h).state ≠ 1) → ∃ t, exec (.keyLeafload rqid h) s = .next t ∧ t.pending = s.pending ∧
       ends t 0x12 0x08) ∧
     (∀ n h teks recs b', h < 2048 → given n → (leaf b h).kind = 5 → (leaf b h).state = 1 → Config.gdoiOpen (leaf b h).key m = some teks →
       rspFits (2 + 32 * teks.length) b = true → installTeks teks b = (some recs, b') →
       (let l := leBytes 2 teks.length ++ recs
        l.length ≤ rd b R.KEY_RSPLEN % 65536 → (engWrite 0x082 rsp l b).1 = .ok → b.corr = [] → ∃ t, exec (.keyLeafload rqid h) s = .next t ∧
        t.pending = s.pending ∧ answered b t.blk cs 0 ∧ fget t.blk F.KEY_RESULT_len = l.length % 65536 ∧ mread t.blk rsp l.length = l ∧
        t.blk.key.leaves = b'.key.leaves)) ∧
     (∀ n kind cell h v, kind < 8 → given n → n ≤ 64 → leafLabel m = some (kind, cell) → cellVal b cell = some v → freeHandle b = some h →
       rspFits 32 b = true →
       ∃ t, exec (.keyDeriveleaf rqid kind) s = .next t ∧ t.pending = s.pending ∧ (leaf t.blk h).kind = kind ∧ (leaf t.blk h).state = 1 ∧
         (leaf t.blk h).key = derive ((parent b (some (v.take 32))).getD []) m 32 ∧ ∀ i, i ≠ h → leaf t.blk i = leaf b i) ∧
     (∀ n kind, kind < 8 → given n → n ≤ 64 → leafLabel m = none → ∃ t, exec (.keyDeriveleaf rqid kind) s = .next t ∧ t.pending = s.pending ∧
       ends t 0x12 0x11) ∧
     (given 2657 → m.length = 2657 → lcs b = 0 → leNat (m.take 1) ≤ 1 → allZero ((m.drop 1).take 7) = true → ∃ t, exec (.keyAnchorset rqid) s = .next t ∧
       t.pending = s.pending ∧ answered b t.blk cs 0 ∧ ((store t.blk).cell (5 + leNat (m.take 1))).named b.key.scramble (5 + leNat (m.take 1))
         ((store t.blk).cell (5 + leNat (m.take 1))).force = some m ∧ fget t.blk F.KEY_EVT_commit = 1 ∧
       RegsButEv [cs, R.KEY_STAT, R.KEY_RESULT] b t.blk ∧ SameMem b t.blk))

/-- R166, R177, R198, R202, R219: a running commit of a cell ends with the cell holding the message's value and the anti-rollback counter its
counter, code 0 and EV_KEY_COMMIT; one of the life-cycle cell then sets the state and restarts the module with cause 0x0A; a report ends signed in
the response buffer; the entropy health test sets and clears KEY_STAT.rngok, a failure with ERR bit 0 and EV_KEY_RNGFAIL, and it stops a command
that needs random values with 0x20 and reason 0x0D. -/
def Obligations.KeyRunsEnd : Prop :=
  ∀ s : State, running s.blk = true →
    (let b := s.blk
     (∀ c v ctr, c ∈ [1, 2, 4, 5, 6] → v ≠ [] → fon b F.KEY_STAT_held = false → b.key.run = some (.commit c v ctr false) → fget b F.KEY_STAT_step = 0 →
       (∀ i x, ((store b).cell c).force = some (i, x) → x.ctr < ctr ∧ x.live < 2) →
       ∃ t, exec .enclaveCommandDone s = .next t ∧ t.pending = s.pending ∧ t.blk.key.run = none ∧ cellVal t.blk c = some v ∧ (store t.blk).ctr = ctr ∧
         (∀ i, i ≠ c → (store t.blk).cell i = (store b).cell i) ∧ rd t.blk (pg 0x04 0x2C) = rd b (pg 0x04 0x2C) / 65536 * 65536 ∧
         fget t.blk F.KEY_RESULT_reason = 0 ∧ fget t.blk F.KEY_STAT_step = 0 ∧ fget t.blk F.KEY_EVT_commit = 1 ∧
         RegsButEv [pg 0x04 0x2C, R.KEY_STAT, R.KEY_RESULT] b t.blk ∧ SameMem b t.blk) ∧
     (∀ v ctr, v ≠ [] → fon b F.KEY_STAT_held = false → b.key.run = some (.commit 3 v ctr false) → testSet b = false →
       ∃ t, exec .enclaveCommandDone s = .next t ∧ t.pending = s.pending ∧ t.blk.key.run = none ∧ lcs t.blk = leNat (v.take 1) ∧
         fget t.blk F.SYS_RSTCAUSE_cause = 0x0A ∧ fget t.blk F.SYS_RSTCAUSE_class = 2 ∧ t.blk.start.last = 0) ∧
     (∀ body, fon b F.KEY_STAT_held = false → b.key.run = some (.attest body) →
       (let l := body ++ attestSigs ((deviceRoot b).getD []) body
        let rsp := rd b R.KEY_RSPADDR_LO + rd b R.KEY_RSPADDR_HI % 256 * 2 ^ 32
        l.length ≤ rd b R.KEY_RSPLEN % 65536 → (engWrite 0x082 rsp l b).1 = .ok → b.corr = [] →
        ∃ t, exec .enclaveCommandDone s = .next t ∧ t.pending = s.pending ∧ t.blk.key.run = none ∧
          rd t.blk (pg 0x04 0x2C) = rd b (pg 0x04 0x2C) / 65536 * 65536 ∧ fget t.blk F.KEY_RESULT_len = l.length % 65536 ∧
          mread t.blk rsp l.length = l)) ∧
     (b.key.run = none → exec .enclaveCommandDone s = .next { s with blk := { b with out := [] } }) ∧
     (fon b F.KEY_STAT_held = true → exec .enclaveCommandDone s = .next { s with blk := { b with out := [] } }) ∧
     (∃ t, exec (.entropyHealthTest true) s = .next t ∧ t.pending = s.pending ∧ fget t.blk F.KEY_STAT_rngok = 1 ∧ RegsOnly [R.KEY_STAT] b t.blk) ∧
     (∃ t, exec (.entropyHealthTest false) s = .next t ∧ t.pending = s.pending ∧ fget t.blk F.KEY_STAT_rngok = 0 ∧
       (rd t.blk (pg 0x04 0x18)).testBit 0 = true ∧ fget t.blk F.KEY_EVT_rngfail = 1 ∧
       ((b.key.run = none ∨ ∃ c v ctr z, b.key.run = some (.commit c v ctr z)) →
         RegsEvOnly [R.KEY_STAT, pg 0x04 0x18, pg 0x04 0x1C] b t.blk) ∧
       ((∃ r, b.key.run = some r) → (∀ c v ctr z, b.key.run ≠ some (.commit c v ctr z)) → t.blk.key = { b.key with run := none } ∧
         rd t.blk (pg 0x04 0x2C) % 256 = 0x20 ∧ fget t.blk F.KEY_RESULT_reason = 0x0D)))

/-! ### Trust and tamper -/

/-- R201, R218, R223, R224, R227, R228: TMP_CMD CLEAR zeroes the latch and the level unless a latched source still holds; RAISE latches source 9
at its level and aborts a running enclave command, level 1 with its event alone, 2 emptying the working-key cache and the tag-unit keys, 3 zeroising
the roots and restarting the module UNKEYED with cause 0x0B; level 0 is refused with code 0x12; MEASURE extends measure register 5 by the 32 bytes
of its buffer, and is refused with code 0x10 once the registers are closed. -/
def Obligations.TamperCommands : Prop :=
  ∀ (rqid : Nat) (s : State), cmdFree s.blk rqid 0x05 →
    (let b := s.blk
     let cs := pg 0x05 0x2C
     let tamperRegs := [cs, R.TMP_LATCH, R.TMP_LASTSRC, R.TMP_LASTSEC, R.TMP_LASTNS, R.TMP_STAT, R.TMP_CNT]
     let ends (c : Instr) (code : Nat) : Prop := ∃ t, exec c s = .next t ∧ t.pending = s.pending ∧ answered b t.blk cs code ∧ RegsOnly [cs] b t.blk
     (rd b R.TMP_LATCH &&& fget b F.TMP_STAT_active ≠ 0 → ends (.tmpClear rqid) 0x10) ∧
     (rd b R.TMP_LATCH &&& fget b F.TMP_STAT_active = 0 → ∃ t, exec (.tmpClear rqid) s = .next t ∧ t.pending = s.pending ∧ answered b t.blk cs 0 ∧
       rd t.blk R.TMP_LATCH = 0 ∧ fget t.blk F.TMP_STAT_level = 0 ∧ RegsOnly [cs, R.TMP_LATCH, R.TMP_STAT] b t.blk) ∧
     ends (.tmpRaise rqid 0) 0x12 ∧
     (∃ t, exec (.tmpRaise rqid 1) s = .next t ∧ t.pending = s.pending ∧ answered b t.blk cs 0 ∧ t.blk.key.run = none ∧
       rd t.blk R.TMP_LATCH = rd b R.TMP_LATCH ||| 2 ^ 9 ∧ rd t.blk R.TMP_LASTSRC = 0x19 ∧ bitOf (rd t.blk (pg 0x05 0x10)) 0 = true ∧
       fget t.blk F.TMP_STAT_level = max (fget b F.TMP_STAT_level) 1 ∧
       (b.key.run = none → RegsButEv tamperRegs b t.blk ∧ t.blk.key = b.key ∧ SameMem b t.blk)) ∧
     (lcs b ≠ 15 → ∃ t, exec (.tmpRaise rqid 2) s = .next t ∧ t.pending = s.pending ∧ answered b t.blk cs 0 ∧
       rd t.blk R.TMP_LATCH = rd b R.TMP_LATCH ||| 2 ^ 9 ∧ rd t.blk R.TMP_LASTSRC = 0x29 ∧ fget t.blk F.TMP_STAT_level = max (fget b F.TMP_STAT_level) 2 ∧
       t.blk.key.leaves = [] ∧ t.blk.key.next = [] ∧ t.blk.key.tags = [] ∧ t.blk.key.run = none ∧
       (b.key.run = none → b.start.busy = false → t.blk.key = { b.key with leaves := [], next := [], tags := [] } ∧ RegsButEv tamperRegs b t.blk ∧
         SameMem b t.blk)) ∧
     (lcs b ≠ 15 → gaspBusy b = false → ∃ t, exec (.tmpRaise rqid 3) s = .next t ∧ t.pending = s.pending ∧ t.blk.key.leaves = [] ∧
       (∀ c, c < 3 → t.blk.key.prod.cell c = KCell.empty) ∧ lcs t.blk = 4 ∧ fget t.blk F.SYS_RSTCAUSE_cause = 0x0B ∧
       fget t.blk F.SYS_RSTCAUSE_class = 2 ∧ t.blk.start.last = 0) ∧
     (fon b F.TMP_STAT_closed = true → ends (.tmpMeasure rqid) 0x10) ∧
     (∀ d, fon b F.TMP_STAT_closed = false → engRead 0x084 (vaddr b) 32 b = (.ok, d, b) → ∃ t, exec (.tmpMeasure rqid) s = .next t ∧ t.pending = s.pending ∧
       answered b t.blk cs 0 ∧ t.blk.key = { b.key with meas := modAt [] b.key.meas 5 (fun x => Config.shake256 32 (x ++ d)) } ∧ RegsBut [cs] b t.blk ∧
       SameMem b t.blk))

/-- R210, R211, R215, R216, R228, R229: VERIFY refuses an unknown use with code 0x12 and a container shorter than its header with code 0x20 and
reason BADFORMAT; a container that it can read it checks, leaves the order, type and reason of the outcome in TMP_VRESULT, and ends with code 0 when
every check passes and else with code 0x20 and EV_TMP_VFAIL. A container that passes with use 1 and type 5 becomes the allow-list, with use 2 and
type 4 the image that the instance's slot records; use 0 changes nothing else (log entry 42). -/
def Obligations.VerifyReportsItsOutcome : Prop :=
  ∀ (rqid m : Nat) (s : State), m < 64 → cmdFree s.blk rqid 0x05 →
    (let b := s.blk
     let cs := pg 0x05 0x2C
     (∃ t, exec (.tmpVerify rqid 3 m) s = .next t ∧ t.pending = s.pending ∧ answered b t.blk cs 0x12 ∧ RegsOnly [cs] b t.blk) ∧
     (∀ use, use < 3 → rd b R.TMP_VLEN < 512 → ∃ t, exec (.tmpVerify rqid use m) s = .next t ∧ t.pending = s.pending ∧ answered b t.blk cs 0x20 ∧
       rd t.blk R.TMP_VRESULT = 0x01000001 ∧ RegsEvOnly [cs, R.TMP_VRESULT] b t.blk) ∧
     (∀ use h rest, use < 3 → 512 ≤ rd b R.TMP_VLEN → engRead 0x084 (vaddr b) 512 b = (.ok, h, b) →
       (let i := imgHdr h
        let whole := decide (i.n + 5253 ≤ rd b R.TMP_VLEN)
        let o := imgCheck b h rest whole m
        engRead 0x084 (vaddr b + 512) (if whole then i.n + 4741 else 0) b = (.ok, rest, b) →
        ∃ t, exec (.tmpVerify rqid use m) s = .next t ∧ t.pending = s.pending ∧ answered b t.blk cs (if o.1 = 0 then 0 else 0x20) ∧
          rd t.blk R.TMP_VRESULT = (o.2 * 2 ^ 24 + i.typ * 2 ^ 8 + o.1) % 2 ^ 32 ∧
          (use = 0 ∨ o.1 ≠ 0 → RegsEvOnly [cs, R.TMP_VRESULT] b t.blk) ∧
          (use = 1 → i.typ = 5 → o.1 = 0 → t.blk.trust.allow = rest.take i.n ∧ fget t.blk F.TMP_STAT_allow = 1) ∧
          (use = 2 → i.typ = 4 → o.1 = 0 → sget (fun _ => []) t.blk.trust.slots m =
            Config.shake256 32 h ++ i.digest ++ leBytes 4 i.vendor ++ leBytes 4 i.svn))))

/-- R45, R51, R223, R224, R226, R227, R229: a detected source is latched with its level, time and counts; a condition that holds shows in
TMP_STAT.active until it ends; level 2 empties the working-key cache and halts a start step in progress, level 3 zeroises the roots and restarts the
module UNKEYED; in fallow the level is kept for the wake. The loop's resistance shows in TMP_LOOP, and outside 10 Ω to 2 kΩ it is source 0. The TAP
answers IDCODE and BYPASS while the outputs are driven; another instruction is source 7 unless debug is open. -/
def Obligations.TamperSources : Prop :=
  ∀ s : State,
    (let b := s.blk
     let regs := [R.TMP_LATCH, R.TMP_LASTSRC, R.TMP_LASTSEC, R.TMP_LASTNS, R.TMP_STAT, R.TMP_CNT]
     let err := [pg 0x05 0x18, pg 0x05 0x1C]
     let latched (t : State) (src lvl : Nat) : Prop := t.pending = s.pending ∧ rd t.blk R.TMP_LATCH = rd b R.TMP_LATCH ||| 2 ^ src ∧
       rd t.blk R.TMP_LASTSRC = lvl * 16 + src ∧ rd t.blk R.TMP_LASTSEC = secOf b % 2 ^ 32 ∧ rd t.blk R.TMP_LASTNS = ns b % 1000000000 ∧
       fget t.blk F.TMP_STAT_level = max (fget b F.TMP_STAT_level) lvl ∧ bitOf (rd t.blk (pg 0x05 0x10)) 0 = true
     let active (t : State) (how : TamperHow) (src : Nat) : Prop := src < 7 → (fget t.blk F.TMP_STAT_active).testBit src = (how == .holds)
     (∀ src how rail st k, src < 9 → k < 5 → how ≠ .ends → b.pwr.phase ≠ .off → b.pwr.phase ≠ .fallow → tamperLevel b src = 1 →
       ∃ t, exec (.tamperDetect src ⟨how, rail⟩ st k) s = .next t ∧ latched t src 1 ∧ active t how src ∧ t.blk.key.run = none ∧
       (st = true → (rd t.blk (pg 0x05 0x18)).testBit 0 = true) ∧
       (b.key.run = none → t.blk.key = b.key ∧ RegsButEv (err ++ regs) b t.blk ∧ SameMem b t.blk)) ∧
     (∀ src how rail st k, src < 9 → k < 5 → how ≠ .ends → b.pwr.phase ≠ .off → b.pwr.phase ≠ .fallow → tamperLevel b src = 2 → lcs b ≠ 15 →
       ∃ t, exec (.tamperDetect src ⟨how, rail⟩ st k) s = .next t ∧ latched t src 2 ∧ active t how src ∧ t.blk.key.leaves = [] ∧ t.blk.key.next = [] ∧
       t.blk.key.tags = [] ∧ t.blk.start = (if b.start.busy then { b.start with halted := true } else b.start) ∧
       (b.start.busy = true → fget t.blk F.STL_STAT_halted = 1) ∧ (b.key.run = none → RegsButEv (R.STL_STAT :: err ++ regs) b t.blk)) ∧
     (∀ src how rail st k, src < 9 → k < 5 → how ≠ .ends → b.pwr.phase = .on → tamperLevel b src = 3 → lcs b ≠ 15 → gaspBusy b = false →
       ∃ t, exec (.tamperDetect src ⟨how, rail⟩ st k) s = .next t ∧ t.pending = s.pending ∧ t.blk.key.leaves = [] ∧
       (∀ c, c < 3 → t.blk.key.prod.cell c = KCell.empty) ∧ lcs t.blk = 4 ∧ fget t.blk F.SYS_RSTCAUSE_cause = 0x0B ∧ t.blk.start.last = 0) ∧
     (∀ src rail st k, src < 7 → k < 5 → b.pwr.phase ≠ .off → (b.pwr.phase = .fallow → watchedInFallow src rail = true) →
       ∃ t, exec (.tamperDetect src ⟨.ends, rail⟩ st k) s = .next t ∧ t.pending = s.pending ∧ (fget t.blk F.TMP_STAT_active).testBit src = false ∧
       (∀ i, i ≠ src → (fget t.blk F.TMP_STAT_active).testBit i = (fget b F.TMP_STAT_active).testBit i) ∧ RegsOnly [R.TMP_STAT] b t.blk) ∧
     (∀ src how rail k, src < 9 → k < 5 → how ≠ .ends → b.pwr.phase = .fallow → watchedInFallow src rail = true →
       ∃ t, exec (.tamperDetect src ⟨how, rail⟩ false k) s = .next t ∧ t.pending = s.pending ∧
       t.blk.trust = { b.trust with fallowLevel := max b.trust.fallowLevel (tamperLevel b src) } ∧ rd t.blk R.TMP_LATCH = rd b R.TMP_LATCH ||| 2 ^ src ∧
       RegsBut regs b t.blk ∧ SameMem b t.blk) ∧
     (∀ o, 10 ≤ o → o ≤ 2000 → b.pwr.phase ≠ .off → ∃ t, exec (.tamperLoopMeasure (some o) false) s = .next t ∧ t.pending = s.pending ∧
       rd t.blk R.TMP_LOOP = o ∧ (fget t.blk F.TMP_STAT_active).testBit 0 = false ∧ RegsBut [R.TMP_LOOP, R.TMP_STAT] b t.blk ∧ SameMem b t.blk) ∧
     (b.pwr.phase = .on → tamperLevel b 0 = 1 → b.key.run = none → bitOf (fget b F.TMP_STAT_active) 0 = false →
       ∃ t, exec (.tamperLoopMeasure none false) s = .next t ∧ latched t 0 1 ∧ rd t.blk R.TMP_LOOP = 0xFFFF ∧
       (fget t.blk F.TMP_STAT_active).testBit 0 = true ∧ RegsButEv (R.TMP_LOOP :: regs) b t.blk) ∧
     (running b = true → outputsOn b = true →
       exec (.tapInstruction .idcode) s = .next { s with blk := { b with out := [.tdo 32 (Config.idcode % 2 ^ 32)] } } ∧
       exec (.tapInstruction .bypass) s = .next { s with blk := { b with out := [.tdo 1 0] } }) ∧
     (running b = true → fon b F.SYS_STAT_dbg = true → exec (.tapInstruction .other) s = .next { s with blk := { b with out := [] } }) ∧
     (running b = true → fon b F.SYS_STAT_dbg = false → tamperLevel b 7 = 1 → b.key.run = none → ∃ t, exec (.tapInstruction .other) s = .next t ∧
       latched t 7 1 ∧ RegsButEv regs b t.blk ∧ SameMem b t.blk))

/-- R177, R220, R221, R222, R231: DBG_CMD CHALLENGE draws a nonce and arms it, and fails with code 0x20 while the entropy source is not healthy;
AUTH is refused in states SERVICE, UNKEYED and SCRAPPED, uses the nonce up, and on a token that fails records the reason and counts it; CLOSE asks
for debug to close at the next start. -/
def Obligations.DebugCommands : Prop :=
  ∀ (rqid : Nat) (s : State), cmdFree s.blk rqid 0x44 →
    (let b := s.blk
     let cs := pg 0x44 0x2C
     let tok := rd b R.DBG_TOKADDR_LO + rd b R.DBG_TOKADDR_HI % 256 * 2 ^ 32
     (rngOk b = true → ∃ t, exec (.dbgChallenge rqid) s = .next t ∧ t.pending = s.pending ∧ answered b t.blk cs 0 ∧
       t.blk.trust = { b.trust with nonceOk := true } ∧ RegsBut (cs :: (List.range 8).map R.DBG_NONCE) b t.blk ∧ SameMem b t.blk) ∧
     (rngOk b = false → ∃ t, exec (.dbgChallenge rqid) s = .next t ∧ t.pending = s.pending ∧ answered b t.blk cs 0x20 ∧ RegsOnly [cs] b t.blk) ∧
     ((lcs b = 2 ∨ lcs b = 4 ∨ lcs b = 15) → ∃ t, exec (.dbgAuth rqid) s = .next t ∧ t.pending = s.pending ∧ answered b t.blk cs 0x10 ∧
       RegsOnly [cs] b t.blk) ∧
     (∀ l, lcs b ≠ 2 → lcs b ≠ 4 → lcs b ≠ 15 → engRead 0x084 tok 4869 b = (.ok, l, b) → fget b F.DBG_STAT_fails < 7 →
       ∃ t, exec (.dbgAuth rqid) s = .next t ∧ t.pending = s.pending ∧ t.blk.trust.nonceOk = false ∧
         rd t.blk R.DBG_RESULT = tokenCheck b l % 2 ^ 32 ∧
         (tokenCheck b l ≠ 0 → answered b t.blk cs 0x20 ∧ fget t.blk F.DBG_STAT_fails = fget b F.DBG_STAT_fails + 1 ∧
           t.blk.trust = { b.trust with nonceOk := false }) ∧
         (tokenCheck b l = 0 → answered b t.blk cs 0 ∧ fget t.blk F.DBG_STAT_pending = 1 ∧ t.blk.trust.dbgScope = leNat ((l.drop 6).take 2) ∧
           t.blk.trust.dbgStarts = leNat ((l.drop 64).take 1)) ∧
         RegsButEv [cs, R.DBG_RESULT, R.DBG_STAT] b t.blk ∧ SameMem b t.blk) ∧
     (∃ t, exec (.dbgClose rqid) s = .next t ∧ t.pending = s.pending ∧ answered b t.blk cs 0 ∧ t.blk.trust = { b.trust with dbgClosing := true } ∧
       fget t.blk F.DBG_STAT_closing = 1 ∧ RegsBut [cs, R.DBG_STAT] b t.blk ∧ SameMem b t.blk))

/-! ### Ports -/

/-- R234, R235, R239, R248, R250, R251, R252, R254, R255: a link that comes up at a rate of the port's mode, once its step of the start is done and
nothing holds it down, sets link, rate and an and begins verification; one that goes down clears them, empties the port's queues, counts their
frames and negotiates anew; half duplex is refused with its event, and a rate above the one advertised is a failed downshift. Verification sends up
to three times and ends in success on a response or in failure. The end of a window reports the utilisation; below 5 % it steps the rate down and
above 40 % it restores it; after the hold the link may come up, and without a link there within 10 s the port returns to its configured rate.
ANRESTART and VERIFY act or are refused with code 0x10. What does not apply changes nothing. -/
def Obligations.LinksAndDownshift : Prop :=
  ∀ (m : Nat) (s : State), m < 15 → running s.blk = true →
    (let b := s.blk
     let p := port b m
     let st := R.MAC_STAT m
     let gone := [st, R.MAC_TXLINKDROP m, R.MAC_TXOK m, R.MAC_TXOCT_LO m, R.MAC_TXOCT_HI m, R.MAC_PAUSEDUS m]
     let evt (t : State) (j : Nat) : Prop := bitOf (rd t.blk (pg (0x10 + m) 0x10)) j = true
     let same (c : Instr) : Prop := exec c s = .next { s with blk := { b with out := [] } }
     let goes (c : Instr) (f : State → Prop) : Prop := ∃ t, exec c s = .next t ∧ t.pending = s.pending ∧ SameMem b t.blk ∧ f t
     let used (n : Nat) : Nat := n * 8 * psPerBit (rateOf b m)
     let most := max (used p.winRx) (used p.winTx)
     let down := fon b (F.MAC_STAT_link m) = false
     let mode := portMode b m
     let adv (g : Nat) : List Output := if mode = 3 then [.advertise m (3 + g) (cfgOn b (F.MAC_PORTCFG_obey m))]
       else if mode = 4 then [.advertise m 4 (cfgOn b (F.MAC_PORTCFG_obey m))] else if mode = 6 then [.advertise m (4 + g) false] else []
     let began (t : State) : Prop :=
       if 12 ≤ m ∨ cfgOn b (F.MAC_PREEMPT_en m) = false then fget t.blk (F.MAC_STAT_verify m) = 0 ∧ fget t.blk (F.MAC_STAT_pactive m) = 0 ∧ t.blk.out = []
       else if cfgOn b (F.MAC_PREEMPT_vdis m) = true then fget t.blk (F.MAC_STAT_verify m) = 0 ∧ fget t.blk (F.MAC_STAT_pactive m) = 1 ∧ t.blk.out = []
       else fget t.blk (F.MAC_STAT_verify m) = 1 ∧ fget t.blk (F.MAC_STAT_pactive m) = 0 ∧ t.blk.out = [.verify m] ∧
         (port t.blk m).verTries = 1 ∧ (port t.blk m).verAt = some (ns b + cfg b (F.MAC_PREEMPT_verifyms m) * 1000000)
     let upAt (r : Nat) (t : State) : Prop := fget t.blk (F.MAC_STAT_link m) = 1 ∧ fget t.blk (F.MAC_STAT_rate m) = r ∧
       fget t.blk (F.MAC_STAT_an m) = b2n (decide (mode = 3 ∨ mode = 4 ∨ mode = 6)) ∧ (port t.blk m).winOk = true ∧
       (port t.blk m).winEnd = (secOf b + 2) * 1000000000 ∧ began t ∧ evt t 0 ∧ RegsButEv [st] b t.blk
     let may (r : Nat) : Prop := portUp b m = true ∧ down ∧ fon b (F.MAC_CTL_txdis m) = false ∧ rateFits b m r = true ∧ p.dropEnd = none
     (∀ r, r < 8 → m < 14 → outputsOn b = true → may r → fon b (F.MAC_STAT_halfdup m) = false → goes (.linkUp m r) (upAt r)) ∧
     (∀ r, r < 8 → outputsOn b = false ∨ portUp b m = false ∨ fon b (F.MAC_STAT_link m) = true ∨ rateFits b m r = false → same (.linkUp m r)) ∧
     (m < 14 → fon b (F.MAC_STAT_link m) = true → goes (.linkDown m) (fun t => fget t.blk (F.MAC_STAT_link m) = 0 ∧
       fget t.blk (F.MAC_STAT_rate m) = 0 ∧ fget t.blk (F.MAC_STAT_an m) = 0 ∧ fget t.blk (F.MAC_STAT_pactive m) = 0 ∧
       (∀ c, c < 8 → queueOf t.blk m c = []) ∧ (port t.blk m).cur = none ∧ (port t.blk m).rest = none ∧
       rd t.blk (R.MAC_TXLINKDROP m) = (rd b (R.MAC_TXLINKDROP m) + (((List.range 8).map (fun c => (queueOf b m c).length)).sum +
         b2n (sending b m).isSome + b2n p.rest.isSome)) % 2 ^ 32 ∧ evt t 1 ∧ (sending b m = none → t.blk.out = adv p.goal) ∧
       RegsButEv (gone ++ if 12 ≤ m then [R.TWN_STAT] else []) b t.blk)) ∧
     (down → same (.linkDown m)) ∧
     (m < 12 →
     (∀ up r, r < 8 → mode = 6 → goes (.sgmiiControlWord m up true r) (fun t => fget t.blk (F.MAC_STAT_halfdup m) = 1 ∧
       fget t.blk (F.MAC_STAT_link m) = 0 ∧ evt t 9 ∧ RegsButEv gone b t.blk)) ∧
     (∀ r, r < 8 → mode = 6 → may r → goes (.sgmiiControlWord m true false r) (fun t => fget t.blk (F.MAC_STAT_halfdup m) = 0 ∧ upAt r t)) ∧
     (∀ up r, mode = 6 → r < 4 + p.goal → r < 8 → goes (.sgmiiControlWord m up false r) (fun t => fget t.blk (F.MAC_STAT_dshift m) = 3 ∧
       fget t.blk (F.MAC_STAT_link m) = 0 ∧ (port t.blk m).goal = 0 ∧ (port t.blk m).dsOff = true ∧ evt t 4 ∧ RegsButEv gone b t.blk)) ∧
     (∀ up half r, r < 8 → mode ≠ 6 → same (.sgmiiControlWord m up half r)) ∧
     (p.verAt = none → same (.verifyInterval m)) ∧
     (∀ w, p.verAt = some w → p.verTries < 3 → goes (.verifyInterval m) (fun t => t.blk.out = [.verify m] ∧ t.blk.regs = b.regs ∧
       t.blk.time = max b.time (w * 65536) ∧ port t.blk m = { p with verTries := p.verTries + 1, verAt := some (w + cfg b (F.MAC_PREEMPT_verifyms m) * 1000000) })) ∧
     (∀ w, p.verAt = some w → 3 ≤ p.verTries → goes (.verifyInterval m) (fun t => fget t.blk (F.MAC_STAT_verify m) = 3 ∧ evt t 6 ∧
       t.blk.time = max b.time (w * 65536) ∧ port t.blk m = { p with verAt := none } ∧ RegsButEv [st] b t.blk)) ∧
     (fget b (F.MAC_STAT_verify m) = 1 → goes (.verifyResponse m) (fun t => fget t.blk (F.MAC_STAT_verify m) = 2 ∧
       fget t.blk (F.MAC_STAT_pactive m) = 1 ∧ evt t 5 ∧ port t.blk m = { p with verAt := none } ∧ RegsButEv [st] b t.blk)) ∧
     (fget b (F.MAC_STAT_verify m) ≠ 1 → same (.verifyResponse m)) ∧
     (p.winOk = true → ¬(most < 50 * 1000000000 ∧ (lowerStep b m).isSome = true) → ¬(p.goal ≠ 0 ∧ 400 * 1000000000 < most) →
       goes (.downshiftWindowEnd m) (fun t => t.blk.time = max b.time (p.winEnd * 65536) ∧
       rd t.blk (R.MAC_UTIL m) = (used p.winTx / 1000000000 * 65536 + used p.winRx / 1000000000) % 2 ^ 32 ∧
       port t.blk m = { p with winRx := 0, winTx := 0, winEnd := p.winEnd + 1000000000 } ∧ RegsBut [R.MAC_UTIL m] b t.blk)) ∧
     (∀ g, p.winOk = true → lowerStep b m = some g → most < 50 * 1000000000 →
       goes (.downshiftWindowEnd m) (fun t => rd t.blk (R.MAC_DSHCNT m) = (rd b (R.MAC_DSHCNT m) + 1) % 2 ^ 32 ∧ fget t.blk (F.MAC_STAT_link m) = 0 ∧
       fget t.blk (F.MAC_STAT_dshift m) = 2 ∧ (port t.blk m).goal = g ∧ (port t.blk m).dropEnd = some (ns t.blk + cfg b (F.MAC_DSHIFT_hold m) * 1000000) ∧
       evt t 2 ∧ RegsButEv (R.MAC_UTIL m :: R.MAC_DSHCNT m :: gone) b t.blk)) ∧
     (p.winOk = true → p.goal ≠ 0 → 400 * 1000000000 < most →
       goes (.downshiftWindowEnd m) (fun t => fget t.blk (F.MAC_STAT_link m) = 0 ∧ fget t.blk (F.MAC_STAT_dshift m) = 2 ∧ (port t.blk m).goal = 0 ∧
       (port t.blk m).dropEnd = some (ns t.blk + cfg b (F.MAC_DSHIFT_hold m) * 1000000) ∧ (port t.blk m).blockEnd = some (ns t.blk + 60000000000) ∧
       evt t 3 ∧ RegsButEv (R.MAC_UTIL m :: gone) b t.blk)) ∧
     (p.winOk = false → same (.downshiftWindowEnd m)) ∧
     (∀ w, p.dropEnd = some w → goes (.downshiftHoldEnd m) (fun t => t.blk.time = max b.time (w * 65536) ∧
       fget t.blk (F.MAC_STAT_dshift m) = b2n (p.goal != 0) ∧ fget t.blk (F.MAC_STAT_dlevel m) = p.goal % 4 ∧
       port t.blk m = { p with dropEnd := none, failAt := if p.goal = 0 then none else some (w + 10000000000) } ∧ RegsBut [st] b t.blk)) ∧
     (p.dropEnd = none → same (.downshiftHoldEnd m)) ∧
     (∀ w, p.failAt = some w → down → goes (.downshiftFail m) (fun t => t.blk.time = max b.time (w * 65536) ∧
       fget t.blk (F.MAC_STAT_dshift m) = 3 ∧ fget t.blk (F.MAC_STAT_dlevel m) = 0 ∧ evt t 4 ∧
       port t.blk m = { p with goal := 0, dropEnd := none, failAt := none, dsOff := true } ∧ t.blk.out = adv 0 ∧ RegsButEv [st] b t.blk)) ∧
     (p.failAt = none ∨ fon b (F.MAC_STAT_link m) = true → same (.downshiftFail m)) ∧
     (∀ w, p.blockEnd = some w → goes (.downshiftBlockEnd m) (fun t => t.blk.regs = b.regs ∧ t.blk.time = max b.time (w * 65536) ∧
       port t.blk m = { p with blockEnd := none })) ∧
     (∀ rqid, cmdFree b rqid (0x10 + m) → mode ∈ [3, 4, 6] → goes (.macAnrestart rqid m) (fun t =>
       answered b t.blk (pg (0x10 + m) 0x2C) 0 ∧ fget t.blk (F.MAC_STAT_an m) = 0 ∧ fget t.blk (F.MAC_STAT_link m) = 0 ∧
       (down → t.blk.out = adv p.goal) ∧ RegsButEv (pg (0x10 + m) 0x2C :: gone) b t.blk)) ∧
     (∀ rqid, cmdFree b rqid (0x10 + m) → cfgOn b (F.MAC_PREEMPT_en m) = true → fon b (F.MAC_STAT_link m) = true →
       goes (.macVerify rqid m) (fun t => answered b t.blk (pg (0x10 + m) 0x2C) 0 ∧ began t ∧ RegsBut [pg (0x10 + m) 0x2C, st] b t.blk)) ∧
     (∀ rqid, cmdFree b rqid (0x10 + m) → cfgOn b (F.MAC_PREEMPT_en m) = true → down →
       goes (.macVerify rqid m) (fun t => answered b t.blk (pg (0x10 + m) 0x2C) 0 ∧ RegsBut [pg (0x10 + m) 0x2C] b t.blk))) ∧
     (∀ rqid, cmdFree b rqid (0x10 + m) → 12 ≤ m ∨ mode ∉ [3, 4, 6] → goes (.macAnrestart rqid m) (fun t =>
       answered b t.blk (pg (0x10 + m) 0x2C) 0x10 ∧ RegsBut [pg (0x10 + m) 0x2C] b t.blk)) ∧
     (∀ rqid, cmdFree b rqid (0x10 + m) → 12 ≤ m ∨ cfgOn b (F.MAC_PREEMPT_en m) = false → goes (.macVerify rqid m) (fun t =>
       answered b t.blk (pg (0x10 + m) 0x2C) 0x10 ∧ RegsBut [pg (0x10 + m) 0x2C] b t.blk)))
/-! ### Frames -/

/-- R236, R237, R238, R240, R242, R243, R244, R246, R249, R256, R260, R280: a received frame is counted under the first check it fails and dropped,
or counted and put before the switch; with the link down or the port not brought up nothing is received. A PAUSE is counted, obeyed only where obey
is set, and its timer's end adds the time held. An output without a frame to send starts none; one with a frame takes it from its class queue and
counts it with its octets, and a frame longer than maxlen is dropped and counted; an express frame interrupts a preemptable one, whose remainder
waits and goes on after it. A frame of an on-die endpoint is counted at H and put before the switch.
R275, R276, R278, R281, R282, R284, R287, R288, R297: without a received frame nothing is forwarded; a frame on an input of no pair that is not a
member of its VLAN is dropped and counted. A broadcast on a VLAN of two ports is queued at the other one. A frame is cut through only on a ring
pair, to its other port, and one that ends bad at its input is stomped at its output and counted. Ageing removes the learned entry seen longest ago.
The filter window clears its counts. A pair that is off sends no supervision frame. FLUSHNODES and the node timer remove node entries, and an
accepted number is forgotten when its time has passed. -/
def Obligations.FramesThroughTheSwitch : Prop :=
  (∀ (m : Nat) (s : State), m < 14 → running s.blk = true →
    (let b := s.blk
     let p := port b m
     let lk := fon b (F.MAC_STAT_link m) = true
     let up := lk ∧ portUp b m = true
     let same (c : Instr) : Prop := exec c s = .next { s with blk := { b with out := [] } }
     let goes (c : Instr) (f : State → Prop) : Prop := ∃ t, exec c s = .next t ∧ t.pending = s.pending ∧ SameMem b t.blk ∧ f t
     let inc (t : State) (a : Nat) : Prop := rd t.blk a = (rd b a + 1) % 2 ^ 32
     let octs (t : State) (a n : Nat) : Prop := rd64 t.blk a = (rd64 b a + n) % 2 ^ 64
     let sy := R.MAC_RXSYMERR m
     let code (f : Frame) (t : State) : Prop := rd t.blk sy = (rd b sy + b2n f.sym) % 2 ^ 32
     let okRegs := [R.MAC_RXOK m, R.MAC_RXOCT_LO m, R.MAC_RXOCT_HI m]
     let drops (f : Frame) (l : List Nat) : Prop := goes (.macReceive m f) (fun t => (∀ a, a ∈ l → inc t a) ∧ code f t ∧ t.blk.net.rx = b.net.rx ∧
       t.blk.out = [] ∧ RegsButEv (sy :: l) b t.blk)
     let before (t : State) (q : QFrame) : Prop := t.blk.net.rx = b.net.rx ++ [q] ∧ t.blk.net.nextId = b.net.nextId + 1
     let whole (f : Frame) : Prop := up ∧ f.asmErr = false ∧ f.len ≠ 0
     let fits (f : Frame) : Prop := whole f ∧ 64 ≤ f.len ∧ f.len ≤ maxLen b m
     (∀ f, ¬up → same (.macReceive m f)) ∧
     (∀ f, up → f.len = 0 → goes (.macReceive m f) (fun t => code f t ∧ RegsBut [sy] b t.blk ∧ t.blk.net = b.net)) ∧
     (∀ f, whole f → f.len ≤ 63 → m < 12 → drops f [R.MAC_RXRUNT m]) ∧
     (∀ f, whole f → 64 ≤ f.len → maxLen b m < f.len → m < 12 → drops f [R.MAC_RXOVERSIZE m]) ∧
     (∀ f, fits f → f.fcs = .stomped → m < 12 → drops f [R.MAC_RXSTOMPED m]) ∧
     (∀ f, fits f → f.fcs ≠ .stomped → f.fcs = .bad ∨ f.sym = true → drops f [R.MAC_RXFCSERR m]) ∧
     (∀ f, fits f → f.fcs = .good → f.sym = false → f.etype ≠ 0x8808 → goes (.macReceive m f) (fun t => inc t (R.MAC_RXOK m) ∧
       octs t (R.MAC_RXOCT_LO m) f.len ∧ RegsBut okRegs b t.blk ∧ (12 ≤ m → t.blk.net.rx = b.net.rx) ∧
       (m < 12 → before t ⟨b.net.nextId, f, 0, m, rxStamp b m, false, 0x3FF, none, false, cellsOf f.len, halfNs b⟩))) ∧
     (m < 12 →
     (∀ f, up → f.len ≠ 0 → f.asmErr = true → goes (.macReceive m f) (fun t => inc t (R.MAC_RXASMERR m) ∧ t.blk.net.rx = b.net.rx ∧
       RegsBut [R.MAC_RXASMERR m] b t.blk)) ∧
     (∀ f, fits f → f.fcs = .good → f.sym = false → f.etype = 0x8808 → (∀ q, f.body = .macctl 1 q → f.dst ≠ 0x0180C2000001 ∧ f.dst ≠ b.part.mac) →
       goes (.macReceive m f) (fun t => inc t (R.MAC_RXCTLUNK m) ∧ inc t (R.MAC_RXOK m) ∧ t.blk.net.rx = b.net.rx ∧
       RegsBut (R.MAC_RXCTLUNK m :: okRegs) b t.blk)) ∧
     (∀ q, q < 65536 → up → 64 ≤ maxLen b m → cfgOn b (F.MAC_PORTCFG_obey m) = false → goes (.pauseReceive m q) (fun t => inc t (R.MAC_RXPAUSE m) ∧
       inc t (R.MAC_RXOK m) ∧ t.blk.net.rx = b.net.rx ∧ (port t.blk m).pauseEnd = p.pauseEnd ∧ RegsBut (R.MAC_RXPAUSE m :: okRegs) b t.blk)) ∧
     (∀ q, 0 < q → q < 65536 → up → 64 ≤ maxLen b m → cfgOn b (F.MAC_PORTCFG_obey m) = true → p.txEnd ≤ ns b →
       goes (.pauseReceive m q) (fun t => inc t (R.MAC_RXPAUSE m) ∧ fget t.blk (F.MAC_STAT_paused m) = 1 ∧
       (port t.blk m).pauseEnd = some (ns b + q * 512 * psPerBit (rateOf b m) / 1000) ∧
       (port t.blk m).holdFrom = (if p.pauseEnd.isSome then p.holdFrom else ns b) ∧ RegsBut (R.MAC_STAT m :: R.MAC_RXPAUSE m :: okRegs) b t.blk)) ∧
     (∀ q, 0 < q → q < 65536 → up → 64 ≤ maxLen b m → cfgOn b (F.MAC_PORTCFG_obey m) = true → ns b < p.txEnd → p.pauseEnd = none →
       fon b (F.MAC_STAT_pactive m) = false → goes (.pauseReceive m q) (fun t => inc t (R.MAC_RXPAUSE m) ∧ (port t.blk m).cur = p.cur ∧
       (port t.blk m).pauseEnd = some (ns b + q * 512 * psPerBit (rateOf b m) / 1000) ∧ (port t.blk m).holdFrom = p.txEnd ∧
       RegsBut (R.MAC_RXPAUSE m :: okRegs) b t.blk)) ∧
     (p.pauseEnd = none → same (.pauseTimerExpiry m)) ∧
     (∀ w, p.pauseEnd = some w → goes (.pauseTimerExpiry m) (fun t => fget t.blk (F.MAC_STAT_paused m) = 0 ∧ port t.blk m = { p with pauseEnd := none } ∧
       rd t.blk (R.MAC_PAUSEDUS m) = (rd b (R.MAC_PAUSEDUS m) + (w - p.holdFrom) / 1000) % 2 ^ 32 ∧ t.blk.time = max b.time (w * 65536) ∧
       RegsBut [R.MAC_STAT m, R.MAC_PAUSEDUS m] b t.blk)) ∧
     (∀ q x c d, outputsOn b = true → lk → sending b m = some q → q.noRing = false → fragPoint b m = some x → fon b (F.MAC_STAT_pactive m) = true →
       isExpress b m q.cls = false → p.rest = none → p.pauseEnd = none → pickClass b m (isExpress b m) = some (c, d) →
       goes (.outputTransmit m true) (fun t => inc t (R.MAC_TXFRAG m) ∧ (port t.blk m).rest = some q ∧ (port t.blk m).restNs = p.txEnd - x ∧
         queueOf t.blk m c = (queueOf b m c).tail ∧ x ≤ ns t.blk)) ∧
     (∀ q, outputsOn b = true → lk → p.rest = some q → p.pauseEnd = none → pickClass b m (isExpress b m) = none →
       goes (.outputTransmit m false) (fun t => (port t.blk m).cur = some q ∧ (port t.blk m).rest = none ∧ (port t.blk m).txFrom = ns t.blk ∧
         (port t.blk m).txEnd = ns t.blk + bytesNs b m 8 + p.restNs ∧ t.blk.regs = b.regs))) ∧
     (∀ pre, fon b (F.MAC_STAT_link m) = false ∨ outputsOn b = false → same (.outputTransmit m pre)) ∧
     (sending b m = none → same (.outputTransmit m true)) ∧
     (outputsOn b = true → lk → p.rest = none → p.pauseEnd = none → pickClass b m (fun _ => true) = none →
       goes (.outputTransmit m false) (fun t => t.blk.regs = b.regs ∧ t.blk.out = [] ∧ (∀ c, queueOf t.blk m c = queueOf b m c) ∧
         t.blk.time = if 0 < p.txEnd then max b.time ((p.txEnd + bytesNs b m 12) * 65536) else b.time)) ∧
     (∀ c d q l, outputsOn b = true → lk → p.rest = none → p.pauseEnd = none → pickClass b m (fun _ => true) = some (c, d) → queueOf b m c = q :: l →
       (let ovr := match q.f.inst with | some n => [(F.VIM_ISTATE_overshare n).addr] | none => []
        (q.f.len ≤ maxLen b m → goes (.outputTransmit m false) (fun t => inc t (R.MAC_TXOK m) ∧ octs t (R.MAC_TXOCT_LO m) (max 64 q.f.len) ∧
          queueOf t.blk m c = l ∧ (port t.blk m).cur = some { q with f := { q.f with len := max 64 q.f.len } } ∧ (port t.blk m).txFrom = ns t.blk ∧
          (port t.blk m).txEnd = ns t.blk + wireNs b m (max 64 q.f.len) ∧ t.blk.out.length = 1 ∧
          RegsButEv ([R.MAC_TXOK m, R.MAC_TXOCT_LO m, R.MAC_TXOCT_HI m, R.TIM_STAT, R.TIM_TXQOVF] ++ ovr) b t.blk)) ∧
        (maxLen b m < q.f.len → goes (.outputTransmit m false) (fun t => inc t (R.MAC_TXOVERSIZE m) ∧ queueOf t.blk m c = l ∧ t.blk.out = [] ∧
          RegsBut (R.MAC_TXOVERSIZE m :: ovr) b t.blk)))))) ∧
  (∀ s : State, running s.blk = true →
    (let b := s.blk
     let same (c : Instr) : Prop := exec c s = .next { s with blk := { b with out := [] } }
     let goes (c : Instr) (f : State → Prop) : Prop := ∃ t, exec c s = .next t ∧ t.pending = s.pending ∧ SameMem b t.blk ∧ f t
     let inc (t : State) (a : Nat) : Prop := rd t.blk a = (rd b a + 1) % 2 ^ 32
     (∀ f cls ip udp sid inst, okHIngress cls sid inst = true →
       (let h := { f with fcs := .good, sym := false, asmErr := false }
        let g := (checksums h ip udp).2
        let q : QFrame := ⟨b.net.nextId, g, cls, 14, ns b, false, 0, sid, false, cellsOf f.len, halfNs b⟩
        let more := match inst with | some n => [sp n 0x1E 0x100] | none => []
        let c := R.MAC_CSUMSKIP 14
        (isUp b 13 = false → same (.hIngress f cls ip udp sid inst)) ∧
        (isUp b 13 = true → 2048 < f.len → goes (.hIngress f cls ip udp sid inst) (fun t => inc t (R.MAC_RXOVERSIZE 14) ∧ t.blk.net = b.net ∧
          RegsButEv [R.MAC_RXOVERSIZE 14] b t.blk)) ∧
        (isUp b 13 = true → f.len ≤ 2048 → goes (.hIngress f cls ip udp sid inst) (fun t => inc t (R.MAC_RXOK 14) ∧
          rd64 t.blk (R.MAC_RXOCT_LO 14) = (rd64 b (R.MAC_RXOCT_LO 14) + f.len) % 2 ^ 64 ∧ rd t.blk c = (rd b c + b2n (checksums h ip udp).1) % 2 ^ 32 ∧
          (∀ a, a ∈ more → inc t a) ∧
          RegsBut ([c, R.MAC_RXOK 14, R.MAC_RXOCT_LO 14, R.MAC_RXOCT_HI 14, R.MAC_RXPAUSE 14, R.MAC_RXCTLUNK 14] ++ more) b t.blk ∧
          (f.etype = 0x8808 → t.blk.net = b.net) ∧ (f.etype ≠ 0x8808 →
            t.blk.net = { b.net with nextId := b.net.nextId + 1, rx := b.net.rx ++ [q] }))))) ∧
     (∀ c d q l, outputsOn b = true → (port b 14).rest = none → pickClass b 14 (fun _ => true) = some (c, d) → sendQ b 14 c = q :: l →
       q.f.ip = none → q.f.len ≤ 2048 → goes (.outputTransmit 14 false) (fun t => inc t (R.MAC_TXOK 14) ∧ t.blk.out = [.host q.f q.stamp q.half] ∧
         queueOf t.blk 14 c = (queueOf b 14 c).erase q)) ∧
     (b.net.rx = [] ∨ isUp b 6 = false → same .switchForward) ∧
     (∀ q l, isUp b 6 = true → b.net.rx = q :: l → pairOf b q.inp = none → q.pub ≠ 352 → bitOf (vlanW b (vidOf b q.inp q.f) 0) q.inp = false →
       goes .switchForward (fun t => inc t (R.SWC_VLANDROP q.inp) ∧ t.blk.net = { b.net with rx := l } ∧ RegsBut [R.SWC_VLANDROP q.inp] b t.blk)) ∧
     (∀ q l o, isUp b 6 = true → b.net.rx = q :: l → q.inp < 15 → o < 15 → o ≠ q.inp → pairOf b q.inp = none → pairOf b o = none → q.pub ≠ 352 →
       q.f.inst = none →
       (let v := vidOf b q.inp q.f
        let c := if q.inp = 14 then q.cls else classify b q.inp q.f
        let f := egressTag b v o q.f
        bitOf (vlanW b v 0) 31 = true → vlanW b v 0 % 2 ^ 15 = 2 ^ q.inp + 2 ^ o →
        (q.f.tag.isSome = true ∨ cfgOn b (F.SWC_PORTCFG_tagonly q.inp) = false) → q.f.dst = 0xFFFFFFFFFFFF →
        (∀ k, k < 512 → filtHit b k q.inp v q.f = false) →
        linkUp b o = true → qocc b o c + q.cells ≤ cfg b (F.SWC_QUOTA_cells o c) → cellsUsed b + q.cells ≤ 98304 →
        goes .switchForward (fun t => queueOf t.blk o c = queueOf b o c ++ [{ q with cls := c, f := f }] ∧ t.blk.net.rx = l ∧
          RegsButEv [R.SWC_LEARNFULL] b t.blk))) ∧
     (∀ m f, m < 12 → pairOf b m = none ∨ portUp b m = false ∨ f.hsr = none ∨ f.len < 64 ∨ linkUp b m = false ∨ f.src = b.part.mac ∨
       f.dst = b.part.mac ∨ earlierRx b m (classify b m f) = true → same (.cutThrough m f)) ∧
     (∀ m f i, m < 12 → pairOf b m = some i → pairKind b i ≠ 2 → same (.cutThrough m f)) ∧
     (∀ m f i x, m < 12 → pairOf b m = some i → pairKind b i = 2 → portUp b m = true → f.hsr = some x → 64 ≤ f.len → f.src ≠ b.part.mac →
       f.dst ≠ b.part.mac →
       (let o := if m = pairA b i then pairB b i else pairA b i
        let dir := if o = pairA b i then 1 else 2
        let c := classify b m f
        let q : QFrame := ⟨b.net.nextId, f, c, m, rxStamp b m, false, 0x3FF, none, true, 0, halfNs b⟩
        (∀ n, findNode b i f.src = some n → n.remembers dir x.1 (ns b) = false) → earlierRx b m c = false →
        outputBusy b o c = false → queueOf b o c = [] → linkUp b o = true → linkUp b m = true → goes (.cutThrough m f) (fun t =>
          t.blk.out = [.tx o f] ∧ inc t R.SWC_CTFWD ∧ inc t (R.PRP_RINGFWD i) ∧
          RegsButEv [R.SWC_CTFWD, R.PRP_RINGFWD i, R.PRP_NODEFULL, R.PRP_OUTWIN i] b t.blk ∧ (port t.blk o).cur = some q ∧
          t.blk.net.ct = (q, o, false) :: b.net.ct.filter (fun x => x.2.1 != o)))) ∧
     (∀ o e, o < 12 → b.net.ct.find? (fun x => x.2.1 == o) = none → same (.cutThroughEnd o e)) ∧
     (∀ o q gone, o < 12 → b.net.ct.find? (fun x => x.2.1 == o) = some (q, o, gone) → q.inp < 15 →
       (let m := q.inp
        let left := b.net.ct.filter (fun x => x.2.1 != o)
        let out := [R.MAC_TXSTOMP o, R.SWC_CTSTOMP]
        (∀ e l, (e, l) ∈ [(CtEnd.fcs, [R.MAC_RXFCSERR m]), (.stomped, [R.MAC_RXSTOMPED m]), (.oversize, [R.MAC_RXOVERSIZE m]),
            (.code, [R.MAC_RXFCSERR m, R.MAC_RXSYMERR m])] → goes (.cutThroughEnd o e) (fun t => (∀ a, a ∈ l → inc t a) ∧ t.blk.net.ct = left ∧
            t.blk.net.rx = b.net.rx ∧ (gone = true → t.blk.out = [] ∧ RegsButEv l b t.blk) ∧
            (gone = false → (∀ a, a ∈ out → inc t a) ∧ (∃ n, t.blk.out = [.txEnd o n (some .stomped)]) ∧ RegsButEv (l ++ out) b t.blk))) ∧
        (q.f.len ≤ maxLen b m → goes (.cutThroughEnd o .good) (fun t => inc t (R.MAC_RXOK m) ∧ t.blk.net.ct = left ∧
          t.blk.net.rx = b.net.rx ++ [⟨b.net.nextId, q.f, 0, m, q.stamp, false, 0x3FF, none, true, cellsOf q.f.len, q.half⟩] ∧
          (gone = true → t.blk.out = [] ∧ RegsBut [R.MAC_RXOK m, R.MAC_RXOCT_LO m, R.MAC_RXOCT_HI m] b t.blk) ∧
          (gone = false → inc t (R.MAC_TXOK o) ∧ t.blk.out = [.txEnd o q.f.len (some .good)]))) ∧
        (gone = true → same (.cutThroughEnd o .linkDrop)) ∧
        (gone = false → goes (.cutThroughEnd o .linkDrop) (fun t => inc t (R.MAC_TXLINKDROP o) ∧ t.blk.out = [.txEnd o (sentBytes b o) none] ∧
          RegsBut [R.MAC_TXLINKDROP o] b t.blk)) ∧
        (sending b o = some q → goes (.cutThroughEnd o .preempted) (fun t => inc t (R.MAC_TXFRAG o) ∧ (port t.blk o).cur = none ∧
          (port t.blk o).rest.isSome = true ∧ RegsBut [R.MAC_TXFRAG o] b t.blk)))) ∧
     (cfg b F.SWC_CFG_agesec = 0 ∨ (∀ x, x ∈ b.net.fdb → x.2.static = true) → same .fdbAgeing) ∧
     (∀ x, cfg b F.SWC_CFG_agesec ≠ 0 → x ∈ b.net.fdb → x.2.static = false → ∃ y, y ∈ b.net.fdb ∧ y.2.static = false ∧ y.2.seen ≤ x.2.seen ∧
       goes .fdbAgeing (fun t => t.blk.time = max b.time ((y.2.seen + cfg b F.SWC_CFG_agesec * 1000000000) * 65536) ∧ t.blk.regs = b.regs ∧
         t.blk.net = { b.net with fdb := b.net.fdb.filter (fun z => z.1 != y.1) })) ∧
     (b.net.filtWin = ns b / 1000000 → same .filterWindow) ∧
     (b.net.filtWin ≠ ns b / 1000000 → (let n := { b.net with filtWin := ns b / 1000000, filtCnt := [] }
       exec .filterWindow s = .next { s with blk := { b with out := [], net := n } })) ∧
     (∀ i, i < 6 → pairKind b i = 0 → same (.prpSupervision i)) ∧
     (∀ i, i < 6 → pairKind b i ≠ 0 → goes (.prpSupervision i) (fun t =>
       fget t.blk (F.PRP_TXSEQ_seq i) = (fget b (F.PRP_TXSEQ_seq i) + 1) % 65536 ∧ t.blk.net.nextId = b.net.nextId + 1 ∧
       t.blk.time = max b.time ((sget (fun _ => 0) b.net.supAt i + cfg b (F.PRP_PAIR_w1_lifecheck i) * 1000000) * 65536))) ∧
     (b.net.nodes = [] → same .prpNodeForget) ∧ (nextForget b = none → same .prpForget) ∧
     (∀ n, n ∈ b.net.nodes → ∃ y, y ∈ b.net.nodes ∧ y.til ≤ n.til ∧ goes .prpNodeForget (fun t => t.blk.time = max b.time (y.til * 65536) ∧
       t.blk.regs = b.regs ∧ t.blk.net = { b.net with nodes := b.net.nodes.filter (fun z => !(z.pair == y.pair && z.src == y.src)) })) ∧
     (∀ x i src d q n, nextForget b = some (x, i, src, d, q) → findNode b i src = some n → goes .prpForget (fun t => t.blk.regs = b.regs ∧
       t.blk.time = max b.time (x * 65536) ∧
       findNode t.blk i src = some { n with recs := sset (fun _ => []) n.recs d ((n.dirRecs d).filter (fun r => !(r.seq == q && r.til == x))) })) ∧
     (∀ rqid, cmdFree b rqid 0x21 → goes (.prpFlushnodes rqid) (fun t => answered b t.blk (pg 0x21 0x2C) 0 ∧ t.blk.net = { b.net with nodes := [] } ∧
       RegsBut [pg 0x21 0x2C] b t.blk))))
/-! ### Serial lines -/

/-- R263, R264, R265, R266, R269: SEND, RXPOP and ABORT are refused to any requester but the line's owner with code 0x11, in the manager's
form and in the instance's form alike; SEND reads the bytes and waits for an idle line, RXPOP frees the oldest slot, ABORT of a waiting frame frees
the line, and of one being sent ends it with the character in progress. A byte joins the frame in progress and stops the reply timer; a gap marks
the frame if it goes on; the end silence writes it to the ring, or drops and counts it when the ring is full or may not be written. A waiting frame
takes the line after the silence, leads, sends its bytes, lags, and starts the reply timer, whose end is counted. -/
def Obligations.SerialLines : Prop :=
  ∀ (p : Nat) (s : State), p < 2 → running s.blk = true →
    (let b := s.blk
     let x := serial b p
     let evt (t : State) (j : Nat) : Prop := bitOf (rd t.blk (pg 0x36 0x10)) (8 * p + j) = true
     let same (c : Instr) : Prop := exec c s = .next { s with blk := { b with out := [] } }
     let goes (c : Instr) (f : State → Prop) : Prop := ∃ t, exec c s = .next t ∧ t.pending = s.pending ∧ f t
     let opt := b.part.optS = true
     let inc (b : Block) (t : State) (a : Nat) : Prop := rd t.blk a = (rd b a + 1) % 2 ^ 32
     let len := fget b (F.SER_TXLEN_len p)
     let src := rd b (R.SER_TXADDR_LO p) + rd b (R.SER_TXADDR_HI p) % 256 * 2 ^ 32
     let form (rqid : Nat) (i : Option Nat) (cs : Nat) : Prop :=
       (i = none ∧ cs = pg 0x36 0x2C ∧ cmdFree b rqid 0x36) ∨ ∃ n, i = some n ∧ cs = sp n 0x36 0x1F4 ∧ subFree b rqid 0x36 n 0x1F0 0x1F4
     (∀ rqid i cs, form rqid i cs →
       (rqid ≠ serOwner b p → ∀ c, c ∈ [Instr.serSend rqid i p, .serRxpop rqid i p, .serAbort rqid i p] →
         goes c (fun t => answered b t.blk cs 0x11 ∧ RegsOnly [cs] b t.blk)) ∧
       (rqid = serOwner b p → x.tx ≠ .idle ∨ serOn b p = false → goes (.serSend rqid i p) (fun t => answered b t.blk cs 0x10 ∧ RegsOnly [cs] b t.blk)) ∧
       (rqid = serOwner b p → x.tx = .idle → serOn b p = true → (len = 0 ∨ 512 < len) →
         goes (.serSend rqid i p) (fun t => answered b t.blk cs 0x12 ∧ RegsOnly [cs] b t.blk)) ∧
       (∀ l, rqid = serOwner b p → x.tx = .idle → serOn b p = true → 0 < len → len ≤ 512 → engRead rqid src len b = (.ok, l, b) →
         goes (.serSend rqid i p) (fun t => answered b t.blk cs 0 ∧ t.blk.ser = modAt Ser.init b.ser p (fun y => { y with tx := .wait, txBytes := l, abort := false }) ∧
           fget t.blk (F.SER_STAT_txbusy p) = 1 ∧ RegsBut [cs, R.SER_STAT] b t.blk ∧ SameMem b t.blk)) ∧
       (rqid = serOwner b p → x.occ = 0 → goes (.serRxpop rqid i p) (fun t => answered b t.blk cs 0x10 ∧ RegsOnly [cs] b t.blk)) ∧
       (rqid = serOwner b p → x.occ ≠ 0 → goes (.serRxpop rqid i p) (fun t => answered b t.blk cs 0 ∧ serial t.blk p = { x with occ := x.occ - 1 } ∧
         fget t.blk (F.SER_RXHEAD_slot p) = (fget b (F.SER_RXHEAD_slot p) + 1) % 8 ∧ RegsBut [cs, R.SER_RXHEAD p] b t.blk ∧ SameMem b t.blk)) ∧
       (rqid = serOwner b p → x.tx = .idle → goes (.serAbort rqid i p) (fun t => answered b t.blk cs 0x10 ∧ RegsOnly [cs] b t.blk)) ∧
       (rqid = serOwner b p → x.tx = .wait → goes (.serAbort rqid i p) (fun t => answered b t.blk cs 0 ∧ fget t.blk (F.SER_STAT_txbusy p) = 0 ∧
         serial t.blk p = { x with tx := .idle, txBytes := [], abort := false } ∧ RegsBut [cs, R.SER_STAT] b t.blk ∧ SameMem b t.blk)) ∧
       (rqid = serOwner b p → x.tx = .lead ∨ x.tx = .lag → goes (.serAbort rqid i p) (fun t => answered b t.blk cs 0 ∧
         serial t.blk p = { x with tx := .data, txAt := ns b, abort := true } ∧ RegsBut [cs] b t.blk ∧ SameMem b t.blk)) ∧
       (rqid = serOwner b p → x.tx = .data → goes (.serAbort rqid i p) (fun t => answered b t.blk cs 0 ∧ (serial t.blk p).abort = true ∧
         (x.abort = false → (serial t.blk p).txAt = ns b + (x.txAt - ns b) % bitNs (serCfg b p).1 (serCfg b p).2.1) ∧ RegsBut [cs] b t.blk ∧
         SameMem b t.blk))) ∧
     (∀ c pbit fe br, outputsOn b = true → serOn b p = true → x.tx = .idle ∨ x.tx = .wait → goes (.serCharacterReceive p c pbit fe br) (fun t =>
       (let k := serCfg b p
        let fl := b2n (parityBad (serWord b p) c pbit) + 2 * b2n fe + 4 * b2n x.gap + 8 * b2n (decide (512 ≤ x.rx.length)) + 16 * b2n br
        serial t.blk p = { x with
          rxOn := true, rx := if x.rx.length < 512 then x.rx ++ [c] else x.rx,
          rxFlags := (if x.rxOn then x.rxFlags else 0) ||| fl, rxStart := if x.rxOn then x.rxStart else ns b,
          rxEnd := ns b + bitNs k.1 k.2.1, reply := none, cfg := some (serWord b p), gap := false }) ∧ (∀ q, q ≠ p → serial t.blk q = serial b q) ∧
       fget t.blk (F.SER_STAT_rxactive p) = 1 ∧ fget t.blk (F.SER_STAT_await p) = 0 ∧ RegsBut [R.SER_STAT] b t.blk ∧ SameMem b t.blk)) ∧
     (∀ c pbit fe br, serOn b p = false ∨ outputsOn b = false ∨ x.tx ∉ [.idle, .wait] → same (.serCharacterReceive p c pbit fe br)) ∧
     (x.rxOn = false → same (.serGapSilence p) ∧ same (.serEndSilence p)) ∧
     (outputsOn b = true → x.rxOn = true → goes (.serGapSilence p) (fun t => serial t.blk p = { x with gap := true } ∧ t.blk.regs = b.regs ∧
       t.blk.time = max b.time ((x.rxEnd + serIc b p) * 65536) ∧ SameMem b t.blk)) ∧
     (outputsOn b = true → x.rxOn = true → x.occ = 8 → goes (.serEndSilence p) (fun t => inc b t (R.SER_RXDROP p) ∧ (opt → evt t 4) ∧
       serial t.blk p = { x with rxOn := false, rx := [], rxFlags := 0, gap := false, seq := x.seq + 1, cfg := none } ∧
       t.blk.time = max b.time ((x.rxEnd + serEof b p) * 65536) ∧ RegsButEv [R.SER_STAT, R.SER_RXDROP p] b t.blk ∧ SameMem b t.blk)) ∧
     (outputsOn b = true → x.rxOn = true → x.occ ≠ 8 →
       (let mid := modSer p (fun y => { y with rxOn := false, rx := [], rxFlags := 0, gap := false, seq := y.seq + 1, cfg := none })
         (fset (F.SER_STAT_rxactive p) 0 (advanceTo (x.rxEnd + serEof b p) { b with out := [] }))
        let ring := cfgR b (R.SER_RING_LO p) / 64 * 64 + cfgR b (R.SER_RING_HI p) % 256 * 2 ^ 32
        ∀ st w, engWrite (serOwner b p) (ring + 528 * ((fget b (F.SER_RXHEAD_slot p) + x.occ) % 8)) (serHeader x ++ x.rx) mid = (st, w) →
          (st = .ok → goes (.serEndSilence p) (fun t => t.blk.ser = modAt Ser.init w.ser p (fun y => { y with occ := y.occ + 1 }) ∧ (opt → evt t 0) ∧
            inc w t (R.SER_RXFRM p) ∧ (x.rxFlags ≠ 0 → inc w t (R.SER_RXERR p) ∧ (opt → evt t 3)) ∧
            RegsButEv [R.SER_RXFRM p, R.SER_RXERR p] w t.blk ∧ SameMem w t.blk)) ∧
          (st ≠ .ok → goes (.serEndSilence p) (fun t => inc w t (R.SER_RXDROP p) ∧ t.blk.ser = w.ser ∧ SameMem w t.blk)))) ∧
     (x.tx ≠ .wait ∨ x.rxOn = true ∨ serOn b p = false → same (.serIdleReady p)) ∧ (x.tx ≠ .lead ∨ serOn b p = false → same (.serLeadEnd p)) ∧
     (x.tx ≠ .data → same (.serLagEnd p)) ∧
     (outputsOn b = true → serOn b p = true → x.tx = .wait → x.rxOn = false → goes (.serIdleReady p) (fun t => t.blk.regs = b.regs ∧
       t.blk.time = (if x.rxEnd = 0 then b.time else max b.time ((x.rxEnd + serEof b p) * 65536)) ∧
       serial t.blk p = { x with tx := .lead, txAt := ns t.blk + cfg b (F.SER_PTIM_lead p) * 1000 })) ∧
     (outputsOn b = true → serOn b p = true → x.tx = .lead → goes (.serLeadEnd p) (fun t => t.blk.out = [.serial p x.txBytes (serWord b p)] ∧
       t.blk.regs = b.regs ∧ t.blk.time = max b.time (x.txAt * 65536) ∧
       (let k := serCfg b p
        serial t.blk p = { x with tx := .data, txAt := ns t.blk + bitNs k.1 (k.2.1 * x.txBytes.length), cfg := some (serWord b p) }))) ∧
     (outputsOn b = true → x.tx = .data → goes (.serLagEnd p) (fun t =>
       (let rep := cfg b (F.SER_PTIM_reply p)
        serial t.blk p = { x with
          tx := .idle, txBytes := [], abort := false, cfg := none, rxEnd := x.txAt,
          reply := if rep = 0 then none else some (ns t.blk + rep * 1000000) } ∧ fget t.blk (F.SER_STAT_await p) = b2n (rep != 0)) ∧
       (x.abort = false → opt → evt t 1) ∧ t.blk.time = max b.time ((x.txAt + cfg b (F.SER_PTIM_lag p) * 1000) * 65536) ∧
       fget t.blk (F.SER_STAT_txbusy p) = 0 ∧ RegsButEv [R.SER_STAT] b t.blk ∧ SameMem b t.blk)) ∧
     (x.reply = none → same (.serReplyTimeout p)) ∧
     (∀ w, outputsOn b = true → x.reply = some w → goes (.serReplyTimeout p) (fun t => serial t.blk p = { x with reply := none } ∧
       fget t.blk (F.SER_STAT_await p) = 0 ∧ inc b t (R.SER_TIMEOUT p) ∧ (opt → evt t 2) ∧ t.blk.time = max b.time (w * 65536) ∧
       RegsButEv [R.SER_STAT, R.SER_TIMEOUT p] b t.blk ∧ SameMem b t.blk)))
/-! ### Time -/

/-- R305, R306, R308, R309, R310, R311, R315, R323: a measurement of a source that is not listed is only remembered; one of the source in use
sets TIM_OFFSET and corrects the rate, and beyond the step threshold records a step and leaves the locked state. A frame that is no measurement is
counted. Losing the last source moves a locked discipline to holdover, whose bound ends synchronism. STEP, STEPCANCEL, TXQCLR and RELOCK act as
their rules say. A PTP message of another domain, of this clock or at a port that is off does nothing; a two-step sync of the parent waits for its
follow-up; the peer-delay interval starts a new exchange. -/
def Obligations.TimeSources : Prop :=
  ∀ s : State, running s.blk = true →
    (let b := s.blk
     let evt (t : State) (j : Nat) : Prop := bitOf (rd t.blk (pg 0x24 0x10)) j = true
     let same (c : Instr) : Prop := exec c s = .next { s with blk := { b with out := [] } }
     let goes (c : Instr) (f : State → Prop) : Prop := ∃ t, exec c s = .next t ∧ t.pending = s.pending ∧ SameMem b t.blk ∧ f t
     let cs := pg 0x24 0x2C
     let st := fget b F.TIM_STAT_state
     let src := fget b F.TIM_STAT_src
     let seen (m : Nat) (w : Nat) := (m, w) :: b.tim.meas.filter (fun x => x.1 != m)
     let up5 := isUp b 5 = true
     let alone (w : Nat) : Prop := ∀ x, b.tim.irig = some x → ¬(x.2 ≤ w + nsec / 2 ∧ w ≤ x.2 + nsec / 2)
     let one := up5 ∧ fon b F.TIM_STAT_set = true ∧ listedSrc b = [4] ∧ src = 4 ∧ st = 2 ∧ 0 < cfg b F.TIM_DISC2_lossto ∧ fon b F.TIM_CTL_slewbig = false
     (∀ w, alone w → isUp b 5 = false → goes (.ppsInEdge w) (fun t => t.blk.time = max b.time (w * 65536) ∧ t.blk.regs = b.regs ∧ t.blk.tim = b.tim)) ∧
     (∀ w, alone w → up5 → 4 ∉ listedSrc b → goes (.ppsInEdge w) (fun t => t.blk.time = max b.time (w * 65536) ∧ t.blk.regs = b.regs ∧
       t.blk.tim = { b.tim with meas := seen 4 (max (ns b) w) })) ∧
     (∀ w : Nat, alone w → one →
       (let off : Int := (w : Int) - (nearestSec w * nsec : Nat)
        (off.natAbs ≤ cfg b F.TIM_DISC2_stepthr * 1000 → goes (.ppsInEdge w) (fun t => rd t.blk R.TIM_OFFSET = uInt 32 off ∧
          fget t.blk F.TIM_STAT_state = 2 ∧ RegsBut [R.TIM_OFFSET, R.TIM_FREQ] b t.blk)) ∧
        (cfg b F.TIM_DISC2_stepthr * 1000 < off.natAbs → fon b F.TIM_STAT_offbig = false → goes (.ppsInEdge w) (fun t =>
          rd t.blk R.TIM_OFFSET = uInt 32 off ∧ t.blk.tim.step = some (-off) ∧ fget t.blk F.TIM_STAT_offbig = 1 ∧ evt t 3 ∧
          fget t.blk F.TIM_STAT_state = 1 ∧ RegsButEv [R.TIM_OFFSET, R.TIM_STEPSEC, R.TIM_STEPNS, R.TIM_STAT] b t.blk)))) ∧
     (∀ w f, irigGood b f = false → goes (.irigFrame w f) (fun t => rd t.blk R.TIM_IRIGERR = (rd b R.TIM_IRIGERR + 1) % 2 ^ 32 ∧ t.blk.tim = b.tim ∧
       t.blk.time = max b.time (w * 65536) ∧ RegsBut [R.TIM_IRIGERR] b t.blk)) ∧
     (∀ w f k, up5 → irigGood b f = true → w * 65536 ≤ b.time → irigTai b f = some k → 3 ∉ listedSrc b → goes (.irigFrame w f) (fun t => t.blk.regs = b.regs ∧
       t.blk.time = b.time ∧ t.blk.tim = { b.tim with irig := some (k.toNat + 1, w + nsec), meas := seen 3 (ns b) })) ∧
     (src = 0 → same .sourceLoss) ∧
     (src ≠ 0 → b.tim.meas = [] → st = 2 → goes .sourceLoss (fun t => fget t.blk F.TIM_STAT_src = 0 ∧ fget t.blk F.TIM_STAT_state = 3 ∧ evt t 0 ∧
       evt t 1 ∧ t.blk.tim.lockedAt = some (ns b) ∧ t.blk.tim.holdAt = ns b ∧ RegsButEv [R.TIM_STAT, R.TIM_FREQ] b t.blk)) ∧
     (∀ x, src ≠ 0 → b.tim.meas.find? (fun y => y.1 == src) = some x → goes .sourceLoss (fun t =>
       t.blk.time = max b.time ((x.2 + cfg b F.TIM_DISC2_lossto * nsec) * 65536))) ∧
     (b.tim.lockedAt = none ∨ st = 2 ∨ fon b F.TIM_STAT_hexp = true → same .holdoverBound) ∧
     (∀ w, b.tim.lockedAt = some w → st ≠ 2 → fon b F.TIM_STAT_synced = true ∨ st = 3 → fon b F.TIM_STAT_hexp = false → goes .holdoverBound (fun t => fget t.blk F.TIM_STAT_hexp = 1 ∧
       fget t.blk F.TIM_STAT_synced = 0 ∧ evt t 2 ∧ t.blk.time = max b.time ((w + cfg b F.TIM_HOLD_bound * nsec) * 65536) ∧
       RegsButEv [R.TIM_STAT] b t.blk)) ∧
     (∀ rqid, cmdFree b rqid 0x24 →
       (999999999 < (sNat 32 (rd b R.TIM_STEPNS)).natAbs → goes (.timStep rqid) (fun t => answered b t.blk cs 0x12 ∧ RegsOnly [cs] b t.blk)) ∧
       ((sNat 32 (rd b R.TIM_STEPNS)).natAbs ≤ 999999999 → goes (.timStep rqid) (fun t => answered b t.blk cs 0 ∧ fget t.blk F.TIM_STAT_offbig = 1 ∧
         t.blk.tim = { b.tim with step := some (sNat 32 (rd b R.TIM_STEPSEC) * nsec + sNat 32 (rd b R.TIM_STEPNS)) } ∧
         RegsButEv [cs, R.TIM_STAT] b t.blk)) ∧
       (b.tim.step = none → goes (.timStepcancel rqid) (fun t => answered b t.blk cs 0x10 ∧ RegsOnly [cs] b t.blk)) ∧
       (b.tim.step ≠ none → goes (.timStepcancel rqid) (fun t => answered b t.blk cs 0 ∧ t.blk.tim = { b.tim with step := none } ∧
         fget t.blk F.TIM_STAT_offbig = 0 ∧ rd t.blk R.TIM_STEPSEC = 0 ∧ rd t.blk R.TIM_STEPNS = 0 ∧
         RegsBut [cs, R.TIM_STAT, R.TIM_STEPSEC, R.TIM_STEPNS] b t.blk)) ∧
       goes (.timTxqclr rqid) (fun t => answered b t.blk cs 0 ∧ t.blk.txq = [] ∧ RegsBut [cs] b t.blk) ∧
       (chooseSrc b = 0 → src = 0 → goes (.timRelock rqid) (fun t => answered b t.blk cs 0 ∧ RegsOnly [cs] b t.blk)) ∧
       (chooseSrc b = src → src ≠ 0 → st = 2 → goes (.timRelock rqid) (fun t => answered b t.blk cs 0 ∧ fget t.blk F.TIM_STAT_state = 1 ∧ evt t 0 ∧
         t.blk.tim = { b.tim with good := 0, lockedAt := some (ns b) } ∧ RegsButEv [cs, R.TIM_STAT] b t.blk))) ∧
     (∀ o rx m, o < 12 → (isUp b 13 = false ∨ ptpOn b o = false ∨ m.domain ≠ cfg b F.PTP_CFG_domain ∨ m.srcId = clockId b) → same (.ptpReceive o rx m)) ∧
     (∀ o rx m, isUp b 13 = true → ptpOn b o = true → m.domain = cfg b F.PTP_CFG_domain → m.srcId ≠ clockId b → m.kind = .sync → fromParent b o m = true →
       m.twoStep = true → goes (.ptpReceive o rx m) (fun t => t.blk.regs = b.regs ∧
       t.blk.ptp = modAt PtpPort.init b.ptp o (fun p => { p with sync2 := some (m.srcId, m.seq, rx, m.corr) }))) ∧
     (∀ o k, o < 12 → isUp b 13 = false ∨ ptpOn b o = false → same (.ptpInterval o k)) ∧
     (∀ o k, isUp b 13 = true → ptpOn b o = true → ptpState b o ≠ 6 → k = .sync → same (.ptpInterval o k)) ∧
     (∀ o, isUp b 13 = true → ptpOn b o = true → goes (.ptpInterval o .pdelay) (fun t =>
       (let n := ((ptpPort b o).pdSeq + 1) % 65536
        let miss := (ptpPort b o).pdMiss + b2n (ptpPort b o).pdWait
        (miss = 3 → fget t.blk (F.PTP_PDELAY_ns o) = 0xFFFFFFFF) ∧
        t.blk.ptp = modAt PtpPort.init b.ptp o (fun p => { p with pdSeq := n, pdWait := true, pdMiss := min miss 3, pdSent := none, pdResp := none })) ∧
       t.blk.net.nextId = b.net.nextId + 1)))

/-- R104, R301, R304, R316, R318, R319, R320, R321, R324, R325: a compare's target and period are written by its owner, and arming at a time already passed
marks it late; an armed compare that becomes true raises its event and is disarmed, or with a period moves on by whole periods and counts those it
missed; the pulse ends. The PPS output rises at the next whole second for its width. Reading TIM_SEC_LO latches the rest of the instant for that
requester, TIM_TXQ0 the head stamp, and TIM_TXQ2 pops it. -/
def Obligations.CompareAndStamps : Prop :=
  ∀ (rqid i : Nat) (s : State), rqid < 1024 → i < 16 → running s.blk = true →
    (let b := s.blk
     let evt (t : State) (j : Nat) : Prop := bitOf (rd t.blk (pg 0x24 0x10)) j = true
     let same (c : Instr) : Prop := exec c s = .next { s with blk := { b with out := [] } }
     let goes (c : Instr) (f : State → Prop) : Prop := ∃ t, exec c s = .next t ∧ t.pending = s.pending ∧ SameMem b t.blk ∧ f t
     let on := outputsOn b = true
     let core := coreRuns b rqid = true
     let tgt := rd b (R.TIM_CMPTGT i)
     let per := rd b (R.TIM_CMPPER i)
     let k := (fast b + 2 ^ 32 - tgt) % 2 ^ 32 / per + 1
     (core → ∀ o v, v < 2 ^ 32 → (∀ n, o = some n → n < 64) → mayWrite b rqid (cmpAddr o i 0) →
       (cmpOwner b i = o → cfgOn b (F.TIM_CMPCFG_en i) = false → goes (.timCmptgtWrite rqid o i v) (fun t => rd t.blk (R.TIM_CMPTGT i) = v ∧
         t.blk.resp = ⟨.ok, 0⟩ ∧ RegsOnly [R.TIM_CMPTGT i] b t.blk)) ∧
       (cmpOwner b i = o → cfgOn b (F.TIM_CMPCFG_en i) = true → reached (fast b) v = false → goes (.timCmptgtWrite rqid o i v) (fun t =>
         rd t.blk (R.TIM_CMPTGT i) = v ∧ fget t.blk (F.TIM_CMPSTAT_armed i) = 1 ∧ RegsOnly [R.TIM_CMPTGT i, R.TIM_CMPSTAT i] b t.blk)) ∧
       (cmpOwner b i = o → cfgOn b (F.TIM_CMPCFG_en i) = true → reached (fast b) v = true → goes (.timCmptgtWrite rqid o i v) (fun t =>
         rd t.blk (R.TIM_CMPTGT i) = v ∧ fget t.blk (F.TIM_CMPSTAT_armed i) = 1 ∧ fget t.blk (F.TIM_CMPSTAT_late i) = 1 ∧ evt t 5 ∧
         RegsEvOnly [R.TIM_CMPTGT i, R.TIM_CMPSTAT i] b t.blk)) ∧
       (cmpOwner b i ≠ o → o ≠ none → goes (.timCmptgtWrite rqid o i v) (fun t => RegsOnly [] b t.blk)) ∧
       (cmpOwner b i ≠ o → o = none → goes (.timCmptgtWrite rqid o i v) (fun t => RegsOnly [pg 0x24 0x18, pg 0x24 0x1C] b t.blk))) ∧
     (core → ∀ o v, v < 2 ^ 32 → (∀ n, o = some n → n < 64) → mayWrite b rqid (cmpAddr o i 4) → cmpOwner b i = o →
       ((v = 0 ∨ (1000 ≤ v ∧ v ≤ 2000000000)) → goes (.timCmpperWrite rqid o i v) (fun t => rd t.blk (R.TIM_CMPPER i) = v ∧ RegsOnly [R.TIM_CMPPER i] b t.blk)) ∧
       ((0 < v ∧ v < 1000 ∨ 2000000000 < v) → goes (.timCmpperWrite rqid o i v) (fun t => rd t.blk (R.TIM_CMPPER i) = per))) ∧
     (fon b (F.TIM_CMPSTAT_armed i) = false ∨ outputsOn b = false → same (.compareFire i)) ∧
     (on → fon b (F.TIM_CMPSTAT_armed i) = true → per = 0 → goes (.compareFire i) (fun t => evt t (8 + i) ∧ fget t.blk (F.TIM_CMPSTAT_armed i) = 0 ∧
       (t.blk.time = if reached (fast b) tgt then b.time else max b.time ((ns b + (tgt + 2 ^ 32 - fast b) % 2 ^ 32) * 65536)) ∧
       RegsButEv [R.TIM_CMPSTAT i] b t.blk)) ∧
     (on → fon b (F.TIM_CMPSTAT_armed i) = true → per ≠ 0 → reached (fast b) tgt = true → goes (.compareFire i) (fun t => evt t (8 + i) ∧
       rd t.blk (R.TIM_CMPTGT i) = (tgt + k * per) % 2 ^ 32 ∧ t.blk.time = b.time ∧
       fget t.blk (F.TIM_CMPSTAT_missed i) = min 65535 (fget b (F.TIM_CMPSTAT_missed i) + (k - 1)) ∧
       RegsButEv [R.TIM_CMPTGT i, R.TIM_CMPSTAT i] b t.blk)) ∧
     (cmpPulse b i = 0 → same (.comparePulseEnd i)) ∧
     (cmpPulse b i ≠ 0 → goes (.comparePulseEnd i) (fun t => cmpPulse t.blk i = 0 ∧ t.blk.time = max b.time (cmpPulse b i * 65536) ∧ t.blk.regs = b.regs)) ∧
     (outputsOn b = false ∨ isUp b 5 = false → same .ppsOutRise) ∧
     (on → isUp b 5 = true →
       (let e := ceilDiv (ns b) nsec * nsec
        goes .ppsOutRise (fun t => t.blk.tim = { b.tim with pps := if cfgOn b F.TIM_PPSCFG_en then some (e + cfg b F.TIM_PPSCFG_width * 1000) else none } ∧ t.blk.time = max b.time (e * 65536) ∧
        t.blk.regs = b.regs))) ∧
     (b.tim.pps = none → same .ppsOutFall) ∧
     (∀ w, b.tim.pps = some w → goes .ppsOutFall (fun t => t.blk.tim = { b.tim with pps := none } ∧ t.blk.time = max b.time (w * 65536) ∧ t.blk.regs = b.regs)) ∧
     (core → mayRead b rqid R.TIM_SEC_LO → goes (.timSecLoRead rqid) (fun t => t.blk.resp = ⟨.ok, secOf b % 2 ^ 32⟩ ∧ t.blk.regs = b.regs ∧
       latched t.blk rqid R.TIM_SEC_HI = secOf b / 2 ^ 32 % 65536 ∧ latched t.blk rqid R.TIM_NS = ns b % nsec ∧ latched t.blk rqid R.TIM_FRAC = b.time % 65536)) ∧
     (core → mayRead b rqid R.TIM_TXQ0 → (b.txq = [] → goes (.timTxq0Read rqid) (fun t => t.blk.resp = ⟨.ok, 0⟩ ∧ latched t.blk rqid R.TIM_TXQ2 = 0)) ∧
       ∀ x l, b.txq = x :: l → goes (.timTxq0Read rqid) (fun t => t.blk.resp = ⟨.ok, x.t % 2 ^ 32⟩ ∧ t.blk.txq = b.txq ∧ t.blk.regs = b.regs ∧
         latched t.blk rqid R.TIM_TXQ1 = x.t / 2 ^ 32 % 2 ^ 32 ∧ latched t.blk rqid R.TIM_TXQ2 = x.word2)) ∧
     (core → mayRead b rqid R.TIM_TXQ2 → b.txq = [] → goes (.timTxq2Read rqid) (fun t => t.blk.resp = ⟨.ok, latched b rqid R.TIM_TXQ2⟩ ∧ t.blk.txq = [] ∧
       t.blk.regs = b.regs)) ∧
     (core → mayRead b rqid R.TIM_TXQ2 → ∀ x l, b.txq = x :: l → (latchOf b rqid R.TIM_TXQ2 = none ∨
         (latchOf b rqid R.TIM_TXQ2 = some x.word2 ∧ latched b rqid R.TIM_TXQ1 = x.t / 2 ^ 32 % 2 ^ 32)) →
       goes (.timTxq2Read rqid) (fun t => t.blk.resp = ⟨.ok, x.word2⟩ ∧ t.blk.txq = l ∧ t.blk.regs = b.regs)))
/-! ### Ingest -/

/-- R329, R332, R344, R347, R350, R354, R358, R536: a stream frame that no entry matches is counted in SVI_NOSUB, one that an entry takes in its frame
counter, one that fails a check in that check's counter with its reason, one that simulation drops in its own;
a relay frame that FLD does not pass in FLD_IMPDROP; a GOOSE frame that no subscription matches in SVI_GNOSUB. The first message of a subscription
sets its state and values; one of another configuration is counted and refused; a deadline that passes marks it stale and tells its owner. Writing
SVI_CTL.sim sets it, and clearing it ends simulation everywhere. A stuck path and its recovery set and clear their state. -/
def Obligations.IngestFrames : Prop :=
  ∀ s : State, running s.blk = true →
    (let b := s.blk
     let same (c : Instr) : Prop := exec c s = .next { s with blk := { b with out := [] } }
     let goes (c : Instr) (f : State → Prop) : Prop := ∃ t, exec c s = .next t ∧ t.pending = s.pending ∧ f t
     let inc (t : State) (a : Nat) : Prop := rd t.blk a = (rd b a + 1) % 2 ^ 32
     let tinc (t : State) (k : Nat) : Prop := tget t.blk k = (tget b k + 1) % 2 ^ 32
     let run := fon b F.ALN_STAT_running = true
     let up := isUp b 9 = true
     let plain (f : Frame) (m : SvBody) : Prop := f.body = .sv m ∧ m.sess = none ∧ f.etype = 0x88BA ∧ fragment f = false
     let gplain (f : Frame) (m : GooseBody) : Prop := f.body = .goose m ∧ m.sess = none ∧ f.etype = 0x88B8 ∧ fragment f = false
     (∀ f p rx, p < 15 → fon b F.ALN_STAT_running = false → same (.sviStreamFrame f p rx) ∧ same (.sviRelayFrame f p rx)) ∧
     (∀ f m p rx, p < 15 → run → plain f m → (∀ c, (streams b c).find? (fun e => e.matchSv f m) = none) →
       goes (.sviStreamFrame f p rx) (fun t => inc t R.SVI_NOSUB ∧ RegsOnly [R.SVI_NOSUB] b t.blk)) ∧
     (∀ f m p rx e, p < 15 → run → plain f m → b.bnk.pend = none → (streams b (sviCopy b)).find? (fun e => e.matchSv f m) = some e → e.slot < 512 →
       e.portOk p = true → m.wf = true → m.noasdu = m.asdus.length → 1 ≤ m.noasdu → m.noasdu ≤ 8 → (e.f 4 23 20 = 0 ∨ m.noasdu = e.f 4 23 20) →
       e.f 0 27 26 = 0 → m.sim = false → b.svi.simOn.contains e.slot = false →
       goes (.sviStreamFrame f p rx) (fun t => tinc t (sviC e.slot 0) ∧ tget t.blk (sviC e.slot 11) = fast b)) ∧
     (∀ f m p rx e, p < 15 → run → plain f m → b.bnk.pend = none → (streams b (sviCopy b)).find? (fun e => e.matchSv f m) = some e → e.slot < 512 →
       (∀ u sw, frameRes b e p rx f m = .ok u sw → goes (.sviStreamFrame f p rx) (fun t => tinc t (sviC e.slot 0) ∧ tget t.blk (sviC e.slot 11) = fast b)) ∧
       (∀ x, frameRes b e p rx f m = .bad x → goes (.sviStreamFrame f p rx) (fun t => tinc t (sviC e.slot x.word) ∧ t.blk.aln = b.aln ∧
         bitsOf (tget t.blk (sviC e.slot 14)) 15 8 = x.reason % 256)) ∧
       (frameRes b e p rx f m = .sim → goes (.sviStreamFrame f p rx) (fun t => tinc t (sviC e.slot 10) ∧ t.blk.aln = b.aln))) ∧
     (∀ f m p rx, p < 15 → run → f.body = .relay m → f.etype = cfg b F.FLD_CFG_etype → (m.typ = 1 ∨ m.typ = 2) → relayPasses b m = false →
       goes (.sviRelayFrame f p rx) (fun t => inc t R.FLD_IMPDROP ∧ RegsOnly [R.FLD_IMPDROP] b t.blk)) ∧
     (∀ f m p rx e, p < 15 → run → f.body = .relay m → f.etype = cfg b F.FLD_CFG_etype → relayPasses b m = true → b.bnk.pend = none →
       (streams b (sviCopy b)).find? (fun e => vidMatch (e.w.getD 2 0) f && e.kind == 2 && e.f 0 15 0 == m.expid && e.f 1 15 0 == m.midx) = some e →
       e.slot < 512 → e.portOk p = true → 0 < m.entries.length → m.entries.length ≤ 32 → leafRx b (e.f 9 10 0) (rx / nsec) = true →
       (leaf b (e.f 9 10 0)).kind = 4 → (m.typ = 1 ∧ hist b e.slot e.copy = []) ∨ (m.typ = 2 ∧ b.svi.lastRev = [] ∧ m.time ≠ 0) →
       goes (.sviRelayFrame f p rx) (fun t => Config.tagOk (tagKey b 3 (e.f 9 10 0)) f = true →
         tinc t (sviC e.slot 0) ∧ tinc t (sviC e.slot 1) ∧ t.blk.aln.inq.length = b.aln.inq.length + 1)) ∧
     (∀ f rx, isUp b 9 = false → same (.sviGooseFrame f rx)) ∧
     (∀ f m rx, up → gplain f m → (List.range 1024).find? (gooMatch b f m) = none →
       goes (.sviGooseFrame f rx) (fun t => inc t R.SVI_GNOSUB ∧ RegsOnly [R.SVI_GNOSUB] b t.blk)) ∧
     (∀ f m rx i, up → gplain f m → (List.range 1024).find? (gooMatch b f m) = some i → m.wf = true → bitsOf (gooW b i 0) 29 28 = 0 → m.sim = false →
       b.svi.gsimOn.contains i = false → m.confrev ≠ gooW b i 5 → goes (.sviGooseFrame f rx) (fun t => tinc t (gooC i 9) ∧
       (goose t.blk i).stnum = (goose b i).stnum ∧ (goose t.blk i).last = (goose b i).last)) ∧
     (∀ f m rx i vals, up → gplain f m → (List.range 1024).find? (gooMatch b f m) = some i → m.wf = true → bitsOf (gooW b i 0) 29 28 = 0 → m.sim = false →
       b.svi.gsimOn.contains i = false → m.confrev = gooW b i 5 → Crc.crc32c m.datset = gooW b i 4 → m.nds = false → gooVals b i m = some vals →
       (goose b i).last = none → gooOwner (gooW b i 0) = 0 → goes (.sviGooseFrame f rx) (fun t => tinc t (gooC i 0) ∧ tinc t (gooC i 1) ∧
       (goose t.blk i).stnum = m.stnum ∧ (goose t.blk i).sqnum = m.sqnum ∧ (goose t.blk i).vals = vals ∧ (goose t.blk i).last = some (ns b) ∧
       (rd t.blk (R.SVI_GCHG (i / 32))).testBit (i % 32) = true)) ∧
     (∀ i, i < 1024 → bitOf (gooW b i 0) 31 = false ∨ gooDeadline b i = none → same (.gooseStale i)) ∧
     (∀ i w, i < 1024 → bitOf (gooW b i 0) 31 = true → gooDeadline b i = some w → goes (.gooseStale i) (fun t =>
       tinc t (gooC i 6) ∧ bitOf (goose t.blk i).flags 1 = true ∧
       (gooOwner (gooW b i 0) = 0 → (rd t.blk (R.SVI_GSTALE (i / 32))).testBit (i % 32) = true) ∧
       t.blk.time = max b.time (w * 65536))) ∧
     (∀ rqid v, coreRuns b rqid = true → rqid < 1024 → v < 2 ^ 32 → mayWrite b rqid R.SVI_CTL → cfgLocked b 0x28 = false →
       (bitOf v 0 = true → goes (.sviSimWrite rqid v) (fun t => fget t.blk F.SVI_CTL_sim = 1 ∧ t.blk.resp = ⟨.ok, 0⟩ ∧ RegsOnly [R.SVI_CTL] b t.blk)) ∧
       (bitOf v 0 = false → goes (.sviSimWrite rqid v) (fun t => fget t.blk F.SVI_CTL_sim = 0 ∧ t.blk.svi.simOn = [] ∧ t.blk.svi.gsimOn = [] ∧
         RegsBut [R.SVI_CTL] b t.blk ∧ ∀ a, mget t.blk a = mget b a))) ∧
     (∀ v k l, v < 1024 → (b.part.optA = false ∨ fon b F.AAP_CTL_clken = false ∨ fon b F.ALN_STAT_running = false) → same (.aapSample v k l)) ∧
     (∀ v k e l, v < 1024 → b.part.optA = true → fon b F.AAP_CTL_clken = true → run → e.slot < 512 → b.bnk.pend = none →
       (streams b (sviCopy b)).find? (fun e => e.kind == 3 && e.f 0 15 0 == v) = some e → goes (.aapSample v k l) (fun t => tinc t (sviC e.slot 0) ∧
       tget t.blk (sviC e.slot 14) % 2 = 1)) ∧
     (∀ i, i < 16 → b.part.optA = true → fon b F.AAP_CTL_clken = true →
       goes (.aapStuck i false) (fun t => (fget t.blk F.AAP_STAT_fault).testBit i = true ∧ bitOf (rd t.blk (pg 0x2A 0x10)) 0 = true ∧
         RegsButEv [R.AAP_STAT] b t.blk ∧ SameMem b t.blk) ∧
       goes (.aapStuck i true) (fun t => i ∈ t.blk.aapLowStuck ∧ bitOf (rd t.blk (pg 0x2A 0x10)) 0 = true ∧ RegsButEv [] b t.blk ∧ SameMem b t.blk)) ∧
     (∀ i, i < 16 → b.part.optA = true →
       (aapStuckHigh b i = true → goes (.aapRecover i false) (fun t => (fget t.blk F.AAP_STAT_fault).testBit i = false ∧
         bitOf (rd t.blk (pg 0x2A 0x10)) 2 = true ∧ RegsButEv [R.AAP_STAT] b t.blk ∧ SameMem b t.blk)) ∧
       (aapStuckHigh b i = false → same (.aapRecover i false)) ∧
       (b.aapLowStuck.contains i = true → goes (.aapRecover i true) (fun t => t.blk.aapLowStuck = b.aapLowStuck.filter (fun x => x != i) ∧
         bitOf (rd t.blk (pg 0x2A 0x10)) 2 = true ∧ RegsButEv [] b t.blk ∧ SameMem b t.blk))))
/-! ### Sheaves -/

/-- R367, R368, R369, R372, R375, R376, R381, R383, R385, R394: each sheaf's slot is claimed at its instant and zeroed; a sample too late for its
sheaf is counted, and one that lands on the grid is placed in its entry; local release moves on by one sheaf; what the peer sends for a sheaf not yet
released waits, and a digest is kept with its sheaf; an agreement or settlement that times out is counted and ends without the peer; gleaning's
close moves on by one sheaf; CLRCNT zeroes the counters. A unit's finished list leaves it idle. -/
def Obligations.SheafProgress : Prop :=
  ∀ (sec : Bool) (s : State), running s.blk = true →
    (let b := s.blk
     let evt (t : State) (j : Nat) : Prop := bitOf (rd t.blk (pg 0x29 0x10)) j = true
     let same (c : Instr) : Prop := exec c s = .next { s with blk := { b with out := [] } }
     let goes (c : Instr) (f : State → Prop) : Prop := ∃ t, exec c s = .next t ∧ t.pending = s.pending ∧ f t
     let inc (t : State) (a : Nat) : Prop := rd t.blk a = (rd b a + 1) % 2 ^ 32
     let on := outputsOn b = true
     let quiet := b.aln.due = [] ∧ b.aln.settled = []
     let k0 := claimNext b sec
     let aln (f : Sheaf → Sheaf) (k : Nat) := (modSheaf sec k f b).aln
     (gridOn b sec = false ∨ outputsOn b = false → same (.slotClaim sec)) ∧
     (on → gridOn b sec = true → held b sec k0 = true → goes (.slotClaim sec) (fun t => t.blk.aln = (setClaim sec (k0 + 1) b).aln ∧ t.blk.regs = b.regs ∧
       t.blk.time = max b.time (instantOf b sec k0 * 65536) ∧ SameMem b t.blk)) ∧
     (on → gridOn b sec = true → held b sec k0 = false → k0 < 2 ^ 64 → (judge b 0x0C1 (slotAddr b sec k0) (.word 8) Need.write).status = .ok →
       goes (.slotClaim sec) (fun t => claimNext t.blk sec = k0 + 1 ∧ rd64 t.blk (descAddr sec k0) = k0 ∧ rd t.blk (descAddr sec k0 + 16) = 1 ∧
       t.blk.aln.sheaves = b.aln.sheaves ++ [Sheaf.init sec k0] ∧
       ∀ a, mget t.blk a = if slotAddr b sec k0 ≤ a ∧ a < slotAddr b sec k0 + 8 * gridChans sec then 0#8 else mget b a)) ∧
     (b.aln.inq = [] → same .samplePlace) ∧
     (∀ x l, b.aln.inq = x :: l → gridOn b x.sec = false → goes .samplePlace (fun t => t.blk.aln = { b.aln with inq := l } ∧ t.blk.regs = b.regs ∧ SameMem b t.blk)) ∧
     (∀ x l k rev, b.aln.inq = x :: l → gridOn b x.sec = true → x.relay = some (k, rev) → k < closeNext b x.sec → x.slot < 512 → goes .samplePlace (fun t =>
       inc t R.ALN_TOOLATE ∧ fget t.blk (F.strmTooLate x.slot) = (fget b (F.strmTooLate x.slot) + 1) % 65536 ∧
       RegsButEv [R.ALN_TOOLATE, strmStat x.slot] b t.blk ∧ SameMem b t.blk)) ∧
     (∀ x l sh c e, b.aln.inq = x :: l → gridOn b x.sec = true → x.relay = none → x.direct = true → x.vals = [(c, e)] → c < gridChans x.sec → x.slot < 512 →
       (let k := gridAt (gridRate b x.sec) x.t
        closeNext b x.sec ≤ k → k < closeNext b x.sec + ringSlots x.sec → held b x.sec k = true → sheafOf b x.sec k = some sh → sh.phase = .claimed →
        (∀ w, w = (cwOf (entAddr b x.sec k c)).1 → w ∉ b.poisoned ∧ w ∉ b.uncorr ∧ w ∉ b.corr) →
        entState (getEnt b x.sec k c) = 0 → fon b (F.strmHeld x.slot) = false →
        (judge b 0x0C1 (slotAddr b x.sec k) (.word 8) Need.write).status = .ok → goes .samplePlace (fun t =>
          mnat t.blk (entAddr b x.sec k c) 8 = entVq e + 2 ^ 48 ∧ fget t.blk (F.strmAbsent x.slot) = 0 ∧ RegsBut [strmStat x.slot] b t.blk ∧
          ∀ a, (a < entAddr b x.sec k c ∨ entAddr b x.sec k c + 8 ≤ a) → mget t.blk a = mget b a))) ∧
     (quiet → gridOn b sec = false ∨ outputsOn b = false → same (.localRelease sec)) ∧
     (on → quiet → gridOn b sec = true → agreed b = false → b.aln.sheaves.any (fun s => s.sec == sec && s.phase == .agreeing) = false →
       goes (.localRelease sec) (fun t => relNext t.blk sec = relNext b sec + 1)) ∧
     (∀ k bm revs r more d, quiet → agreed b = false → same (.spanPh1Receive sec k bm revs) ∧ same (.spanPh2Receive sec k r more) ∧
       same (.spanPh3Receive sec k d)) ∧
     (∀ k m, quiet → agreed b = true → sheafOf b sec k = none → relNext b sec ≤ k →
       (let keeps (c : Instr) (x : SpanMsg) : Prop := goes c (fun t => t.blk.aln = { b.aln with early := b.aln.early ++ [x] } ∧ t.blk.regs = b.regs ∧
          SameMem b t.blk)
        keeps (.spanPh1Receive sec k m []) (.ph1 sec k m []) ∧ keeps (.spanPh3Receive sec k m) (.ph3 sec k m) ∧
        ∀ r more, keeps (.spanPh2Receive sec k r more) (.ph2 sec k r more))) ∧
     (∀ k d sh, quiet → agreed b = true → sheafOf b sec k = some sh → sh.phase = .agreeing → sh.peer = none → goes (.spanPh3Receive sec k d) (fun t =>
       t.blk.aln = aln (fun x => { x with peerDigest := some d }) k ∧ t.blk.regs = b.regs ∧ SameMem b t.blk)) ∧
     (∀ k bm sh, quiet → agreed b = true → sheafOf b sec k = some sh → sh.phase = .agreeing → sh.in2 = false → sh.digest = none →
       goes (.spanPh1Receive sec k bm []) (fun t => t.blk.regs = b.regs ∧ SameMem b t.blk ∧ t.blk.aln = aln (fun x =>
         if sh.sent2 then { x with peer := some bm }
         else { x with peer := some bm, sent2 := true, n2 := x.n2 + (phase2 b sh bm).length }) k)) ∧
     (∀ k r more sh, quiet → agreed b = true → sheafOf b sec k = some sh → sh.phase = .agreeing → sh.peer = none →
       goes (.spanPh2Receive sec k r more) (fun t => t.blk.aln = aln (fun x => { x with in2 := !more, n2 := x.n2 + (ofRuns r).length }) k)) ∧
     (quiet → b.aln.sheaves.find? (fun x => x.sec == sec && x.phase == .agreeing) = none → same (.agreementTimeout sec)) ∧
     (∀ x, quiet → b.aln.sheaves.find? (fun x => x.sec == sec && x.phase == .agreeing) = some x → (∀ y ∈ x.snap, y.1 < 66048) → goes (.agreementTimeout sec) (fun t =>
       inc t R.ALN_AGREETO ∧ evt t 3)) ∧
     (quiet → (∀ x, sheafOf b sec (closeNext b sec) = some x → x.phase ≠ .released) ∨ outputsOn b = false → same (.gleanClose sec)) ∧
     (∀ x, on → quiet → sheafOf b sec (closeNext b sec) = some x → x.phase = .released → agreed b = false → goes (.gleanClose sec) (fun t =>
       closeNext t.blk sec = closeNext b sec + 1 ∧ sheafOf t.blk sec (closeNext b sec) = none)) ∧
     (∀ k p, quiet → (agreed b = false ∨ sheafOf b sec k = none) → same (.spanSettleReceive sec k p)) ∧
     (∀ k p x, quiet → agreed b = true → sheafOf b sec k = some x → x.phase ≠ .settling → goes (.spanSettleReceive sec k p) (fun t =>
       t.blk.aln = { b.aln with early := b.aln.early ++ [.settle sec k p] } ∧ t.blk.regs = b.regs ∧ SameMem b t.blk)) ∧
     (quiet → b.aln.sheaves.find? (fun x => x.sec == sec && x.phase == .settling) = none → same (.settleTimeout sec)) ∧
     (∀ x, quiet → b.aln.sheaves.find? (fun x => x.sec == sec && x.phase == .settling) = some x → goes (.settleTimeout sec) (fun t =>
       inc t R.ALN_AGREETO ∧ evt t 3 ∧ sheafOf t.blk sec x.k = none)) ∧
     (∀ rqid, cmdFree b rqid 0x29 → goes (.alnClrcnt rqid) (fun t => answered b t.blk (pg 0x29 0x2C) 0 ∧ SameMem b t.blk ∧
       (∀ a, a ∈ [R.ALN_TOOLATE, R.ALN_AGREETO, R.ALN_REVCNT, R.ALN_REVCONF, R.ALN_MISSCNT] → rd t.blk a = 0) ∧
       ∀ n, n < 512 → fget t.blk (F.strmTooLate n) = 0 ∧ rd t.blk (strmStat n + 4) = 0 ∧ fget t.blk (F.strmAbsent n) = fget b (F.strmAbsent n) ∧
         fget t.blk (F.strmHeld n) = fget b (F.strmHeld n))) ∧
     (∀ u first, u < 8 → first < 8192 → (pheUnit b u).work = [] → same (.pheListComplete u first)) ∧
     (∀ u first, u < 8 → first < 8192 → (pheUnit b u).work ≠ [] → goes (.pheListComplete u first) (fun t => (pheUnit t.blk u).work = [] ∧
       (pheUnit t.blk u).done = some (pheUnit b u).k ∧ (fget t.blk F.PHE_STAT_busy).testBit u = false)))
/-! ### Schedule and DMA -/

/-- R20, R90, R427, R433, R436, R438, R439, R440, R445: a window opens while the scheduler runs, takes its place on its core and queues its tasks' releases;
it closes and leaves the core empty, what ran there stopped; a copied image starts its task; ZDONE completes a release in time with code 0, counts a failure with another
code and an overrun after the deadline; a yield and a trap account the time run; the guard overruns what is still open; an L task is released on its
period while its instance runs. START and STOP begin and end the schedule or are refused with code 0x10. -/
def Obligations.ScheduleAndTasks : Prop :=
  ∀ (c : Nat) (s : State), c < 16 → running s.blk = true →
    (let b := s.blk
     let x := schCore b c
     let evt (t : State) (j : Nat) : Prop := bitOf (rd t.blk (pg 0x30 0x10)) j = true
     let same (i : Instr) : Prop := exec i s = .next { s with blk := { b with out := [] } }
     let goes (i : Instr) (f : State → Prop) : Prop := ∃ t, exec i s = .next t ∧ t.pending = s.pending ∧ f t
     let tinc (t : State) (k : Nat) : Prop := tget t.blk k = (tget b k + 1) % 2 ^ 32
     let on := outputsOn b = true
     let run := fon b F.SCH_STAT_run = true
     let cs := pg 0x30 0x2C
     let alone (r : SchRel) : Prop := ∀ i y, i < 16 → i ≠ c → (schCore b i).cur = some y → y.snap.task ≠ r.snap.task
     let ran (t : State) (r : SchRel) (n : Nat) : Prop := (schTask t.blk r.snap.task).busy = (schTask b r.snap.task).busy + (ns b - r.since) ∧
       (schTask t.blk r.snap.task).instret = (schTask b r.snap.task).instret + n
     (∀ l, (outputsOn b = false ∨ fon b F.SCH_STAT_run = false ∨ nextWin b c = none) → same (.windowOpen c l)) ∧
     (∀ l w, on → run → nextWin b c = some w → x.win = none → x.cur = none → x.queue = [] → x.unsaved = none →
       (let wins := b.sch.wins.filter (fun y => !(y.core == c && y.opens == w.opens))
        let opens (f : SchCore → SchCore) : Prop := goes (.windowOpen c l) (fun t => t.blk.sch = { b.sch with wins := wins, cores := modAt SchCore.init b.sch.cores c f } ∧
          t.blk.time = max b.time (w.opens * 65536) ∧ rd64 t.blk R.SCH_CURIDX_LO = w.k % 2 ^ 64 ∧ RegsBut [R.SCH_CURIDX_LO, R.SCH_CURIDX_HI, R.SCH_CORE c] b t.blk)
        (bitsOf w.word 30 28 = 0 → opens (fun y => { y with win := some w, lastOpen := w.opens, icache := [], dcache := [] })) ∧
        (∀ p, bitOf w.word 30 = true → instRuns b (winInst w.word) = true → releasedSheaf b w.k = true → w.tasks.filter (fun y => tClass y.ent == 0) = [p] →
          (let r : SchRel := ⟨p, 0, w.k, gridNs (primRate b) w.k, w.opens + p.ent.getD 1 0, .copying, 0, 0, false⟩
           opens (fun y => { y with win := some w, lastOpen := w.opens, icache := [], dcache := [], cur := some r }))))) ∧
     (∀ n, x.win = none → same (.windowClose c n)) ∧
     (∀ n w, x.win = some w → x.queue = [] → x.cur = none → goes (.windowClose c n) (fun t => schCore t.blk c = { x with win := none } ∧
       t.blk.time = max b.time (w.closes * 65536) ∧ rd t.blk (R.SCH_CORE c) = 0 ∧ RegsBut [R.SCH_CORE c] b t.blk ∧ SameMem b t.blk)) ∧
     (∀ n w r, x.win = some w → x.queue = [] → x.cur = some r → r.cls ≠ 0 → r.phase = .running → goes (.windowClose c n) (fun t =>
       schCore t.blk c = { x with win := none, cur := none, unsaved := some r.snap.task } ∧ t.blk.time = max b.time (w.closes * 65536) ∧
       (schTask t.blk r.snap.task).instret = (schTask b r.snap.task).instret + n ∧
       (schTask t.blk r.snap.task).busy = (schTask b r.snap.task).busy + (ns t.blk - r.since) ∧ RegsBut [R.SCH_CORE c] b t.blk ∧ SameMem b t.blk)) ∧
     (x.cur = none → same (.imageCopyDone c) ∧ ∀ k n, k < 256 → same (.zdone c k n) ∧ same (.zyield c n) ∧ same (.taskTrap c n)) ∧
     (∀ r w, x.cur = some r → x.win = some w → r.phase = .copying → r.snap.prog = none → goes (.imageCopyDone c) (fun t =>
       ∃ q, (schCore t.blk c).cur = some { r with phase := .running, since := ns t.blk, qual := q })) ∧
     (∀ r k n, x.cur = some r → r.phase ≠ .running → k < 256 → same (.zdone c k n) ∧ same (.zyield c n) ∧ same (.taskTrap c n)) ∧
     (∀ r k n, x.cur = some r → r.phase = .running → r.cls < 2 → r.snap.task < 1024 → k < 256 → alone r →
       (r.dl ≤ ns b → goes (.zdone c k n) (fun t => tinc t (schS r.snap.task 4) ∧ ran t r n)) ∧
       (ns b < r.dl → k ≠ 0 → goes (.zdone c k n) (fun t => ran t r n ∧
         bitsOf (tget t.blk (schS r.snap.task 5)) 31 16 = (bitsOf (tget b (schS r.snap.task 5)) 31 16 + 1) % 65536)) ∧
       (∀ d, ns b < r.dl → k = 0 → r.qual = false → r.snap.prog = none →
         engRead (tInst r.snap.ent) (tBlk r.snap.ent + 0x1800) (tOutlen r.snap.ent) b = (.ok, d, b) → goes (.zdone c k n) (fun t => ran t r n ∧
         tinc t (schS r.snap.task 3) ∧ consecOf t.blk r.snap.task = 0))) ∧
     (∀ r n, x.cur = some r → r.phase = .running → r.cls = 2 → goes (.zyield c n) (fun t => ran t r n)) ∧
     (∀ r d n, x.cur = some r → r.phase = .running → r.cls = 2 → engRead (tInst r.snap.ent) (tBlk r.snap.ent + 0xC00) 8 b = (.ok, d, b) → leNat d = 0 →
       goes (.taskTrap c n) (fun t => ran t r n ∧ evt t 7)) ∧
     (∀ r d n, x.cur = some r → r.phase = .running → r.cls < 2 → r.snap.task < 1024 → alone r →
       engRead (tInst r.snap.ent) (tBlk r.snap.ent + 0xC00) 8 b = (.ok, d, b) → leNat d = 0 → goes (.taskTrap c n) (fun t => ran t r n ∧ evt t 7 ∧
       (r.dl ≤ ns b → tinc t (schS r.snap.task 4)) ∧ (ns b < r.dl →
         bitsOf (tget t.blk (schS r.snap.task 5)) 31 16 = (bitsOf (tget b (schS r.snap.task 5)) 31 16 + 1) % 65536))) ∧
     (∀ i n, i < 1024 → openRel b i = none → same (.deadlineGuard i n)) ∧
     (∀ i n o r, i < 1024 → openRel b i = some (o, r) → o ≠ none ∨ instState b (tInst r.snap.ent) ∉ [3, 4] → r.snap.task < 1024 → goes (.deadlineGuard i n) (fun t =>
       tinc t (schS r.snap.task 4))) ∧
     (∀ i, i < 1024 → outputsOn b = false ∨ fon b F.SCH_STAT_run = false → same (.lRelease i)) ∧
     (∀ i, i < 1024 → on → run →
       (let e := taskEnt b i
        let w := ((schTask b i).lrelAt.getD (ns b) / tPeriod e + 1) * tPeriod e
        tEn e = true → tClass e = 1 → tPeriod e ≠ 0 →
        (instRuns b (tInst e) = false → goes (.lRelease i) (fun t => schTask t.blk i = { schTask b i with lrelAt := some w } ∧ t.blk.regs = b.regs ∧
          t.blk.time = max b.time (w * 65536) ∧ SameMem b t.blk)) ∧
        (instRuns b (tInst e) = true → openRel b i = none → goes (.lRelease i) (fun t => t.blk.regs = b.regs ∧ SameMem b t.blk ∧
          (let r : SchRel := ⟨⟨i, e, none, [], [], cfg b F.SCH_CFG_kover⟩, 1, 0, w, w + tPeriod e, .waiting, 0, 0, false⟩
           schTask t.blk i = { schTask b i with lrelAt := some w, lrel := some r }))))) ∧
     (∀ rqid, cmdFree b rqid 0x30 →
       ((run ∨ s18 b = false) → goes (.schStart rqid) (fun t => answered b t.blk cs 0x10 ∧ RegsOnly [cs] b t.blk)) ∧
       (fon b F.SCH_STAT_run = false → s18 b = true → goes (.schStart rqid) (fun t => answered b t.blk cs 0 ∧ fget t.blk F.SCH_STAT_run = 1 ∧ evt t 3 ∧
         t.blk.sch.start = some (if rd64 b R.BNK_CURIDX_LO = 0 then relNext b false else rd64 b R.BNK_CURIDX_LO + 1))) ∧
       (fon b F.SCH_STAT_run = false → goes (.schStop rqid) (fun t => answered b t.blk cs 0x10 ∧ RegsOnly [cs] b t.blk)) ∧
       (run → goes (.schStop rqid) (fun t => answered b t.blk cs 0 ∧ fget t.blk F.SCH_STAT_run = 0 ∧ evt t 4 ∧ t.blk.sch.start = none ∧
         t.blk.sch.wins = [] ∧ t.blk.spk.fb = true))))

/-! ### Virtual instances and DMA -/

/-- R453, R454, R458, R460, R466, R469, R477: SHARE, START and RESUME need the lease (code 0x13) and their own conditions (code 0x10), and a module that
is not paired schedules them at once, one of a pair whose span is down for the boundary 16 on, and one in agreement asks its peer; CANCELSHARE withdraws a scheduled share; QUIESCE takes a running or faulted instance to QUIESCING and, once
nothing of it runs or its time is over, it is QUIESCED; RESET of a quiesced instance and FORCE_RESET take it to RESETTING, and the reset's end to
READY; MAP and UNMAP mark the selected granule. The end of a share's harrowing frees the held granules.
R463, R464, R465, R481, R482: a doorbell sets the ring's tail; a fetch reads the descriptor at the head and advances it; a descriptor starts on
the lowest free channel; a fill burst writes its bytes up to the next 256-byte boundary and advances. What has nothing to do changes nothing. -/
def Obligations.InstancesAndDma : Prop :=
  (∀ (n : Nat) (s : State), n < 64 → running s.blk = true →
    (let b := s.blk
     let cs := pg 0x31 0x2C
     let evt (t : State) (j : Nat) : Prop := bitOf (rd t.blk (pg 0x31 0x10)) j = true
     let same (i : Instr) : Prop := exec i s = .next { s with blk := { b with out := [] } }
     let goes (i : Instr) (f : State → Prop) : Prop := ∃ t, exec i s = .next t ∧ t.pending = s.pending ∧ f t
     let ends (i : Instr) (c : Nat) : Prop := goes i (fun t => answered b t.blk cs c ∧ RegsOnly [cs] b t.blk)
     let st := instState b n
     let inst := [R.VIM_ISTATE n, R.VIM_QRES n, sp n 0x31 0x010]
     (∀ rqid, cmdFree b rqid 0x31 →
       (noLease b = true → ends (.vimShare rqid) 0x13 ∧ ends (.vimStart rqid n) 0x13 ∧ ends (.vimResume rqid n) 0x13) ∧
       (noLease b = false → b.vim.pend ≠ none → ends (.vimShare rqid) 0x10) ∧
       (noLease b = false → paired b = false → vimCode 0 0 b = 0 → goes (.vimShare rqid) (fun t => answered b t.blk cs 0 ∧
         t.blk.vim = { b.vim with pend := some none } ∧ fget t.blk F.VIM_STAT_pending = 1 ∧ fget t.blk F.VIM_STAT_agreed = 0 ∧
         RegsBut [cs, R.VIM_STAT] b t.blk ∧ SameMem b t.blk)) ∧
       (noLease b = false → paired b = true → agreed b = false → vimCode 0 0 b = 0 → goes (.vimShare rqid) (fun t => answered b t.blk cs 0 ∧
         t.blk.vim = { b.vim with pend := some (some (rd64 b R.BNK_CURIDX_LO + 16)) } ∧ fget t.blk F.VIM_STAT_pending = 1 ∧
         fget t.blk F.VIM_STAT_agreed = 1 ∧ RegsBut [cs, R.VIM_STAT] b t.blk ∧ SameMem b t.blk)) ∧
       (∀ k c, (k, c) ∈ [(0, Instr.vimShare rqid), (1, .vimStart rqid n), (2, .vimResume rqid n)] → noLease b = false → paired b = true → agreed b = true →
         (let m := if k = 0 then 0 else n
          vimCode k m b = 0 → goes c (fun t => t.blk.vim = { b.vim with ask := some ⟨k, m, rd64 b R.BNK_CURIDX_LO + 16, ns b⟩ } ∧
            t.blk.resp = ⟨.ok, 0⟩ ∧ cmdBusy t.blk cs = true ∧ SameMem b t.blk))) ∧
       (b.vim.pend = none → ends (.vimCancelshare rqid) 0x10) ∧
       (b.vim.pend ≠ none → goes (.vimCancelshare rqid) (fun t => answered b t.blk cs 0 ∧ t.blk.vim = { b.vim with pend := none } ∧
         fget t.blk F.VIM_STAT_pending = 0 ∧ RegsBut [cs, R.VIM_STAT] b t.blk ∧ SameMem b t.blk)) ∧
       (noLease b = false → startCode 1 n b ≠ 0 → ends (.vimStart rqid n) 0x10) ∧
       (noLease b = false → paired b = false → startCode 1 n b = 0 → goes (.vimStart rqid n) (fun t => answered b t.blk cs 0 ∧ RegsBut [cs] b t.blk ∧
         t.blk.vim = { b.vim with starts := ⟨n, false, none⟩ :: b.vim.starts.filter (fun x => x.n != n) } ∧ SameMem b t.blk)) ∧
       (noLease b = false → st ≠ 4 → ends (.vimResume rqid n) 0x10) ∧
       (noLease b = false → paired b = false → st = 4 → goes (.vimResume rqid n) (fun t => answered b t.blk cs 0 ∧ RegsBut [cs] b t.blk ∧
         t.blk.vim = { b.vim with starts := ⟨n, true, none⟩ :: b.vim.starts.filter (fun x => x.n != n) } ∧ SameMem b t.blk)) ∧
       (st ≠ 2 → st ≠ 6 → ends (.vimQuiesce rqid n) 0x10) ∧
       ((st = 2 ∨ st = 6) → goes (.vimQuiesce rqid n) (fun t => answered b t.blk cs 0 ∧ instState t.blk n = 3 ∧ rd t.blk (R.VIM_QRES n) = 0 ∧ evt t 1 ∧
         t.blk.vim = { b.vim with qtmo := sset (fun _ => 0) b.vim.qtmo n (ns b + cfg b F.VIM_CFG_qtmo * 1000) } ∧
         RegsButEv (cs :: inst) b t.blk ∧ SameMem b t.blk)) ∧
       (st ≠ 4 → ends (.vimReset rqid n) 0x10) ∧
       (st = 4 → goes (.vimReset rqid n) (fun t => answered b t.blk cs 0 ∧ instState t.blk n = 5 ∧ sget (fun _ => []) t.blk.trust.slots n = [] ∧
         (t.blk.vim.resets.find? (fun r => r.1 == n)).isSome = true)) ∧
       (∀ l, [2, 3, 4, 6].contains st = false → ends (.vimForceReset rqid n l) 0x10) ∧
       ([2, 3, 4, 6].contains st = true → ∀ l, goes (.vimForceReset rqid n l) (fun t => answered b t.blk cs 0 ∧ instState t.blk n = 5 ∧
         sget (fun _ => []) t.blk.trust.slots n = [] ∧ (t.blk.vim.resets.find? (fun r => r.1 == n)).isSome = true)) ∧
       (b.vim.pend ≠ none → granOwner b (gsel b) ≠ granOwner (shareNext b) (gsel b) → ends (.vimMap rqid) 0x10) ∧
       (b.vim.pend = none ∨ granOwner b (gsel b) = granOwner (shareNext b) (gsel b) → granOwner b (gsel b) = none → ends (.vimMap rqid) 0x12) ∧
       (b.vim.pend = none ∨ granOwner b (gsel b) = granOwner (shareNext b) (gsel b) → granOwner b (gsel b) ≠ none → goes (.vimMap rqid) (fun t => answered b t.blk cs 0 ∧ gsel b ∈ t.blk.vim.mapped ∧
         RegsBut [cs] b t.blk ∧ SameMem b t.blk)) ∧
       goes (.vimUnmap rqid) (fun t => answered b t.blk cs 0 ∧ t.blk.vim = { b.vim with mapped := b.vim.mapped.filter (fun g => g != gsel b) } ∧
         RegsBut [cs] b t.blk ∧ SameMem b t.blk)) ∧
     (∀ l us, b.granHold = [] → same (.shareHarrowDone l us)) ∧
     (∀ l us, b.granHold ≠ [] → goes (.shareHarrowDone l us) (fun t => t.blk.granHold = [] ∧ (fon b F.VIM_STAT_harrowing = true →
       fget t.blk F.VIM_STAT_harrowing = 0 ∧ evt t 6))) ∧
     ((st ≠ 3 ∨ ringDescs b n ≠ [] ∨ releasesRun b n = true) → same (.quiesceDrained n)) ∧
     (st = 3 → ringDescs b n = [] → releasesRun b n = false →
       goes (.quiesceDrained n) (fun t => instState t.blk n = 4 ∧ evt t 2 ∧ t.blk.vim = { b.vim with qtmo := b.vim.qtmo.filter (fun x => x.1 != n) } ∧
         RegsButEv inst b t.blk ∧ SameMem b t.blk)) ∧
     (st = 3 → releasesRun b n = false → ∀ w, b.vim.qtmo.find? (fun x => x.1 == n) = some (n, w) → goes (.quiesceTimeout n) (fun t => instState t.blk n = 4 ∧ evt t 2 ∧
         t.blk.time = max b.time (w * 65536))) ∧
     ((st ≠ 3 ∨ b.vim.qtmo.find? (fun x => x.1 == n) = none) → same (.quiesceTimeout n)) ∧
     (∀ l us, b.vim.resets.find? (fun r => r.1 == n) = none → same (.instanceResetDone n l us)) ∧
     (∀ l us, b.vim.resets.find? (fun r => r.1 == n) ≠ none → goes (.instanceResetDone n l us) (fun t =>
       instState t.blk n = 1 ∧ evt t 3 ∧ t.blk.vim.resets.find? (fun r => r.1 == n) = none)))) ∧
  (∀ (ring : Nat) (s : State), ring < 65 → running s.blk = true →
    (let b := s.blk
     let same (i : Instr) : Prop := exec i s = .next { s with blk := { b with out := [] } }
     let goes (i : Instr) (f : State → Prop) : Prop := ∃ t, exec i s = .next t ∧ t.pending = s.pending ∧ f t
     let h := rd b (ringReg ring 0x10)
     let a := ringBase b ring + 32 * (h % ringSize b ring)
     let ready := ringOn b ring = true ∧ h ≠ rd b (ringReg ring 0x0C) ∧ (ringDescs b ring).length < 64
     (∀ rqid v, coreRuns b rqid = true → rqid < 1024 → v < 2 ^ 32 → mayWrite b rqid (ringReg ring 0x0C) → goes (.dmaDoorbell rqid ring v) (fun t =>
       rd t.blk (ringReg ring 0x0C) = v % 4096 ∧ t.blk.resp = ⟨.ok, 0⟩ ∧ RegsOnly [ringReg ring 0x0C] b t.blk)) ∧
     (¬ ready → same (.dmaFetch ring)) ∧
     (∀ l, ready → engRead (ringRqid ring) a 32 b = (.ok, l, b) → goes (.dmaFetch ring) (fun t =>
       (let f (o n : Nat) : Nat := leNat ((l.drop o).take n)
        t.blk.dma = b.dma ++ [⟨ring, a, f 0 8, f 8 8, f 16 4, f 20 2, f 22 2, 0, none⟩]) ∧
       rd t.blk (ringReg ring 0x10) = (h + 1) % ringSize b ring ∧ SameMem b t.blk)) ∧
     ((ringDescs b ring).find? (fun d => d.chan.isNone) = none → same (.dmaDescriptorStart ring)) ∧
     (∀ d k, (ringDescs b ring).find? (fun d => d.chan.isNone) = some d → ringChans b ring < max 1 (ringTokens b ring) → bitOf d.flags 1 = false →
       (List.range 32).find? (fun c => !b.dma.any (fun x => x.chan == some c)) = some k → d.valid = true → goes (.dmaDescriptorStart ring) (fun t =>
       t.blk.dma = b.dma.map (fun x => if x = d then { x with chan := some k } else x) ∧ rd t.blk (R.DMA_CHAN k) = 2 ^ 31 + ringRqid ring ∧
       SameMem b t.blk)) ∧
     (∀ c, c < 32 → b.dma.find? (fun d => d.chan == some c) = none → same (.dmaBurst c)) ∧
     (∀ c d, c < 32 → b.dma.find? (fun d => d.chan == some c) = some d → bitOf d.flags 2 = true → isMem b (d.dst + d.done) = true →
       (let n := min (d.len - d.done) (256 - (d.dst + d.done) % 256)
        d.done + n < d.len → ∀ w, engWrite (ringRqid d.ring) (d.dst + d.done) (fillBytes d.src d.done n) { b with out := [] } = (.ok, w) →
          goes (.dmaBurst c) (fun t => t.blk = { w with dma := w.dma.map (fun x => if x = d then { d with done := d.done + n } else x) })))))

/-! ### Publications and binaries -/

/-- R46, R104, R486, R488, R489, R490, R491, R497: a due GOOSE repetition advances sqNum and doubles its interval up to the longest; the end of
the minimum on time releases an output without demand; a pin's change starts its debounce, whose end takes the level, queues the change and counts
it for chatter (too many in the window block the input; a quiet window releases it); a supervision fault that has held its filter time shows and raises its event. Reading BIO_BINQ0 latches
the head entry for the requester and BIO_BINQ2 pops it. A pin takes its level at any time and is sampled on the next microsecond from S09 on (R46). What is not due changes nothing. -/
def Obligations.PublicationsAndBinaries : Prop :=
  (∀ (i : Nat) (s : State), i < 32 → running s.blk = true →
    (let b := s.blk
     let x := bioIn b i
     let evt (t : State) (j : Nat) : Prop := bitOf (rd t.blk (pg 0x35 0x10)) j = true
     let same (c : Instr) : Prop := exec c s = .next { s with blk := { b with out := [] } }
     let goes (c : Instr) (f : State → Prop) : Prop := ∃ t, exec c s = .next t ∧ t.pending = s.pending ∧ f t
     (∀ p, p < 353 → pubRun b p = none → same (.gooseRetransmit p)) ∧
     (∀ p r, p < 353 → pubRun b p = some r → (pGoose r.ent = false ∨ rd64 b R.BNK_CURIDX_LO < r.nextK) → same (.gooseRetransmit p)) ∧
     (∀ p r, p < 353 → pubRun b p = some r → pGoose r.ent = true → r.nextK ≤ rd64 b R.BNK_CURIDX_LO → goes (.gooseRetransmit p) (fun t =>
       ∃ q, pubRun t.blk p = some q ∧ q.st = r.st ∧ q.sq = (if r.sq = 0xFFFFFFFF then 1 else r.sq + 1) ∧ q.d = min (2 * r.d) (ent16 r.ent 22) ∧
         q.nextK = r.nextK + pubSheaves (primRate b) (min (2 * r.d) (ent16 r.ent 22)) ∧ q.members = r.members)) ∧
     (∀ j, j < 16 → (bioOut b j).holdEnd = none → same (.minonExpiry j)) ∧
     (∀ j w, j < 16 → (bioOut b j).holdEnd = some w → goes (.minonExpiry j) (fun t => (bioOut t.blk j).holdEnd = none ∧
       outDrive t.blk j = (if (bioOut b j).d then outDrive b j else false) ∧ t.blk.time = max b.time (w * 65536) ∧
       (∀ k, k < 16 → k ≠ j → outDrive t.blk k = outDrive b k) ∧ RegsBut [R.BIO_BOUT] b t.blk ∧ SameMem b t.blk)) ∧
     (x.pend = none → same (.binAccept i)) ∧
     (∀ w, x.pend = some w → chatOn b i = false →
       (let e := w + cfg b (F.BIO_ICFG_db i) * 1000
        let now := max (ns b) e
        let l := now :: x.changes.filter (fun c => decide (now < c + cfg b F.BIO_CHATCFG_chatw * 1000000000))
        goes (.binAccept i) (fun t => t.blk.time = max b.time (e * 65536) ∧ bitOf (rd t.blk R.BIO_BIN) i = x.pin ∧
          (if l.length ≤ cfg b F.BIO_CHATCFG_chatn then chatOn t.blk i = false ∧ bioIn t.blk i = { x with pend := none, deb := x.pin, changes := l }
           else chatOn t.blk i = true ∧ bioIn t.blk i = { x with pend := none, deb := x.pin, changes := [], window := now } ∧ evt t 3) ∧
          (if b.bio.queue.length < 256 then t.blk.bio.queue = b.bio.queue ++ [⟨w, i, x.pin, false⟩] ∧ rd t.blk R.BIO_BINQOVF = rd b R.BIO_BINQOVF
           else t.blk.bio.queue = b.bio.queue ∧ rd t.blk R.BIO_BINQOVF = (rd b R.BIO_BINQOVF + 1) % 2 ^ 32 ∧ evt t 5)))) ∧
     (∀ w, x.pend = some w → chatOn b i = true → goes (.binAccept i) (fun t => (bioIn t.blk i).deb = x.pin ∧ (bioIn t.blk i).pend = none ∧
       t.blk.regs = b.regs ∧ t.blk.bio.queue = b.bio.queue)) ∧
     (chatOn b i = false → same (.chatterWindowEnd i)) ∧
     (chatOn b i = true →
       (let n := (x.changes.filter (fun c => decide (x.window ≤ c) && decide (c < x.window + cfg b F.BIO_CHATCFG_chatw * 1000000000))).length
        let e := x.window + cfg b F.BIO_CHATCFG_chatw * 1000000000
        goes (.chatterWindowEnd i) (fun t => t.blk.time = max b.time (e * 65536) ∧
          if cfg b F.BIO_CHATCFG_chatn / 2 < n then chatOn t.blk i = true ∧ (bioIn t.blk i).window = e ∧ t.blk.regs = b.regs
          else chatOn t.blk i = false ∧ bitOf (rd t.blk R.BIO_BIN) i = x.deb ∧ evt t 4 ∧ (bioIn t.blk i).changes = []))) ∧
     (∀ j, j < 16 → supDue b j = none → same (.supervisionFilter j)) ∧
     (∀ j w coil on, j < 16 → supDue b j = some (w, coil, on) → goes (.supervisionFilter j) (fun t =>
       (let a := if coil then R.BIO_COILOPEN else R.BIO_DRVFAIL
        bitOf (rd t.blk a) j = on ∧ evt t (if !on then 2 else if coil then 0 else 1) ∧ RegsButEv [a, R.BIO_STAT] b t.blk) ∧
       fget t.blk F.BIO_STAT_supfault = b2n (rd t.blk R.BIO_COILOPEN != 0 || rd t.blk R.BIO_DRVFAIL != 0) ∧
       t.blk.time = max b.time (w * 65536) ∧ SameMem b t.blk)) ∧
     (∀ j v, j < 16 → goes (.drainLevelChange j v) (fun t => bitOf (rd t.blk R.BIO_RDBK) j = v ∧ RegsBut [R.BIO_RDBK] b t.blk ∧ SameMem b t.blk)) ∧
     (∀ rqid, rqid < 1024 → coreRuns b rqid = true → mayRead b rqid R.BIO_BINQ0 →
       (b.bio.queue = [] → goes (.bioBinq0Read rqid) (fun t => t.blk.resp = ⟨.ok, 0⟩ ∧ latched t.blk rqid R.BIO_BINQ2 = 0 ∧ t.blk.regs = b.regs)) ∧
       ∀ e l, b.bio.queue = e :: l → goes (.bioBinq0Read rqid) (fun t => t.blk.resp = ⟨.ok, e.t % 2 ^ 32⟩ ∧ t.blk.bio = b.bio ∧ t.blk.regs = b.regs ∧
         latched t.blk rqid R.BIO_BINQ1 = e.t / 2 ^ 32 % 2 ^ 32 ∧ latched t.blk rqid R.BIO_BINQ2 = e.word2)) ∧
     (∀ rqid, rqid < 1024 → coreRuns b rqid = true → mayRead b rqid R.BIO_BINQ2 →
       (b.bio.queue = [] → goes (.bioBinq2Read rqid) (fun t => t.blk.resp = ⟨.ok, (latchOf b rqid R.BIO_BINQ2).getD 0⟩ ∧ t.blk.bio = b.bio ∧
         t.blk.regs = b.regs)) ∧
       ∀ e l, b.bio.queue = e :: l → (latchOf b rqid R.BIO_BINQ2 = none ∨
         (latchOf b rqid R.BIO_BINQ2 = some e.word2 ∧ latched b rqid R.BIO_BINQ1 = e.t / 2 ^ 32 % 2 ^ 32)) →
       goes (.bioBinq2Read rqid) (fun t => t.blk.resp = ⟨.ok, e.word2⟩ ∧ t.blk.bio = { b.bio with queue := l } ∧ t.blk.regs = b.regs)))) ∧
  ∀ (i : Nat) (v : Bool) (s : State), i < 32 →
    (let b := s.blk
     exec (.binLevelChange i v) s = .next { s with blk := { b with out := [], bio := { b.bio with
       ins := modAt BioIn.init b.bio.ins i (fun y =>
         { y with
           pin := v
           pend := if isUp b 9 = true ∧ v ≠ y.pin then if v = y.deb then none else some (ceilDiv (ns b) 1000 * 1000) else y.pend }) } } })
/-! ### The twin -/

/-- R515, R516, R518, R519, R521, R523, R524, R525: a heartbeat goes out on a lane that is up and, received, is remembered with what it says of the
peer; a lane without a good frame goes down and a span without heartbeats is lost, which ends agreement. A HELLO that does not fit is refused with
its reason, one that fits but is not ready leads to JOINING, and with a joint index and the peer's resync the twins are AGREED from that index.
A question that is not answered in 1 ms is refused and taken back.
Records without a partner, span time, notices, tunnelled frames and swap requests are taken as their rules say. -/
def Obligations.TwinLink : Prop :=
  ∀ s : State, running s.blk = true → s.blk.aln.due = [] → s.blk.aln.settled = [] →
    (let b := s.blk
     let w := b.twn
     let evt (t : State) (j : Nat) : Prop := bitOf (rd t.blk (pg 0x38 0x10)) j = true
     let same (c : Instr) : Prop := exec c s = .next { s with blk := { b with out := [] } }
     let goes (c : Instr) (f : State → Prop) : Prop := ∃ t, exec c s = .next t ∧ t.pending = s.pending ∧ f t
     let sends (c : Instr) (l : List SpanMsg) (v : Twn) : Prop := exec c s = .next { s with blk := { b with out := l.map .span, twn := v } }
     let up := laneUp b = true
     let st := twnState b
     let fits (h : Hello) : Prop := h.cap = (hello b).cap ∧ h.side ≠ (hello b).side ∧ h.fleet = (hello b).fleet ∧ h.fldId = (hello b).fldId ∧
       h.pair = (hello b).pair ∧ h.vmac = (hello b).vmac ∧ h.rate = (hello b).rate
     (w.recs = [] → (up → sends .heartbeatSend [.heartbeat (heartbeat b)] w) ∧ (laneUp b = false → same .heartbeatSend)) ∧
     (∀ l h, l ∈ [1, 2] → w.laneOff = true → laneUp b = false → same (.spanHeartbeatReceive l h)) ∧
     (∀ l h, l ∈ [1, 2] → h.epoch < 2 ^ 32 → linkUp b (11 + l) = true → w.laneOff = false → w.peerStart = none → goes (.spanHeartbeatReceive l h) (fun t =>
       t.blk.twn.hb = some h ∧ t.blk.twn.hbAt = some (ns b) ∧ fon t.blk (if l = 1 then F.TWN_STAT_lane1 else F.TWN_STAT_lane2) = true ∧
       rd t.blk R.TWN_PEER = h.midx % 65536 * 65536 + h.twn % 8 * 256 + h.service % 4 ∧ rd b R.TWN_EPOCH ≤ rd t.blk R.TWN_EPOCH ∧
       RegsButEv [R.TWN_STAT, R.TWN_HBMISS, R.TWN_PEER, R.TWN_EPOCH] b t.blk)) ∧
     (w.lane1At = none → same (.laneTimeout 1)) ∧ (w.lane2At = none → same (.laneTimeout 2)) ∧
     (∀ v, w.lane1At = some v → goes (.laneTimeout 1) (fun t => fget t.blk F.TWN_STAT_lane1 = 0 ∧ evt t 11 ∧ t.blk.twn = { w with lane1At := none } ∧
       t.blk.time = max b.time ((v + 1000000) * 65536) ∧ RegsButEv [R.TWN_STAT] b t.blk)) ∧
     (∀ v, w.lane2At = some v → goes (.laneTimeout 2) (fun t => fget t.blk F.TWN_STAT_lane2 = 0 ∧ evt t 11 ∧ t.blk.twn = { w with lane2At := none } ∧
       t.blk.time = max b.time ((v + 1000000) * 65536) ∧ RegsButEv [R.TWN_STAT] b t.blk)) ∧
     (w.hbAt = none → same .spanLost) ∧
     (∀ v, w.hbAt = some v → b.aln.sheaves = [] → goes .spanLost (fun t => evt t 1 ∧ t.blk.twn.hbAt = none ∧ t.blk.twn.recs = [] ∧ t.blk.twn.suppress = [] ∧
       twnState t.blk = (if st = 3 ∨ st = 2 then 1 else st) ∧
       (w.missed < 16 → t.blk.time = max b.time ((v + 1000000) * 65536)))) ∧
     ((spanUp b = false ∨ agreed b = true) → same .helloSend) ∧
     (spanUp b = true → agreed b = false → up → sends .helloSend [.hello (hello b)] w) ∧
     (∀ h, (spanUp b = false ∨ agreed b = true ∨ st = 0) → same (.helloReceive h)) ∧
     (∀ h, spanUp b = true → st = 1 → fget b F.TWN_STAT_refuse = 0 → h.cap ≠ (hello b).cap → goes (.helloReceive h) (fun t =>
       fget t.blk F.TWN_STAT_refuse = 1 ∧ evt t 2 ∧ t.blk.twn = { w with hello := some h, helloStart := w.hb.map (·.startno) } ∧ RegsButEv [R.TWN_STAT] b t.blk)) ∧
     (∀ h, spanUp b = true → st = 1 → fget b F.TWN_STAT_refuse = 0 → fits h → h.s16 = false → goes (.helloReceive h) (fun t =>
       fget t.blk F.TWN_STAT_refuse = 7 ∧ twnState t.blk = 2 ∧ evt t 6 ∧ t.blk.twn.joinFrom = 1 ∧ t.blk.twn.joinIdx = none)) ∧
     ((w.joinIdx = none ∨ w.resync = none ∨ st ≠ 2) → same .pairedJoin) ∧
     (∀ j q l, w.joinIdx = some j → w.resync = some (q, l, []) → st = 2 → j ≤ rd64 b R.ALN_CURIDX_LO → (∀ x ∈ l, x.1 < 512) → goes .pairedJoin (fun t =>
       twnState t.blk = 3 ∧ evt t 0 ∧ evt t 6 ∧ evt t 10 ∧ t.blk.twn.joinIdx = none ∧ t.blk.twn.resync = none ∧ t.blk.twn.suppress = [])) ∧
     (∀ q l ps, q < 65536 → (st = 2 → sends (.resyncReceive q l ps) [] { w with resync := some (q, l, ps) }) ∧ (st ≠ 2 → same (.resyncReceive q l ps))) ∧
     (∀ l, agreed b = false → same (.framedigReceive l)) ∧
     (∀ r, agreed b = true → w.recs = [] → sends (.framedigReceive [r]) [] { w with precs := w.precs ++ [(r, ns b)] }) ∧
     (w.recs = [] → w.precs = [] → same .digestPartnerTimeout) ∧
     (∀ r v l, w.recs = [] → w.precs = (r, v) :: l → agreed b = false → goes .digestPartnerTimeout (fun t => t.blk.twn = { w with precs := l } ∧
       t.blk.regs = b.regs ∧ t.blk.time = max b.time ((v + 1000000) * 65536))) ∧
     (up → (let e := w.timePeer.getD (0, 0)
       sends .timeSend [.time w.timeT1 e.1 e.2 (ns b)] { w with timeT1 := ns b, timePeer := none })) ∧
     (∀ a e c d, (laneUp b = false → same (.spanTimeReceive a e c d)) ∧
       (up → e = 0 → (let p := if a = 0 ∨ w.timeRx = 0 then none else some (a, w.timeRx)
         sends (.spanTimeReceive a e c d) [] { w with timePeer := p, timeRx := ns b }))) ∧
     (∀ n d, n < 256 → laneUp b = false → same (.noticeReceive n d)) ∧
     (∀ d, up → goes (.noticeReceive 1 d) (fun t => fget t.blk F.TWN_STAT_peerrisk = 1 ∧ evt t 7 ∧ RegsButEv [R.TWN_STAT] b t.blk) ∧
       goes (.noticeReceive 2 d) (fun t => fget t.blk F.TWN_STAT_peerrisk = 0 ∧ evt t 8 ∧ t.blk.twn.lease.askAt = none ∧ RegsButEv [R.TWN_STAT] b t.blk)) ∧
     (∀ l f, l ∈ [1, 2] → linkUp b (11 + l) = false → same (.tunnelReceive l f)) ∧
     (∀ l f, l ∈ [1, 2] → linkUp b (11 + l) = true → w.laneOff = true → goes (.tunnelReceive l f) (fun t => t.blk.regs = b.regs ∧
       t.blk.net.rx = b.net.rx ++ [⟨b.net.nextId, f, 0, 11 + l, ns b, false, 0x3FF, none, false, cellsOf f.len, halfNs b⟩])) ∧
     (∀ k cb g x d, k ∈ [1, 2, 3, 4, 5] → laneUp b = false → same (.agreeReceive k cb g x d)) ∧
     (∀ cb g x d, up → x ≤ curIdx b → sends (.agreeReceive 1 cb g x d) [.agree 5 cb false x d] w) ∧
     (∀ cb g x d, up → agreed b = false → curIdx b < x → goes (.agreeReceive 1 cb g x d) (fun t =>
       t.blk.out = [.span (.agree 2 cb false x d)] ∧ t.blk.bnk = b.bnk ∧ SameMem b t.blk)) ∧
     (∀ cb c d, up → b.bnk.check = some c → c.peer = true → curIdx b < c.idx → goes (.agreeReceive 2 cb true c.idx d) (fun t =>
       t.blk.bnk.check = none ∧ t.blk.bnk.pend = some ⟨c.idx, c.copyback, c.atidx, true⟩ ∧ fget t.blk F.BNK_STAT_pending = 1)) ∧
     (b.bnk.check = none → b.vim.ask = none → same .agreeTimeout) ∧
     (∀ c, b.bnk.check = some c → c.peer = true → goes .agreeTimeout (fun t => t.blk.bnk.check = none ∧ bitOf (rd t.blk (pg 0x08 0x10)) 1 = true ∧
       t.blk.time = max b.time ((c.sentAt + 1000000) * 65536) ∧ (up → .span (.agree 2 c.copyback false c.idx 0) ∈ t.blk.out))) ∧
     (b.bnk.check = none → ∀ a, b.vim.ask = some a → goes .agreeTimeout (fun t => t.blk.vim.ask = none ∧
       t.blk.time = max b.time ((a.sentAt + 1000000) * 65536) ∧ (up → .span (.agree 4 false false a.idx 0) ∈ t.blk.out))))
/-! ### The control lease and the field -/

/-- R526, R528, R529, R530, R531, R533, R534, R535, R536: the holder renews its lease and counts an unanswered renewal; a grant of a request makes
the holder, a message that answers nothing is counted, a lease that expires or is released is lost. PRESENT goes out on its period and a request is
repeated while the peer is at risk. A witness answers a served module. CHECK is 0 for an unpaired module or a holder with the margin, RELEASE and
REJOIN need the lease and ALONE. The master announces, an announcement's absence is reported, and one heard fixes the epoch. What a tag the model
leaves open decides is stated for a good tag. -/
def Obligations.LeaseAndField : Prop :=
  ∀ s : State, running s.blk = true →
    (let b := s.blk
     let w := b.twn.lease
     let w1 := b.fld.lease
     let evt (t : State) (p j : Nat) : Prop := bitOf (rd t.blk (pg p 0x10)) j = true
     let same (c : Instr) : Prop := exec c s = .next { s with blk := { b with out := [] } }
     let goes (c : Instr) (f : State → Prop) : Prop := ∃ t, exec c s = .next t ∧ t.pending = s.pending ∧ f t
     let inc (t : State) (a : Nat) : Prop := rd t.blk a = (rd b a + 1) % 2 ^ 32
     let st := twnState b
     let cs := pg 0x38 0x2C
     let master := fon b F.FLD_STAT_master = true
     let tag (u : Nat) (f : Frame) (h : Nat) : Prop := Config.tagOk (tagKey b u h) f = true
     let cur (a k : Nat) : Prop := (leaf b a).kind = k ∧ leafRx b a (secOf b) = true
     let form (rqid : Nat) (i : Option Nat) (a : Nat) : Prop :=
       (i = none ∧ a = cs ∧ cmdFree b rqid 0x38) ∨ ∃ n, i = some n ∧ a = sp n 0x38 0x1F4 ∧ subFree b rqid 0x38 n 0x1F0 0x1F4
     (holder b = false → same (.renewDue 0) ∧ same (.renewRetry 0) ∧ same (.leaseExpiry 0)) ∧
     (fon b F.FLD_STAT_master = false → same (.renewDue 1) ∧ same (.renewRetry 1) ∧ same (.leaseExpiry 1) ∧ same .announceSend) ∧
     (∀ v, holder b = true → w.renewAt = some v → goes (.renewDue 0) (fun t => t.blk.twn.lease.renewAt = none ∧
       t.blk.twn.lease.retryAt = some (max (ns b) v + leaseLen b / 16) ∧ holder t.blk = true ∧ t.blk.time = max b.time (v * 65536))) ∧
     (∀ v, master → w1.renewAt = some v → goes (.renewDue 1) (fun t => t.blk.fld.lease.renewAt = none ∧
       t.blk.fld.lease.retryAt = some (max (ns b) v + lease1Len b / 16) ∧ t.blk.time = max b.time (v * 65536))) ∧
     (∀ v, holder b = true → w.retryAt = some v → goes (.renewRetry 0) (fun t => inc t R.TWN_WITTO ∧
       t.blk.twn.lease.retryAt = some (max (ns b) v + leaseLen b / 16))) ∧
     (∀ v, master → w1.retryAt = some v → goes (.renewRetry 1) (fun t => inc t R.TWN_WITTO ∧
       t.blk.fld.lease.retryAt = some (max (ns b) v + lease1Len b / 16))) ∧
     (holder b = true → goes (.leaseExpiry 0) (fun t => holder t.blk = false ∧ t.blk.twn.lease.held = false ∧ evt t 0x38 5 ∧
       twnState t.blk = (if st = 4 then 1 else st) ∧ t.blk.time = max b.time ((w.exp - 10000000) * 65536))) ∧
     (master → goes (.leaseExpiry 1) (fun t => fget t.blk F.FLD_STAT_master = 0 ∧ t.blk.fld.lease.held = false ∧ evt t 0x39 4 ∧
       RegsButEv [R.FLD_STAT] b t.blk)) ∧
     ((holder b = true ∨ st = 0 ∨ b.start.last < 15) → same .presentSend) ∧
     (holder b = false → st ≠ 0 → 15 ≤ b.start.last → goes .presentSend (fun t =>
       t.blk.twn.presentAt = max (ns b) b.twn.presentAt + leaseLen b / 4 ∧ holder t.blk = false)) ∧
     ((w.askAt = none ∨ holder b = true) → same .requestRepeat) ∧
     (∀ v, w.askAt = some v → holder b = false → goes .requestRepeat (fun t =>
       t.blk.twn.lease.askAt = if fon b F.TWN_STAT_peerrisk then some (max (ns b) v + leaseLen b / 16) else none)) ∧
     ((w.remAt = none ∨ holder b = true) → same .statusRemainingExpiry) ∧
     (∀ v, w.remAt = some v → holder b = false → goes .statusRemainingExpiry (fun t => t.blk.twn.lease.remAt = none ∧ t.blk.time = max b.time (v * 65536))) ∧
     (∀ f m, f.body = .witness m → (m.typ ≠ 4 → same (.grantReceive f)) ∧ (m.typ ≠ 5 → same (.statusReceive f)) ∧
       (m.typ ∉ [1, 2, 3, 6] → same (.witnessMessage f)) ∧
       (m.typ = 4 → m.lease = 0 → replyTo b w m = none → goes (.grantReceive f) (fun t => inc t R.TWN_WITBAD ∧ RegsBut [R.TWN_WITBAD] b t.blk)) ∧
       (m.typ = 5 → m.lease = 0 → replyTo b w m = none → goes (.statusReceive f) (fun t => inc t R.TWN_WITBAD ∧ RegsBut [R.TWN_WITBAD] b t.blk)) ∧
       (∀ at_ k, m.lease = 0 → replyTo b w m = some (at_, k) → m.fleet = fleetId b → m.midx = modIdx b → cur (cfg b F.TWN_WITLEAF_cur) 3 →
         (m.typ = 4 → rd b R.TWN_EPOCH ≤ m.epoch → ns b + 10000000 < at_ + leaseLen b → fon b F.TWN_CTL_nolease = false → holder b = false →
           goes (.grantReceive f) (fun t => tag 2 f (cfg b F.TWN_WITLEAF_cur) → holder t.blk = true ∧ evt t 0x38 4 ∧ inc t R.TWN_WITRX ∧
             t.blk.twn.lease.epoch = m.epoch ∧ t.blk.twn.lease.exp = at_ + leaseLen b ∧ t.blk.twn.lease.renewAt = some (at_ + leaseLen b / 4))) ∧
         (m.typ = 5 → goes (.statusReceive f) (fun t => tag 2 f (cfg b F.TWN_WITLEAF_cur) → inc t R.TWN_WITRX ∧ fon t.blk F.TWN_STAT_witok = true))) ∧
       (∀ p y, m.fleet = fleetId b → m.typ ∈ [1, 2, 3, 6] → m.lease ≤ 1 → serveOf b m = some (p, y) →
         (let h := if y then cfg b (F.TWN_WSRV_w3_leafy p) else cfg b (F.TWN_WSRV_w3_leafx p)
          cur h 3 → goes (.witnessMessage f) (fun t => tag 2 f h → t.blk.net.rx.length = b.net.rx.length + 1)))) ∧
     goes .witnessQuarantineEnd (fun t => t.blk.time = max b.time (b.twn.quarEnd * 65536) ∧ t.blk.regs = b.regs) ∧
     (∀ rqid i a n, n < 65536 → form rqid i a →
       ((n = 0 ∨ 1000 < n) → goes (.twnCheck rqid i n) (fun t => answered b t.blk a 0x12 ∧ RegsOnly [a] b t.blk)) ∧
       (1 ≤ n → n ≤ 1000 → st ≠ 0 → holder b = false → goes (.twnCheck rqid i n) (fun t => answered b t.blk a 0x13 ∧ RegsOnly [a] b t.blk)) ∧
       (1 ≤ n → n ≤ 1000 → (st = 0 ∨ (holder b = true ∧ ns b + n * 1000000 ≤ w.exp - 10000000)) → goes (.twnCheck rqid i n) (fun t => answered b t.blk a 0 ∧
         RegsOnly (match i with | none => [a] | some k => [a, R.TWN_I_EPOCH k]) b t.blk ∧ ∀ k, i = some k → rd t.blk (R.TWN_I_EPOCH k) = rd b R.TWN_EPOCH))) ∧
     (∀ rqid, cmdFree b rqid 0x38 →
       (holder b = false → goes (.twnRelease rqid) (fun t => answered b t.blk cs 0x10 ∧ RegsOnly [cs] b t.blk)) ∧
       (holder b = true → goes (.twnRelease rqid) (fun t => answered b t.blk cs 0 ∧ holder t.blk = false ∧ evt t 0x38 5 ∧ t.blk.twn.lease.held = false)) ∧
       (st ≠ 1 → goes (.twnRejoin rqid) (fun t => answered b t.blk cs 0x10 ∧ RegsOnly [cs] b t.blk)) ∧
       (st = 1 → goes (.twnRejoin rqid) (fun t => answered b t.blk cs 0 ∧ fget t.blk F.TWN_STAT_refuse = 0 ∧ RegsOnly [cs, R.TWN_STAT] b t.blk))) ∧
     (∀ rqid v, rqid < 1024 → v < 2 ^ 32 → coreRuns b rqid = true → mayWrite b rqid R.TWN_CTL → cfgLocked b 0x38 = false →
       ((bitOf v 0 = false ∨ holder b = false) → goes (.noleaseWrite rqid v) (fun t => fget t.blk F.TWN_CTL_nolease = b2n (bitOf v 0) ∧
         t.blk.resp = ⟨.ok, 0⟩ ∧ RegsOnly [R.TWN_CTL] b t.blk)) ∧
       (bitOf v 0 = true → holder b = true → goes (.noleaseWrite rqid v) (fun t => fget t.blk F.TWN_CTL_nolease = 1 ∧ holder t.blk = false ∧ evt t 0x38 5))) ∧
     (∀ h, cfg b F.FLD_CFG_etype ≠ 0x8808 → master → pickLeaf b (cfg b F.FLD_LEAF_cur) (cfg b F.FLD_LEAF_next) 4 = some h → goes .announceSend (fun t =>
       rd t.blk R.FLD_EPOCH = w1.epoch % 2 ^ 32 ∧ t.blk.fld.annAt = some (ns b) ∧ t.blk.net.rx.length = b.net.rx.length + 1)) ∧
     ((isCandidate b = false ∨ ns b < lastAnnounce b + ms300) → same .candidateSend) ∧
     (∀ h, cfg b F.FLD_CFG_etype ≠ 0x8808 → isCandidate b = true → lastAnnounce b + ms300 ≤ ns b → pickLeaf b (cfg b F.FLD_LEAF_cur) (cfg b F.FLD_LEAF_next) 4 = some h →
       goes .candidateSend (fun t => fget t.blk F.FLD_STAT_cand = 1 ∧ t.blk.net.rx.length = b.net.rx.length + 1)) ∧
     (fieldId b = 0 → same .announceAbsent ∧ ∀ f, same (.fieldAnnounceReceive f)) ∧
     (fieldId b ≠ 0 → b.fld.noMaster = false → isCandidate b = false → goes .announceAbsent (fun t => t.blk.fld = { b.fld with noMaster := true } ∧
       evt t 0x39 1 ∧ RegsButEv [] b t.blk)) ∧
     (isCandidate b = true → goes .announceAbsent (fun t => fget t.blk F.FLD_STAT_cand = 1 ∧ t.blk.fld.noMaster = true ∧
       t.blk.time = max b.time ((lastAnnounce b + ms300) * 65536) ∧ (b.fld.noMaster = false → evt t 0x39 1))) ∧
     (∀ f m, f.body = .relay m → f.etype = cfg b F.FLD_CFG_etype → fieldId b ≠ 0 → m.fid = fieldId b → cur (cfg b F.FLD_LEAF_cur) 4 →
       (m.typ = 3 → goes (.fieldAnnounceReceive f) (fun t => tag 3 f (cfg b F.FLD_LEAF_cur) → rd t.blk R.FLD_EPOCH = m.epoch % 2 ^ 32 ∧
         t.blk.fld.annAt = some (ns b) ∧ t.blk.fld.rate = m.rate ∧ t.blk.fld.noMaster = false)) ∧
       (m.typ = 4 → goes (.fieldAnnounceReceive f) (fun t => t.blk.regs = b.regs ∧ (tag 3 f (cfg b F.FLD_LEAF_cur) →
         t.blk.fld = { b.fld with cands := (m.pair, m.prio, ns b) :: b.fld.cands.filter (fun c => c.1 != m.pair) })))) ∧
     (b.fld.prev = none → same .epochGraceEnd) ∧
     (∀ e v, b.fld.prev = some (e, v) → goes .epochGraceEnd (fun t => t.blk.fld = { b.fld with prev := none } ∧ t.blk.regs = b.regs ∧
       t.blk.time = max b.time (v * 65536))))
/-! ### Saves, metering, pulses and records -/

/-- R563, R574, R579, R585, R587, R593, R596, R607, R608, R612, R614, R615: a save's end releases it, and one that failed is reported; RETCLR harrows
the slots of a program that is not enabled, and ZERO zeroes the counters of a point that is not. A settled sheaf is processed in index order. SNAP
checks its points and its buffer. A pulse starts when its output is low and counts, and ends at its time. A record leaves the intake queue in order,
into the reserve where the log is in reserve; LOG queues a record within the rate of its second; CLEAR needs the lease, a hold and a token; a hold is
set, ended and expires. -/
def Obligations.SavedRecords : Prop :=
  ∀ s : State, running s.blk = true →
    (let b := s.blk
     let b0 : Block := { b with out := [] }
     let elg := b.elg
     let evt (t : State) (p j : Nat) : Prop := bitOf (rd t.blk (pg p 0x10)) j = true
     let same (c : Instr) : Prop := exec c s = .next { s with blk := b0 }
     let goes (c : Instr) (f : State → Prop) : Prop := ∃ t, exec c s = .next t ∧ t.pending = s.pending ∧ f t
     let ends (c : Instr) (a k : Nat) : Prop := goes c (fun t => answered b t.blk a k ∧ RegsOnly [a] b t.blk)
     let inc (t : State) (a : Nat) : Prop := rd t.blk a = (rd b a + 1) % 2 ^ 32
     let taken (a : Nat) : Block := accept a { b with out := [], resp := ⟨.ok, 0⟩ }
     let calm := fget b F.PWR_STAT_state = 0 ∧ b.pwr.deferred = .none
     let ready := fon b F.ELG_STAT_ready = true ∧ fon b F.ELG_STAT_clearing = false
     let main := fon b F.ELG_STAT_reserve = false ∧ fon b F.ELG_STAT_dead = false ∧ fon b F.ELG_STAT_clearing = false
     let hold := fon b F.ELG_CTL_hold
     let cs := pg 0x40 0x2C
     (∀ p good, p < 256 → (b.lgr.saves.find? (fun x => x.prog == p) = none → same (.retentiveSaveDone p good)) ∧
       (∀ x, b.lgr.saves.find? (fun x => x.prog == p) = some x →
         (let l := b.lgr.saves.filter (fun x => x.prog != p)
          goes (.retentiveSaveDone p good) (fun t => t.blk.lgr.saves = l ∧ fget t.blk F.LGR_STAT_saving = b2n !l.isEmpty ∧
            (good = false → evt t 0x3C 4 ∧ tget t.blk (tkey 0x3C 5 p 5) = (tget b (tkey 0x3C 5 p 5) + 1) % 2 ^ 32 ∧
              rd t.blk (pg 0x3C 0x1C) = 2 ^ 24 + p ∧ ∀ i, i < 8 → mget t.blk (x.addr + 56 + i) = 0)) ∧
          ∀ w, good = true → engWrite 0x0C6 x.addr x.data (fset F.LGR_STAT_saving (b2n !l.isEmpty) { b0 with lgr := { b.lgr with saves := l } }) = (.ok, w) →
            goes (.retentiveSaveDone p good) (fun t => t.blk = tcnt (tkey 0x3C 5 p 3) 1 w)))) ∧
     (∀ rqid p, p < 256 → cmdFree b rqid 0x3C → (let e := lgrEnt b p
       let lo := lgrBase + lMoff e
       (lEn e = true → ends (.lgrRetclr rqid p) (pg 0x3C 0x2C) 0x10) ∧
       (lEn e = false → goes (.lgrRetclr rqid p) (fun t => answered b t.blk (pg 0x3C 0x2C) 0 ∧ RegsBut [pg 0x3C 0x2C] b t.blk ∧
         (∀ k, tget t.blk k = tget b k) ∧ ∀ x, mget t.blk x = if lo ≤ x ∧ x < lo + 2 * slotSize (dirAt b e) then memReset x else mget b x)))) ∧
     ((b.part.optM = false ∨ fget b F.PWR_STAT_state = 2 ∨ mtrNext b = none) → same .meteringSheaf) ∧
     (∀ k, b.part.optM = true → fget b F.PWR_STAT_state ≠ 2 → mtrNext b = some k → goes .meteringSheaf (fun t =>
       t.blk.mtr.next = some (k + 1) ∧ t.blk.mtr.last = k ∧ t.blk.mtr.ao = some k)) ∧
     ((fget b F.PWR_STAT_state ≠ 0 ∨ b.mtr.next = none ∨ b.mtr.save ≠ none) → same .mtrPeriodicSave) ∧
     (∀ k, fget b F.PWR_STAT_state = 0 → b.mtr.next = some k → b.mtr.save = none → goes .mtrPeriodicSave (fun t =>
       t.blk.time = max b.time ((b.mtr.saveAt + cfg b F.MTR_CFG_saveint * 1000000) * 65536) ∧ RegsBut [R.MTR_STAT] b t.blk ∧ SameMem b t.blk ∧
       (b.part.optM = true → fget t.blk F.MTR_STAT_saving = 1 ∧ t.blk.mtr.saveAt = ns t.blk ∧ ∃ x, t.blk.mtr.save = some x ∧
         x.addr = mtrSlotAddr (match mtrBest b with | some y => 1 - y.1 | none => 0)))) ∧
     (∀ good, calm → (b.mtr.save = none → same (.mtrSaveDone good)) ∧
       (∀ x, b.mtr.save = some x → goes (.mtrSaveDone good) (fun t => t.blk.mtr.save = none ∧ fget t.blk F.MTR_STAT_saving = 0 ∧
         (good = false → b.part.optM = true → evt t 0x3E 1)))) ∧
     (∀ rqid i a len first count, first < 128 → count < 256 →
       ((i = none ∧ a = pg 0x3E 0x2C ∧ len = fget b F.MTR_SNAPLEN_len ∧ cmdFree b rqid 0x3E) ∨
         ∃ n, i = some n ∧ a = sp n 0x3E 0x1F4 ∧ len = fget b (F.MTR_I_SNAPLEN_len n) ∧ subFree b rqid 0x3E n 0x1F0 0x1F4 ∧ instState b n = 2 ∧
           ∀ p, first ≤ p → p < first + count → mOwner (mtrEnt b p) = some n) →
       ((count < 1 ∨ 128 < first + count ∨ len < 16 + 192 * count) → ends (.mtrSnap rqid i first count) a 0x12) ∧
       (1 ≤ count → first + count ≤ 128 → 16 + 192 * count ≤ len →
         (let d := snapRecord (taken a) first count
          let at_ (lo hi : Nat) : Nat := lo * 8 + hi * 2 ^ 32
          let dst : Nat := i.elim (at_ (fget b F.MTR_SNAPADDR_LO_addr) (fget b F.MTR_SNAPADDR_HI_addr))
            (fun n => at_ (fget b (F.MTR_I_SNAPADDR_LO_addr n)) (fget b (F.MTR_I_SNAPADDR_HI_addr n)))
          ∀ w, engWrite (i.getD 0x0C4) dst d (taken a) = (.ok, w) → goes (.mtrSnap rqid i first count) (fun t =>
            answered b t.blk a 0 ∧ rd64 t.blk R.MTR_SNAPIDX_LO = w.mtr.last % 2 ^ 64 ∧ t.blk.mem = w.mem)))) ∧
     (∀ rqid n first count, first < 128 → count < 256 → subFree b rqid 0x3E n 0x1F0 0x1F4 → instState b n ≠ 2 →
       ends (.mtrSnap rqid (some n) first count) (sp n 0x3E 0x1F4) 0x10) ∧
     (∀ rqid p, p < 128 → cmdFree b rqid 0x3E → (mEn (mtrEnt b p) = true → ends (.mtrZero rqid p) (pg 0x3E 0x2C) 0x10) ∧
       (mEn (mtrEnt b p) = false → goes (.mtrZero rqid p) (fun t => answered b t.blk (pg 0x3E 0x2C) 0 ∧ RegsBut [pg 0x3E 0x2C] b t.blk ∧
         SameMem b t.blk ∧ ∀ q, mtrPoint t.blk q = if q = p then { mtrPoint b p with acc := List.replicate 23 0 } else mtrPoint b q))) ∧
     (∀ j, j < 16 → (let o := plsOut b j
       ((o.queue = [] ∨ o.high ≠ none ∨ cfgOn b (F.PLS_CFG_w0_en j) = false) → same (.pulseStart j)) ∧ (o.high = none → same (.pulseEnd j)) ∧
       (∀ d w l, o.queue = (d, w) :: l → o.high = none → cfgOn b (F.PLS_CFG_w0_en j) = true →
         (let x := if o.width = 0 then d else max d (o.start + 2 * o.width)
          goes (.pulseStart j) (fun t => plsOut t.blk j = { o with queue := l, start := x, width := w, high := some (x + w) } ∧ inc t (R.PLS_CNT j) ∧
            rd t.blk (R.PLS_WAIT j) = l.length % 2 ^ 32 ∧ t.blk.time = max b.time (x * 65536) ∧
            RegsButEv [R.PLS_CNT j, R.PLS_WAIT j] b t.blk ∧ SameMem b t.blk))) ∧
       (∀ e, o.high = some e → goes (.pulseEnd j) (fun t => plsOut t.blk j = { o with high := none } ∧ t.blk.time = max b.time (e * 65536) ∧
         RegsBut [R.PLS_WAIT j] b t.blk ∧ SameMem b t.blk)))) ∧
     (∀ f, (¬ready ∨ elg.queue = []) → same (.recordWrite f)) ∧
     (∀ f x q, ready → elg.queue = x :: q → (let m : Block := { b0 with elg := { elg with queue := q } }
       (fon b F.ELG_STAT_dead = true → goes (.recordWrite f) (fun t => rd t.blk R.ELG_LOST = min 0xFFFFFFFF (rd b R.ELG_LOST + 1) ∧
         t.blk = { m with regs := t.blk.regs } ∧ RegsBut [R.ELG_LOST] b t.blk)) ∧
       (fon b F.ELG_STAT_dead = false → x.typ = 1 → elgRepeats x m = false → elg.lostSince = 0 →
         (let n := rd b R.ELG_NEXT
          let r : ElgRec := ⟨x.time, n, x.code, 1, x.sev, x.rqid, elgFlags x.gasp b, 0, x.payload⟩
          (fon b F.ELG_STAT_reserve = true → goes (.recordWrite []) (fun t => rd t.blk R.ELG_NEXT = (n + 1) % 2 ^ 32 ∧ t.blk.elg.queue = q ∧
            sget (fun _ => []) t.blk.elg.reserve (n % 2048) = { r with flags := r.flags ||| 1 }.bytes ∧ RegsBut [R.ELG_NEXT] b t.blk ∧ SameMem b t.blk)) ∧
          ∀ w, fon b F.ELG_STAT_reserve = false →
            elgTry (elgSlot n) r.bytes false (cleanse (elgSlot n) (cleanse (elgSlot n + 32) (wr R.ELG_NEXT (n + 1) m))) = (true, w) → w.elg.lostSince = 0 →
            goes (.recordWrite []) (fun t => rd t.blk R.ELG_NEXT = rd w R.ELG_NEXT ∧ t.blk.mem = w.mem ∧ t.blk.elg.last =
              some ⟨1, x.code, x.rqid, x.time, padTo 0#8 32 x.payload, false, n, 0⟩))))) ∧
     (∀ rqid n code sev, code < 1024 → sev < 8 → subFree b rqid 0x40 n 0x1F0 0x1F4 →
       (let k := if elg.instSec = secOf b then sget (fun _ => 0) elg.instCnt n else 0
        let x : ElgItem := ⟨1, code, n, sev, ns b, ((List.range 8).map (fun i => leBytes 4 (rd b (R.ELG_I_PAYLOAD n i)))).flatten,
          fon b F.PWR_STAT_state⟩
        let a := sp n 0x40 0x1F4
        (cfg b F.ELG_IRATE_rate ≤ k → goes (.elgLog rqid n code sev) (fun t => answered b t.blk a 0x10 ∧ inc t (R.ELG_I_DROP n) ∧
          bitOf (rd t.blk (sp n 0x40 0x10)) 0 = true ∧ t.blk.elg.queue = elg.queue ∧ t.blk.elg.held = elg.held)) ∧
        (k < cfg b F.ELG_IRATE_rate → fon b F.ELG_STAT_dead = false →
          (hold = false → elg.queue.length < 256 → goes (.elgLog rqid n code sev) (fun t => answered b t.blk a 0 ∧
            t.blk.elg.queue = elg.queue ++ [x] ∧ t.blk.elg.held = elg.held ∧ RegsBut [a] b t.blk ∧ SameMem b t.blk)) ∧
          (hold = true → elg.held.length < 2048 → goes (.elgLog rqid n code sev) (fun t => answered b t.blk a 0 ∧
            t.blk.elg.held = elg.held ++ [x] ∧ t.blk.elg.queue = elg.queue ∧ RegsBut [a] b t.blk ∧ SameMem b t.blk))))) ∧
     (∀ rqid, cmdFree b rqid 0x40 → (noLease b = true → ends (.elgClear rqid) cs 0x13) ∧
       (noLease b = false → (hold = false ∨ ¬main) → goes (.elgClear rqid) (fun t => answered b t.blk cs 0x10 ∧
         rd t.blk (pg 0x40 0x1C) % 256 = 7 ∧ RegsOnly [cs, pg 0x40 0x1C] b t.blk)) ∧
       (∀ l, noLease b = false → hold = true → main →
         engRead 0x0C5 (rd b R.ELG_TOKADDR_LO + rd b R.ELG_TOKADDR_HI % 256 * 2 ^ 32) 4869 (taken cs) = (.ok, l, taken cs) →
         (let v (o k : Nat) : Nat := leNat ((l.drop o).take k)
          (v 0 4 ≠ 0x54434C5A → goes (.elgClear rqid) (fun t => answered b t.blk cs 0x12 ∧ rd t.blk (pg 0x40 0x1C) % 256 = 1 ∧
            RegsOnly [cs, pg 0x40 0x1C] b t.blk)) ∧
          (v 0 4 = 0x54434C5A → v 4 2 = 1 → v 6 2 = 0 → v 36 4 = 0 → v 80 48 = 0 → v 8 16 = b.part.did → v 24 4 = fleetId b → secOf b ≤ v 40 8 →
            (v 32 4 + 1) % 2 ^ 32 = rd b R.ELG_NEXT → goes (.elgClear rqid) (fun t =>
            sigReason (anchor b 0) (l.take 128) ((l.drop 128).take 114) (l.drop 242) = 0 → answered b t.blk cs 1 ∧
            fget t.blk F.ELG_STAT_clearing = 1 ∧ RegsBut [cs, R.ELG_STAT] b t.blk ∧
            t.blk.elg = { elg with clearing := some (rd b R.ELG_FIRST, v 32 4, v 28 4, (l.drop 48).take 16) }))))) ∧
     (∀ f, (elg.clearing = none → same (.elgClearDone f)) ∧
       (elg.clearing ≠ none → goes (.elgClearDone f) (fun t => t.blk.elg.clearing = none ∧ fget t.blk F.ELG_STAT_clearing = 0 ∧
         fget t.blk F.ELG_CTL_hold = 0 ∧ rd t.blk cs % 256 = 0 ∧ evt t 0x40 3))) ∧
     (∀ rqid v f, rqid < 1024 → v < 2 ^ 32 → coreRuns b rqid = true → mayWrite b rqid R.ELG_CTL →
       (let quiet := exec (.holdWrite rqid v f) s = .next { s with blk := { b with out := [], resp := ⟨.ok, 0⟩ } }
        (cfgLocked b 0x40 = true → goes (.holdWrite rqid v f) (fun t => rd t.blk (pg 0x40 0x1C) = 30 * 2 ^ 24 ∧
          bitOf (rd t.blk (pg 0x40 0x18)) 30 = true ∧ RegsOnly [pg 0x40 0x18, pg 0x40 0x1C] b t.blk)) ∧
        (cfgLocked b 0x40 = false → (bitOf v 0 = hold ∨ ¬main) → quiet) ∧
        (cfgLocked b 0x40 = false → main → bitOf v 0 = true → hold = false → goes (.holdWrite rqid v f) (fun t => fget t.blk F.ELG_CTL_hold = 1 ∧
          t.blk.elg = { elg with holdAt := some (ns b) } ∧ RegsBut [R.ELG_CTL] b t.blk ∧ SameMem b t.blk)) ∧
        (cfgLocked b 0x40 = false → main → bitOf v 0 = false → hold = true → goes (.holdWrite rqid v f) (fun t => fget t.blk F.ELG_CTL_hold = 0 ∧
          t.blk.elg.held = [] ∧ t.blk.elg.holdAt = none ∧
          (fon b F.ELG_STAT_ready = false → t.blk.elg.queue = elg.queue ++ elg.held ∧ RegsBut [R.ELG_CTL] b t.blk ∧ SameMem b t.blk))))) ∧
     (∀ f, ((elg.holdAt = none ∨ fon b F.ELG_STAT_clearing = true) → same (.holdExpiry f)) ∧
       (∀ h, elg.holdAt = some h → fon b F.ELG_STAT_clearing = false → goes (.holdExpiry f) (fun t => evt t 0x40 5 ∧
         t.blk.time = max b.time ((h + cfg b F.ELG_CFG_holdmax * 1000000000) * 65536) ∧ fget t.blk F.ELG_CTL_hold = 0 ∧ t.blk.elg.held = [] ∧
         t.blk.elg.holdAt = none))))

/-! ### Reset -/

/-- R78, R83, R172, R174, R257, R295, R326, R328, R391, R545, R598, R619: the machine right after reset runs, no command waits, every queue and engine
is at rest, every table word is at its reset value, and the registers of each group read the value that the spec gives. Which cause the reset had,
and that the supply is up, is the model's choice (log entry 26). -/
def Obligations.ResetValues : Prop :=
  let b := State.reset.blk
  State.reset.pending = [] ∧ running b = true ∧ b.out = [] ∧ b.evr = Evr.init ∧ b.elg = Elg.init ∧ b.vim = Vim.init ∧ b.sch = Sch.init ∧
  b.net.rx = [] ∧ b.actFifo = [] ∧ b.memFifo = [] ∧ (∀ k, tget b k = (tabReset k).toNat) ∧
  fget b F.PWR_STAT_pwrok = 1 ∧ fget b F.PWR_STAT_state = 0 ∧ rd b R.PWR_WARN = 0x006403E8 ∧ fget b F.PWR_TALLYCTL_vset = 0x320 ∧
  fget b F.SYS_CTL_autowarm = 1 ∧ fget b F.SYS_CTL_wden = 1 ∧ fget b F.SYS_WDOG_period = 0x3E8 ∧
  (∀ m, m < 12 → fget b (F.MAC_PORTCFG_fec m) = 2 ∧ fget b (F.MAC_PORTCFG_maxlen m) = 0x600) ∧
  fget b F.SWC_CFG_agesec = 0x12C ∧ (∀ i, i < 15 → fget b (F.SWC_PORTCFG_pvid i) = 1) ∧ rd b R.TIM_SRCSEL = 0x521 ∧
  fget b F.TIM_HOLD_bound = 0xA ∧ fget b F.PTP_CFG_prio1 = 0x80 ∧ fget b F.PTP_CFG_prio2 = 0x80 ∧ fget b F.ALN_HORIZON_ns = 0x3D090 ∧
  fget b F.ALN_GLEAN_ns = 0xF4240 ∧ fget b F.TWN_CFG_lease = 0xC8 ∧ fget b F.TWN_WIT_widx = 0xFFFF ∧ fget b F.FLD_CFG_etype = 0x88B5 ∧
  fget b F.MTR_CFG_saveint = 0x3E8 ∧ fget b F.ELG_CFG_holdmax = 0x3C ∧ fget b F.ELG_CFG_coalesce = 0x3E8 ∧ fget b F.ELG_IRATE_rate = 0x64
end

