-- ==== Sys2Proof/Laws/State.lean ====
section
/-! SUPPORT. One lemma per field of the block for each elementary update: the fields that it leaves. -/

namespace Sys2Proof.Machine

/-! ### What a register write leaves -/

@[simp] theorem wr_part (a v : Nat) (b : Block) : (wr a v b).part = b.part := rfl
@[simp] theorem wr_time (a v : Nat) (b : Block) : (wr a v b).time = b.time := rfl
@[simp] theorem wr_free (a v : Nat) (b : Block) : (wr a v b).free = b.free := rfl
@[simp] theorem wr_tabs (a v : Nat) (b : Block) : (wr a v b).tabs = b.tabs := rfl
@[simp] theorem wr_bankB (a v : Nat) (b : Block) : (wr a v b).bankB = b.bankB := rfl
@[simp] theorem wr_instB (a v : Nat) (b : Block) : (wr a v b).instB = b.instB := rfl
@[simp] theorem wr_mem (a v : Nat) (b : Block) : (wr a v b).mem = b.mem := rfl
@[simp] theorem wr_poisoned (a v : Nat) (b : Block) : (wr a v b).poisoned = b.poisoned := rfl
@[simp] theorem wr_uncorr (a v : Nat) (b : Block) : (wr a v b).uncorr = b.uncorr := rfl
@[simp] theorem wr_corr (a v : Nat) (b : Block) : (wr a v b).corr = b.corr := rfl
@[simp] theorem wr_hiLatch (a v : Nat) (b : Block) : (wr a v b).hiLatch = b.hiLatch := rfl
@[simp] theorem wr_heldLow (a v : Nat) (b : Block) : (wr a v b).heldLow = b.heldLow := rfl
@[simp] theorem wr_resp (a v : Nat) (b : Block) : (wr a v b).resp = b.resp := rfl
@[simp] theorem wr_out (a v : Nat) (b : Block) : (wr a v b).out = b.out := rfl
@[simp] theorem wr_actFifo (a v : Nat) (b : Block) : (wr a v b).actFifo = b.actFifo := rfl
@[simp] theorem wr_memFifo (a v : Nat) (b : Block) : (wr a v b).memFifo = b.memFifo := rfl
@[simp] theorem wr_evr (a v : Nat) (b : Block) : (wr a v b).evr = b.evr := rfl
@[simp] theorem wr_elg (a v : Nat) (b : Block) : (wr a v b).elg = b.elg := rfl
@[simp] theorem wr_pwr (a v : Nat) (b : Block) : (wr a v b).pwr = b.pwr := rfl
@[simp] theorem wr_bnk (a v : Nat) (b : Block) : (wr a v b).bnk = b.bnk := rfl
@[simp] theorem wr_shareB (a v : Nat) (b : Block) : (wr a v b).shareB = b.shareB := rfl
@[simp] theorem wr_granHold (a v : Nat) (b : Block) : (wr a v b).granHold = b.granHold := rfl
@[simp] theorem wr_flash (a v : Nat) (b : Block) : (wr a v b).flash = b.flash := rfl
@[simp] theorem wr_key (a v : Nat) (b : Block) : (wr a v b).key = b.key := rfl
@[simp] theorem wr_trust (a v : Nat) (b : Block) : (wr a v b).trust = b.trust := rfl
@[simp] theorem wr_start (a v : Nat) (b : Block) : (wr a v b).start = b.start := rfl
@[simp] theorem wr_net (a v : Nat) (b : Block) : (wr a v b).net = b.net := rfl
@[simp] theorem wr_ser (a v : Nat) (b : Block) : (wr a v b).ser = b.ser := rfl
@[simp] theorem wr_txq (a v : Nat) (b : Block) : (wr a v b).txq = b.txq := rfl
@[simp] theorem wr_evSec (a v : Nat) (b : Block) : (wr a v b).evSec = b.evSec := rfl
@[simp] theorem wr_twn (a v : Nat) (b : Block) : (wr a v b).twn = b.twn := rfl
@[simp] theorem wr_tim (a v : Nat) (b : Block) : (wr a v b).tim = b.tim := rfl
@[simp] theorem wr_ptp (a v : Nat) (b : Block) : (wr a v b).ptp = b.ptp := rfl
@[simp] theorem wr_svi (a v : Nat) (b : Block) : (wr a v b).svi = b.svi := rfl
@[simp] theorem wr_aln (a v : Nat) (b : Block) : (wr a v b).aln = b.aln := rfl
@[simp] theorem wr_aapBelow (a v : Nat) (b : Block) : (wr a v b).aapBelow = b.aapBelow := rfl
@[simp] theorem wr_aapLowStuck (a v : Nat) (b : Block) : (wr a v b).aapLowStuck = b.aapLowStuck := rfl
@[simp] theorem wr_spk (a v : Nat) (b : Block) : (wr a v b).spk = b.spk := rfl
@[simp] theorem wr_fld (a v : Nat) (b : Block) : (wr a v b).fld = b.fld := rfl
@[simp] theorem wr_phe (a v : Nat) (b : Block) : (wr a v b).phe = b.phe := rfl
@[simp] theorem wr_bio (a v : Nat) (b : Block) : (wr a v b).bio = b.bio := rfl
@[simp] theorem wr_pub (a v : Nat) (b : Block) : (wr a v b).pub = b.pub := rfl
@[simp] theorem wr_sch (a v : Nat) (b : Block) : (wr a v b).sch = b.sch := rfl
@[simp] theorem wr_lgr (a v : Nat) (b : Block) : (wr a v b).lgr = b.lgr := rfl
@[simp] theorem wr_vim (a v : Nat) (b : Block) : (wr a v b).vim = b.vim := rfl
@[simp] theorem wr_dma (a v : Nat) (b : Block) : (wr a v b).dma = b.dma := rfl
@[simp] theorem wr_ddrHits (a v : Nat) (b : Block) : (wr a v b).ddrHits = b.ddrHits := rfl
@[simp] theorem wr_errs (a v : Nat) (b : Block) : (wr a v b).errs = b.errs := rfl
@[simp] theorem wr_remap (a v : Nat) (b : Block) : (wr a v b).remap = b.remap := rfl
@[simp] theorem wr_mtr (a v : Nat) (b : Block) : (wr a v b).mtr = b.mtr := rfl

/-! ### What a table write leaves -/

@[simp] theorem tset_part (k v : Nat) (b : Block) : (tset k v b).part = b.part := rfl
@[simp] theorem tset_time (k v : Nat) (b : Block) : (tset k v b).time = b.time := rfl
@[simp] theorem tset_free (k v : Nat) (b : Block) : (tset k v b).free = b.free := rfl
@[simp] theorem tset_regs (k v : Nat) (b : Block) : (tset k v b).regs = b.regs := rfl
@[simp] theorem tset_bankB (k v : Nat) (b : Block) : (tset k v b).bankB = b.bankB := rfl
@[simp] theorem tset_instB (k v : Nat) (b : Block) : (tset k v b).instB = b.instB := rfl
@[simp] theorem tset_mem (k v : Nat) (b : Block) : (tset k v b).mem = b.mem := rfl
@[simp] theorem tset_poisoned (k v : Nat) (b : Block) : (tset k v b).poisoned = b.poisoned := rfl
@[simp] theorem tset_uncorr (k v : Nat) (b : Block) : (tset k v b).uncorr = b.uncorr := rfl
@[simp] theorem tset_corr (k v : Nat) (b : Block) : (tset k v b).corr = b.corr := rfl
@[simp] theorem tset_hiLatch (k v : Nat) (b : Block) : (tset k v b).hiLatch = b.hiLatch := rfl
@[simp] theorem tset_heldLow (k v : Nat) (b : Block) : (tset k v b).heldLow = b.heldLow := rfl
@[simp] theorem tset_resp (k v : Nat) (b : Block) : (tset k v b).resp = b.resp := rfl
@[simp] theorem tset_out (k v : Nat) (b : Block) : (tset k v b).out = b.out := rfl
@[simp] theorem tset_actFifo (k v : Nat) (b : Block) : (tset k v b).actFifo = b.actFifo := rfl
@[simp] theorem tset_memFifo (k v : Nat) (b : Block) : (tset k v b).memFifo = b.memFifo := rfl
@[simp] theorem tset_evr (k v : Nat) (b : Block) : (tset k v b).evr = b.evr := rfl
@[simp] theorem tset_elg (k v : Nat) (b : Block) : (tset k v b).elg = b.elg := rfl
@[simp] theorem tset_pwr (k v : Nat) (b : Block) : (tset k v b).pwr = b.pwr := rfl
@[simp] theorem tset_bnk (k v : Nat) (b : Block) : (tset k v b).bnk = b.bnk := rfl
@[simp] theorem tset_shareB (k v : Nat) (b : Block) : (tset k v b).shareB = b.shareB := rfl
@[simp] theorem tset_granHold (k v : Nat) (b : Block) : (tset k v b).granHold = b.granHold := rfl
@[simp] theorem tset_flash (k v : Nat) (b : Block) : (tset k v b).flash = b.flash := rfl
@[simp] theorem tset_key (k v : Nat) (b : Block) : (tset k v b).key = b.key := rfl
@[simp] theorem tset_trust (k v : Nat) (b : Block) : (tset k v b).trust = b.trust := rfl
@[simp] theorem tset_start (k v : Nat) (b : Block) : (tset k v b).start = b.start := rfl
@[simp] theorem tset_net (k v : Nat) (b : Block) : (tset k v b).net = b.net := rfl
@[simp] theorem tset_ser (k v : Nat) (b : Block) : (tset k v b).ser = b.ser := rfl
@[simp] theorem tset_txq (k v : Nat) (b : Block) : (tset k v b).txq = b.txq := rfl
@[simp] theorem tset_evSec (k v : Nat) (b : Block) : (tset k v b).evSec = b.evSec := rfl
@[simp] theorem tset_twn (k v : Nat) (b : Block) : (tset k v b).twn = b.twn := rfl
@[simp] theorem tset_tim (k v : Nat) (b : Block) : (tset k v b).tim = b.tim := rfl
@[simp] theorem tset_ptp (k v : Nat) (b : Block) : (tset k v b).ptp = b.ptp := rfl
@[simp] theorem tset_svi (k v : Nat) (b : Block) : (tset k v b).svi = b.svi := rfl
@[simp] theorem tset_aln (k v : Nat) (b : Block) : (tset k v b).aln = b.aln := rfl
@[simp] theorem tset_aapBelow (k v : Nat) (b : Block) : (tset k v b).aapBelow = b.aapBelow := rfl
@[simp] theorem tset_aapLowStuck (k v : Nat) (b : Block) : (tset k v b).aapLowStuck = b.aapLowStuck := rfl
@[simp] theorem tset_spk (k v : Nat) (b : Block) : (tset k v b).spk = b.spk := rfl
@[simp] theorem tset_fld (k v : Nat) (b : Block) : (tset k v b).fld = b.fld := rfl
@[simp] theorem tset_phe (k v : Nat) (b : Block) : (tset k v b).phe = b.phe := rfl
@[simp] theorem tset_bio (k v : Nat) (b : Block) : (tset k v b).bio = b.bio := rfl
@[simp] theorem tset_pub (k v : Nat) (b : Block) : (tset k v b).pub = b.pub := rfl
@[simp] theorem tset_sch (k v : Nat) (b : Block) : (tset k v b).sch = b.sch := rfl
@[simp] theorem tset_lgr (k v : Nat) (b : Block) : (tset k v b).lgr = b.lgr := rfl
@[simp] theorem tset_vim (k v : Nat) (b : Block) : (tset k v b).vim = b.vim := rfl
@[simp] theorem tset_dma (k v : Nat) (b : Block) : (tset k v b).dma = b.dma := rfl
@[simp] theorem tset_ddrHits (k v : Nat) (b : Block) : (tset k v b).ddrHits = b.ddrHits := rfl
@[simp] theorem tset_errs (k v : Nat) (b : Block) : (tset k v b).errs = b.errs := rfl
@[simp] theorem tset_remap (k v : Nat) (b : Block) : (tset k v b).remap = b.remap := rfl
@[simp] theorem tset_mtr (k v : Nat) (b : Block) : (tset k v b).mtr = b.mtr := rfl

/-! ### What a memory write leaves -/

@[simp] theorem mset_part (a : Nat) (v : Byte) (b : Block) : (mset a v b).part = b.part := rfl
@[simp] theorem mset_time (a : Nat) (v : Byte) (b : Block) : (mset a v b).time = b.time := rfl
@[simp] theorem mset_free (a : Nat) (v : Byte) (b : Block) : (mset a v b).free = b.free := rfl
@[simp] theorem mset_regs (a : Nat) (v : Byte) (b : Block) : (mset a v b).regs = b.regs := rfl
@[simp] theorem mset_tabs (a : Nat) (v : Byte) (b : Block) : (mset a v b).tabs = b.tabs := rfl
@[simp] theorem mset_bankB (a : Nat) (v : Byte) (b : Block) : (mset a v b).bankB = b.bankB := rfl
@[simp] theorem mset_instB (a : Nat) (v : Byte) (b : Block) : (mset a v b).instB = b.instB := rfl
@[simp] theorem mset_poisoned (a : Nat) (v : Byte) (b : Block) : (mset a v b).poisoned = b.poisoned := rfl
@[simp] theorem mset_uncorr (a : Nat) (v : Byte) (b : Block) : (mset a v b).uncorr = b.uncorr := rfl
@[simp] theorem mset_corr (a : Nat) (v : Byte) (b : Block) : (mset a v b).corr = b.corr := rfl
@[simp] theorem mset_hiLatch (a : Nat) (v : Byte) (b : Block) : (mset a v b).hiLatch = b.hiLatch := rfl
@[simp] theorem mset_heldLow (a : Nat) (v : Byte) (b : Block) : (mset a v b).heldLow = b.heldLow := rfl
@[simp] theorem mset_resp (a : Nat) (v : Byte) (b : Block) : (mset a v b).resp = b.resp := rfl
@[simp] theorem mset_out (a : Nat) (v : Byte) (b : Block) : (mset a v b).out = b.out := rfl
@[simp] theorem mset_actFifo (a : Nat) (v : Byte) (b : Block) : (mset a v b).actFifo = b.actFifo := rfl
@[simp] theorem mset_memFifo (a : Nat) (v : Byte) (b : Block) : (mset a v b).memFifo = b.memFifo := rfl
@[simp] theorem mset_evr (a : Nat) (v : Byte) (b : Block) : (mset a v b).evr = b.evr := rfl
@[simp] theorem mset_elg (a : Nat) (v : Byte) (b : Block) : (mset a v b).elg = b.elg := rfl
@[simp] theorem mset_pwr (a : Nat) (v : Byte) (b : Block) : (mset a v b).pwr = b.pwr := rfl
@[simp] theorem mset_bnk (a : Nat) (v : Byte) (b : Block) : (mset a v b).bnk = b.bnk := rfl
@[simp] theorem mset_shareB (a : Nat) (v : Byte) (b : Block) : (mset a v b).shareB = b.shareB := rfl
@[simp] theorem mset_granHold (a : Nat) (v : Byte) (b : Block) : (mset a v b).granHold = b.granHold := rfl
@[simp] theorem mset_flash (a : Nat) (v : Byte) (b : Block) : (mset a v b).flash = b.flash := rfl
@[simp] theorem mset_key (a : Nat) (v : Byte) (b : Block) : (mset a v b).key = b.key := rfl
@[simp] theorem mset_trust (a : Nat) (v : Byte) (b : Block) : (mset a v b).trust = b.trust := rfl
@[simp] theorem mset_start (a : Nat) (v : Byte) (b : Block) : (mset a v b).start = b.start := rfl
@[simp] theorem mset_net (a : Nat) (v : Byte) (b : Block) : (mset a v b).net = b.net := rfl
@[simp] theorem mset_ser (a : Nat) (v : Byte) (b : Block) : (mset a v b).ser = b.ser := rfl
@[simp] theorem mset_txq (a : Nat) (v : Byte) (b : Block) : (mset a v b).txq = b.txq := rfl
@[simp] theorem mset_evSec (a : Nat) (v : Byte) (b : Block) : (mset a v b).evSec = b.evSec := rfl
@[simp] theorem mset_twn (a : Nat) (v : Byte) (b : Block) : (mset a v b).twn = b.twn := rfl
@[simp] theorem mset_tim (a : Nat) (v : Byte) (b : Block) : (mset a v b).tim = b.tim := rfl
@[simp] theorem mset_ptp (a : Nat) (v : Byte) (b : Block) : (mset a v b).ptp = b.ptp := rfl
@[simp] theorem mset_svi (a : Nat) (v : Byte) (b : Block) : (mset a v b).svi = b.svi := rfl
@[simp] theorem mset_aln (a : Nat) (v : Byte) (b : Block) : (mset a v b).aln = b.aln := rfl
@[simp] theorem mset_aapBelow (a : Nat) (v : Byte) (b : Block) : (mset a v b).aapBelow = b.aapBelow := rfl
@[simp] theorem mset_aapLowStuck (a : Nat) (v : Byte) (b : Block) : (mset a v b).aapLowStuck = b.aapLowStuck := rfl
@[simp] theorem mset_spk (a : Nat) (v : Byte) (b : Block) : (mset a v b).spk = b.spk := rfl
@[simp] theorem mset_fld (a : Nat) (v : Byte) (b : Block) : (mset a v b).fld = b.fld := rfl
@[simp] theorem mset_phe (a : Nat) (v : Byte) (b : Block) : (mset a v b).phe = b.phe := rfl
@[simp] theorem mset_bio (a : Nat) (v : Byte) (b : Block) : (mset a v b).bio = b.bio := rfl
@[simp] theorem mset_pub (a : Nat) (v : Byte) (b : Block) : (mset a v b).pub = b.pub := rfl
@[simp] theorem mset_sch (a : Nat) (v : Byte) (b : Block) : (mset a v b).sch = b.sch := rfl
@[simp] theorem mset_lgr (a : Nat) (v : Byte) (b : Block) : (mset a v b).lgr = b.lgr := rfl
@[simp] theorem mset_vim (a : Nat) (v : Byte) (b : Block) : (mset a v b).vim = b.vim := rfl
@[simp] theorem mset_dma (a : Nat) (v : Byte) (b : Block) : (mset a v b).dma = b.dma := rfl
@[simp] theorem mset_ddrHits (a : Nat) (v : Byte) (b : Block) : (mset a v b).ddrHits = b.ddrHits := rfl
@[simp] theorem mset_errs (a : Nat) (v : Byte) (b : Block) : (mset a v b).errs = b.errs := rfl
@[simp] theorem mset_remap (a : Nat) (v : Byte) (b : Block) : (mset a v b).remap = b.remap := rfl
@[simp] theorem mset_mtr (a : Nat) (v : Byte) (b : Block) : (mset a v b).mtr = b.mtr := rfl

/-! ### What a zeroing of memory leaves -/

@[simp] theorem mzero_part (a n : Nat) (b : Block) : (mzero a n b).part = b.part := rfl
@[simp] theorem mzero_time (a n : Nat) (b : Block) : (mzero a n b).time = b.time := rfl
@[simp] theorem mzero_free (a n : Nat) (b : Block) : (mzero a n b).free = b.free := rfl
@[simp] theorem mzero_regs (a n : Nat) (b : Block) : (mzero a n b).regs = b.regs := rfl
@[simp] theorem mzero_tabs (a n : Nat) (b : Block) : (mzero a n b).tabs = b.tabs := rfl
@[simp] theorem mzero_bankB (a n : Nat) (b : Block) : (mzero a n b).bankB = b.bankB := rfl
@[simp] theorem mzero_instB (a n : Nat) (b : Block) : (mzero a n b).instB = b.instB := rfl
@[simp] theorem mzero_poisoned (a n : Nat) (b : Block) : (mzero a n b).poisoned = b.poisoned := rfl
@[simp] theorem mzero_uncorr (a n : Nat) (b : Block) : (mzero a n b).uncorr = b.uncorr := rfl
@[simp] theorem mzero_corr (a n : Nat) (b : Block) : (mzero a n b).corr = b.corr := rfl
@[simp] theorem mzero_hiLatch (a n : Nat) (b : Block) : (mzero a n b).hiLatch = b.hiLatch := rfl
@[simp] theorem mzero_heldLow (a n : Nat) (b : Block) : (mzero a n b).heldLow = b.heldLow := rfl
@[simp] theorem mzero_resp (a n : Nat) (b : Block) : (mzero a n b).resp = b.resp := rfl
@[simp] theorem mzero_out (a n : Nat) (b : Block) : (mzero a n b).out = b.out := rfl
@[simp] theorem mzero_actFifo (a n : Nat) (b : Block) : (mzero a n b).actFifo = b.actFifo := rfl
@[simp] theorem mzero_memFifo (a n : Nat) (b : Block) : (mzero a n b).memFifo = b.memFifo := rfl
@[simp] theorem mzero_evr (a n : Nat) (b : Block) : (mzero a n b).evr = b.evr := rfl
@[simp] theorem mzero_elg (a n : Nat) (b : Block) : (mzero a n b).elg = b.elg := rfl
@[simp] theorem mzero_pwr (a n : Nat) (b : Block) : (mzero a n b).pwr = b.pwr := rfl
@[simp] theorem mzero_bnk (a n : Nat) (b : Block) : (mzero a n b).bnk = b.bnk := rfl
@[simp] theorem mzero_shareB (a n : Nat) (b : Block) : (mzero a n b).shareB = b.shareB := rfl
@[simp] theorem mzero_granHold (a n : Nat) (b : Block) : (mzero a n b).granHold = b.granHold := rfl
@[simp] theorem mzero_flash (a n : Nat) (b : Block) : (mzero a n b).flash = b.flash := rfl
@[simp] theorem mzero_key (a n : Nat) (b : Block) : (mzero a n b).key = b.key := rfl
@[simp] theorem mzero_trust (a n : Nat) (b : Block) : (mzero a n b).trust = b.trust := rfl
@[simp] theorem mzero_start (a n : Nat) (b : Block) : (mzero a n b).start = b.start := rfl
@[simp] theorem mzero_net (a n : Nat) (b : Block) : (mzero a n b).net = b.net := rfl
@[simp] theorem mzero_ser (a n : Nat) (b : Block) : (mzero a n b).ser = b.ser := rfl
@[simp] theorem mzero_txq (a n : Nat) (b : Block) : (mzero a n b).txq = b.txq := rfl
@[simp] theorem mzero_evSec (a n : Nat) (b : Block) : (mzero a n b).evSec = b.evSec := rfl
@[simp] theorem mzero_twn (a n : Nat) (b : Block) : (mzero a n b).twn = b.twn := rfl
@[simp] theorem mzero_tim (a n : Nat) (b : Block) : (mzero a n b).tim = b.tim := rfl
@[simp] theorem mzero_ptp (a n : Nat) (b : Block) : (mzero a n b).ptp = b.ptp := rfl
@[simp] theorem mzero_svi (a n : Nat) (b : Block) : (mzero a n b).svi = b.svi := rfl
@[simp] theorem mzero_aln (a n : Nat) (b : Block) : (mzero a n b).aln = b.aln := rfl
@[simp] theorem mzero_aapBelow (a n : Nat) (b : Block) : (mzero a n b).aapBelow = b.aapBelow := rfl
@[simp] theorem mzero_aapLowStuck (a n : Nat) (b : Block) : (mzero a n b).aapLowStuck = b.aapLowStuck := rfl
@[simp] theorem mzero_spk (a n : Nat) (b : Block) : (mzero a n b).spk = b.spk := rfl
@[simp] theorem mzero_fld (a n : Nat) (b : Block) : (mzero a n b).fld = b.fld := rfl
@[simp] theorem mzero_phe (a n : Nat) (b : Block) : (mzero a n b).phe = b.phe := rfl
@[simp] theorem mzero_bio (a n : Nat) (b : Block) : (mzero a n b).bio = b.bio := rfl
@[simp] theorem mzero_pub (a n : Nat) (b : Block) : (mzero a n b).pub = b.pub := rfl
@[simp] theorem mzero_sch (a n : Nat) (b : Block) : (mzero a n b).sch = b.sch := rfl
@[simp] theorem mzero_lgr (a n : Nat) (b : Block) : (mzero a n b).lgr = b.lgr := rfl
@[simp] theorem mzero_vim (a n : Nat) (b : Block) : (mzero a n b).vim = b.vim := rfl
@[simp] theorem mzero_dma (a n : Nat) (b : Block) : (mzero a n b).dma = b.dma := rfl
@[simp] theorem mzero_ddrHits (a n : Nat) (b : Block) : (mzero a n b).ddrHits = b.ddrHits := rfl
@[simp] theorem mzero_errs (a n : Nat) (b : Block) : (mzero a n b).errs = b.errs := rfl
@[simp] theorem mzero_remap (a n : Nat) (b : Block) : (mzero a n b).remap = b.remap := rfl
@[simp] theorem mzero_mtr (a n : Nat) (b : Block) : (mzero a n b).mtr = b.mtr := rfl

/-! ### What a write of a field leaves -/

@[simp] theorem fset_part (f : Fld) (v : Nat) (b : Block) : (fset f v b).part = b.part := rfl
@[simp] theorem fset_time (f : Fld) (v : Nat) (b : Block) : (fset f v b).time = b.time := rfl
@[simp] theorem fset_free (f : Fld) (v : Nat) (b : Block) : (fset f v b).free = b.free := rfl
@[simp] theorem fset_tabs (f : Fld) (v : Nat) (b : Block) : (fset f v b).tabs = b.tabs := rfl
@[simp] theorem fset_bankB (f : Fld) (v : Nat) (b : Block) : (fset f v b).bankB = b.bankB := rfl
@[simp] theorem fset_instB (f : Fld) (v : Nat) (b : Block) : (fset f v b).instB = b.instB := rfl
@[simp] theorem fset_mem (f : Fld) (v : Nat) (b : Block) : (fset f v b).mem = b.mem := rfl
@[simp] theorem fset_poisoned (f : Fld) (v : Nat) (b : Block) : (fset f v b).poisoned = b.poisoned := rfl
@[simp] theorem fset_uncorr (f : Fld) (v : Nat) (b : Block) : (fset f v b).uncorr = b.uncorr := rfl
@[simp] theorem fset_corr (f : Fld) (v : Nat) (b : Block) : (fset f v b).corr = b.corr := rfl
@[simp] theorem fset_hiLatch (f : Fld) (v : Nat) (b : Block) : (fset f v b).hiLatch = b.hiLatch := rfl
@[simp] theorem fset_heldLow (f : Fld) (v : Nat) (b : Block) : (fset f v b).heldLow = b.heldLow := rfl
@[simp] theorem fset_resp (f : Fld) (v : Nat) (b : Block) : (fset f v b).resp = b.resp := rfl
@[simp] theorem fset_out (f : Fld) (v : Nat) (b : Block) : (fset f v b).out = b.out := rfl
@[simp] theorem fset_actFifo (f : Fld) (v : Nat) (b : Block) : (fset f v b).actFifo = b.actFifo := rfl
@[simp] theorem fset_memFifo (f : Fld) (v : Nat) (b : Block) : (fset f v b).memFifo = b.memFifo := rfl
@[simp] theorem fset_evr (f : Fld) (v : Nat) (b : Block) : (fset f v b).evr = b.evr := rfl
@[simp] theorem fset_elg (f : Fld) (v : Nat) (b : Block) : (fset f v b).elg = b.elg := rfl
@[simp] theorem fset_pwr (f : Fld) (v : Nat) (b : Block) : (fset f v b).pwr = b.pwr := rfl
@[simp] theorem fset_bnk (f : Fld) (v : Nat) (b : Block) : (fset f v b).bnk = b.bnk := rfl
@[simp] theorem fset_shareB (f : Fld) (v : Nat) (b : Block) : (fset f v b).shareB = b.shareB := rfl
@[simp] theorem fset_granHold (f : Fld) (v : Nat) (b : Block) : (fset f v b).granHold = b.granHold := rfl
@[simp] theorem fset_flash (f : Fld) (v : Nat) (b : Block) : (fset f v b).flash = b.flash := rfl
@[simp] theorem fset_key (f : Fld) (v : Nat) (b : Block) : (fset f v b).key = b.key := rfl
@[simp] theorem fset_trust (f : Fld) (v : Nat) (b : Block) : (fset f v b).trust = b.trust := rfl
@[simp] theorem fset_start (f : Fld) (v : Nat) (b : Block) : (fset f v b).start = b.start := rfl
@[simp] theorem fset_net (f : Fld) (v : Nat) (b : Block) : (fset f v b).net = b.net := rfl
@[simp] theorem fset_ser (f : Fld) (v : Nat) (b : Block) : (fset f v b).ser = b.ser := rfl
@[simp] theorem fset_txq (f : Fld) (v : Nat) (b : Block) : (fset f v b).txq = b.txq := rfl
@[simp] theorem fset_evSec (f : Fld) (v : Nat) (b : Block) : (fset f v b).evSec = b.evSec := rfl
@[simp] theorem fset_twn (f : Fld) (v : Nat) (b : Block) : (fset f v b).twn = b.twn := rfl
@[simp] theorem fset_tim (f : Fld) (v : Nat) (b : Block) : (fset f v b).tim = b.tim := rfl
@[simp] theorem fset_ptp (f : Fld) (v : Nat) (b : Block) : (fset f v b).ptp = b.ptp := rfl
@[simp] theorem fset_svi (f : Fld) (v : Nat) (b : Block) : (fset f v b).svi = b.svi := rfl
@[simp] theorem fset_aln (f : Fld) (v : Nat) (b : Block) : (fset f v b).aln = b.aln := rfl
@[simp] theorem fset_aapBelow (f : Fld) (v : Nat) (b : Block) : (fset f v b).aapBelow = b.aapBelow := rfl
@[simp] theorem fset_aapLowStuck (f : Fld) (v : Nat) (b : Block) : (fset f v b).aapLowStuck = b.aapLowStuck := rfl
@[simp] theorem fset_spk (f : Fld) (v : Nat) (b : Block) : (fset f v b).spk = b.spk := rfl
@[simp] theorem fset_fld (f : Fld) (v : Nat) (b : Block) : (fset f v b).fld = b.fld := rfl
@[simp] theorem fset_phe (f : Fld) (v : Nat) (b : Block) : (fset f v b).phe = b.phe := rfl
@[simp] theorem fset_bio (f : Fld) (v : Nat) (b : Block) : (fset f v b).bio = b.bio := rfl
@[simp] theorem fset_pub (f : Fld) (v : Nat) (b : Block) : (fset f v b).pub = b.pub := rfl
@[simp] theorem fset_sch (f : Fld) (v : Nat) (b : Block) : (fset f v b).sch = b.sch := rfl
@[simp] theorem fset_lgr (f : Fld) (v : Nat) (b : Block) : (fset f v b).lgr = b.lgr := rfl
@[simp] theorem fset_vim (f : Fld) (v : Nat) (b : Block) : (fset f v b).vim = b.vim := rfl
@[simp] theorem fset_dma (f : Fld) (v : Nat) (b : Block) : (fset f v b).dma = b.dma := rfl
@[simp] theorem fset_ddrHits (f : Fld) (v : Nat) (b : Block) : (fset f v b).ddrHits = b.ddrHits := rfl
@[simp] theorem fset_errs (f : Fld) (v : Nat) (b : Block) : (fset f v b).errs = b.errs := rfl
@[simp] theorem fset_remap (f : Fld) (v : Nat) (b : Block) : (fset f v b).remap = b.remap := rfl
@[simp] theorem fset_mtr (f : Fld) (v : Nat) (b : Block) : (fset f v b).mtr = b.mtr := rfl

/-! ### What an output leaves -/

@[simp] theorem emit_part (o : Output) (b : Block) : (emit o b).part = b.part := rfl
@[simp] theorem emit_time (o : Output) (b : Block) : (emit o b).time = b.time := rfl
@[simp] theorem emit_free (o : Output) (b : Block) : (emit o b).free = b.free := rfl
@[simp] theorem emit_regs (o : Output) (b : Block) : (emit o b).regs = b.regs := rfl
@[simp] theorem emit_tabs (o : Output) (b : Block) : (emit o b).tabs = b.tabs := rfl
@[simp] theorem emit_bankB (o : Output) (b : Block) : (emit o b).bankB = b.bankB := rfl
@[simp] theorem emit_instB (o : Output) (b : Block) : (emit o b).instB = b.instB := rfl
@[simp] theorem emit_mem (o : Output) (b : Block) : (emit o b).mem = b.mem := rfl
@[simp] theorem emit_poisoned (o : Output) (b : Block) : (emit o b).poisoned = b.poisoned := rfl
@[simp] theorem emit_uncorr (o : Output) (b : Block) : (emit o b).uncorr = b.uncorr := rfl
@[simp] theorem emit_corr (o : Output) (b : Block) : (emit o b).corr = b.corr := rfl
@[simp] theorem emit_hiLatch (o : Output) (b : Block) : (emit o b).hiLatch = b.hiLatch := rfl
@[simp] theorem emit_heldLow (o : Output) (b : Block) : (emit o b).heldLow = b.heldLow := rfl
@[simp] theorem emit_resp (o : Output) (b : Block) : (emit o b).resp = b.resp := rfl
@[simp] theorem emit_actFifo (o : Output) (b : Block) : (emit o b).actFifo = b.actFifo := rfl
@[simp] theorem emit_memFifo (o : Output) (b : Block) : (emit o b).memFifo = b.memFifo := rfl
@[simp] theorem emit_evr (o : Output) (b : Block) : (emit o b).evr = b.evr := rfl
@[simp] theorem emit_elg (o : Output) (b : Block) : (emit o b).elg = b.elg := rfl
@[simp] theorem emit_pwr (o : Output) (b : Block) : (emit o b).pwr = b.pwr := rfl
@[simp] theorem emit_bnk (o : Output) (b : Block) : (emit o b).bnk = b.bnk := rfl
@[simp] theorem emit_shareB (o : Output) (b : Block) : (emit o b).shareB = b.shareB := rfl
@[simp] theorem emit_granHold (o : Output) (b : Block) : (emit o b).granHold = b.granHold := rfl
@[simp] theorem emit_flash (o : Output) (b : Block) : (emit o b).flash = b.flash := rfl
@[simp] theorem emit_key (o : Output) (b : Block) : (emit o b).key = b.key := rfl
@[simp] theorem emit_trust (o : Output) (b : Block) : (emit o b).trust = b.trust := rfl
@[simp] theorem emit_start (o : Output) (b : Block) : (emit o b).start = b.start := rfl
@[simp] theorem emit_net (o : Output) (b : Block) : (emit o b).net = b.net := rfl
@[simp] theorem emit_ser (o : Output) (b : Block) : (emit o b).ser = b.ser := rfl
@[simp] theorem emit_txq (o : Output) (b : Block) : (emit o b).txq = b.txq := rfl
@[simp] theorem emit_evSec (o : Output) (b : Block) : (emit o b).evSec = b.evSec := rfl
@[simp] theorem emit_twn (o : Output) (b : Block) : (emit o b).twn = b.twn := rfl
@[simp] theorem emit_tim (o : Output) (b : Block) : (emit o b).tim = b.tim := rfl
@[simp] theorem emit_ptp (o : Output) (b : Block) : (emit o b).ptp = b.ptp := rfl
@[simp] theorem emit_svi (o : Output) (b : Block) : (emit o b).svi = b.svi := rfl
@[simp] theorem emit_aln (o : Output) (b : Block) : (emit o b).aln = b.aln := rfl
@[simp] theorem emit_aapBelow (o : Output) (b : Block) : (emit o b).aapBelow = b.aapBelow := rfl
@[simp] theorem emit_aapLowStuck (o : Output) (b : Block) : (emit o b).aapLowStuck = b.aapLowStuck := rfl
@[simp] theorem emit_spk (o : Output) (b : Block) : (emit o b).spk = b.spk := rfl
@[simp] theorem emit_fld (o : Output) (b : Block) : (emit o b).fld = b.fld := rfl
@[simp] theorem emit_phe (o : Output) (b : Block) : (emit o b).phe = b.phe := rfl
@[simp] theorem emit_bio (o : Output) (b : Block) : (emit o b).bio = b.bio := rfl
@[simp] theorem emit_pub (o : Output) (b : Block) : (emit o b).pub = b.pub := rfl
@[simp] theorem emit_sch (o : Output) (b : Block) : (emit o b).sch = b.sch := rfl
@[simp] theorem emit_lgr (o : Output) (b : Block) : (emit o b).lgr = b.lgr := rfl
@[simp] theorem emit_vim (o : Output) (b : Block) : (emit o b).vim = b.vim := rfl
@[simp] theorem emit_dma (o : Output) (b : Block) : (emit o b).dma = b.dma := rfl
@[simp] theorem emit_ddrHits (o : Output) (b : Block) : (emit o b).ddrHits = b.ddrHits := rfl
@[simp] theorem emit_errs (o : Output) (b : Block) : (emit o b).errs = b.errs := rfl
@[simp] theorem emit_remap (o : Output) (b : Block) : (emit o b).remap = b.remap := rfl
@[simp] theorem emit_mtr (o : Output) (b : Block) : (emit o b).mtr = b.mtr := rfl

/-! ### What a draw leaves -/

@[simp] theorem freshNext_part (b : Block) : (freshNext b).part = b.part := rfl
@[simp] theorem freshNext_time (b : Block) : (freshNext b).time = b.time := rfl
@[simp] theorem freshNext_regs (b : Block) : (freshNext b).regs = b.regs := rfl
@[simp] theorem freshNext_tabs (b : Block) : (freshNext b).tabs = b.tabs := rfl
@[simp] theorem freshNext_bankB (b : Block) : (freshNext b).bankB = b.bankB := rfl
@[simp] theorem freshNext_instB (b : Block) : (freshNext b).instB = b.instB := rfl
@[simp] theorem freshNext_mem (b : Block) : (freshNext b).mem = b.mem := rfl
@[simp] theorem freshNext_poisoned (b : Block) : (freshNext b).poisoned = b.poisoned := rfl
@[simp] theorem freshNext_uncorr (b : Block) : (freshNext b).uncorr = b.uncorr := rfl
@[simp] theorem freshNext_corr (b : Block) : (freshNext b).corr = b.corr := rfl
@[simp] theorem freshNext_hiLatch (b : Block) : (freshNext b).hiLatch = b.hiLatch := rfl
@[simp] theorem freshNext_heldLow (b : Block) : (freshNext b).heldLow = b.heldLow := rfl
@[simp] theorem freshNext_resp (b : Block) : (freshNext b).resp = b.resp := rfl
@[simp] theorem freshNext_out (b : Block) : (freshNext b).out = b.out := rfl
@[simp] theorem freshNext_actFifo (b : Block) : (freshNext b).actFifo = b.actFifo := rfl
@[simp] theorem freshNext_memFifo (b : Block) : (freshNext b).memFifo = b.memFifo := rfl
@[simp] theorem freshNext_evr (b : Block) : (freshNext b).evr = b.evr := rfl
@[simp] theorem freshNext_elg (b : Block) : (freshNext b).elg = b.elg := rfl
@[simp] theorem freshNext_pwr (b : Block) : (freshNext b).pwr = b.pwr := rfl
@[simp] theorem freshNext_bnk (b : Block) : (freshNext b).bnk = b.bnk := rfl
@[simp] theorem freshNext_shareB (b : Block) : (freshNext b).shareB = b.shareB := rfl
@[simp] theorem freshNext_granHold (b : Block) : (freshNext b).granHold = b.granHold := rfl
@[simp] theorem freshNext_flash (b : Block) : (freshNext b).flash = b.flash := rfl
@[simp] theorem freshNext_key (b : Block) : (freshNext b).key = b.key := rfl
@[simp] theorem freshNext_trust (b : Block) : (freshNext b).trust = b.trust := rfl
@[simp] theorem freshNext_start (b : Block) : (freshNext b).start = b.start := rfl
@[simp] theorem freshNext_net (b : Block) : (freshNext b).net = b.net := rfl
@[simp] theorem freshNext_ser (b : Block) : (freshNext b).ser = b.ser := rfl
@[simp] theorem freshNext_txq (b : Block) : (freshNext b).txq = b.txq := rfl
@[simp] theorem freshNext_evSec (b : Block) : (freshNext b).evSec = b.evSec := rfl
@[simp] theorem freshNext_twn (b : Block) : (freshNext b).twn = b.twn := rfl
@[simp] theorem freshNext_tim (b : Block) : (freshNext b).tim = b.tim := rfl
@[simp] theorem freshNext_ptp (b : Block) : (freshNext b).ptp = b.ptp := rfl
@[simp] theorem freshNext_svi (b : Block) : (freshNext b).svi = b.svi := rfl
@[simp] theorem freshNext_aln (b : Block) : (freshNext b).aln = b.aln := rfl
@[simp] theorem freshNext_aapBelow (b : Block) : (freshNext b).aapBelow = b.aapBelow := rfl
@[simp] theorem freshNext_aapLowStuck (b : Block) : (freshNext b).aapLowStuck = b.aapLowStuck := rfl
@[simp] theorem freshNext_spk (b : Block) : (freshNext b).spk = b.spk := rfl
@[simp] theorem freshNext_fld (b : Block) : (freshNext b).fld = b.fld := rfl
@[simp] theorem freshNext_phe (b : Block) : (freshNext b).phe = b.phe := rfl
@[simp] theorem freshNext_bio (b : Block) : (freshNext b).bio = b.bio := rfl
@[simp] theorem freshNext_pub (b : Block) : (freshNext b).pub = b.pub := rfl
@[simp] theorem freshNext_sch (b : Block) : (freshNext b).sch = b.sch := rfl
@[simp] theorem freshNext_lgr (b : Block) : (freshNext b).lgr = b.lgr := rfl
@[simp] theorem freshNext_vim (b : Block) : (freshNext b).vim = b.vim := rfl
@[simp] theorem freshNext_dma (b : Block) : (freshNext b).dma = b.dma := rfl
@[simp] theorem freshNext_ddrHits (b : Block) : (freshNext b).ddrHits = b.ddrHits := rfl
@[simp] theorem freshNext_errs (b : Block) : (freshNext b).errs = b.errs := rfl
@[simp] theorem freshNext_remap (b : Block) : (freshNext b).remap = b.remap := rfl
@[simp] theorem freshNext_mtr (b : Block) : (freshNext b).mtr = b.mtr := rfl

/-! ### What a wait leaves -/

@[simp] theorem advanceTo_part (t : Nat) (b : Block) : (advanceTo t b).part = b.part := rfl
@[simp] theorem advanceTo_free (t : Nat) (b : Block) : (advanceTo t b).free = b.free := rfl
@[simp] theorem advanceTo_regs (t : Nat) (b : Block) : (advanceTo t b).regs = b.regs := rfl
@[simp] theorem advanceTo_tabs (t : Nat) (b : Block) : (advanceTo t b).tabs = b.tabs := rfl
@[simp] theorem advanceTo_bankB (t : Nat) (b : Block) : (advanceTo t b).bankB = b.bankB := rfl
@[simp] theorem advanceTo_instB (t : Nat) (b : Block) : (advanceTo t b).instB = b.instB := rfl
@[simp] theorem advanceTo_mem (t : Nat) (b : Block) : (advanceTo t b).mem = b.mem := rfl
@[simp] theorem advanceTo_poisoned (t : Nat) (b : Block) : (advanceTo t b).poisoned = b.poisoned := rfl
@[simp] theorem advanceTo_uncorr (t : Nat) (b : Block) : (advanceTo t b).uncorr = b.uncorr := rfl
@[simp] theorem advanceTo_corr (t : Nat) (b : Block) : (advanceTo t b).corr = b.corr := rfl
@[simp] theorem advanceTo_hiLatch (t : Nat) (b : Block) : (advanceTo t b).hiLatch = b.hiLatch := rfl
@[simp] theorem advanceTo_heldLow (t : Nat) (b : Block) : (advanceTo t b).heldLow = b.heldLow := rfl
@[simp] theorem advanceTo_resp (t : Nat) (b : Block) : (advanceTo t b).resp = b.resp := rfl
@[simp] theorem advanceTo_out (t : Nat) (b : Block) : (advanceTo t b).out = b.out := rfl
@[simp] theorem advanceTo_actFifo (t : Nat) (b : Block) : (advanceTo t b).actFifo = b.actFifo := rfl
@[simp] theorem advanceTo_memFifo (t : Nat) (b : Block) : (advanceTo t b).memFifo = b.memFifo := rfl
@[simp] theorem advanceTo_evr (t : Nat) (b : Block) : (advanceTo t b).evr = b.evr := rfl
@[simp] theorem advanceTo_elg (t : Nat) (b : Block) : (advanceTo t b).elg = b.elg := rfl
@[simp] theorem advanceTo_pwr (t : Nat) (b : Block) : (advanceTo t b).pwr = b.pwr := rfl
@[simp] theorem advanceTo_bnk (t : Nat) (b : Block) : (advanceTo t b).bnk = b.bnk := rfl
@[simp] theorem advanceTo_shareB (t : Nat) (b : Block) : (advanceTo t b).shareB = b.shareB := rfl
@[simp] theorem advanceTo_granHold (t : Nat) (b : Block) : (advanceTo t b).granHold = b.granHold := rfl
@[simp] theorem advanceTo_flash (t : Nat) (b : Block) : (advanceTo t b).flash = b.flash := rfl
@[simp] theorem advanceTo_key (t : Nat) (b : Block) : (advanceTo t b).key = b.key := rfl
@[simp] theorem advanceTo_trust (t : Nat) (b : Block) : (advanceTo t b).trust = b.trust := rfl
@[simp] theorem advanceTo_start (t : Nat) (b : Block) : (advanceTo t b).start = b.start := rfl
@[simp] theorem advanceTo_net (t : Nat) (b : Block) : (advanceTo t b).net = b.net := rfl
@[simp] theorem advanceTo_ser (t : Nat) (b : Block) : (advanceTo t b).ser = b.ser := rfl
@[simp] theorem advanceTo_txq (t : Nat) (b : Block) : (advanceTo t b).txq = b.txq := rfl
@[simp] theorem advanceTo_evSec (t : Nat) (b : Block) : (advanceTo t b).evSec = b.evSec := rfl
@[simp] theorem advanceTo_twn (t : Nat) (b : Block) : (advanceTo t b).twn = b.twn := rfl
@[simp] theorem advanceTo_tim (t : Nat) (b : Block) : (advanceTo t b).tim = b.tim := rfl
@[simp] theorem advanceTo_ptp (t : Nat) (b : Block) : (advanceTo t b).ptp = b.ptp := rfl
@[simp] theorem advanceTo_svi (t : Nat) (b : Block) : (advanceTo t b).svi = b.svi := rfl
@[simp] theorem advanceTo_aln (t : Nat) (b : Block) : (advanceTo t b).aln = b.aln := rfl
@[simp] theorem advanceTo_aapBelow (t : Nat) (b : Block) : (advanceTo t b).aapBelow = b.aapBelow := rfl
@[simp] theorem advanceTo_aapLowStuck (t : Nat) (b : Block) : (advanceTo t b).aapLowStuck = b.aapLowStuck := rfl
@[simp] theorem advanceTo_spk (t : Nat) (b : Block) : (advanceTo t b).spk = b.spk := rfl
@[simp] theorem advanceTo_fld (t : Nat) (b : Block) : (advanceTo t b).fld = b.fld := rfl
@[simp] theorem advanceTo_phe (t : Nat) (b : Block) : (advanceTo t b).phe = b.phe := rfl
@[simp] theorem advanceTo_bio (t : Nat) (b : Block) : (advanceTo t b).bio = b.bio := rfl
@[simp] theorem advanceTo_pub (t : Nat) (b : Block) : (advanceTo t b).pub = b.pub := rfl
@[simp] theorem advanceTo_sch (t : Nat) (b : Block) : (advanceTo t b).sch = b.sch := rfl
@[simp] theorem advanceTo_lgr (t : Nat) (b : Block) : (advanceTo t b).lgr = b.lgr := rfl
@[simp] theorem advanceTo_vim (t : Nat) (b : Block) : (advanceTo t b).vim = b.vim := rfl
@[simp] theorem advanceTo_dma (t : Nat) (b : Block) : (advanceTo t b).dma = b.dma := rfl
@[simp] theorem advanceTo_ddrHits (t : Nat) (b : Block) : (advanceTo t b).ddrHits = b.ddrHits := rfl
@[simp] theorem advanceTo_errs (t : Nat) (b : Block) : (advanceTo t b).errs = b.errs := rfl
@[simp] theorem advanceTo_remap (t : Nat) (b : Block) : (advanceTo t b).remap = b.remap := rfl
@[simp] theorem advanceTo_mtr (t : Nat) (b : Block) : (advanceTo t b).mtr = b.mtr := rfl

end Sys2Proof.Machine
end

