-- ==== Sys2Proof/Laws/Store.lean ====
section
/-! SUPPORT. Sparse stores: what a read gives after a write, and that a write keeps the canonical form. -/

namespace Sys2Proof.Machine

variable {β : Type}

/-- What a read gives after a key is dropped. -/
theorem sget_sdel (d : Nat → β) (l : List (Nat × β)) (a c : Nat) :
    sget d (sdel a l) c = if c = a then d c else sget d l c := by
  induction l with
  | nil => simp [sdel, sget]
  | cons p t ih =>
    obtain ⟨k, w⟩ := p
    by_cases h : a = k
    · subst h
      rw [sdel, if_pos rfl, ih, sget]
      split <;> rfl
    · by_cases hc : c = a
      · subst hc
        simp [sdel, sget, h, ih]
      · simp [sdel, sget, h, ih, hc]

/-- A dropped key is not listed. -/
theorem sdel_notMem (l : List (Nat × β)) (a : Nat) : ∀ p ∈ sdel a l, p.1 ≠ a := by
  induction l with
  | nil => simp [sdel]
  | cons p t ih =>
    obtain ⟨k, w⟩ := p
    by_cases h : a = k
    · rw [sdel, if_pos h]
      exact ih
    · intro q hq
      simp only [sdel, if_neg h, List.mem_cons] at hq
      rcases hq with rfl | hq
      · exact fun e => h e.symm
      · exact ih q hq

/-- What a read gives after a key that was not listed is. -/
theorem sget_sins (d : Nat → β) (l : List (Nat × β)) (a c : Nat) (v : β) (h : ∀ p ∈ l, p.1 ≠ a) :
    sget d (sins a v l) c = if c = a then v else sget d l c := by
  induction l with
  | nil => simp [sins, sget]
  | cons p t ih =>
    obtain ⟨k, w⟩ := p
    have hk : k ≠ a := h _ (List.mem_cons_self ..)
    have ih := ih fun q hq => h q (List.mem_cons_of_mem _ hq)
    by_cases hl : a < k
    · simp only [sins, if_pos hl, sget]
    · by_cases hc : c = a
      · subst hc
        simp [sins, hl, sget, ih, hk.symm]
      · simp [sins, hl, sget, ih, hc]

/-- What a read gives after a write. -/
theorem sget_sset [DecidableEq β] (d : Nat → β) (l : List (Nat × β)) (a c : Nat) (v : β) :
    sget d (sset d l a v) c = if c = a then v else sget d l c := by
  by_cases hv : v = d a
  · rw [sset, if_pos hv, sget_sdel]
    split
    · rename_i hc
      rw [hv, hc]
    · rfl
  · rw [sset, if_neg hv, sget_sins _ _ _ _ _ (sdel_notMem l a), sget_sdel]
    split <;> simp_all

variable [DecidableEq β] {d : Nat → β}

/-- The canonical form holds from any lower bound below. -/
theorem swf_mono {l : List (Nat × β)} {lo lo' : Nat} (h : swf d lo l = true) (hl : lo' ≤ lo) : swf d lo' l = true := by
  cases l with
  | nil => rfl
  | cons p t =>
    obtain ⟨k, v⟩ := p
    simp only [swf, Bool.and_eq_true, decide_eq_true_eq] at h ⊢
    exact ⟨⟨by omega, h.1.2⟩, h.2⟩

/-- Dropping a key keeps the canonical form. -/
theorem swf_sdel {l : List (Nat × β)} {lo : Nat} (a : Nat) (h : swf d lo l = true) : swf d lo (sdel a l) = true := by
  induction l generalizing lo with
  | nil => rfl
  | cons p t ih =>
    obtain ⟨k, v⟩ := p
    simp only [swf, Bool.and_eq_true, decide_eq_true_eq] at h
    obtain ⟨⟨hlo, hv⟩, ht⟩ := h
    rw [sdel]
    split
    · exact swf_mono (ih ht) (by omega)
    · simp only [swf, Bool.and_eq_true, decide_eq_true_eq]
      exact ⟨⟨hlo, hv⟩, ih ht⟩

/-- Listing a key that was not listed keeps the canonical form. -/
theorem swf_sins {l : List (Nat × β)} {lo a : Nat} {v : β} (h : swf d lo l = true) (ha : lo ≤ a) (hv : v ≠ d a)
    (hn : ∀ p ∈ l, p.1 ≠ a) : swf d lo (sins a v l) = true := by
  induction l generalizing lo with
  | nil => simp [sins, swf, ha, hv]
  | cons p t ih =>
    obtain ⟨k, w⟩ := p
    have hk : k ≠ a := hn _ (List.mem_cons_self ..)
    simp only [swf, Bool.and_eq_true, decide_eq_true_eq] at h
    obtain ⟨⟨hlo, hw⟩, ht⟩ := h
    rw [sins]
    split
    · simp only [swf, Bool.and_eq_true, decide_eq_true_eq]
      exact ⟨⟨ha, hv⟩, ⟨⟨by omega, hw⟩, ht⟩⟩
    · simp only [swf, Bool.and_eq_true, decide_eq_true_eq]
      exact ⟨⟨hlo, hw⟩, ih ht (by omega) fun q hq => hn q (List.mem_cons_of_mem _ hq)⟩

/-- A write keeps the canonical form. -/
theorem swf_sset {l : List (Nat × β)} {lo a : Nat} (v : β) (h : swf d lo l = true) (ha : lo ≤ a) :
    swf d lo (sset d l a v) = true := by
  rw [sset]
  split
  · exact swf_sdel a h
  · exact swf_sins (swf_sdel a h) ha ‹_› (sdel_notMem l a)

/-- Dropping entries keeps the canonical form. -/
theorem swf_filter {l : List (Nat × β)} {lo : Nat} (p : Nat × β → Bool) (h : swf d lo l = true) : swf d lo (l.filter p) = true := by
  induction l generalizing lo with
  | nil => rfl
  | cons c t ih =>
    obtain ⟨k, v⟩ := c
    simp only [swf, Bool.and_eq_true, decide_eq_true_eq] at h
    obtain ⟨⟨hlo, hv⟩, ht⟩ := h
    rw [List.filter_cons]
    split
    · simp only [swf, Bool.and_eq_true, decide_eq_true_eq]
      exact ⟨⟨hlo, hv⟩, ih ht⟩
    · exact swf_mono (ih ht) (by omega)

end Sys2Proof.Machine
end

