-- ==== Sys2Proof/Laws/Regs.lean ====
section
/-! SUPPORT. Reads after writes of registers, fields, table words and memory bytes. -/

namespace Sys2Proof.Machine

/-- A register value fits its width. -/
theorem rd_lt (b : Block) (a : Nat) : rd b a < 2 ^ 32 := (sget (regReset b.part) b.regs a).isLt

/-- What a register reads after a register write. -/
theorem rd_wr (a v c : Nat) (b : Block) : rd (wr a v b) c = if c = a then v % 2 ^ 32 else rd b c := by
  simp only [rd, wr, sget_sset]
  split <;> simp

/-- A register reads what was written to it, as 32 bits. -/
theorem rd_wr_same (a v : Nat) (b : Block) : rd (wr a v b) a = v % 2 ^ 32 := by rw [rd_wr, if_pos rfl]

/-- A write leaves every other register. -/
theorem rd_wr_other (a v c : Nat) (b : Block) (h : c ≠ a) : rd (wr a v b) c = rd b c := by rw [rd_wr, if_neg h]

/-- Registers depend on the part and the register store alone. -/
theorem rd_congr {b b' : Block} (hp : b'.part = b.part) (hr : b'.regs = b.regs) (a : Nat) : rd b' a = rd b a := by
  simp only [rd, hp, hr]

/-- A register of a block given field by field. -/
@[simp] theorem rd_mk (x0 x1 x2 x3 x4 x5 x6 x7 x8 x9 x10 x11 x12 x13 x14 x15 x16 x17 x18 x19 x20 x21 x22 x23 x24 x25 x26 x27 x28 x29 x30 x31 x32 x33 x34 x35 x36 x37 x38 x39 x40 x41 x42 x43 x44 x45 x46 x47 x48 x49 x50) (a : Nat) :
    rd (Block.mk x0 x1 x2 x3 x4 x5 x6 x7 x8 x9 x10 x11 x12 x13 x14 x15 x16 x17 x18 x19 x20 x21 x22 x23 x24 x25 x26 x27 x28 x29 x30 x31 x32 x33 x34 x35 x36 x37 x38 x39 x40 x41 x42 x43 x44 x45 x46 x47 x48 x49 x50) a = (sget (regReset x0) x3 a).toNat := rfl

/-- The same, folded again. -/
@[simp] theorem rd_fold {t : Part} {b : Block} (a : Nat) (h : b.part = t) : (sget (regReset t) b.regs a).toNat = rd b a := by
  subst h; rfl

/-- A table word of a block given field by field. -/
@[simp] theorem tget_mk (x0 x1 x2 x3 x4 x5 x6 x7 x8 x9 x10 x11 x12 x13 x14 x15 x16 x17 x18 x19 x20 x21 x22 x23 x24 x25 x26 x27 x28 x29 x30 x31 x32 x33 x34 x35 x36 x37 x38 x39 x40 x41 x42 x43 x44 x45 x46 x47 x48 x49 x50) (k : Nat) :
    tget (Block.mk x0 x1 x2 x3 x4 x5 x6 x7 x8 x9 x10 x11 x12 x13 x14 x15 x16 x17 x18 x19 x20 x21 x22 x23 x24 x25 x26 x27 x28 x29 x30 x31 x32 x33 x34 x35 x36 x37 x38 x39 x40 x41 x42 x43 x44 x45 x46 x47 x48 x49 x50) k = (sget tabReset x4 k).toNat := rfl

/-- The same, folded again. -/
@[simp] theorem tget_fold (b : Block) (k : Nat) : (sget tabReset b.tabs k).toNat = tget b k := rfl

/-- A memory byte of a block given field by field. -/
@[simp] theorem mget_mk (x0 x1 x2 x3 x4 x5 x6 x7 x8 x9 x10 x11 x12 x13 x14 x15 x16 x17 x18 x19 x20 x21 x22 x23 x24 x25 x26 x27 x28 x29 x30 x31 x32 x33 x34 x35 x36 x37 x38 x39 x40 x41 x42 x43 x44 x45 x46 x47 x48 x49 x50) (a : Nat) :
    mget (Block.mk x0 x1 x2 x3 x4 x5 x6 x7 x8 x9 x10 x11 x12 x13 x14 x15 x16 x17 x18 x19 x20 x21 x22 x23 x24 x25 x26 x27 x28 x29 x30 x31 x32 x33 x34 x35 x36 x37 x38 x39 x40 x41 x42 x43 x44 x45 x46 x47 x48 x49 x50) a = sget memReset x7 a := rfl

/-- The same, folded again. -/
@[simp] theorem mget_fold (b : Block) (a : Nat) : sget memReset b.mem a = mget b a := rfl

@[simp] theorem rd_tset (k v : Nat) (b : Block) (a : Nat) : rd (tset k v b) a = rd b a := rfl
@[simp] theorem rd_mset (x : Nat) (v : Byte) (b : Block) (a : Nat) : rd (mset x v b) a = rd b a := rfl
@[simp] theorem rd_mzero (x n : Nat) (b : Block) (a : Nat) : rd (mzero x n b) a = rd b a := rfl
@[simp] theorem rd_emit (o : Output) (b : Block) (a : Nat) : rd (emit o b) a = rd b a := rfl
@[simp] theorem rd_freshNext  (b : Block) (a : Nat) : rd (freshNext b) a = rd b a := rfl
@[simp] theorem rd_advanceTo (t : Nat) (b : Block) (a : Nat) : rd (advanceTo t b) a = rd b a := rfl
@[simp] theorem tget_wr (x v : Nat) (b : Block) (k : Nat) : tget (wr x v b) k = tget b k := rfl
@[simp] theorem tget_mset (x : Nat) (v : Byte) (b : Block) (k : Nat) : tget (mset x v b) k = tget b k := rfl
@[simp] theorem tget_mzero (x n : Nat) (b : Block) (k : Nat) : tget (mzero x n b) k = tget b k := rfl
@[simp] theorem tget_emit (o : Output) (b : Block) (k : Nat) : tget (emit o b) k = tget b k := rfl
@[simp] theorem tget_freshNext  (b : Block) (k : Nat) : tget (freshNext b) k = tget b k := rfl
@[simp] theorem tget_advanceTo (t : Nat) (b : Block) (k : Nat) : tget (advanceTo t b) k = tget b k := rfl
@[simp] theorem tget_fset (f : Fld) (v : Nat) (b : Block) (k : Nat) : tget (fset f v b) k = tget b k := rfl
@[simp] theorem mget_wr (x v : Nat) (b : Block) (a : Nat) : mget (wr x v b) a = mget b a := rfl
@[simp] theorem mget_tset (k v : Nat) (b : Block) (a : Nat) : mget (tset k v b) a = mget b a := rfl
@[simp] theorem mget_emit (o : Output) (b : Block) (a : Nat) : mget (emit o b) a = mget b a := rfl
@[simp] theorem mget_freshNext  (b : Block) (a : Nat) : mget (freshNext b) a = mget b a := rfl
@[simp] theorem mget_advanceTo (t : Nat) (b : Block) (a : Nat) : mget (advanceTo t b) a = mget b a := rfl
@[simp] theorem mget_fset (f : Fld) (v : Nat) (b : Block) (a : Nat) : mget (fset f v b) a = mget b a := rfl

/-! ### Fields -/

/-- Bits of a word after one field of it was set. -/
theorem bitsOf_lt (n hi lo : Nat) : bitsOf n hi lo < 2 ^ (hi + 1 - lo) := Nat.mod_lt _ (Nat.two_pow_pos _)

/-- Bit `i` of bits `hi:lo` of `n`. -/
theorem bitsOf_testBit (n hi lo i : Nat) : (bitsOf n hi lo).testBit i = (decide (i < hi + 1 - lo) && n.testBit (i + lo)) := by
  rw [bitsOf, Nat.testBit_mod_two_pow, Nat.testBit_div_two_pow]

/-- Bit `i` of a word with `v` inserted into bits `hi:lo`. -/
theorem putBits_testBit (w hi lo v i : Nat) (h : lo ≤ hi) :
    (putBits w hi lo v).testBit i = if lo ≤ i ∧ i ≤ hi then v.testBit (i - lo) else w.testBit i := by
  have e : putBits w hi lo v = 2 ^ (hi + 1) * (w / 2 ^ (hi + 1)) + (2 ^ lo * (v % 2 ^ (hi + 1 - lo)) + w % 2 ^ lo) := by
    simp only [putBits]
    rw [Nat.mul_comm (2 ^ lo), Nat.mul_comm (2 ^ (hi + 1))]
    omega
  have l1 : w % 2 ^ lo < 2 ^ lo := Nat.mod_lt _ (Nat.two_pow_pos _)
  have l2 : 2 ^ lo * (v % 2 ^ (hi + 1 - lo)) + w % 2 ^ lo < 2 ^ (hi + 1) := by
    have h3 : v % 2 ^ (hi + 1 - lo) < 2 ^ (hi + 1 - lo) := Nat.mod_lt _ (Nat.two_pow_pos _)
    have h4 : 2 ^ (hi + 1) = 2 ^ lo * 2 ^ (hi + 1 - lo) := by rw [← Nat.pow_add]; congr 1; omega
    have h5 : 2 ^ lo * (v % 2 ^ (hi + 1 - lo)) + 2 ^ lo ≤ 2 ^ lo * 2 ^ (hi + 1 - lo) := by
      rw [← Nat.mul_succ]; exact Nat.mul_le_mul_left _ h3
    omega
  rw [e, Nat.testBit_two_pow_mul_add _ l2]
  split
  · rw [Nat.testBit_two_pow_mul_add _ l1]
    split
    · rw [if_neg (by omega), Nat.testBit_mod_two_pow]; simp [*]
    · rw [if_pos (by omega), Nat.testBit_mod_two_pow]
      simp; omega
  · rw [if_neg (by omega), Nat.testBit_div_two_pow]; congr 1; omega

/-- A field reads what was inserted. -/
theorem bitsOf_putBits_same (w hi lo v : Nat) (h : lo ≤ hi) : bitsOf (putBits w hi lo v) hi lo = v % 2 ^ (hi + 1 - lo) := by
  refine Nat.eq_of_testBit_eq fun i => ?_
  rw [bitsOf_testBit, putBits_testBit _ _ _ _ _ h, Nat.testBit_mod_two_pow]
  by_cases hi' : i < hi + 1 - lo
  · rw [if_pos (by omega)]; simp
  · simp [hi']

/-- Inserting into one field leaves a field that shares no bit with it. -/
theorem bitsOf_putBits_other (w hi lo v hi' lo' : Nat) (h : lo ≤ hi) (hd : hi' < lo ∨ hi < lo') :
    bitsOf (putBits w hi lo v) hi' lo' = bitsOf w hi' lo' := by
  refine Nat.eq_of_testBit_eq fun i => ?_
  rw [bitsOf_testBit, bitsOf_testBit, putBits_testBit _ _ _ _ _ h]
  by_cases hi'' : i < hi' + 1 - lo'
  · rw [if_neg (by omega)]
  · simp [hi'']

/-- Inserting keeps the width of the word. -/
theorem putBits_lt (w hi lo v : Nat) (h : lo ≤ hi) (hh : hi < 32) (hw : w < 2 ^ 32) : putBits w hi lo v < 2 ^ 32 := by
  refine Nat.lt_pow_two_of_testBit _ fun i hi' => ?_
  rw [putBits_testBit _ _ _ _ _ h, if_neg (by omega)]
  exact Nat.testBit_lt_two_pow (Nat.lt_of_lt_of_le hw (Nat.pow_le_pow_right (by decide) hi'))

/-- What a register reads after a field was set. -/
theorem rd_fset (f : Fld) (v c : Nat) (b : Block) :
    rd (fset f v b) c = if c = f.addr then putBits (rd b f.addr) f.hi f.lo v % 2 ^ 32 else rd b c := by
  rw [fset, rd_wr]

/-- Setting a field leaves every other register. -/
theorem rd_fset_other (f : Fld) (v c : Nat) (b : Block) (h : c ≠ f.addr) : rd (fset f v b) c = rd b c := by
  rw [rd_fset, if_neg h]

/-- A field that lies in a word. -/
def Fld.ok (f : Fld) : Bool := decide (f.lo ≤ f.hi) && decide (f.hi < 32)

/-- A field reads what was written to it. -/
theorem fget_fset_same (f : Fld) (v : Nat) (b : Block) (h : f.ok) : fget (fset f v b) f = v % 2 ^ (f.hi + 1 - f.lo) := by
  simp only [Fld.ok, Bool.and_eq_true, decide_eq_true_eq] at h
  rw [fget, rd_fset, if_pos rfl, Nat.mod_eq_of_lt (putBits_lt _ _ _ _ h.1 h.2 (rd_lt ..)), bitsOf_putBits_same _ _ _ _ h.1]

/-- Setting a field leaves a field of another register, or of other bits. -/
theorem fget_fset_other (f g : Fld) (v : Nat) (b : Block) (h : f.ok) (hd : g.addr ≠ f.addr ∨ g.hi < f.lo ∨ f.hi < g.lo) :
    fget (fset f v b) g = fget b g := by
  simp only [Fld.ok, Bool.and_eq_true, decide_eq_true_eq] at h
  by_cases ha : g.addr = f.addr
  · rw [fget, rd_fset, if_pos ha, Nat.mod_eq_of_lt (putBits_lt _ _ _ _ h.1 h.2 (rd_lt ..)), bitsOf_putBits_other _ _ _ _ _ _ h.1 (by
      rcases hd with hd | hd
      · exact absurd ha hd
      · exact hd), fget, ha]
  · rw [fget, rd_fset_other _ _ _ _ ha, fget]

/-- A field of a register that a write leaves. -/
theorem fget_wr_other (f : Fld) (a v : Nat) (b : Block) (h : f.addr ≠ a) : fget (wr a v b) f = fget b f := by
  rw [fget, rd_wr_other _ _ _ _ h, fget]

/-- Fields depend on the part and the register store alone. -/
theorem fget_congr {b b' : Block} (hp : b'.part = b.part) (hr : b'.regs = b.regs) (f : Fld) : fget b' f = fget b f := by
  rw [fget, fget, rd_congr hp hr]

/-- Two blocks that differ in the register store alone. -/
def OnlyRegs (b b' : Block) : Prop := ∃ r, b' = { b with regs := r }

theorem OnlyRegs.rfl' (b : Block) : OnlyRegs b b := ⟨_, rfl⟩
theorem OnlyRegs.trans {a b c : Block} (h : OnlyRegs a b) (k : OnlyRegs b c) : OnlyRegs a c := by
  obtain ⟨r, rfl⟩ := h
  obtain ⟨r', rfl⟩ := k
  exact ⟨r', rfl⟩
theorem OnlyRegs.wr {a b : Block} (h : OnlyRegs a b) (x v : Nat) : OnlyRegs a (Sys2Proof.Machine.wr x v b) := h.trans ⟨_, rfl⟩
theorem OnlyRegs.fset {a b : Block} (h : OnlyRegs a b) (f : Fld) (v : Nat) : OnlyRegs a (Sys2Proof.Machine.fset f v b) := h.wr _ _

/-! ### Tables and memory -/

/-- What a table word reads after a table write. -/
theorem tget_tset (k v c : Nat) (b : Block) : tget (tset k v b) c = if c = k then v % 2 ^ 32 else tget b c := by
  simp only [tget, tset, sget_sset]
  split <;> simp

/-- What a byte reads after a byte was written. -/
theorem mget_mset (a c : Nat) (v : Byte) (b : Block) : mget (mset a v b) c = if c = a then v else mget b c := by
  simp only [mget, mset, sget_sset]

/-- What a byte reads after bytes were written from `a` on. -/
theorem mget_mwrite (a c : Nat) (l : List Byte) (b : Block) :
    mget (mwrite a l b) c = if a ≤ c ∧ c < a + l.length then l.getD (c - a) 0#8 else mget b c := by
  induction l generalizing a b with
  | nil => simp only [mwrite, List.length_nil]; rw [if_neg (by omega)]
  | cons v l ih =>
    simp only [mwrite, ih, mget_mset, List.length_cons]
    by_cases h : c = a
    · subst h
      rw [if_neg (by omega), if_pos rfl, if_pos (by omega)]; simp
    · by_cases h' : a ≤ c ∧ c < a + (l.length + 1)
      · rw [if_pos (by omega), if_pos h', show c - a = (c - (a + 1)) + 1 by omega]; simp
      · rw [if_neg (by omega), if_neg h, if_neg h']

/-- What a byte reads after a range was zeroed. -/
theorem mget_mzero (a n c : Nat) (b : Block) : mget (mzero a n b) c = if a ≤ c ∧ c < a + n then 0#8 else mget b c := by
  simp only [mget, mzero]
  induction b.mem with
  | nil => simp [sget]
  | cons p t ih =>
    obtain ⟨k, w⟩ := p
    by_cases hk : k < a ∨ a + n ≤ k
    · rw [List.filter_cons_of_pos (by simpa using hk), sget, sget, ih]
      by_cases hc : c = k
      · subst hc; rw [if_pos rfl, if_pos rfl, if_neg (by omega)]
      · rw [if_neg hc, if_neg hc]
    · rw [List.filter_cons_of_neg (by simpa using hk), ih, sget]
      split
      · rfl
      · rw [if_neg (by omega)]

end Sys2Proof.Machine
end

