-- ==== Sys2Proof/Laws/Events.lean ====
section
/-! SUPPORT. What raising an event and recording an error can change: event and error registers, the event queues, and the recorder's
intake (R106, R109, R136, R137, R608). -/

namespace Sys2Proof.Machine

theorem EvOnly.rfl' (b : Block) : EvOnly b b := ⟨rfl, fun _ _ => rfl, fun _ _ _ h => h⟩

theorem EvOnly.trans {a b c : Block} (h : EvOnly a b) (k : EvOnly b c) : EvOnly a c := by
  refine ⟨?_, fun x hx => (k.2.1 x hx).trans (h.2.1 x hx), fun p i hp hi => k.2.2 p i hp (h.2.2 p i hp hi)⟩
  rw [k.1, h.1]

/-- The same, in a form that a rewrite can use: the block after is the block before with three components replaced. -/
theorem EvOnly.out {b c : Block} (h : EvOnly b c) : ∃ r e g, c = { b with regs := r, evr := e, elg := g } := ⟨_, _, _, h.1⟩

/-- Bits may be added to an event register. -/
theorem EvOnly.bit (a i : Nat) (b : Block) (h : evKey a = true) (_ : i < 32) : EvOnly b (Sys2Proof.Machine.wr a (rd b a ||| 2 ^ i) b) := by
  refine ⟨rfl, fun x hx => rd_wr_other _ _ _ _ ?_, fun p j _ hj => ?_⟩
  · rintro rfl; simp [h] at hx
  · rw [rd_wr]
    split
    · rename_i e
      rw [e] at hj
      show ((rd b a ||| 2 ^ i) % 2 ^ 32).testBit j = true
      rw [Nat.testBit_mod_two_pow]
      have hj' : j < 32 := Decidable.byContradiction fun hn => by
        rw [Nat.testBit_lt_two_pow (Nat.lt_of_lt_of_le (rd_lt b a) (Nat.pow_le_pow_right (by decide) (by omega)))] at hj
        cases hj
      simp [hj, hj']
    · exact hj

/-- A register of EVR or of the recorder that is no EVT of a block page. -/
theorem EvOnly.wr (a v : Nat) (b : Block) (h : evKey a = true) (hn : 0x3000000000 ≤ a ∨ a % 0x10000 ≠ 0x10) :
    EvOnly b (Sys2Proof.Machine.wr a v b) := by
  refine ⟨rfl, fun x hx => rd_wr_other _ _ _ _ ?_, fun p j hp hj => ?_⟩
  · rintro rfl; simp [h] at hx
  · rw [rd_wr_other _ _ _ _ (by simp only [pg]; omega)]; exact hj

theorem EvOnly.fset (f : Fld) (v : Nat) (b : Block) (h : evKey f.addr = true) (hn : 0x3000000000 ≤ f.addr ∨ f.addr % 0x10000 ≠ 0x10) :
    EvOnly b (Sys2Proof.Machine.fset f v b) := EvOnly.wr _ _ _ h hn

theorem EvOnly.evr (b : Block) (x : Evr) : EvOnly b { b with evr := x } := ⟨rfl, fun _ _ => rfl, fun _ _ _ h => h⟩

theorem EvOnly.elg (b : Block) (x : Elg) : EvOnly b { b with elg := x } := ⟨rfl, fun _ _ => rfl, fun _ _ _ h => h⟩

theorem evKey_pend0 (n : Nat) : evKey (R.EVR_I_PEND0 n) = true := by
  simp only [evKey, R.EVR_I_PEND0, sp]
  simp; omega

theorem evKey_pend1 (n : Nat) : evKey (R.EVR_I_PEND1 n) = true := by
  simp only [evKey, R.EVR_I_PEND1, sp]
  simp; omega

theorem evKey_src (n v : Nat) (h : v < 64) : evKey (R.EVR_I_SRC n v) = true := by
  simp only [evKey, R.EVR_I_SRC, sp]
  simp; omega

theorem evKey_evt (p : Nat) : evKey (pg p 0x10) = true := by
  simp only [evKey, pg]
  simp; omega

theorem instVector_evOnly (n v ev prio : Nat) (b : Block) (h : v < 64) : EvOnly b (instVector n v ev prio b) := by
  unfold instVector
  refine .trans (.trans (.wr _ _ _ ?_ ?_) (.fset _ _ _ (evKey_src n v h) (.inl ?_))) (.evr _ _)
  · split
    · exact evKey_pend0 n
    · exact evKey_pend1 n
  · left; split <;> simp only [R.EVR_I_PEND0, R.EVR_I_PEND1, sp] <;> omega
  · simp only [R.EVR_I_SRC, sp]; omega

theorem elgTake_evOnly (it : ElgItem) (b : Block) : EvOnly b (elgTake it b).1 := by
  unfold elgTake
  repeat' split
  · exact .wr _ _ _ rfl (.inr (by decide))
  · exact .elg _ _
  · exact .trans (.elg _ _) (.wr _ _ _ rfl (.inr (by decide)))
  · exact .elg _ _
  · exact .trans (.elg _ _) (.wr _ _ _ rfl (.inr (by decide)))

theorem evLatch_evOnly (ev : Nat) (b : Block) : EvOnly b (evLatch ev b).1 := by
  unfold evLatch
  repeat' split
  all_goals first | exact .rfl' _ | exact .bit _ _ _ (evKey_evt _) ‹_›

theorem evRoute_evOnly (ev : Nat) (b : Block) : EvOnly b (evRoute ev b).1 := by
  unfold evRoute
  dsimp only
  repeat' split
  · exact .evr _ _
  · exact .wr _ _ _ rfl (.inr (by decide))
  · exact .evr _ _
  · exact .wr _ _ _ rfl (.inr (by decide))
  · exact instVector_evOnly _ _ _ _ _ (bitsOf_lt ..)
  · exact .wr _ _ _ rfl (.inr (by decide))
  · exact .rfl' _

theorem evDeliver_evOnly (ev rq : Nat) (pl : List Byte) (b : Block) : EvOnly b (evDeliver ev rq pl b).1 := by
  unfold evDeliver
  dsimp only
  split
  · exact (evRoute_evOnly _ _).trans (elgTake_evOnly _ _)
  · exact evRoute_evOnly _ _

/-- A full queue's sticky bit and overflow event (R137). -/
theorem overflow_evOnly (self : Nat → Nat → Block → Block) (c : Block) (own : Prop) [Decidable own] (f : Fld) (e : Nat) (hf : evKey f.addr = true)
    (hn : 0x3000000000 ≤ f.addr ∨ f.addr % 0x10000 ≠ 0x10) (ih : ∀ e r c, EvOnly c (self e r c)) :
    EvOnly c (if fon c f = true then c else if own then Sys2Proof.Machine.fset f 1 c else self e 0x3FF (Sys2Proof.Machine.fset f 1 c)) := by
  have h := EvOnly.fset f 1 c hf hn
  split
  · exact .rfl' _
  · split
    · exact h
    · exact h.trans (ih _ _ _)

/-- What raising an event can change beyond its EVT bit, given what its delivery brings. -/
theorem raiseStep_evOnly (self : Nat → Nat → Block → Block) (ev rq : Nat) (pl : List Byte) (b : Block) (ih : ∀ e r c, EvOnly c (self e r c)) :
    EvOnly (evLatch ev b).1 (raiseStep self ev rq pl b) := by
  unfold raiseStep
  dsimp only
  split
  · refine .trans (evDeliver_evOnly ev rq pl _) ?_
    generalize evDeliver ev rq pl (evLatch ev b).1 = x
    obtain ⟨c, d, lost⟩ := x
    dsimp only
    have h2 (y : Block) (h : EvOnly c y) :
        EvOnly c (if (lost && !bitOf (rd y (pg 0x40 0x10)) 2) = true then self EV.ELG_LOST 0x0C5 y else y) := by
      split
      · exact h.trans (ih _ _ _)
      · exact h
    apply h2
    cases d with
    | none => exact .rfl' _
    | mq => exact overflow_evOnly self c _ _ _ rfl (.inr (by decide)) ih
    | sq => exact overflow_evOnly self c _ _ _ rfl (.inr (by decide)) ih
    | inst =>
      dsimp only
      split
      · exact .rfl' _
      · exact ih _ _ _
  · exact .rfl' _

theorem raiseIn_evOnly (k ev rq : Nat) (b : Block) : EvOnly b (raiseIn k ev rq b) := by
  induction k generalizing ev rq b with
  | zero => exact .rfl' _
  | succ k ih => exact (evLatch_evOnly _ _).trans (raiseStep_evOnly (raiseIn k) ev rq [] b ih)

/-- What raising an event can change. -/
theorem raiseBy_evOnly (ev rq : Nat) (pl : List Byte) (b : Block) : EvOnly b (raiseBy ev rq pl b) :=
  (evLatch_evOnly _ _).trans (raiseStep_evOnly _ _ _ _ _ (raiseIn_evOnly 8))

theorem raiseP_evOnly (ev : Nat) (pl : List Byte) (b : Block) : EvOnly b (raiseP ev pl b) := raiseBy_evOnly _ _ _ _

theorem raise_evOnly (ev : Nat) (b : Block) : EvOnly b (raise ev b) := raiseBy_evOnly _ _ _ _

/-- A register that raising an event cannot write. -/
theorem rd_raise (ev a : Nat) (b : Block) (h : evKey a = false) : rd (raise ev b) a = rd b a := (raise_evOnly ev b).2.1 a h
theorem rd_raiseP (ev a : Nat) (pl : List Byte) (b : Block) (h : evKey a = false) : rd (raiseP ev pl b) a = rd b a :=
  (raiseP_evOnly ev pl b).2.1 a h
theorem fget_raise (ev : Nat) (f : Fld) (b : Block) (h : evKey f.addr = false) : fget (raise ev b) f = fget b f := by
  rw [fget, rd_raise _ _ _ h, fget]
theorem fget_raiseP (ev : Nat) (f : Fld) (pl : List Byte) (b : Block) (h : evKey f.addr = false) : fget (raiseP ev pl b) f = fget b f := by
  rw [fget, rd_raiseP _ _ _ _ h, fget]

/-- Raising an event sets its EVT bit (R106). -/
theorem raiseBy_evt (ev rq p off : Nat) (pl : List Byte) (b : Block) (hl : evLoc ev = some (p, off)) (ho : off < 32) (hp : p < 256)
    (ha : absentPage b.part p = false) : (rd (raiseBy ev rq pl b) (pg p 0x10)).testBit off = true := by
  have h : (rd (evLatch ev b).1 (pg p 0x10)).testBit off = true := by
    simp only [evLatch, hl, ha, ho]
    simp only [Bool.false_eq_true, if_false, if_true]
    rw [rd_wr_same, Nat.testBit_mod_two_pow]
    simp [ho]
  exact (raiseStep_evOnly _ ev rq pl b (raiseIn_evOnly 8)).2.2 _ _ hp h

theorem raiseP_evt (ev p off : Nat) (pl : List Byte) (b : Block) (hl : evLoc ev = some (p, off)) (ho : off < 32) (hp : p < 256)
    (ha : absentPage b.part p = false) : (rd (raiseP ev pl b) (pg p 0x10)).testBit off = true :=
  raiseBy_evt _ _ _ _ _ _ hl ho hp ha

theorem raise_evt (ev p off : Nat) (b : Block) (hl : evLoc ev = some (p, off)) (ho : off < 32) (hp : p < 256)
    (ha : absentPage b.part p = false) : (rd (raise ev b) (pg p 0x10)).testBit off = true :=
  raiseBy_evt _ _ _ _ _ _ hl ho hp ha

end Sys2Proof.Machine
end

