-- ==== Sys2Proof/Laws/Access.lean ====
section
/-! SUPPORT. What recording a fault and an instance's error can change (R110, R111, R140, R148). -/

namespace Sys2Proof.Machine

/-- Two blocks that differ at most in registers, the event queues, the recorder's intake, the two fault FIFOs: `ACT_FLTOVF`,
`MEM_FLTOVF`, event registers and error registers alone among the registers. -/
def FaultOnly (b b' : Block) : Prop :=
  (∃ r e g x y, b' = { b with regs := r, evr := e, elg := g, actFifo := x, memFifo := y }) ∧
    ∀ a, a ≠ R.ACT_FLTOVF → a ≠ R.MEM_FLTOVF → errKey a = false → rd b' a = rd b a

theorem FaultOnly.rfl' (b : Block) : FaultOnly b b := ⟨⟨_, _, _, _, _, rfl⟩, fun _ _ _ _ => rfl⟩

theorem FaultOnly.trans {a b c : Block} (h : FaultOnly a b) (k : FaultOnly b c) : FaultOnly a c := by
  obtain ⟨⟨r, e, g, x, y, hb⟩, h2⟩ := h
  obtain ⟨⟨r', e', g', x', y', hc⟩, k2⟩ := k
  refine ⟨⟨r', e', g', x', y', ?_⟩, fun z z1 z2 z3 => (k2 z z1 z2 z3).trans (h2 z z1 z2 z3)⟩
  rw [hc, hb]

theorem errKey_evKey {a : Nat} (h : errKey a = false) : evKey a = false := by
  simp only [errKey, Bool.or_eq_false_iff] at h; exact h.1.1

theorem FaultOnly.ev {b c : Block} (h : EvOnly b c) : FaultOnly b c :=
  ⟨⟨_, _, _, _, _, h.1⟩, fun _ _ _ hx => h.2.1 _ (errKey_evKey hx)⟩

theorem FaultOnly.wr (a v : Nat) (b : Block) (h : errKey a = true ∨ a = R.ACT_FLTOVF ∨ a = R.MEM_FLTOVF) :
    FaultOnly b (Sys2Proof.Machine.wr a v b) := by
  refine ⟨⟨_, _, _, _, _, rfl⟩, fun x h1 h2 hx => rd_wr_other _ _ _ _ ?_⟩
  rintro rfl
  rcases h with h | h | h
  · rw [h] at hx; cases hx
  · exact h1 h
  · exact h2 h

theorem actDeny_faultOnly (a k r o t q : Nat) (b : Block) : FaultOnly b (actDeny a k r o t q b) := by
  unfold actDeny
  dsimp only
  refine .trans (.ev (raise_evOnly EV.ACT_DENY b)) ?_
  split
  · exact ⟨⟨_, _, _, _, _, rfl⟩, fun _ _ _ _ => rfl⟩
  · exact .trans (.wr _ _ _ (.inr (.inl rfl))) (.ev (raise_evOnly _ _))

theorem memFault_faultOnly (a k m o q : Nat) (b : Block) : FaultOnly b (memFault a k m o q b) := by
  have h : ∀ e, FaultOnly b (if (raise e b).memFifo.length < 32 then
        { raise e b with memFifo := (raise e b).memFifo ++ [⟨a, k, m, o, q, fast (raise e b)⟩] }
      else raise e b |> cntSat R.MEM_FLTOVF |> raise EV.MEM_FIFOOVF) := by
    intro e
    refine .trans (.ev (raise_evOnly e b)) ?_
    split
    · exact ⟨⟨_, _, _, _, _, rfl⟩, fun _ _ _ _ => rfl⟩
    · exact .trans (.wr _ _ _ (.inr (.inr rfl))) (.ev (raise_evOnly _ _))
  rcases k with _ | _ | _ | _ | k <;> exact h _

theorem instErr_faultOnly (p n cls code d : Nat) (b : Block) (hp : p < 256) : FaultOnly b (instErr p n cls code d b) := by
  unfold instErr
  refine .trans (.trans (.wr _ _ _ (.inl ?_)) (.wr _ _ _ (.inl ?_))) (.ev (raiseP_evOnly _ _ _))
  · simp only [errKey, sp]; simp; omega
  · simp only [errKey, sp]; simp; omega

theorem errPage_lt (b : Block) (a : Nat) : errPage (targetOf b.part a) < 256 := by
  have hs : ∀ p ∈ subPages, p < 256 := by decide
  unfold errPage
  split
  · split
    · rename_i h; exact hs _ h
    · decide
  · rename_i p n o h
    have : p ∈ subPages := by
      unfold targetOf at h
      simp only at h
      repeat' split at h
      all_goals try cases h
      assumption
    exact hs p this
  · decide

theorem recordFault_faultOnly (j : Judged) (q a : Nat) (n : Need) (b : Block) : FaultOnly b (recordFault j q a n b) := by
  unfold recordFault
  split
  · exact actDeny_faultOnly ..
  · exact memFault_faultOnly ..
  · exact .rfl' _

theorem accessErr_faultOnly (st : Status) (q a : Nat) (b : Block) : FaultOnly b (accessErr st q a b) := by
  have h := fun k => instErr_faultOnly (errPage (targetOf b.part a)) q k 0 0 b (errPage_lt b a)
  unfold accessErr
  split
  · exact .rfl' _
  · cases st
    · exact .rfl' _
    · exact h 0
    · exact h 1
    · exact .rfl' _
    · exact h 2
    · exact h 2

/-- What a refused access leaves (R110). -/
theorem accessFault_faultOnly (j : Judged) (q a : Nat) (n : Need) (b : Block) : FaultOnly b (accessFault j q a n b) :=
  (recordFault_faultOnly j q a n b).trans (accessErr_faultOnly ..)

end Sys2Proof.Machine
end

