-- ==== Sys2Proof/Laws/Exec.lean ====
section
/-! SUPPORT. The meaning that the dispatch gives each command, in the one form that all share. -/

namespace Sys2Proof.Machine

theorem exec_vinStartRise (aoKept : Bool) (s : State) :
    exec (.vinStartRise aoKept) s =
      meaning true "VIN_START_RISE" .any (vinStart aoKept) s := rfl
theorem exec_pwrOkRise (side : Bool) (s : State) :
    exec (.pwrOkRise side) s =
      meaning true "PWR_OK_RISE" .ao (pwrOkRise side) s := rfl
theorem exec_vinAbandon (s : State) :
    exec (.vinAbandon) s =
      meaning true "VIN_ABANDON" .ao (vinAbandon) s := rfl
theorem exec_holdupReady (cap : Nat) (s : State) :
    exec (.holdupReady cap) s =
      meaning (okHoldupReady cap) "HOLDUP_READY" .ao (holdupReady cap) s := rfl
theorem exec_railFault (rail : Nat) (s : State) :
    exec (.railFault rail) s =
      meaning (okRailFault rail) "RAIL_FAULT" .ao (railFault rail) s := rfl
theorem exec_modRstNLow (s : State) :
    exec (.modRstNLow) s =
      meaning true "MOD_RST_N_LOW" .any (rstNLow) s := rfl
theorem exec_modRstNRise (side : Bool) (s : State) :
    exec (.modRstNRise side) s =
      meaning true "MOD_RST_N_RISE" .any (rstNRise side) s := rfl
theorem exec_pwrMeasure (vin iin tj tplate varray ratio : Nat) (vsense tsense : Bool) (s : State) :
    exec (.pwrMeasure vin iin tj tplate varray ratio vsense tsense) s =
      meaning (okPwrMeasure vin iin tj tplate varray ratio) "PWR_MEASURE" .ao (pwrMeasure vin iin tj tplate varray ratio vsense tsense) s := rfl
theorem exec_vinWarningCross (k : Nat) (s : State) :
    exec (.vinWarningCross k) s =
      meaning (okVinWarningCross k) "VIN_WARNING_CROSS" .ao (vinWarning k) s := rfl
theorem exec_saveSetComplete (good : Bool) (s : State) :
    exec (.saveSetComplete good) s =
      meaning true "SAVE_SET_COMPLETE" .ao (saveSetComplete good) s := rfl
theorem exec_meteringSaveRepeat (s : State) :
    exec (.meteringSaveRepeat) s =
      meaning true "METERING_SAVE_REPEAT" .ao (meteringSaveRepeat) s := rfl
theorem exec_vinRecoveryCross (s : State) :
    exec (.vinRecoveryCross) s =
      meaning true "VIN_RECOVERY_CROSS" .ao (vinRecovery) s := rfl
theorem exec_vinResetCross (k : Nat) (s : State) :
    exec (.vinResetCross k) s =
      meaning (okVinResetCross k) "VIN_RESET_CROSS" .ao (vinReset k) s := rfl
theorem exec_holdupArrayFloor (s : State) :
    exec (.holdupArrayFloor) s =
      meaning true "HOLDUP_ARRAY_FLOOR" .ao (holdupFloor) s := rfl
theorem exec_junctionHot (s : State) :
    exec (.junctionHot) s =
      meaning true "JUNCTION_HOT" .ao (junctionHot) s := rfl
theorem exec_junctionCool (s : State) :
    exec (.junctionCool) s =
      meaning true "JUNCTION_COOL" .ao (junctionCool) s := rfl
theorem exec_junctionTrip (k : Nat) (s : State) :
    exec (.junctionTrip k) s =
      meaning (okJunctionTrip k) "JUNCTION_TRIP" .ao (junctionTrip k) s := rfl
theorem exec_thermalRestart (s : State) :
    exec (.thermalRestart) s =
      meaning true "THERMAL_RESTART" .ao (thermalRestart) s := rfl
theorem exec_lifeUpdate (s : State) :
    exec (.lifeUpdate) s =
      meaning true "LIFE_UPDATE" .ao (lifeUpdate) s := rfl
theorem exec_clearMin (rqid : Nat) (s : State) :
    exec (.clearMin rqid) s =
      meaning (okClearMin rqid) "CLEAR_MIN" (.core rqid) (cmdWrite rqid 0x01 (clearMin)) s := rfl
theorem exec_tallyPeriodEnd (s : State) :
    exec (.tallyPeriodEnd) s =
      meaning true "TALLY_PERIOD_END" .run (tallyPeriodEnd) s := rfl
theorem exec_tallySpeedRefresh (mn mean : Nat) (s : State) :
    exec (.tallySpeedRefresh mn mean) s =
      meaning (okTallySpeedRefresh mn mean) "TALLY_SPEED_REFRESH" .run (tallySpeedRefresh mn mean) s := rfl
theorem exec_pwrTallyctlWrite (rqid v : Nat) (s : State) :
    exec (.pwrTallyctlWrite rqid v) s =
      meaning (okPwrTallyctlWrite rqid v) "PWR_TALLYCTL_WRITE" (.core rqid) (tallyctlWrite rqid v) s := rfl
theorem exec_memoryPatrol (kind : Nat) (us : List Upset) (s : State) :
    exec (.memoryPatrol kind us) s =
      meaning (okMemoryPatrol kind) "MEMORY_PATROL" .run (memoryPatrol kind us) s := rfl
theorem exec_flashPatrol (l : List FlashBlk) (s : State) :
    exec (.flashPatrol l) s =
      meaning true "FLASH_PATROL" .run (flashPatrol l) s := rfl
theorem exec_memPop (rqid : Nat) (s : State) :
    exec (.memPop rqid) s =
      meaning (okMemPop rqid) "MEM_POP" (.core rqid) (cmdWrite rqid 0x42 (memPop)) s := rfl
theorem exec_memInject (rqid n : Nat) (pz : Bool) (s : State) :
    exec (.memInject rqid n pz) s =
      meaning (okMemInject rqid n) "MEM_INJECT" (.core rqid) (cmdWrite rqid 0x42 (memInject n pz)) s := rfl
theorem exec_registerWrite (rqid a v : Nat) (s : State) :
    exec (.registerWrite rqid a v) s =
      meaning (okRegisterWrite rqid a v) "REGISTER_WRITE" (.core rqid) (registerWrite rqid a v) s := rfl
theorem exec_loRegisterRead (rqid a : Nat) (s : State) :
    exec (.loRegisterRead rqid a) s =
      meaning (okLoRegisterRead rqid a) "LO_REGISTER_READ" (.core rqid) (registerRead rqid a) s := rfl
theorem exec_lockWrite (rqid p v : Nat) (s : State) :
    exec (.lockWrite rqid p v) s =
      meaning (okLockWrite rqid p v) "LOCK_WRITE" (.core rqid) (lockRow rqid p v) s := rfl
theorem exec_unknownCommand (rqid p v : Nat) (s : State) :
    exec (.unknownCommand rqid p v) s =
      meaning (okUnknownCommand rqid p v) "UNKNOWN_COMMAND" (.core rqid) (commandWrite rqid p v) s := rfl
theorem exec_accessEntryWrite (rqid a v : Nat) (s : State) :
    exec (.accessEntryWrite rqid a v) s =
      meaning (okAccessEntryWrite rqid a v) "ACCESS_ENTRY_WRITE" (.core rqid) (registerWrite rqid a v) s := rfl
theorem exec_coreMemoryAccess (rqid a : Nat) (op : CoreOp) (s : State) :
    exec (.coreMemoryAccess rqid a op) s =
      meaning (okCoreMemoryAccess rqid a op) "CORE_MEMORY_ACCESS" (.core rqid) (coreAccess rqid a op) s := rfl
theorem exec_bnkSwap (rqid : Nat) (copyback atidx : Bool) (s : State) :
    exec (.bnkSwap rqid copyback atidx) s =
      meaning (okBnkSwap rqid) "BNK_SWAP" (.core rqid) (cmdWrite rqid 0x08 (bnkSwap copyback atidx)) s := rfl
theorem exec_bnkCancel (rqid : Nat) (s : State) :
    exec (.bnkCancel rqid) s =
      meaning (okBnkCancel rqid) "BNK_CANCEL" (.core rqid) (cmdWrite rqid 0x08 (bnkCancel)) s := rfl
theorem exec_bnkCopyback (rqid : Nat) (s : State) :
    exec (.bnkCopyback rqid) s =
      meaning (okBnkCopyback rqid) "BNK_COPYBACK" (.core rqid) (cmdWrite rqid 0x08 (bnkCopyback)) s := rfl
theorem exec_copybackDone (s : State) :
    exec (.copybackDone) s =
      meaning true "COPYBACK_DONE" .run (copybackDone) s := rfl
theorem exec_bnkISwap (rqid n : Nat) (s : State) :
    exec (.bnkISwap rqid n) s =
      meaning (okBnkISwap rqid n) "BNK_I_SWAP" (.core rqid) (subCmdWrite rqid 0x08 n 0x100 0x104 (bnkISwap rqid n)) s := rfl
theorem exec_bnkICancel (rqid n : Nat) (s : State) :
    exec (.bnkICancel rqid n) s =
      meaning (okBnkICancel rqid n) "BNK_I_CANCEL" (.core rqid) (subCmdWrite rqid 0x08 n 0x100 0x104 (bnkICancel rqid n)) s := rfl
theorem exec_actPop (rqid : Nat) (s : State) :
    exec (.actPop rqid) s =
      meaning (okActPop rqid) "ACT_POP" (.core rqid) (cmdWrite rqid 0x06 (actPop)) s := rfl
theorem exec_actLookup (rqid op : Nat) (s : State) :
    exec (.actLookup rqid op) s =
      meaning (okActLookup rqid op) "ACT_LOOKUP" (.core rqid) (cmdWrite rqid 0x06 (actLookup op)) s := rfl
theorem exec_eventAssert (ev : Nat) (pl : List Byte) (s : State) :
    exec (.eventAssert ev pl) s =
      meaning (okEventAssert ev) "EVENT_ASSERT" .run (eventAssert ev pl) s := rfl
theorem exec_ievtenWrite (rqid p n v : Nat) (s : State) :
    exec (.ievtenWrite rqid p n v) s =
      meaning (okIevtenWrite rqid p n v) "IEVTEN_WRITE" (.core rqid) (ievtenRow rqid p n v) s := rfl
theorem exec_evrQueueLatch (rqid : Nat) (sq : Bool) (s : State) :
    exec (.evrQueueLatch rqid sq) s =
      meaning (okEvrQueueLatch rqid) "EVR_QUEUE_LATCH" (.core rqid) (registerRead rqid (if sq then R.EVR_SQ0 else R.EVR_MQ0)) s := rfl
theorem exec_evrQueuePop (rqid : Nat) (sq : Bool) (s : State) :
    exec (.evrQueuePop rqid sq) s =
      meaning (okEvrQueuePop rqid) "EVR_QUEUE_POP" (.core rqid) (registerRead rqid (if sq then R.EVR_SQ1 else R.EVR_MQ1)) s := rfl
theorem exec_startStep (begins : Bool) (ms detail : Nat) (s : State) :
    exec (.startStep begins ms detail) s =
      meaning (okStartStep detail) "START_STEP" .run (startStep begins ms detail) s := rfl
theorem exec_stepLimit (s : State) :
    exec (.stepLimit) s =
      meaning true "STEP_LIMIT" .run (stepLimit) s := rfl
theorem exec_harrowPassDone (fails : List Upset) (us : Nat) (s : State) :
    exec (.harrowPassDone fails us) s =
      meaning true "HARROW_PASS_DONE" .run (harrowPassDone fails us) s := rfl
theorem exec_stlClear (rqid n : Nat) (s : State) :
    exec (.stlClear rqid n) s =
      meaning (okStlClear rqid n) "STL_CLEAR" (.core rqid) (cmdWrite rqid 0x02 (stlClear n)) s := rfl
theorem exec_spkHandover (s : State) :
    exec (.spkHandover) s =
      meaning true "SPK_HANDOVER" .run (spkHandover) s := rfl
theorem exec_spkFallback (s : State) :
    exec (.spkFallback) s =
      meaning true "SPK_FALLBACK" .run (spkFallback) s := rfl
theorem exec_spkEvaluate (s : State) :
    exec (.spkEvaluate) s =
      meaning true "SPK_EVALUATE" .run (spkEvaluate) s := rfl
theorem exec_watchdogExpiry (s : State) :
    exec (.watchdogExpiry) s =
      meaning true "WATCHDOG_EXPIRY" .run (watchdogExpiry) s := rfl
theorem exec_watchdogAutowarm (s : State) :
    exec (.watchdogAutowarm) s =
      meaning true "WATCHDOG_AUTOWARM" .run (watchdogAutowarm) s := rfl
theorem exec_sysWdogkick (rqid : Nat) (s : State) :
    exec (.sysWdogkick rqid) s =
      meaning (okSysWdogkick rqid) "SYS_WDOGKICK" (.core rqid) (wdogKick rqid) s := rfl
theorem exec_sysWarm (rqid : Nat) (force : Bool) (s : State) :
    exec (.sysWarm rqid force) s =
      meaning (okSysWarm rqid) "SYS_WARM" (.core rqid) (cmdWrite rqid 0x00 (sysWarm force)) s := rfl
theorem exec_sysCold (rqid : Nat) (force : Bool) (s : State) :
    exec (.sysCold rqid force) s =
      meaning (okSysCold rqid) "SYS_COLD" (.core rqid) (cmdWrite rqid 0x00 (sysCold force)) s := rfl
theorem exec_sysFallow (rqid : Nat) (s : State) :
    exec (.sysFallow rqid) s =
      meaning (okSysFallow rqid) "SYS_FALLOW" (.core rqid) (cmdWrite rqid 0x00 (sysFallow)) s := rfl
theorem exec_sysFallback (rqid : Nat) (s : State) :
    exec (.sysFallback rqid) s =
      meaning (okSysFallback rqid) "SYS_FALLBACK" (.core rqid) (cmdWrite rqid 0x00 (sysFallback)) s := rfl
theorem exec_sysResume (rqid : Nat) (s : State) :
    exec (.sysResume rqid) s =
      meaning (okSysResume rqid) "SYS_RESUME" (.core rqid) (cmdWrite rqid 0x00 (sysResume)) s := rfl
theorem exec_sysSpkset (rqid copy : Nat) (s : State) :
    exec (.sysSpkset rqid copy) s =
      meaning (okSysSpkset rqid copy) "SYS_SPKSET" (.core rqid) (cmdWrite rqid 0x00 (sysSpkset copy)) s := rfl
theorem exec_fallowWake (s : State) :
    exec (.fallowWake) s =
      meaning true "FALLOW_WAKE" .ao (fallowWake) s := rfl
theorem exec_keyMordant (rqid : Nat) (s : State) :
    exec (.keyMordant rqid) s =
      meaning (okKeyMordant rqid) "KEY_MORDANT" (.core rqid) (cmdWrite rqid 0x04 (keyCmd 1 keyMordant)) s := rfl
theorem exec_keyIdread (rqid : Nat) (s : State) :
    exec (.keyIdread rqid) s =
      meaning (okKeyIdread rqid) "KEY_IDREAD" (.core rqid) (cmdWrite rqid 0x04 (keyCmd 2 keyIdread)) s := rfl
theorem exec_keyAttest (rqid : Nat) (s : State) :
    exec (.keyAttest rqid) s =
      meaning (okKeyAttest rqid) "KEY_ATTEST" (.core rqid) (cmdWrite rqid 0x04 (keyCmd 3 keyAttest)) s := rfl
theorem exec_keyKex (rqid : Nat) (s : State) :
    exec (.keyKex rqid) s =
      meaning (okKeyKex rqid) "KEY_KEX" (.core rqid) (cmdWrite rqid 0x04 (keyCmd 4 keyKex)) s := rfl
theorem exec_keyLeafload (rqid h : Nat) (s : State) :
    exec (.keyLeafload rqid h) s =
      meaning (okKeyLeafload rqid h) "KEY_LEAFLOAD" (.core rqid) (cmdWrite rqid 0x04 (keyCmd 5 (keyLeafload h))) s := rfl
theorem exec_keyLeafdrop (rqid h : Nat) (s : State) :
    exec (.keyLeafdrop rqid h) s =
      meaning (okKeyLeafdrop rqid h) "KEY_LEAFDROP" (.core rqid) (cmdWrite rqid 0x04 (keyCmd 6 (keyLeafdrop h))) s := rfl
theorem exec_keyLeafpersist (rqid h n : Nat) (s : State) :
    exec (.keyLeafpersist rqid h n) s =
      meaning (okKeyLeafpersist rqid h n) "KEY_LEAFPERSIST" (.core rqid) (cmdWrite rqid 0x04 (keyCmd 7 (keyLeafpersist h n))) s := rfl
theorem exec_keyDeriveleaf (rqid kind : Nat) (s : State) :
    exec (.keyDeriveleaf rqid kind) s =
      meaning (okKeyDeriveleaf rqid kind) "KEY_DERIVELEAF" (.core rqid) (cmdWrite rqid 0x04 (keyCmd 8 (keyDeriveleaf kind))) s := rfl
theorem exec_keyLeafinfo (rqid h : Nat) (s : State) :
    exec (.keyLeafinfo rqid h) s =
      meaning (okKeyLeafinfo rqid h) "KEY_LEAFINFO" (.core rqid) (cmdWrite rqid 0x04 (keyCmd 9 (keyLeafinfo h))) s := rfl
theorem exec_keyRekey (rqid : Nat) (s : State) :
    exec (.keyRekey rqid) s =
      meaning (okKeyRekey rqid) "KEY_REKEY" (.core rqid) (cmdWrite rqid 0x04 (keyCmd 0xA keyRekey)) s := rfl
theorem exec_keyAnchorset (rqid : Nat) (s : State) :
    exec (.keyAnchorset rqid) s =
      meaning (okKeyAnchorset rqid) "KEY_ANCHORSET" (.core rqid) (cmdWrite rqid 0x04 (keyCmd 0xB keyAnchorset)) s := rfl
theorem exec_keyZeroise (rqid : Nat) (s : State) :
    exec (.keyZeroise rqid) s =
      meaning (okKeyZeroise rqid) "KEY_ZEROISE" (.core rqid) (cmdWrite rqid 0x04 (keyCmd 0xC keyZeroise)) s := rfl
theorem exec_entropyHealthTest (ok : Bool) (s : State) :
    exec (.entropyHealthTest ok) s =
      meaning true "ENTROPY_HEALTH_TEST" .run (rngTest ok) s := rfl
theorem exec_leafExpiry (h : Nat) (s : State) :
    exec (.leafExpiry h) s =
      meaning (okLeafExpiry h) "LEAF_EXPIRY" .run (leafExpire h) s := rfl
theorem exec_rxgraceExpiry (h : Nat) (s : State) :
    exec (.rxgraceExpiry h) s =
      meaning (okRxgraceExpiry h) "RXGRACE_EXPIRY" .run (leafGraceEnd h) s := rfl
theorem exec_tmpClear (rqid : Nat) (s : State) :
    exec (.tmpClear rqid) s =
      meaning (okTmpClear rqid) "TMP_CLEAR" (.core rqid) (cmdWrite rqid 0x05 (tmpClear)) s := rfl
theorem exec_tmpVerify (rqid use m : Nat) (s : State) :
    exec (.tmpVerify rqid use m) s =
      meaning (okTmpVerify rqid use m) "TMP_VERIFY" (.core rqid) (cmdWrite rqid 0x05 (tmpVerify use m)) s := rfl
theorem exec_tmpRaise (rqid lvl : Nat) (s : State) :
    exec (.tmpRaise rqid lvl) s =
      meaning (okTmpRaise rqid lvl) "TMP_RAISE" (.core rqid) (cmdWrite rqid 0x05 (tmpRaise lvl)) s := rfl
theorem exec_tmpMeasure (rqid : Nat) (s : State) :
    exec (.tmpMeasure rqid) s =
      meaning (okTmpMeasure rqid) "TMP_MEASURE" (.core rqid) (cmdWrite rqid 0x05 (tmpMeasure)) s := rfl
theorem exec_tamperDetect (src : Nat) (sign : TamperSign) (selftest : Bool) (k : Nat) (s : State) :
    exec (.tamperDetect src sign selftest k) s =
      meaning (okTamperDetect src k) "TAMPER_DETECT" .ao (tamperDetect src sign.how sign.rail selftest k) s := rfl
theorem exec_tamperLoopMeasure (ohm : Option Nat) (short : Bool) (s : State) :
    exec (.tamperLoopMeasure ohm short) s =
      meaning true "TAMPER_LOOP_MEASURE" .ao (loopMeasure ohm short) s := rfl
theorem exec_tapInstruction (ir : TapIr) (s : State) :
    exec (.tapInstruction ir) s =
      meaning true "TAP_INSTRUCTION" .run (tapInstruction ir) s := rfl
theorem exec_dbgChallenge (rqid : Nat) (s : State) :
    exec (.dbgChallenge rqid) s =
      meaning (okDbgChallenge rqid) "DBG_CHALLENGE" (.core rqid) (cmdWrite rqid 0x44 (dbgChallenge)) s := rfl
theorem exec_dbgAuth (rqid : Nat) (s : State) :
    exec (.dbgAuth rqid) s =
      meaning (okDbgAuth rqid) "DBG_AUTH" (.core rqid) (cmdWrite rqid 0x44 (dbgAuth)) s := rfl
theorem exec_dbgClose (rqid : Nat) (s : State) :
    exec (.dbgClose rqid) s =
      meaning (okDbgClose rqid) "DBG_CLOSE" (.core rqid) (cmdWrite rqid 0x44 (dbgClose)) s := rfl
theorem exec_linkUp (m rate : Nat) (s : State) :
    exec (.linkUp m rate) s =
      meaning (okLinkUp m rate) "LINK_UP" .shed (linkUpEv m rate) s := rfl
theorem exec_linkDown (m : Nat) (s : State) :
    exec (.linkDown m) s =
      meaning (okLinkDown m) "LINK_DOWN" .run (linkDownEv m) s := rfl
theorem exec_sgmiiControlWord (m : Nat) (up half : Bool) (rate : Nat) (s : State) :
    exec (.sgmiiControlWord m up half rate) s =
      meaning (okSgmiiControlWord m rate) "SGMII_CONTROL_WORD" .run (sgmiiWord m up half rate) s := rfl
theorem exec_macReceive (m : Nat) (f : Frame) (s : State) :
    exec (.macReceive m f) s =
      meaning (okMacReceive m) "MAC_RECEIVE" .run (macReceive m f) s := rfl
theorem exec_pauseReceive (m quanta : Nat) (s : State) :
    exec (.pauseReceive m quanta) s =
      meaning (okPauseReceive m quanta) "PAUSE_RECEIVE" .run (pauseReceive m quanta) s := rfl
theorem exec_pauseTimerExpiry (m : Nat) (s : State) :
    exec (.pauseTimerExpiry m) s =
      meaning (okPauseTimerExpiry m) "PAUSE_TIMER_EXPIRY" .run (pauseExpire m) s := rfl
theorem exec_outputTransmit (o : Nat) (preempt : Bool) (s : State) :
    exec (.outputTransmit o preempt) s =
      meaning (okOutputTransmit o) "OUTPUT_TRANSMIT" .shed (outputTransmit o preempt) s := rfl
theorem exec_verifyInterval (m : Nat) (s : State) :
    exec (.verifyInterval m) s =
      meaning (okVerifyInterval m) "VERIFY_INTERVAL" .run (verifyInterval m) s := rfl
theorem exec_verifyResponse (m : Nat) (s : State) :
    exec (.verifyResponse m) s =
      meaning (okVerifyResponse m) "VERIFY_RESPONSE" .run (verifyResponse m) s := rfl
theorem exec_downshiftWindowEnd (m : Nat) (s : State) :
    exec (.downshiftWindowEnd m) s =
      meaning (okDownshiftWindowEnd m) "DOWNSHIFT_WINDOW_END" .run (windowEnd m) s := rfl
theorem exec_downshiftHoldEnd (m : Nat) (s : State) :
    exec (.downshiftHoldEnd m) s =
      meaning (okDownshiftHoldEnd m) "DOWNSHIFT_HOLD_END" .run (holdEnd m) s := rfl
theorem exec_downshiftFail (m : Nat) (s : State) :
    exec (.downshiftFail m) s =
      meaning (okDownshiftFail m) "DOWNSHIFT_FAIL" .run (shiftTimeout m) s := rfl
theorem exec_downshiftBlockEnd (m : Nat) (s : State) :
    exec (.downshiftBlockEnd m) s =
      meaning (okDownshiftBlockEnd m) "DOWNSHIFT_BLOCK_END" .run (blockEnds m) s := rfl
theorem exec_macClrcnt (rqid m : Nat) (s : State) :
    exec (.macClrcnt rqid m) s =
      meaning (okMacClrcnt rqid m) "MAC_CLRCNT" (.core rqid) (cmdWrite rqid (0x10 + m) (macClrcnt m)) s := rfl
theorem exec_macAnrestart (rqid m : Nat) (s : State) :
    exec (.macAnrestart rqid m) s =
      meaning (okMacAnrestart rqid m) "MAC_ANRESTART" (.core rqid) (cmdWrite rqid (0x10 + m) (macAnrestart m)) s := rfl
theorem exec_macVerify (rqid m : Nat) (s : State) :
    exec (.macVerify rqid m) s =
      meaning (okMacVerify rqid m) "MAC_VERIFY" (.core rqid) (cmdWrite rqid (0x10 + m) (macVerify m)) s := rfl
theorem exec_hIngress (f : Frame) (cls : Nat) (ipReq udpReq : Bool) (sid inst : Option Nat) (s : State) :
    exec (.hIngress f cls ipReq udpReq sid inst) s =
      meaning (okHIngress cls sid inst) "H_INGRESS" .run (hostFrame f cls ipReq udpReq sid inst) s := rfl
theorem exec_serSend (rqid : Nat) (inst : Option Nat) (p : Nat) (s : State) :
    exec (.serSend rqid inst p) s =
      meaning (okSerSend rqid inst p) "SER_SEND" (.core rqid) (match inst with | some n => subCmdWrite rqid 0x36 n 0x1F0 0x1F4 (serSend rqid p) | none => cmdWrite rqid 0x36 (serSend rqid p)) s := rfl
theorem exec_serRxpop (rqid : Nat) (inst : Option Nat) (p : Nat) (s : State) :
    exec (.serRxpop rqid inst p) s =
      meaning (okSerRxpop rqid inst p) "SER_RXPOP" (.core rqid) (match inst with | some n => subCmdWrite rqid 0x36 n 0x1F0 0x1F4 (serPop rqid p) | none => cmdWrite rqid 0x36 (serPop rqid p)) s := rfl
theorem exec_serAbort (rqid : Nat) (inst : Option Nat) (p : Nat) (s : State) :
    exec (.serAbort rqid inst p) s =
      meaning (okSerAbort rqid inst p) "SER_ABORT" (.core rqid) (match inst with | some n => subCmdWrite rqid 0x36 n 0x1F0 0x1F4 (serAbort rqid p) | none => cmdWrite rqid 0x36 (serAbort rqid p)) s := rfl
theorem exec_serCharacterReceive (p : Nat) (x : Byte) (pbit framing brk : Bool) (s : State) :
    exec (.serCharacterReceive p x pbit framing brk) s =
      meaning (okSerCharacterReceive p) "SER_CHARACTER_RECEIVE" .shed (serChar p x pbit framing brk) s := rfl
theorem exec_serGapSilence (p : Nat) (s : State) :
    exec (.serGapSilence p) s =
      meaning (okSerGapSilence p) "SER_GAP_SILENCE" .shed (serGap p) s := rfl
theorem exec_serEndSilence (p : Nat) (s : State) :
    exec (.serEndSilence p) s =
      meaning (okSerEndSilence p) "SER_END_SILENCE" .shed (serEnd p) s := rfl
theorem exec_serIdleReady (p : Nat) (s : State) :
    exec (.serIdleReady p) s =
      meaning (okSerIdleReady p) "SER_IDLE_READY" .shed (serIdle p) s := rfl
theorem exec_serLeadEnd (p : Nat) (s : State) :
    exec (.serLeadEnd p) s =
      meaning (okSerLeadEnd p) "SER_LEAD_END" .shed (serLeadEnd p) s := rfl
theorem exec_serLagEnd (p : Nat) (s : State) :
    exec (.serLagEnd p) s =
      meaning (okSerLagEnd p) "SER_LAG_END" .shed (serLagEnd p) s := rfl
theorem exec_serReplyTimeout (p : Nat) (s : State) :
    exec (.serReplyTimeout p) s =
      meaning (okSerReplyTimeout p) "SER_REPLY_TIMEOUT" .shed (serTimeout p) s := rfl
theorem exec_switchForward (s : State) :
    exec (.switchForward) s =
      meaning true "SWITCH_FORWARD" .run (switchForward) s := rfl
theorem exec_cutThrough (m : Nat) (f : Frame) (s : State) :
    exec (.cutThrough m f) s =
      meaning (okCutThrough m) "CUT_THROUGH" .run (cutThrough m f) s := rfl
theorem exec_cutThroughEnd (o : Nat) (e : CtEnd) (s : State) :
    exec (.cutThroughEnd o e) s =
      meaning (okCutThroughEnd o) "CUT_THROUGH_END" .run (cutEnd o e) s := rfl
theorem exec_fdbAgeing (s : State) :
    exec (.fdbAgeing) s =
      meaning true "FDB_AGEING" .run (fdbAge) s := rfl
theorem exec_filterWindow (s : State) :
    exec (.filterWindow) s =
      meaning true "FILTER_WINDOW" .run (filterWindow) s := rfl
theorem exec_swcTread (rqid t : Nat) (s : State) :
    exec (.swcTread rqid t) s =
      meaning (okSwcTread rqid t) "SWC_TREAD" (.core rqid) (cmdWrite rqid 0x20 (swcTread t)) s := rfl
theorem exec_swcTwrite (rqid t : Nat) (s : State) :
    exec (.swcTwrite rqid t) s =
      meaning (okSwcTwrite rqid t) "SWC_TWRITE" (.core rqid) (cmdWrite rqid 0x20 (swcTwrite t)) s := rfl
theorem exec_swcFlush (rqid vid : Nat) (s : State) :
    exec (.swcFlush rqid vid) s =
      meaning (okSwcFlush rqid vid) "SWC_FLUSH" (.core rqid) (cmdWrite rqid 0x20 (swcFlush vid)) s := rfl
theorem exec_swcClrcnt (rqid : Nat) (s : State) :
    exec (.swcClrcnt rqid) s =
      meaning (okSwcClrcnt rqid) "SWC_CLRCNT" (.core rqid) (cmdWrite rqid 0x20 (swcClrcnt)) s := rfl
theorem exec_prpSupervision (p : Nat) (s : State) :
    exec (.prpSupervision p) s =
      meaning (okPrpSupervision p) "PRP_SUPERVISION" .run (supervision p) s := rfl
theorem exec_prpNodeForget (s : State) :
    exec (.prpNodeForget) s =
      meaning true "PRP_NODE_FORGET" .run (nodeForget) s := rfl
theorem exec_prpForget (s : State) :
    exec (.prpForget) s =
      meaning true "PRP_FORGET" .run (prpForget) s := rfl
theorem exec_prpClrcnt (rqid : Nat) (s : State) :
    exec (.prpClrcnt rqid) s =
      meaning (okPrpClrcnt rqid) "PRP_CLRCNT" (.core rqid) (cmdWrite rqid 0x21 (prpClrcnt)) s := rfl
theorem exec_prpFlushnodes (rqid : Nat) (s : State) :
    exec (.prpFlushnodes rqid) s =
      meaning (okPrpFlushnodes rqid) "PRP_FLUSHNODES" (.core rqid) (cmdWrite rqid 0x21 (prpFlushnodes)) s := rfl
theorem exec_ppsInEdge (t : Nat) (s : State) :
    exec (.ppsInEdge t) s =
      meaning true "PPS_IN_EDGE" .run (ppsInEdge t) s := rfl
theorem exec_irigFrame (t : Nat) (f : Irig) (s : State) :
    exec (.irigFrame t f) s =
      meaning true "IRIG_FRAME" .run (irigFrame t f) s := rfl
theorem exec_ptpReceive (o rx : Nat) (m : PtpMsg) (s : State) :
    exec (.ptpReceive o rx m) s =
      meaning (okPtpReceive o) "PTP_RECEIVE" .run (ptpReceive o rx m) s := rfl
theorem exec_ptpInterval (o : Nat) (tick : PtpTick) (s : State) :
    exec (.ptpInterval o tick) s =
      meaning (okPtpInterval o) "PTP_INTERVAL" .run (ptpTick o tick) s := rfl
theorem exec_sourceLoss (s : State) :
    exec (.sourceLoss) s =
      meaning true "SOURCE_LOSS" .run (sourceLoss) s := rfl
theorem exec_holdoverBound (s : State) :
    exec (.holdoverBound) s =
      meaning true "HOLDOVER_BOUND" .run (holdoverBound) s := rfl
theorem exec_timStep (rqid : Nat) (s : State) :
    exec (.timStep rqid) s =
      meaning (okTimStep rqid) "TIM_STEP" (.core rqid) (cmdWrite rqid 0x24 (timStep)) s := rfl
theorem exec_timStepcancel (rqid : Nat) (s : State) :
    exec (.timStepcancel rqid) s =
      meaning (okTimStepcancel rqid) "TIM_STEPCANCEL" (.core rqid) (cmdWrite rqid 0x24 (timStepcancel)) s := rfl
theorem exec_timTxqclr (rqid : Nat) (s : State) :
    exec (.timTxqclr rqid) s =
      meaning (okTimTxqclr rqid) "TIM_TXQCLR" (.core rqid) (cmdWrite rqid 0x24 (timTxqclr)) s := rfl
theorem exec_timRelock (rqid : Nat) (s : State) :
    exec (.timRelock rqid) s =
      meaning (okTimRelock rqid) "TIM_RELOCK" (.core rqid) (cmdWrite rqid 0x24 (timRelock)) s := rfl
theorem exec_timCmptgtWrite (rqid : Nat) (inst : Option Nat) (i v : Nat) (s : State) :
    exec (.timCmptgtWrite rqid inst i v) s =
      meaning (okTimCmptgtWrite rqid inst i v) "TIM_CMPTGT_WRITE" (.core rqid) (cmpTgtWrite rqid inst i v) s := rfl
theorem exec_timCmpperWrite (rqid : Nat) (inst : Option Nat) (i v : Nat) (s : State) :
    exec (.timCmpperWrite rqid inst i v) s =
      meaning (okTimCmpperWrite rqid inst i v) "TIM_CMPPER_WRITE" (.core rqid) (cmpPerWrite rqid inst i v) s := rfl
theorem exec_compareFire (i : Nat) (s : State) :
    exec (.compareFire i) s =
      meaning (okCompareFire i) "COMPARE_FIRE" .shed (cmpFire i) s := rfl
theorem exec_comparePulseEnd (i : Nat) (s : State) :
    exec (.comparePulseEnd i) s =
      meaning (okComparePulseEnd i) "COMPARE_PULSE_END" .run (cmpPulseEnd i) s := rfl
theorem exec_ppsOutRise (s : State) :
    exec (.ppsOutRise) s =
      meaning true "PPS_OUT_RISE" .shed (ppsRise) s := rfl
theorem exec_ppsOutFall (s : State) :
    exec (.ppsOutFall) s =
      meaning true "PPS_OUT_FALL" .run (ppsFall) s := rfl
theorem exec_timSecLoRead (rqid : Nat) (s : State) :
    exec (.timSecLoRead rqid) s =
      meaning (okTimSecLoRead rqid) "TIM_SEC_LO_READ" (.core rqid) (timSecRead rqid) s := rfl
theorem exec_timTxq0Read (rqid : Nat) (s : State) :
    exec (.timTxq0Read rqid) s =
      meaning (okTimTxq0Read rqid) "TIM_TXQ0_READ" (.core rqid) (timTxq0Read rqid) s := rfl
theorem exec_timTxq2Read (rqid : Nat) (s : State) :
    exec (.timTxq2Read rqid) s =
      meaning (okTimTxq2Read rqid) "TIM_TXQ2_READ" (.core rqid) (timTxq2Read rqid) s := rfl
theorem exec_sviStreamFrame (f : Frame) (port rx : Nat) (s : State) :
    exec (.sviStreamFrame f port rx) s =
      meaning (okSviStreamFrame port) "SVI_STREAM_FRAME" .run (sviStreamFrame f port rx) s := rfl
theorem exec_sviRelayFrame (f : Frame) (port rx : Nat) (s : State) :
    exec (.sviRelayFrame f port rx) s =
      meaning (okSviRelayFrame port) "SVI_RELAY_FRAME" .run (sviRelayFrame f port rx) s := rfl
theorem exec_sviGooseFrame (f : Frame) (rx : Nat) (s : State) :
    exec (.sviGooseFrame f rx) s =
      meaning true "SVI_GOOSE_FRAME" .run (sviGooseFrame f rx) s := rfl
theorem exec_gooseStale (i : Nat) (s : State) :
    exec (.gooseStale i) s =
      meaning (okGooseStale i) "GOOSE_STALE" .run (gooseStale i) s := rfl
theorem exec_sviTread (rqid t : Nat) (s : State) :
    exec (.sviTread rqid t) s =
      meaning (okSviTread rqid t) "SVI_TREAD" (.core rqid) (cmdWrite rqid 0x28 (sviTread t)) s := rfl
theorem exec_sviTwrite (rqid t : Nat) (s : State) :
    exec (.sviTwrite rqid t) s =
      meaning (okSviTwrite rqid t) "SVI_TWRITE" (.core rqid) (cmdWrite rqid 0x28 (sviTwrite t)) s := rfl
theorem exec_sviClrcnt (rqid entry : Nat) (goose : Bool) (s : State) :
    exec (.sviClrcnt rqid entry goose) s =
      meaning (okSviClrcnt rqid entry) "SVI_CLRCNT" (.core rqid) (cmdWrite rqid 0x28 (sviClrcnt entry goose)) s := rfl
theorem exec_sviSimWrite (rqid v : Nat) (s : State) :
    exec (.sviSimWrite rqid v) s =
      meaning (okSviSimWrite rqid v) "SVI_SIM_WRITE" (.core rqid) (sviSimWrite rqid v) s := rfl
theorem exec_aapSample (vs k : Nat) (l : List AapIn) (s : State) :
    exec (.aapSample vs k l) s =
      meaning (okAapSample vs) "AAP_SAMPLE" .run (aapSample vs k l) s := rfl
theorem exec_aapStuck (i : Nat) (low : Bool) (s : State) :
    exec (.aapStuck i low) s =
      meaning (okAapStuck i) "AAP_STUCK" .run (aapStuck i low) s := rfl
theorem exec_aapRecover (i : Nat) (low : Bool) (s : State) :
    exec (.aapRecover i low) s =
      meaning (okAapRecover i) "AAP_RECOVER" .run (aapRecover i low) s := rfl
theorem exec_aapClrcnt (rqid : Nat) (s : State) :
    exec (.aapClrcnt rqid) s =
      meaning (okAapClrcnt rqid) "AAP_CLRCNT" (.core rqid) (cmdWrite rqid 0x2A (aapClrcnt)) s := rfl
theorem exec_slotClaim (sec : Bool) (s : State) :
    exec (.slotClaim sec) s =
      meaning true "SLOT_CLAIM" .shed (slotClaim sec) s := rfl
theorem exec_samplePlace (s : State) :
    exec (.samplePlace) s =
      meaning true "SAMPLE_PLACE" .run (samplePlace) s := rfl
theorem exec_localRelease (sec : Bool) (s : State) :
    exec (.localRelease sec) s =
      meaning true "LOCAL_RELEASE" .shed (fun b => drain (localRelease sec b)) s := rfl
theorem exec_spanPh1Receive (sec : Bool) (k bm : Nat) (revs : List RevRec) (s : State) :
    exec (.spanPh1Receive sec k bm revs) s =
      meaning true "SPAN_PH1_RECEIVE" .run (fun b => drain (ph1Receive sec k bm revs b)) s := rfl
theorem exec_spanPh2Receive (sec : Bool) (k : Nat) (runs : List Run) (more : Bool) (s : State) :
    exec (.spanPh2Receive sec k runs more) s =
      meaning true "SPAN_PH2_RECEIVE" .run (fun b => drain (ph2Receive sec k runs more b)) s := rfl
theorem exec_spanPh3Receive (sec : Bool) (k digest : Nat) (s : State) :
    exec (.spanPh3Receive sec k digest) s =
      meaning true "SPAN_PH3_RECEIVE" .run (fun b => drain (ph3Receive sec k digest b)) s := rfl
theorem exec_agreementTimeout (sec : Bool) (s : State) :
    exec (.agreementTimeout sec) s =
      meaning true "AGREEMENT_TIMEOUT" .run (fun b => drain (agreeTimeout sec b)) s := rfl
theorem exec_gleanClose (sec : Bool) (s : State) :
    exec (.gleanClose sec) s =
      meaning true "GLEAN_CLOSE" .shed (fun b => drain (gleanClose sec b)) s := rfl
theorem exec_spanSettleReceive (sec : Bool) (k : Nat) (part : SettlePart) (s : State) :
    exec (.spanSettleReceive sec k part) s =
      meaning true "SPAN_SETTLE_RECEIVE" .run (fun b => drain (settleReceive sec k part b)) s := rfl
theorem exec_settleTimeout (sec : Bool) (s : State) :
    exec (.settleTimeout sec) s =
      meaning true "SETTLE_TIMEOUT" .run (fun b => drain (settleTimeout sec b)) s := rfl
theorem exec_alnClrcnt (rqid : Nat) (s : State) :
    exec (.alnClrcnt rqid) s =
      meaning (okAlnClrcnt rqid) "ALN_CLRCNT" (.core rqid) (cmdWrite rqid 0x29 (alnClrcnt)) s := rfl
theorem exec_pheListComplete (u first : Nat) (s : State) :
    exec (.pheListComplete u first) s =
      meaning (okPheListComplete u first) "PHE_LIST_COMPLETE" .run (listComplete u first) s := rfl
theorem exec_pheTread (rqid : Nat) (inst : Option Nat) (t : Nat) (s : State) :
    exec (.pheTread rqid inst t) s =
      meaning (okPheTread rqid inst t) "PHE_TREAD" (.core rqid) (match inst with | some n => subCmdWrite rqid 0x2C n 0x1F0 0x1F4 (pheITread n t) | none => cmdWrite rqid 0x2C (pheTread t)) s := rfl
theorem exec_pheTwrite (rqid : Nat) (inst : Option Nat) (t : Nat) (s : State) :
    exec (.pheTwrite rqid inst t) s =
      meaning (okPheTwrite rqid inst t) "PHE_TWRITE" (.core rqid) (match inst with | some n => subCmdWrite rqid 0x2C n 0x1F0 0x1F4 (pheITwrite n t) | none => cmdWrite rqid 0x2C (pheTwrite t)) s := rfl
theorem exec_pheClrcnt (rqid : Nat) (s : State) :
    exec (.pheClrcnt rqid) s =
      meaning (okPheClrcnt rqid) "PHE_CLRCNT" (.core rqid) (cmdWrite rqid 0x2C (pheClrcnt)) s := rfl
theorem exec_windowOpen (core : Nat) (ctx : List Byte) (s : State) :
    exec (.windowOpen core ctx) s =
      meaning (okWindowOpen core) "WINDOW_OPEN" .shed (windowOpen core ctx) s := rfl
theorem exec_windowClose (core insns : Nat) (s : State) :
    exec (.windowClose core insns) s =
      meaning (okWindowClose core) "WINDOW_CLOSE" .run (windowClose core insns) s := rfl
theorem exec_imageCopyDone (core : Nat) (s : State) :
    exec (.imageCopyDone core) s =
      meaning (okImageCopyDone core) "IMAGE_COPY_DONE" .run (imageCopyDone core) s := rfl
theorem exec_zdone (core code insns : Nat) (s : State) :
    exec (.zdone core code insns) s =
      meaning (okZdone core code) "ZDONE" .run (zdone core code insns) s := rfl
theorem exec_zyield (core insns : Nat) (s : State) :
    exec (.zyield core insns) s =
      meaning (okZyield core) "ZYIELD" .run (zyield core insns) s := rfl
theorem exec_taskTrap (core insns : Nat) (s : State) :
    exec (.taskTrap core insns) s =
      meaning (okTaskTrap core) "TASK_TRAP" .run (taskTrap core insns) s := rfl
theorem exec_deadlineGuard (t insns : Nat) (s : State) :
    exec (.deadlineGuard t insns) s =
      meaning (okDeadlineGuard t) "DEADLINE_GUARD" .run (deadlineGuard t insns) s := rfl
theorem exec_lRelease (t : Nat) (s : State) :
    exec (.lRelease t) s =
      meaning (okLRelease t) "L_RELEASE" .shed (lRelease t) s := rfl
theorem exec_schStart (rqid : Nat) (s : State) :
    exec (.schStart rqid) s =
      meaning (okSchStart rqid) "SCH_START" (.core rqid) (cmdWrite rqid 0x30 (schStart)) s := rfl
theorem exec_schStop (rqid : Nat) (s : State) :
    exec (.schStop rqid) s =
      meaning (okSchStop rqid) "SCH_STOP" (.core rqid) (cmdWrite rqid 0x30 (schStop)) s := rfl
theorem exec_schTread (rqid t : Nat) (s : State) :
    exec (.schTread rqid t) s =
      meaning (okSchTread rqid t) "SCH_TREAD" (.core rqid) (cmdWrite rqid 0x30 (schTread t)) s := rfl
theorem exec_schTwrite (rqid t : Nat) (s : State) :
    exec (.schTwrite rqid t) s =
      meaning (okSchTwrite rqid t) "SCH_TWRITE" (.core rqid) (cmdWrite rqid 0x30 (schTwrite t)) s := rfl
theorem exec_schClrcnt (rqid t : Nat) (all : Bool) (s : State) :
    exec (.schClrcnt rqid t all) s =
      meaning (okSchClrcnt rqid t) "SCH_CLRCNT" (.core rqid) (cmdWrite rqid 0x30 (schClrcnt t all)) s := rfl
theorem exec_vimShare (rqid : Nat) (s : State) :
    exec (.vimShare rqid) s =
      meaning (okVimShare rqid) "VIM_SHARE" (.core rqid) (cmdWrite rqid 0x31 (vimAsk 0 0)) s := rfl
theorem exec_vimCancelshare (rqid : Nat) (s : State) :
    exec (.vimCancelshare rqid) s =
      meaning (okVimCancelshare rqid) "VIM_CANCELSHARE" (.core rqid) (cmdWrite rqid 0x31 (vimCancelshare)) s := rfl
theorem exec_vimStart (rqid n : Nat) (s : State) :
    exec (.vimStart rqid n) s =
      meaning (okVimStart rqid n) "VIM_START" (.core rqid) (cmdWrite rqid 0x31 (vimAsk 1 n)) s := rfl
theorem exec_vimQuiesce (rqid n : Nat) (s : State) :
    exec (.vimQuiesce rqid n) s =
      meaning (okVimQuiesce rqid n) "VIM_QUIESCE" (.core rqid) (cmdWrite rqid 0x31 (vimQuiesce n)) s := rfl
theorem exec_vimResume (rqid n : Nat) (s : State) :
    exec (.vimResume rqid n) s =
      meaning (okVimResume rqid n) "VIM_RESUME" (.core rqid) (cmdWrite rqid 0x31 (vimAsk 2 n)) s := rfl
theorem exec_vimReset (rqid n : Nat) (s : State) :
    exec (.vimReset rqid n) s =
      meaning (okVimReset rqid n) "VIM_RESET" (.core rqid) (cmdWrite rqid 0x31 (vimReset n)) s := rfl
theorem exec_vimForceReset (rqid n : Nat) (begun : List (Nat × Nat)) (s : State) :
    exec (.vimForceReset rqid n begun) s =
      meaning (okVimForceReset rqid n) "VIM_FORCE_RESET" (.core rqid) (cmdWrite rqid 0x31 (vimForceReset n begun)) s := rfl
theorem exec_vimMap (rqid : Nat) (s : State) :
    exec (.vimMap rqid) s =
      meaning (okVimMap rqid) "VIM_MAP" (.core rqid) (cmdWrite rqid 0x31 (vimMap)) s := rfl
theorem exec_vimUnmap (rqid : Nat) (s : State) :
    exec (.vimUnmap rqid) s =
      meaning (okVimUnmap rqid) "VIM_UNMAP" (.core rqid) (cmdWrite rqid 0x31 (vimUnmap)) s := rfl
theorem exec_vimTread (rqid t : Nat) (s : State) :
    exec (.vimTread rqid t) s =
      meaning (okVimTread rqid t) "VIM_TREAD" (.core rqid) (cmdWrite rqid 0x31 (vimTread t)) s := rfl
theorem exec_vimTwrite (rqid t : Nat) (s : State) :
    exec (.vimTwrite rqid t) s =
      meaning (okVimTwrite rqid t) "VIM_TWRITE" (.core rqid) (cmdWrite rqid 0x31 (vimTwrite t)) s := rfl
theorem exec_shareHarrowDone (fails : List Upset) (us : Nat) (s : State) :
    exec (.shareHarrowDone fails us) s =
      meaning true "SHARE_HARROW_DONE" .run (shareHarrowDone fails us) s := rfl
theorem exec_quiesceDrained (n : Nat) (s : State) :
    exec (.quiesceDrained n) s =
      meaning (okQuiesceDrained n) "QUIESCE_DRAINED" .run (quiesced n) s := rfl
theorem exec_quiesceTimeout (n : Nat) (s : State) :
    exec (.quiesceTimeout n) s =
      meaning (okQuiesceTimeout n) "QUIESCE_TIMEOUT" .run (quiesceTimeout n) s := rfl
theorem exec_instanceResetDone (n : Nat) (fails : List Upset) (us : Nat) (s : State) :
    exec (.instanceResetDone n fails us) s =
      meaning (okInstanceResetDone n) "INSTANCE_RESET_DONE" .run (instanceResetDone n fails us) s := rfl
theorem exec_dmaDoorbell (rqid ring tail : Nat) (s : State) :
    exec (.dmaDoorbell rqid ring tail) s =
      meaning (okDmaDoorbell rqid ring tail) "DMA_DOORBELL" (.core rqid) (dmaDoorbell rqid ring tail) s := rfl
theorem exec_dmaFetch (ring : Nat) (s : State) :
    exec (.dmaFetch ring) s =
      meaning (okDmaFetch ring) "DMA_FETCH" .run (dmaFetch ring) s := rfl
theorem exec_dmaDescriptorStart (ring : Nat) (s : State) :
    exec (.dmaDescriptorStart ring) s =
      meaning (okDmaDescriptorStart ring) "DMA_DESCRIPTOR_START" .run (dmaStart ring) s := rfl
theorem exec_dmaBurst (chan : Nat) (s : State) :
    exec (.dmaBurst chan) s =
      meaning (okDmaBurst chan) "DMA_BURST" .run (dmaBurst chan) s := rfl
theorem exec_dmaClrcnt (rqid : Nat) (s : State) :
    exec (.dmaClrcnt rqid) s =
      meaning (okDmaClrcnt rqid) "DMA_CLRCNT" (.core rqid) (cmdWrite rqid 0x32 (dmaClrcnt)) s := rfl
theorem exec_dplClrcnt (rqid : Nat) (s : State) :
    exec (.dplClrcnt rqid) s =
      meaning (okDplClrcnt rqid) "DPL_CLRCNT" (.core rqid) (cmdWrite rqid 0x33 (dplClrcnt)) s := rfl
theorem exec_gooseRetransmit (p : Nat) (s : State) :
    exec (.gooseRetransmit p) s =
      meaning (okGooseRetransmit p) "GOOSE_RETRANSMIT" .run (gooseRetransmit p) s := rfl
theorem exec_minonExpiry (j : Nat) (s : State) :
    exec (.minonExpiry j) s =
      meaning (okMinonExpiry j) "MINON_EXPIRY" .run (minonExpiry j) s := rfl
theorem exec_binAccept (i : Nat) (s : State) :
    exec (.binAccept i) s =
      meaning (okBinAccept i) "BIN_ACCEPT" .run (binAccept i) s := rfl
theorem exec_chatterWindowEnd (i : Nat) (s : State) :
    exec (.chatterWindowEnd i) s =
      meaning (okChatterWindowEnd i) "CHATTER_WINDOW_END" .run (chatterEnd i) s := rfl
theorem exec_supervisionFilter (j : Nat) (s : State) :
    exec (.supervisionFilter j) s =
      meaning (okSupervisionFilter j) "SUPERVISION_FILTER" .run (supFilter j) s := rfl
theorem exec_pubTread (rqid t : Nat) (s : State) :
    exec (.pubTread rqid t) s =
      meaning (okPubTread rqid t) "PUB_TREAD" (.core rqid) (cmdWrite rqid 0x34 (pubTread t)) s := rfl
theorem exec_pubTwrite (rqid t : Nat) (s : State) :
    exec (.pubTwrite rqid t) s =
      meaning (okPubTwrite rqid t) "PUB_TWRITE" (.core rqid) (cmdWrite rqid 0x34 (pubTwrite t)) s := rfl
theorem exec_pubClrcnt (rqid : Nat) (s : State) :
    exec (.pubClrcnt rqid) s =
      meaning (okPubClrcnt rqid) "PUB_CLRCNT" (.core rqid) (cmdWrite rqid 0x34 (pubClrcnt)) s := rfl
theorem exec_bioClrcnt (rqid : Nat) (s : State) :
    exec (.bioClrcnt rqid) s =
      meaning (okBioClrcnt rqid) "BIO_CLRCNT" (.core rqid) (cmdWrite rqid 0x35 (bioClrcnt)) s := rfl
theorem exec_bioBinq0Read (rqid : Nat) (s : State) :
    exec (.bioBinq0Read rqid) s =
      meaning (okBioBinq0Read rqid) "BIO_BINQ0_READ" (.core rqid) (binq0Read rqid) s := rfl
theorem exec_bioBinq2Read (rqid : Nat) (s : State) :
    exec (.bioBinq2Read rqid) s =
      meaning (okBioBinq2Read rqid) "BIO_BINQ2_READ" (.core rqid) (binq2Read rqid) s := rfl
theorem exec_heartbeatSend (s : State) :
    exec (.heartbeatSend) s =
      meaning true "HEARTBEAT_SEND" .run (heartbeatSend) s := rfl
theorem exec_spanHeartbeatReceive (lane : Nat) (h : Heartbeat) (s : State) :
    exec (.spanHeartbeatReceive lane h) s =
      meaning (okSpanHeartbeatReceive lane) "SPAN_HEARTBEAT_RECEIVE" .run (fun b => drain (heartbeatReceive lane h b)) s := rfl
theorem exec_laneTimeout (lane : Nat) (s : State) :
    exec (.laneTimeout lane) s =
      meaning (okLaneTimeout lane) "LANE_TIMEOUT" .run (laneTimeout lane) s := rfl
theorem exec_spanLost (s : State) :
    exec (.spanLost) s =
      meaning true "SPAN_LOST" .run (fun b => drain (spanLostEv b)) s := rfl
theorem exec_helloSend (s : State) :
    exec (.helloSend) s =
      meaning true "HELLO_SEND" .run (helloSend) s := rfl
theorem exec_helloReceive (h : Hello) (s : State) :
    exec (.helloReceive h) s =
      meaning true "HELLO_RECEIVE" .run (helloReceive h) s := rfl
theorem exec_pairedJoin (s : State) :
    exec (.pairedJoin) s =
      meaning true "PAIRED_JOIN" .run (pairedJoin) s := rfl
theorem exec_resyncReceive (seq : Nat) (abs : List (Nat × Nat)) (pubs : List PubSync) (s : State) :
    exec (.resyncReceive seq abs pubs) s =
      meaning (okResyncReceive seq) "RESYNC_RECEIVE" .run (resyncReceive seq abs pubs) s := rfl
theorem exec_framedigReceive (l : List FrameRec) (s : State) :
    exec (.framedigReceive l) s =
      meaning true "FRAMEDIG_RECEIVE" .run (framedigReceive l) s := rfl
theorem exec_digestPartnerTimeout (s : State) :
    exec (.digestPartnerTimeout) s =
      meaning true "DIGEST_PARTNER_TIMEOUT" .run (digestTimeout) s := rfl
theorem exec_timeSend (s : State) :
    exec (.timeSend) s =
      meaning true "TIME_SEND" .run (timeSend) s := rfl
theorem exec_spanTimeReceive (t1 echo t2 t3 : Nat) (s : State) :
    exec (.spanTimeReceive t1 echo t2 t3) s =
      meaning true "SPAN_TIME_RECEIVE" .run (timeReceive t1 echo t2 t3) s := rfl
theorem exec_noticeReceive (code : Nat) (detail : List Byte) (s : State) :
    exec (.noticeReceive code detail) s =
      meaning (okNoticeReceive code) "NOTICE_RECEIVE" .run (fun b => drain (noticeReceive code detail b)) s := rfl
theorem exec_tunnelReceive (lane : Nat) (f : Frame) (s : State) :
    exec (.tunnelReceive lane f) s =
      meaning (okTunnelReceive lane) "TUNNEL_RECEIVE" .run (tunnelReceive lane f) s := rfl
theorem exec_agreeReceive (kind : Nat) (copyback good : Bool) (idx digest : Nat) (s : State) :
    exec (.agreeReceive kind copyback good idx digest) s =
      meaning (okAgreeReceive kind) "AGREE_RECEIVE" .run (askReceive kind copyback good idx digest) s := rfl
theorem exec_agreeTimeout (s : State) :
    exec (.agreeTimeout) s =
      meaning true "AGREE_TIMEOUT" .run (askTimeout) s := rfl
theorem exec_renewDue (lease : Nat) (s : State) :
    exec (.renewDue lease) s =
      meaning (okRenewDue lease) "RENEW_DUE" .run (fun b => if lease = 0 then renewDue b else renewDue1 b) s := rfl
theorem exec_renewRetry (lease : Nat) (s : State) :
    exec (.renewRetry lease) s =
      meaning (okRenewRetry lease) "RENEW_RETRY" .run (fun b => if lease = 0 then renewRetry b else renewRetry1 b) s := rfl
theorem exec_grantReceive (f : Frame) (s : State) :
    exec (.grantReceive f) s =
      meaning true "GRANT_RECEIVE" .run (grantReceive f) s := rfl
theorem exec_statusReceive (f : Frame) (s : State) :
    exec (.statusReceive f) s =
      meaning true "STATUS_RECEIVE" .run (statusReceive f) s := rfl
theorem exec_leaseExpiry (lease : Nat) (s : State) :
    exec (.leaseExpiry lease) s =
      meaning (okLeaseExpiry lease) "LEASE_EXPIRY" .run (fun b => if lease = 0 then leaseExpiry b else lease1Expiry b) s := rfl
theorem exec_presentSend (s : State) :
    exec (.presentSend) s =
      meaning true "PRESENT_SEND" .run (presentSend) s := rfl
theorem exec_requestRepeat (s : State) :
    exec (.requestRepeat) s =
      meaning true "REQUEST_REPEAT" .run (requestRepeat) s := rfl
theorem exec_statusRemainingExpiry (s : State) :
    exec (.statusRemainingExpiry) s =
      meaning true "STATUS_REMAINING_EXPIRY" .run (statusExpiry) s := rfl
theorem exec_witnessMessage (f : Frame) (s : State) :
    exec (.witnessMessage f) s =
      meaning true "WITNESS_MESSAGE" .run (witnessMessage f) s := rfl
theorem exec_witnessQuarantineEnd (s : State) :
    exec (.witnessQuarantineEnd) s =
      meaning true "WITNESS_QUARANTINE_END" .run (witQuarEnd) s := rfl
theorem exec_twnCheck (rqid : Nat) (inst : Option Nat) (margin : Nat) (s : State) :
    exec (.twnCheck rqid inst margin) s =
      meaning (okTwnCheck rqid inst margin) "TWN_CHECK" (.core rqid) (match inst with | some n => subCmdWrite rqid 0x38 n 0x1F0 0x1F4 (twnCheck (some n) margin) | none => cmdWrite rqid 0x38 (twnCheck none margin)) s := rfl
theorem exec_twnRelease (rqid : Nat) (s : State) :
    exec (.twnRelease rqid) s =
      meaning (okTwnRelease rqid) "TWN_RELEASE" (.core rqid) (cmdWrite rqid 0x38 (twnRelease)) s := rfl
theorem exec_twnRejoin (rqid : Nat) (s : State) :
    exec (.twnRejoin rqid) s =
      meaning (okTwnRejoin rqid) "TWN_REJOIN" (.core rqid) (cmdWrite rqid 0x38 (twnRejoin)) s := rfl
theorem exec_twnClrcnt (rqid : Nat) (s : State) :
    exec (.twnClrcnt rqid) s =
      meaning (okTwnClrcnt rqid) "TWN_CLRCNT" (.core rqid) (cmdWrite rqid 0x38 (twnClrcnt)) s := rfl
theorem exec_noleaseWrite (rqid v : Nat) (s : State) :
    exec (.noleaseWrite rqid v) s =
      meaning (okNoleaseWrite rqid v) "NOLEASE_WRITE" (.core rqid) (noleaseWrite rqid v) s := rfl
theorem exec_announceSend (s : State) :
    exec (.announceSend) s =
      meaning true "ANNOUNCE_SEND" .run (announceSend) s := rfl
theorem exec_candidateSend (s : State) :
    exec (.candidateSend) s =
      meaning true "CANDIDATE_SEND" .run (candidateSend) s := rfl
theorem exec_announceAbsent (s : State) :
    exec (.announceAbsent) s =
      meaning true "ANNOUNCE_ABSENT" .run (announceAbsent) s := rfl
theorem exec_fieldAnnounceReceive (f : Frame) (s : State) :
    exec (.fieldAnnounceReceive f) s =
      meaning true "FIELD_ANNOUNCE_RECEIVE" .run (fieldAnnounceReceive f) s := rfl
theorem exec_epochGraceEnd (s : State) :
    exec (.epochGraceEnd) s =
      meaning true "EPOCH_GRACE_END" .run (epochGraceEnd) s := rfl
theorem exec_fldTread (rqid t : Nat) (s : State) :
    exec (.fldTread rqid t) s =
      meaning (okFldTread rqid t) "FLD_TREAD" (.core rqid) (cmdWrite rqid 0x39 (fldTread t)) s := rfl
theorem exec_fldTwrite (rqid t : Nat) (s : State) :
    exec (.fldTwrite rqid t) s =
      meaning (okFldTwrite rqid t) "FLD_TWRITE" (.core rqid) (cmdWrite rqid 0x39 (fldTwrite t)) s := rfl
theorem exec_fldClrcnt (rqid : Nat) (s : State) :
    exec (.fldClrcnt rqid) s =
      meaning (okFldClrcnt rqid) "FLD_CLRCNT" (.core rqid) (cmdWrite rqid 0x39 (fldClrcnt)) s := rfl
theorem exec_retentiveSaveDone (p : Nat) (good : Bool) (s : State) :
    exec (.retentiveSaveDone p good) s =
      meaning (okRetentiveSaveDone p) "RETENTIVE_SAVE_DONE" .run (retentiveSaveDone p good) s := rfl
theorem exec_lgrTread (rqid t : Nat) (s : State) :
    exec (.lgrTread rqid t) s =
      meaning (okLgrTread rqid t) "LGR_TREAD" (.core rqid) (cmdWrite rqid 0x3C (lgrTread t)) s := rfl
theorem exec_lgrTwrite (rqid t : Nat) (s : State) :
    exec (.lgrTwrite rqid t) s =
      meaning (okLgrTwrite rqid t) "LGR_TWRITE" (.core rqid) (cmdWrite rqid 0x3C (lgrTwrite t)) s := rfl
theorem exec_lgrClrcnt (rqid : Nat) (s : State) :
    exec (.lgrClrcnt rqid) s =
      meaning (okLgrClrcnt rqid) "LGR_CLRCNT" (.core rqid) (cmdWrite rqid 0x3C (lgrClrcnt)) s := rfl
theorem exec_lgrRetclr (rqid p : Nat) (s : State) :
    exec (.lgrRetclr rqid p) s =
      meaning (okLgrRetclr rqid p) "LGR_RETCLR" (.core rqid) (cmdWrite rqid 0x3C (lgrRetclr p)) s := rfl
theorem exec_meteringSheaf (s : State) :
    exec (.meteringSheaf) s =
      meaning true "METERING_SHEAF" .run (meteringSheaf) s := rfl
theorem exec_mtrPeriodicSave (s : State) :
    exec (.mtrPeriodicSave) s =
      meaning true "MTR_PERIODIC_SAVE" .run (mtrPeriodic) s := rfl
theorem exec_mtrSaveDone (good : Bool) (s : State) :
    exec (.mtrSaveDone good) s =
      meaning true "MTR_SAVE_DONE" .run (fun b => powerSettle (mtrSaveDone good b)) s := rfl
theorem exec_mtrSnap (rqid : Nat) (inst : Option Nat) (first count : Nat) (s : State) :
    exec (.mtrSnap rqid inst first count) s =
      meaning (okMtrSnap rqid inst first count) "MTR_SNAP" (.core rqid) (match inst with | some n => subCmdWrite rqid 0x3E n 0x1F0 0x1F4 (mtrISnapCmd n first count) | none => cmdWrite rqid 0x3E (mtrSnapCmd first count)) s := rfl
theorem exec_mtrTread (rqid t : Nat) (s : State) :
    exec (.mtrTread rqid t) s =
      meaning (okMtrTread rqid t) "MTR_TREAD" (.core rqid) (cmdWrite rqid 0x3E (mtrTread t)) s := rfl
theorem exec_mtrTwrite (rqid t : Nat) (s : State) :
    exec (.mtrTwrite rqid t) s =
      meaning (okMtrTwrite rqid t) "MTR_TWRITE" (.core rqid) (cmdWrite rqid 0x3E (mtrTwrite t)) s := rfl
theorem exec_mtrZero (rqid p : Nat) (s : State) :
    exec (.mtrZero rqid p) s =
      meaning (okMtrZero rqid p) "MTR_ZERO" (.core rqid) (cmdWrite rqid 0x3E (mtrZero p)) s := rfl
theorem exec_mtrClrcnt (rqid : Nat) (s : State) :
    exec (.mtrClrcnt rqid) s =
      meaning (okMtrClrcnt rqid) "MTR_CLRCNT" (.core rqid) (cmdWrite rqid 0x3E (mtrClrcnt)) s := rfl
theorem exec_pulseStart (j : Nat) (s : State) :
    exec (.pulseStart j) s =
      meaning (okPulseStart j) "PULSE_START" .run (pulseStart j) s := rfl
theorem exec_pulseEnd (j : Nat) (s : State) :
    exec (.pulseEnd j) s =
      meaning (okPulseEnd j) "PULSE_END" .run (pulseEnd j) s := rfl
theorem exec_plsClrcnt (rqid : Nat) (s : State) :
    exec (.plsClrcnt rqid) s =
      meaning (okPlsClrcnt rqid) "PLS_CLRCNT" (.core rqid) (cmdWrite rqid 0x3F (plsClrcnt)) s := rfl
theorem exec_recordWrite (fails : List Bool) (s : State) :
    exec (.recordWrite fails) s =
      meaning true "RECORD_WRITE" .run (elgStep fails) s := rfl
theorem exec_elgLog (rqid n code sev : Nat) (s : State) :
    exec (.elgLog rqid n code sev) s =
      meaning (okElgLog rqid n code sev) "ELG_LOG" (.core rqid) (subCmdWrite rqid 0x40 n 0x1F0 0x1F4 (elgLog n code sev)) s := rfl
theorem exec_elgClear (rqid : Nat) (s : State) :
    exec (.elgClear rqid) s =
      meaning (okElgClear rqid) "ELG_CLEAR" (.core rqid) (cmdWrite rqid 0x40 (elgClear)) s := rfl
theorem exec_elgClearDone (fails : List Bool) (s : State) :
    exec (.elgClearDone fails) s =
      meaning true "ELG_CLEAR_DONE" .run (elgCleared fails) s := rfl
theorem exec_elgClrcnt (rqid : Nat) (s : State) :
    exec (.elgClrcnt rqid) s =
      meaning (okElgClrcnt rqid) "ELG_CLRCNT" (.core rqid) (cmdWrite rqid 0x40 (elgClrcnt)) s := rfl
theorem exec_holdWrite (rqid v : Nat) (fails : List Bool) (s : State) :
    exec (.holdWrite rqid v fails) s =
      meaning (okHoldWrite rqid v) "HOLD_WRITE" (.core rqid) (holdWrite rqid v fails) s := rfl
theorem exec_holdExpiry (fails : List Bool) (s : State) :
    exec (.holdExpiry fails) s =
      meaning true "HOLD_EXPIRY" .run (holdExpire fails) s := rfl
theorem exec_enclaveCommandDone (s : State) :
    exec (.enclaveCommandDone) s =
      meaning true "ENCLAVE_COMMAND_DONE" .run (keyDone) s := rfl
theorem exec_swapChecksDone (s : State) :
    exec (.swapChecksDone) s =
      meaning true "SWAP_CHECKS_DONE" .run (swapChecksDone) s := rfl
theorem exec_binLevelChange (i : Nat) (level : Bool) (s : State) :
    exec (.binLevelChange i level) s =
      meaning (okBinLevelChange i) "BIN_LEVEL_CHANGE" .any (binLevel i level) s := rfl
theorem exec_drainLevelChange (j : Nat) (high : Bool) (s : State) :
    exec (.drainLevelChange j high) s =
      meaning (okDrainLevelChange j) "DRAIN_LEVEL_CHANGE" .run (drainChange j high) s := rfl

end Sys2Proof.Machine
end

