-- ==== Sys2Proof/Laws/Keys.lean ====
section
/-! SUPPORT. What masking, scrambling and leaf shares give back (R179, R180): a value stored is the value loaded, a share keeps its key. -/

namespace Sys2Proof.Machine

theorem entropy_length (n : Nat) (b : Block) : (entropy n b).1.length = n := by
  induction n generalizing b with
  | zero => rfl
  | succ n ih =>
    rw [entropy]
    have := ih (freshNext b)
    split
    rename_i l b' h
    simp only [h] at this
    simp [this]

/-- Drawing from the entropy source moves the free counter alone. -/
theorem entropy_only (n : Nat) (b : Block) : (entropy n b).2 = { b with free := b.free + n } := by
  induction n generalizing b with
  | zero => rfl
  | succ n ih =>
    rw [entropy]
    have := ih (freshNext b)
    split
    rename_i l b' h
    simp only [h] at this
    rw [this]
    simp only [freshNext, Nat.add_right_comm b.free 1 n, Nat.add_assoc]

theorem xorBytes_length (l m : List Byte) : (xorBytes l m).length = min l.length m.length := by
  induction l generalizing m with
  | nil => simp [xorBytes]
  | cons x l ih => cases m <;> simp [xorBytes, ih]

/-- Masking and unmasking with one string. -/
theorem xorBytes_cancel (l r : List Byte) (h : l.length = r.length) : xorBytes (xorBytes l r) r = l := by
  induction l generalizing r with
  | nil => cases r <;> rfl
  | cons x l ih =>
    cases r with
    | nil => simp at h
    | cons y r => simp [xorBytes, BitVec.xor_assoc, ih r (by simpa using h)]

theorem scrambled_length (sk : List Byte) (w i : Nat) (l : List Byte) : (scrambled sk w i l).length = l.length := by
  induction l generalizing i with
  | nil => rfl
  | cons x l ih => simp [scrambled, ih]

/-- Scrambling twice gives the image back (R179). -/
theorem scrambled_scrambled (sk : List Byte) (w i : Nat) (l : List Byte) : scrambled sk w i (scrambled sk w i l) = l := by
  induction l generalizing i with
  | nil => rfl
  | cons x l ih => simp [scrambled, BitVec.xor_assoc, ih]

/-- A slot loads the value that was stored, whatever share masked it (R179, R180). -/
theorem Slot.load_store (sk : List Byte) (c i : Nat) (v r : List Byte) (h : secretCell c = true → v.length = r.length) :
    (Slot.store sk c i v r).load sk c i = v := by
  by_cases hc : secretCell c = true
  · simp [Slot.store, Slot.load, hc, scrambled_scrambled, xorBytes_cancel v r (h hc)]
  · simp [Slot.store, Slot.load, hc, scrambled_scrambled]

/-- A slot that holds a value is no harrowed slot. -/
theorem Slot.store_isZero (sk : List Byte) (c i : Nat) (v r : List Byte) (h : secretCell c = true → v.length = r.length) :
    (Slot.store sk c i v r).isZero = v.isEmpty := by
  have hl : ∀ l : List Byte, l.isEmpty = decide (l.length = 0) := by intro l; cases l <;> rfl
  by_cases hc : secretCell c = true
  · simp [Slot.store, Slot.isZero, hc, hl, scrambled_length, xorBytes_length, ← h hc]
  · simp [Slot.store, Slot.isZero, hc, hl, scrambled_length]

/-- A leaf keeps its key when it is re-shared (R180). -/
theorem Leaf.share_key (r : List Byte) (l : Leaf) (h : r.length = l.key.length) : (l.share r).key = l.key := by
  simp only [Leaf.share, Leaf.key] at *
  exact xorBytes_cancel _ _ h.symm

/-- A new leaf has the key it was made of. -/
theorem Leaf.make_key (kind keyId nb na : Nat) (key : List Byte) : (Leaf.make kind keyId nb na key).key = key := by
  simp only [Leaf.make, Leaf.key]
  induction key with
  | nil => rfl
  | cons x l ih => simp [List.replicate, xorBytes, ih]

/-- What setting a leaf leaves: the leaf with the same key, every other leaf as it was (R180, R188). -/
theorem leaf_setLeaf_key (h : Nat) (l : Leaf) (b : Block) : (leaf (setLeaf h l b) h).key = l.key := by
  have hn := entropy_length l.key.length b
  simp only [setLeaf, leaf, sget_sset, if_true]
  exact Leaf.share_key _ l hn

theorem leaf_setLeaf_other (h i : Nat) (l : Leaf) (b : Block) (hi : i ≠ h) : leaf (setLeaf h l b) i = leaf b i := by
  have ho := entropy_only l.key.length b
  simp only [setLeaf, leaf, sget_sset, if_neg hi, ho]

end Sys2Proof.Machine
end

