-- ==== Sys2Proof/Laws/Meaning.lean ====
section
/-! SUPPORT. What every meaning answers, and what a command write does once it is granted (R107, R110). -/

namespace Sys2Proof.Machine

/-- A meaning whose guard holds answers its effect. -/
theorem meaning_acts (mn : String) (g : Guard) (f : Block → Block) (s : State) (h : g.holds s.blk = true) :
    meaning true mn g f s = .next { s with blk := f { s.blk with out := [] } } := by
  have h' : g.holds { s.blk with out := [] } = true := h
  simp [meaning, h']

/-- A meaning whose guard fails only takes the outputs away. -/
theorem meaning_rests (mn : String) (g : Guard) (f : Block → Block) (s : State) (h : g.holds s.blk = false) :
    meaning true mn g f s = .next { s with blk := { s.blk with out := [] } } := by
  have h' : g.holds { s.blk with out := [] } = false := h
  simp [meaning, h']

/-- A meaning never faults; it is refused exactly when its operands are no command. -/
theorem meaning_cases (ok : Bool) (mn : String) (g : Guard) (f : Block → Block) (s : State) :
    (ok = true ∧ ∃ b, meaning ok mn g f s = .next { s with blk := b }) ∨
      (ok = false ∧ meaning ok mn g f s = .refused (.illFormed mn)) := by
  cases ok with
  | true =>
    left
    simp only [meaning]
    simp
  | false => right; simp [meaning]

/-- A granted command write at a page where none runs. -/
theorem cmdWrite_taken (rqid p : Nat) (f : Block → Nat × Block) (b : Block) (h : mayWrite b rqid (pg p 0x28))
    (hb : cmdBusy b (pg p 0x2C) = false) :
    cmdWrite rqid p f b =
      (if (f (accept (pg p 0x2C) { b with resp := ⟨.ok, 0⟩ })).1 = 1 then (f (accept (pg p 0x2C) { b with resp := ⟨.ok, 0⟩ })).2
       else complete (pg p 0x2C) (f (accept (pg p 0x2C) { b with resp := ⟨.ok, 0⟩ })).1 (f (accept (pg p 0x2C) { b with resp := ⟨.ok, 0⟩ })).2) := by
  have hb' : cmdBusy { b with resp := ⟨.ok, 0⟩ } (pg p 0x2C) = false := hb
  have hj : (judge b rqid (pg p 0x28) (.word 4) Need.write).status = .ok := h
  simp only [cmdWrite, hj, pageCmd, hb', if_true]
  simp

/-- A granted command write at a sub-page where none runs. -/
theorem subCmdWrite_taken (rqid p n o so : Nat) (f : Block → Nat × Block) (b : Block) (h : mayWrite b rqid (sp n p o))
    (hb : cmdBusy b (sp n p so) = false) :
    subCmdWrite rqid p n o so f b =
      (if (f (accept (sp n p so) { b with resp := ⟨.ok, 0⟩ })).1 = 1 then (f (accept (sp n p so) { b with resp := ⟨.ok, 0⟩ })).2
       else complete (sp n p so) (f (accept (sp n p so) { b with resp := ⟨.ok, 0⟩ })).1
         (f (accept (sp n p so) { b with resp := ⟨.ok, 0⟩ })).2) := by
  have hb' : cmdBusy { b with resp := ⟨.ok, 0⟩ } (sp n p so) = false := hb
  have hj : (judge b rqid (sp n p o) (.word 4) Need.write).status = .ok := h
  simp only [subCmdWrite, hj, subCmd, hb', if_true]
  simp

/-- Access rights do not depend on the outputs. -/
theorem mayWrite_out (b : Block) (o : List Output) (q a : Nat) (h : mayWrite b q a) : mayWrite { b with out := o } q a := by
  cases b; exact h

theorem cmdBusy_out (b : Block) (o : List Output) (a : Nat) : cmdBusy { b with out := o } a = cmdBusy b a := rfl

/-- The block as a command that was taken at the CMDSTAT register `a` finds it. -/
abbrev begun (s : State) (a : Nat) : Block := accept a { s.blk with out := [], resp := ⟨.ok, 0⟩ }

/-- A command word that is taken runs, and ends with the code it answers. -/
theorem cmd_next {c : Instr} {rqid p code : Nat} {s : State} {f : Block → Nat × Block} {ok : Bool} {mn : String} {b' : Block}
    (he : exec c s = meaning ok mn (.core rqid) (cmdWrite rqid p f) s) (hf : cmdFree s.blk rqid p) (hok : rqid < 1024 → ok = true)
    (hx : f (begun s (pg p 0x2C)) = (code, b')) (hc : code ≠ 1) :
    exec c s = .next { s with blk := complete (pg p 0x2C) code b' } := by
  obtain ⟨h1, h2, h3, h4⟩ := hf
  have hx' : f (accept (pg p 0x2C) { { s.blk with out := [] } with resp := ⟨.ok, 0⟩ }) = _ := hx
  have h := cmdWrite_taken rqid p f { s.blk with out := [] } (mayWrite_out _ _ _ _ h3) ((cmdBusy_out ..).trans h4)
  rw [hx'] at h
  rw [he, hok h2, meaning_acts mn (.core rqid) _ s h1, h, if_neg hc]

/-- A command word that is taken and stays running. -/
theorem cmd_next_running {c : Instr} {rqid p : Nat} {s : State} {f : Block → Nat × Block} {ok : Bool} {mn : String} {b' : Block}
    (he : exec c s = meaning ok mn (.core rqid) (cmdWrite rqid p f) s) (hf : cmdFree s.blk rqid p) (hok : rqid < 1024 → ok = true)
    (hx : f (begun s (pg p 0x2C)) = (1, b')) : exec c s = .next { s with blk := b' } := by
  obtain ⟨h1, h2, h3, h4⟩ := hf
  have hx' : f (accept (pg p 0x2C) { { s.blk with out := [] } with resp := ⟨.ok, 0⟩ }) = _ := hx
  have h := cmdWrite_taken rqid p f { s.blk with out := [] } (mayWrite_out _ _ _ _ h3) ((cmdBusy_out ..).trans h4)
  rw [hx'] at h
  rw [he, hok h2, meaning_acts mn (.core rqid) _ s h1, h, if_pos rfl]

/-- A command word that is taken at a sub-page runs, and ends with the code it answers. -/
theorem subCmd_next {c : Instr} {rqid p n o so code : Nat} {s : State} {f : Block → Nat × Block} {ok : Bool} {mn : String} {b' : Block}
    (he : exec c s = meaning ok mn (.core rqid) (subCmdWrite rqid p n o so f) s) (hf : subFree s.blk rqid p n o so)
    (hok : rqid < 1024 → n < 64 → ok = true) (hx : f (begun s (sp n p so)) = (code, b')) (hc : code ≠ 1) :
    exec c s = .next { s with blk := complete (sp n p so) code b' } := by
  obtain ⟨h1, h2, h3, h4, h5⟩ := hf
  have hx' : f (accept (sp n p so) { { s.blk with out := [] } with resp := ⟨.ok, 0⟩ }) = _ := hx
  have h := subCmdWrite_taken rqid p n o so f { s.blk with out := [] } (mayWrite_out _ _ _ _ h4) ((cmdBusy_out ..).trans h5)
  rw [hx'] at h
  rw [he, hok h2 h3, meaning_acts mn (.core rqid) _ s h1, h, if_neg hc]

/-- The tag and code after a command that ended at once. -/
theorem rd_complete_accept (a c : Nat) (b b' : Block) (hc : c < 256) (h : rd b' a = rd (accept a b) a) :
    rd (complete a c b') a = (rd b a / 65536 + 1) % 65536 * 65536 + c := by
  have hb := rd_lt b a
  simp only [complete, rd_wr_same, h, accept]
  omega

/-- The same as a statement says it. -/
theorem answered_complete {s : State} {a c : Nat} {b' : Block} (hc : c < 256) (h : rd b' a = rd (begun s a) a)
    (hr : b'.resp = ⟨.ok, 0⟩) : answered s.blk (complete a c b') a c :=
  ⟨rd_complete_accept a c s.blk b' hc (h.trans rfl), hr⟩

theorem rd_complete_other (a c x : Nat) (b : Block) (h : x ≠ a) : rd (complete a c b) x = rd b x := rd_wr_other _ _ _ _ h

theorem rd_begun_other (s : State) (a x : Nat) (h : x ≠ a) : rd (begun s a) x = rd s.blk x := rd_wr_other _ _ _ _ h

/-- Registers after a list of them was zeroed. -/
theorem rd_zeroRegs (l : List Nat) (b : Block) (a : Nat) : rd (zeroRegs l b) a = if a ∈ l then 0 else rd b a := by
  induction l generalizing b with
  | nil => simp [zeroRegs]
  | cons x t ih =>
    simp only [zeroRegs, ih, rd_wr, List.mem_cons]
    by_cases h : a ∈ t
    · simp [h]
    · by_cases h' : a = x <;> simp [h, h']

/-- Zeroing registers changes nothing but the register store. -/
theorem zeroRegs_only (l : List Nat) (b : Block) : zeroRegs l b = { b with regs := (zeroRegs l b).regs } := by
  induction l generalizing b with
  | nil => rfl
  | cons x t ih => rw [zeroRegs, ih]; rfl

theorem zeroRegs_out (l : List Nat) (b : Block) : ∃ r, zeroRegs l b = { b with regs := r } := ⟨_, zeroRegs_only l b⟩

end Sys2Proof.Machine
end

