-- ==== Sys2Proof/Laws/Mods.lean ====
section
/-! SUPPORT. What a change of one unit's own state leaves: registers, fields, table words, memory bytes, and every other component. -/

namespace Sys2Proof.Machine

/-- Changing one element of a list leaves every other, wherever the list ends. -/
theorem modAt_getD {α : Type} (d : α) (l : List α) (i : Nat) (f : α → α) (j : Nat) :
    (modAt d l i f).getD j d = if j = i then f (l.getD i d) else l.getD j d := by
  simp only [List.getD_eq_getElem?_getD, modAt]
  by_cases h : i < l.length
  · rw [if_pos h, List.getElem?_modify]
    by_cases e : j = i
    · subst e; simp [h]
    · rw [if_neg e]
      simp [Ne.symm e]
  · rw [if_neg h]
    have hi : l[i]? = none := by simp; omega
    by_cases e : j = i
    · subst e
      rw [List.getElem?_append_right (by simp; omega)]
      simp [hi]
      have : j - (l.length + (j - l.length)) = 0 := by omega
      simp [this]
    · rw [if_neg e]
      by_cases hj : j < l.length
      · rw [List.append_assoc, List.getElem?_append_left hj]
      · have hl : l[j]? = none := by simp; omega
        rw [hl, List.append_assoc, List.getElem?_append_right (by omega)]
        by_cases hr : j < i
        · rw [List.getElem?_append_left (by simp; omega), List.getElem?_replicate]; split <;> rfl
        · have : (List.replicate (i - l.length) d ++ [f d])[j - l.length]? = none := by simp; omega
          rw [this]

theorem port_modPort (m : Nat) (f : Port → Port) (b : Block) (i : Nat) : port (modPort m f b) i = if i = m then f (port b m) else port b i :=
  modAt_getD _ _ _ _ _

theorem serial_modSer (p : Nat) (f : Ser → Ser) (b : Block) (i : Nat) : serial (modSer p f b) i = if i = p then f (serial b p) else serial b i :=
  modAt_getD _ _ _ _ _

theorem ptpPort_modPtp (o : Nat) (f : PtpPort → PtpPort) (b : Block) (i : Nat) : ptpPort (modPtp o f b) i = if i = o then f (ptpPort b o) else ptpPort b i :=
  modAt_getD _ _ _ _ _

theorem schCore_modCore (c : Nat) (f : SchCore → SchCore) (b : Block) (i : Nat) : schCore (modCore c f b) i = if i = c then f (schCore b c) else schCore b i :=
  modAt_getD _ _ _ _ _

theorem pheUnit_modUnit (u : Nat) (f : PheUnit → PheUnit) (b : Block) (i : Nat) : pheUnit (modUnit u f b) i = if i = u then f (pheUnit b u) else pheUnit b i :=
  modAt_getD _ _ _ _ _

theorem bioIn_modIn (j : Nat) (f : BioIn → BioIn) (b : Block) (i : Nat) : bioIn (modIn j f b) i = if i = j then f (bioIn b j) else bioIn b i :=
  modAt_getD _ _ _ _ _

theorem bioOut_modOut (j : Nat) (f : BioOut → BioOut) (b : Block) (i : Nat) : bioOut (modOut j f b) i = if i = j then f (bioOut b j) else bioOut b i :=
  modAt_getD _ _ _ _ _

@[simp] theorem rd_modAln (f : Aln → Aln) (b : Block) (a' : Nat) : rd (modAln f b) a' = rd b a' := rfl
@[simp] theorem fget_modAln (f : Aln → Aln) (b : Block) (f' : Fld) : fget (modAln f b) f' = fget b f' := rfl
@[simp] theorem tget_modAln (f : Aln → Aln) (b : Block) (k' : Nat) : tget (modAln f b) k' = tget b k' := rfl
@[simp] theorem mget_modAln (f : Aln → Aln) (b : Block) (a' : Nat) : mget (modAln f b) a' = mget b a' := rfl
@[simp] theorem modAln_part (f : Aln → Aln) (b : Block) : (modAln f b).part = b.part := rfl
@[simp] theorem modAln_time (f : Aln → Aln) (b : Block) : (modAln f b).time = b.time := rfl
@[simp] theorem modAln_free (f : Aln → Aln) (b : Block) : (modAln f b).free = b.free := rfl
@[simp] theorem modAln_regs (f : Aln → Aln) (b : Block) : (modAln f b).regs = b.regs := rfl
@[simp] theorem modAln_tabs (f : Aln → Aln) (b : Block) : (modAln f b).tabs = b.tabs := rfl
@[simp] theorem modAln_bankB (f : Aln → Aln) (b : Block) : (modAln f b).bankB = b.bankB := rfl
@[simp] theorem modAln_instB (f : Aln → Aln) (b : Block) : (modAln f b).instB = b.instB := rfl
@[simp] theorem modAln_mem (f : Aln → Aln) (b : Block) : (modAln f b).mem = b.mem := rfl
@[simp] theorem modAln_poisoned (f : Aln → Aln) (b : Block) : (modAln f b).poisoned = b.poisoned := rfl
@[simp] theorem modAln_uncorr (f : Aln → Aln) (b : Block) : (modAln f b).uncorr = b.uncorr := rfl
@[simp] theorem modAln_corr (f : Aln → Aln) (b : Block) : (modAln f b).corr = b.corr := rfl
@[simp] theorem modAln_hiLatch (f : Aln → Aln) (b : Block) : (modAln f b).hiLatch = b.hiLatch := rfl
@[simp] theorem modAln_heldLow (f : Aln → Aln) (b : Block) : (modAln f b).heldLow = b.heldLow := rfl
@[simp] theorem modAln_resp (f : Aln → Aln) (b : Block) : (modAln f b).resp = b.resp := rfl
@[simp] theorem modAln_out (f : Aln → Aln) (b : Block) : (modAln f b).out = b.out := rfl
@[simp] theorem modAln_actFifo (f : Aln → Aln) (b : Block) : (modAln f b).actFifo = b.actFifo := rfl
@[simp] theorem modAln_memFifo (f : Aln → Aln) (b : Block) : (modAln f b).memFifo = b.memFifo := rfl
@[simp] theorem modAln_evr (f : Aln → Aln) (b : Block) : (modAln f b).evr = b.evr := rfl
@[simp] theorem modAln_elg (f : Aln → Aln) (b : Block) : (modAln f b).elg = b.elg := rfl
@[simp] theorem modAln_pwr (f : Aln → Aln) (b : Block) : (modAln f b).pwr = b.pwr := rfl
@[simp] theorem modAln_bnk (f : Aln → Aln) (b : Block) : (modAln f b).bnk = b.bnk := rfl
@[simp] theorem modAln_shareB (f : Aln → Aln) (b : Block) : (modAln f b).shareB = b.shareB := rfl
@[simp] theorem modAln_granHold (f : Aln → Aln) (b : Block) : (modAln f b).granHold = b.granHold := rfl
@[simp] theorem modAln_flash (f : Aln → Aln) (b : Block) : (modAln f b).flash = b.flash := rfl
@[simp] theorem modAln_key (f : Aln → Aln) (b : Block) : (modAln f b).key = b.key := rfl
@[simp] theorem modAln_trust (f : Aln → Aln) (b : Block) : (modAln f b).trust = b.trust := rfl
@[simp] theorem modAln_start (f : Aln → Aln) (b : Block) : (modAln f b).start = b.start := rfl
@[simp] theorem modAln_net (f : Aln → Aln) (b : Block) : (modAln f b).net = b.net := rfl
@[simp] theorem modAln_ser (f : Aln → Aln) (b : Block) : (modAln f b).ser = b.ser := rfl
@[simp] theorem modAln_txq (f : Aln → Aln) (b : Block) : (modAln f b).txq = b.txq := rfl
@[simp] theorem modAln_evSec (f : Aln → Aln) (b : Block) : (modAln f b).evSec = b.evSec := rfl
@[simp] theorem modAln_twn (f : Aln → Aln) (b : Block) : (modAln f b).twn = b.twn := rfl
@[simp] theorem modAln_tim (f : Aln → Aln) (b : Block) : (modAln f b).tim = b.tim := rfl
@[simp] theorem modAln_ptp (f : Aln → Aln) (b : Block) : (modAln f b).ptp = b.ptp := rfl
@[simp] theorem modAln_svi (f : Aln → Aln) (b : Block) : (modAln f b).svi = b.svi := rfl
@[simp] theorem modAln_aapBelow (f : Aln → Aln) (b : Block) : (modAln f b).aapBelow = b.aapBelow := rfl
@[simp] theorem modAln_aapLowStuck (f : Aln → Aln) (b : Block) : (modAln f b).aapLowStuck = b.aapLowStuck := rfl
@[simp] theorem modAln_spk (f : Aln → Aln) (b : Block) : (modAln f b).spk = b.spk := rfl
@[simp] theorem modAln_fld (f : Aln → Aln) (b : Block) : (modAln f b).fld = b.fld := rfl
@[simp] theorem modAln_phe (f : Aln → Aln) (b : Block) : (modAln f b).phe = b.phe := rfl
@[simp] theorem modAln_bio (f : Aln → Aln) (b : Block) : (modAln f b).bio = b.bio := rfl
@[simp] theorem modAln_pub (f : Aln → Aln) (b : Block) : (modAln f b).pub = b.pub := rfl
@[simp] theorem modAln_sch (f : Aln → Aln) (b : Block) : (modAln f b).sch = b.sch := rfl
@[simp] theorem modAln_lgr (f : Aln → Aln) (b : Block) : (modAln f b).lgr = b.lgr := rfl
@[simp] theorem modAln_vim (f : Aln → Aln) (b : Block) : (modAln f b).vim = b.vim := rfl
@[simp] theorem modAln_dma (f : Aln → Aln) (b : Block) : (modAln f b).dma = b.dma := rfl
@[simp] theorem modAln_ddrHits (f : Aln → Aln) (b : Block) : (modAln f b).ddrHits = b.ddrHits := rfl
@[simp] theorem modAln_errs (f : Aln → Aln) (b : Block) : (modAln f b).errs = b.errs := rfl
@[simp] theorem modAln_remap (f : Aln → Aln) (b : Block) : (modAln f b).remap = b.remap := rfl
@[simp] theorem modAln_mtr (f : Aln → Aln) (b : Block) : (modAln f b).mtr = b.mtr := rfl
@[simp] theorem modAln_aln (f : Aln → Aln) (b : Block) : (modAln f b).aln = f b.aln := rfl

@[simp] theorem rd_modBnk (f : Bnk → Bnk) (b : Block) (a' : Nat) : rd (modBnk f b) a' = rd b a' := rfl
@[simp] theorem fget_modBnk (f : Bnk → Bnk) (b : Block) (f' : Fld) : fget (modBnk f b) f' = fget b f' := rfl
@[simp] theorem tget_modBnk (f : Bnk → Bnk) (b : Block) (k' : Nat) : tget (modBnk f b) k' = tget b k' := rfl
@[simp] theorem mget_modBnk (f : Bnk → Bnk) (b : Block) (a' : Nat) : mget (modBnk f b) a' = mget b a' := rfl
@[simp] theorem modBnk_part (f : Bnk → Bnk) (b : Block) : (modBnk f b).part = b.part := rfl
@[simp] theorem modBnk_time (f : Bnk → Bnk) (b : Block) : (modBnk f b).time = b.time := rfl
@[simp] theorem modBnk_free (f : Bnk → Bnk) (b : Block) : (modBnk f b).free = b.free := rfl
@[simp] theorem modBnk_regs (f : Bnk → Bnk) (b : Block) : (modBnk f b).regs = b.regs := rfl
@[simp] theorem modBnk_tabs (f : Bnk → Bnk) (b : Block) : (modBnk f b).tabs = b.tabs := rfl
@[simp] theorem modBnk_bankB (f : Bnk → Bnk) (b : Block) : (modBnk f b).bankB = b.bankB := rfl
@[simp] theorem modBnk_instB (f : Bnk → Bnk) (b : Block) : (modBnk f b).instB = b.instB := rfl
@[simp] theorem modBnk_mem (f : Bnk → Bnk) (b : Block) : (modBnk f b).mem = b.mem := rfl
@[simp] theorem modBnk_poisoned (f : Bnk → Bnk) (b : Block) : (modBnk f b).poisoned = b.poisoned := rfl
@[simp] theorem modBnk_uncorr (f : Bnk → Bnk) (b : Block) : (modBnk f b).uncorr = b.uncorr := rfl
@[simp] theorem modBnk_corr (f : Bnk → Bnk) (b : Block) : (modBnk f b).corr = b.corr := rfl
@[simp] theorem modBnk_hiLatch (f : Bnk → Bnk) (b : Block) : (modBnk f b).hiLatch = b.hiLatch := rfl
@[simp] theorem modBnk_heldLow (f : Bnk → Bnk) (b : Block) : (modBnk f b).heldLow = b.heldLow := rfl
@[simp] theorem modBnk_resp (f : Bnk → Bnk) (b : Block) : (modBnk f b).resp = b.resp := rfl
@[simp] theorem modBnk_out (f : Bnk → Bnk) (b : Block) : (modBnk f b).out = b.out := rfl
@[simp] theorem modBnk_actFifo (f : Bnk → Bnk) (b : Block) : (modBnk f b).actFifo = b.actFifo := rfl
@[simp] theorem modBnk_memFifo (f : Bnk → Bnk) (b : Block) : (modBnk f b).memFifo = b.memFifo := rfl
@[simp] theorem modBnk_evr (f : Bnk → Bnk) (b : Block) : (modBnk f b).evr = b.evr := rfl
@[simp] theorem modBnk_elg (f : Bnk → Bnk) (b : Block) : (modBnk f b).elg = b.elg := rfl
@[simp] theorem modBnk_pwr (f : Bnk → Bnk) (b : Block) : (modBnk f b).pwr = b.pwr := rfl
@[simp] theorem modBnk_shareB (f : Bnk → Bnk) (b : Block) : (modBnk f b).shareB = b.shareB := rfl
@[simp] theorem modBnk_granHold (f : Bnk → Bnk) (b : Block) : (modBnk f b).granHold = b.granHold := rfl
@[simp] theorem modBnk_flash (f : Bnk → Bnk) (b : Block) : (modBnk f b).flash = b.flash := rfl
@[simp] theorem modBnk_key (f : Bnk → Bnk) (b : Block) : (modBnk f b).key = b.key := rfl
@[simp] theorem modBnk_trust (f : Bnk → Bnk) (b : Block) : (modBnk f b).trust = b.trust := rfl
@[simp] theorem modBnk_start (f : Bnk → Bnk) (b : Block) : (modBnk f b).start = b.start := rfl
@[simp] theorem modBnk_net (f : Bnk → Bnk) (b : Block) : (modBnk f b).net = b.net := rfl
@[simp] theorem modBnk_ser (f : Bnk → Bnk) (b : Block) : (modBnk f b).ser = b.ser := rfl
@[simp] theorem modBnk_txq (f : Bnk → Bnk) (b : Block) : (modBnk f b).txq = b.txq := rfl
@[simp] theorem modBnk_evSec (f : Bnk → Bnk) (b : Block) : (modBnk f b).evSec = b.evSec := rfl
@[simp] theorem modBnk_twn (f : Bnk → Bnk) (b : Block) : (modBnk f b).twn = b.twn := rfl
@[simp] theorem modBnk_tim (f : Bnk → Bnk) (b : Block) : (modBnk f b).tim = b.tim := rfl
@[simp] theorem modBnk_ptp (f : Bnk → Bnk) (b : Block) : (modBnk f b).ptp = b.ptp := rfl
@[simp] theorem modBnk_svi (f : Bnk → Bnk) (b : Block) : (modBnk f b).svi = b.svi := rfl
@[simp] theorem modBnk_aln (f : Bnk → Bnk) (b : Block) : (modBnk f b).aln = b.aln := rfl
@[simp] theorem modBnk_aapBelow (f : Bnk → Bnk) (b : Block) : (modBnk f b).aapBelow = b.aapBelow := rfl
@[simp] theorem modBnk_aapLowStuck (f : Bnk → Bnk) (b : Block) : (modBnk f b).aapLowStuck = b.aapLowStuck := rfl
@[simp] theorem modBnk_spk (f : Bnk → Bnk) (b : Block) : (modBnk f b).spk = b.spk := rfl
@[simp] theorem modBnk_fld (f : Bnk → Bnk) (b : Block) : (modBnk f b).fld = b.fld := rfl
@[simp] theorem modBnk_phe (f : Bnk → Bnk) (b : Block) : (modBnk f b).phe = b.phe := rfl
@[simp] theorem modBnk_bio (f : Bnk → Bnk) (b : Block) : (modBnk f b).bio = b.bio := rfl
@[simp] theorem modBnk_pub (f : Bnk → Bnk) (b : Block) : (modBnk f b).pub = b.pub := rfl
@[simp] theorem modBnk_sch (f : Bnk → Bnk) (b : Block) : (modBnk f b).sch = b.sch := rfl
@[simp] theorem modBnk_lgr (f : Bnk → Bnk) (b : Block) : (modBnk f b).lgr = b.lgr := rfl
@[simp] theorem modBnk_vim (f : Bnk → Bnk) (b : Block) : (modBnk f b).vim = b.vim := rfl
@[simp] theorem modBnk_dma (f : Bnk → Bnk) (b : Block) : (modBnk f b).dma = b.dma := rfl
@[simp] theorem modBnk_ddrHits (f : Bnk → Bnk) (b : Block) : (modBnk f b).ddrHits = b.ddrHits := rfl
@[simp] theorem modBnk_errs (f : Bnk → Bnk) (b : Block) : (modBnk f b).errs = b.errs := rfl
@[simp] theorem modBnk_remap (f : Bnk → Bnk) (b : Block) : (modBnk f b).remap = b.remap := rfl
@[simp] theorem modBnk_mtr (f : Bnk → Bnk) (b : Block) : (modBnk f b).mtr = b.mtr := rfl
@[simp] theorem modBnk_bnk (f : Bnk → Bnk) (b : Block) : (modBnk f b).bnk = f b.bnk := rfl

@[simp] theorem rd_modBio (f : Bio → Bio) (b : Block) (a' : Nat) : rd (modBio f b) a' = rd b a' := rfl
@[simp] theorem fget_modBio (f : Bio → Bio) (b : Block) (f' : Fld) : fget (modBio f b) f' = fget b f' := rfl
@[simp] theorem tget_modBio (f : Bio → Bio) (b : Block) (k' : Nat) : tget (modBio f b) k' = tget b k' := rfl
@[simp] theorem mget_modBio (f : Bio → Bio) (b : Block) (a' : Nat) : mget (modBio f b) a' = mget b a' := rfl
@[simp] theorem modBio_part (f : Bio → Bio) (b : Block) : (modBio f b).part = b.part := rfl
@[simp] theorem modBio_time (f : Bio → Bio) (b : Block) : (modBio f b).time = b.time := rfl
@[simp] theorem modBio_free (f : Bio → Bio) (b : Block) : (modBio f b).free = b.free := rfl
@[simp] theorem modBio_regs (f : Bio → Bio) (b : Block) : (modBio f b).regs = b.regs := rfl
@[simp] theorem modBio_tabs (f : Bio → Bio) (b : Block) : (modBio f b).tabs = b.tabs := rfl
@[simp] theorem modBio_bankB (f : Bio → Bio) (b : Block) : (modBio f b).bankB = b.bankB := rfl
@[simp] theorem modBio_instB (f : Bio → Bio) (b : Block) : (modBio f b).instB = b.instB := rfl
@[simp] theorem modBio_mem (f : Bio → Bio) (b : Block) : (modBio f b).mem = b.mem := rfl
@[simp] theorem modBio_poisoned (f : Bio → Bio) (b : Block) : (modBio f b).poisoned = b.poisoned := rfl
@[simp] theorem modBio_uncorr (f : Bio → Bio) (b : Block) : (modBio f b).uncorr = b.uncorr := rfl
@[simp] theorem modBio_corr (f : Bio → Bio) (b : Block) : (modBio f b).corr = b.corr := rfl
@[simp] theorem modBio_hiLatch (f : Bio → Bio) (b : Block) : (modBio f b).hiLatch = b.hiLatch := rfl
@[simp] theorem modBio_heldLow (f : Bio → Bio) (b : Block) : (modBio f b).heldLow = b.heldLow := rfl
@[simp] theorem modBio_resp (f : Bio → Bio) (b : Block) : (modBio f b).resp = b.resp := rfl
@[simp] theorem modBio_out (f : Bio → Bio) (b : Block) : (modBio f b).out = b.out := rfl
@[simp] theorem modBio_actFifo (f : Bio → Bio) (b : Block) : (modBio f b).actFifo = b.actFifo := rfl
@[simp] theorem modBio_memFifo (f : Bio → Bio) (b : Block) : (modBio f b).memFifo = b.memFifo := rfl
@[simp] theorem modBio_evr (f : Bio → Bio) (b : Block) : (modBio f b).evr = b.evr := rfl
@[simp] theorem modBio_elg (f : Bio → Bio) (b : Block) : (modBio f b).elg = b.elg := rfl
@[simp] theorem modBio_pwr (f : Bio → Bio) (b : Block) : (modBio f b).pwr = b.pwr := rfl
@[simp] theorem modBio_bnk (f : Bio → Bio) (b : Block) : (modBio f b).bnk = b.bnk := rfl
@[simp] theorem modBio_shareB (f : Bio → Bio) (b : Block) : (modBio f b).shareB = b.shareB := rfl
@[simp] theorem modBio_granHold (f : Bio → Bio) (b : Block) : (modBio f b).granHold = b.granHold := rfl
@[simp] theorem modBio_flash (f : Bio → Bio) (b : Block) : (modBio f b).flash = b.flash := rfl
@[simp] theorem modBio_key (f : Bio → Bio) (b : Block) : (modBio f b).key = b.key := rfl
@[simp] theorem modBio_trust (f : Bio → Bio) (b : Block) : (modBio f b).trust = b.trust := rfl
@[simp] theorem modBio_start (f : Bio → Bio) (b : Block) : (modBio f b).start = b.start := rfl
@[simp] theorem modBio_net (f : Bio → Bio) (b : Block) : (modBio f b).net = b.net := rfl
@[simp] theorem modBio_ser (f : Bio → Bio) (b : Block) : (modBio f b).ser = b.ser := rfl
@[simp] theorem modBio_txq (f : Bio → Bio) (b : Block) : (modBio f b).txq = b.txq := rfl
@[simp] theorem modBio_evSec (f : Bio → Bio) (b : Block) : (modBio f b).evSec = b.evSec := rfl
@[simp] theorem modBio_twn (f : Bio → Bio) (b : Block) : (modBio f b).twn = b.twn := rfl
@[simp] theorem modBio_tim (f : Bio → Bio) (b : Block) : (modBio f b).tim = b.tim := rfl
@[simp] theorem modBio_ptp (f : Bio → Bio) (b : Block) : (modBio f b).ptp = b.ptp := rfl
@[simp] theorem modBio_svi (f : Bio → Bio) (b : Block) : (modBio f b).svi = b.svi := rfl
@[simp] theorem modBio_aln (f : Bio → Bio) (b : Block) : (modBio f b).aln = b.aln := rfl
@[simp] theorem modBio_aapBelow (f : Bio → Bio) (b : Block) : (modBio f b).aapBelow = b.aapBelow := rfl
@[simp] theorem modBio_aapLowStuck (f : Bio → Bio) (b : Block) : (modBio f b).aapLowStuck = b.aapLowStuck := rfl
@[simp] theorem modBio_spk (f : Bio → Bio) (b : Block) : (modBio f b).spk = b.spk := rfl
@[simp] theorem modBio_fld (f : Bio → Bio) (b : Block) : (modBio f b).fld = b.fld := rfl
@[simp] theorem modBio_phe (f : Bio → Bio) (b : Block) : (modBio f b).phe = b.phe := rfl
@[simp] theorem modBio_pub (f : Bio → Bio) (b : Block) : (modBio f b).pub = b.pub := rfl
@[simp] theorem modBio_sch (f : Bio → Bio) (b : Block) : (modBio f b).sch = b.sch := rfl
@[simp] theorem modBio_lgr (f : Bio → Bio) (b : Block) : (modBio f b).lgr = b.lgr := rfl
@[simp] theorem modBio_vim (f : Bio → Bio) (b : Block) : (modBio f b).vim = b.vim := rfl
@[simp] theorem modBio_dma (f : Bio → Bio) (b : Block) : (modBio f b).dma = b.dma := rfl
@[simp] theorem modBio_ddrHits (f : Bio → Bio) (b : Block) : (modBio f b).ddrHits = b.ddrHits := rfl
@[simp] theorem modBio_errs (f : Bio → Bio) (b : Block) : (modBio f b).errs = b.errs := rfl
@[simp] theorem modBio_remap (f : Bio → Bio) (b : Block) : (modBio f b).remap = b.remap := rfl
@[simp] theorem modBio_mtr (f : Bio → Bio) (b : Block) : (modBio f b).mtr = b.mtr := rfl
@[simp] theorem modBio_bio (f : Bio → Bio) (b : Block) : (modBio f b).bio = f b.bio := rfl

@[simp] theorem rd_modFld (f : FieldSt → FieldSt) (b : Block) (a' : Nat) : rd (modFld f b) a' = rd b a' := rfl
@[simp] theorem fget_modFld (f : FieldSt → FieldSt) (b : Block) (f' : Fld) : fget (modFld f b) f' = fget b f' := rfl
@[simp] theorem tget_modFld (f : FieldSt → FieldSt) (b : Block) (k' : Nat) : tget (modFld f b) k' = tget b k' := rfl
@[simp] theorem mget_modFld (f : FieldSt → FieldSt) (b : Block) (a' : Nat) : mget (modFld f b) a' = mget b a' := rfl
@[simp] theorem modFld_part (f : FieldSt → FieldSt) (b : Block) : (modFld f b).part = b.part := rfl
@[simp] theorem modFld_time (f : FieldSt → FieldSt) (b : Block) : (modFld f b).time = b.time := rfl
@[simp] theorem modFld_free (f : FieldSt → FieldSt) (b : Block) : (modFld f b).free = b.free := rfl
@[simp] theorem modFld_regs (f : FieldSt → FieldSt) (b : Block) : (modFld f b).regs = b.regs := rfl
@[simp] theorem modFld_tabs (f : FieldSt → FieldSt) (b : Block) : (modFld f b).tabs = b.tabs := rfl
@[simp] theorem modFld_bankB (f : FieldSt → FieldSt) (b : Block) : (modFld f b).bankB = b.bankB := rfl
@[simp] theorem modFld_instB (f : FieldSt → FieldSt) (b : Block) : (modFld f b).instB = b.instB := rfl
@[simp] theorem modFld_mem (f : FieldSt → FieldSt) (b : Block) : (modFld f b).mem = b.mem := rfl
@[simp] theorem modFld_poisoned (f : FieldSt → FieldSt) (b : Block) : (modFld f b).poisoned = b.poisoned := rfl
@[simp] theorem modFld_uncorr (f : FieldSt → FieldSt) (b : Block) : (modFld f b).uncorr = b.uncorr := rfl
@[simp] theorem modFld_corr (f : FieldSt → FieldSt) (b : Block) : (modFld f b).corr = b.corr := rfl
@[simp] theorem modFld_hiLatch (f : FieldSt → FieldSt) (b : Block) : (modFld f b).hiLatch = b.hiLatch := rfl
@[simp] theorem modFld_heldLow (f : FieldSt → FieldSt) (b : Block) : (modFld f b).heldLow = b.heldLow := rfl
@[simp] theorem modFld_resp (f : FieldSt → FieldSt) (b : Block) : (modFld f b).resp = b.resp := rfl
@[simp] theorem modFld_out (f : FieldSt → FieldSt) (b : Block) : (modFld f b).out = b.out := rfl
@[simp] theorem modFld_actFifo (f : FieldSt → FieldSt) (b : Block) : (modFld f b).actFifo = b.actFifo := rfl
@[simp] theorem modFld_memFifo (f : FieldSt → FieldSt) (b : Block) : (modFld f b).memFifo = b.memFifo := rfl
@[simp] theorem modFld_evr (f : FieldSt → FieldSt) (b : Block) : (modFld f b).evr = b.evr := rfl
@[simp] theorem modFld_elg (f : FieldSt → FieldSt) (b : Block) : (modFld f b).elg = b.elg := rfl
@[simp] theorem modFld_pwr (f : FieldSt → FieldSt) (b : Block) : (modFld f b).pwr = b.pwr := rfl
@[simp] theorem modFld_bnk (f : FieldSt → FieldSt) (b : Block) : (modFld f b).bnk = b.bnk := rfl
@[simp] theorem modFld_shareB (f : FieldSt → FieldSt) (b : Block) : (modFld f b).shareB = b.shareB := rfl
@[simp] theorem modFld_granHold (f : FieldSt → FieldSt) (b : Block) : (modFld f b).granHold = b.granHold := rfl
@[simp] theorem modFld_flash (f : FieldSt → FieldSt) (b : Block) : (modFld f b).flash = b.flash := rfl
@[simp] theorem modFld_key (f : FieldSt → FieldSt) (b : Block) : (modFld f b).key = b.key := rfl
@[simp] theorem modFld_trust (f : FieldSt → FieldSt) (b : Block) : (modFld f b).trust = b.trust := rfl
@[simp] theorem modFld_start (f : FieldSt → FieldSt) (b : Block) : (modFld f b).start = b.start := rfl
@[simp] theorem modFld_net (f : FieldSt → FieldSt) (b : Block) : (modFld f b).net = b.net := rfl
@[simp] theorem modFld_ser (f : FieldSt → FieldSt) (b : Block) : (modFld f b).ser = b.ser := rfl
@[simp] theorem modFld_txq (f : FieldSt → FieldSt) (b : Block) : (modFld f b).txq = b.txq := rfl
@[simp] theorem modFld_evSec (f : FieldSt → FieldSt) (b : Block) : (modFld f b).evSec = b.evSec := rfl
@[simp] theorem modFld_twn (f : FieldSt → FieldSt) (b : Block) : (modFld f b).twn = b.twn := rfl
@[simp] theorem modFld_tim (f : FieldSt → FieldSt) (b : Block) : (modFld f b).tim = b.tim := rfl
@[simp] theorem modFld_ptp (f : FieldSt → FieldSt) (b : Block) : (modFld f b).ptp = b.ptp := rfl
@[simp] theorem modFld_svi (f : FieldSt → FieldSt) (b : Block) : (modFld f b).svi = b.svi := rfl
@[simp] theorem modFld_aln (f : FieldSt → FieldSt) (b : Block) : (modFld f b).aln = b.aln := rfl
@[simp] theorem modFld_aapBelow (f : FieldSt → FieldSt) (b : Block) : (modFld f b).aapBelow = b.aapBelow := rfl
@[simp] theorem modFld_aapLowStuck (f : FieldSt → FieldSt) (b : Block) : (modFld f b).aapLowStuck = b.aapLowStuck := rfl
@[simp] theorem modFld_spk (f : FieldSt → FieldSt) (b : Block) : (modFld f b).spk = b.spk := rfl
@[simp] theorem modFld_phe (f : FieldSt → FieldSt) (b : Block) : (modFld f b).phe = b.phe := rfl
@[simp] theorem modFld_bio (f : FieldSt → FieldSt) (b : Block) : (modFld f b).bio = b.bio := rfl
@[simp] theorem modFld_pub (f : FieldSt → FieldSt) (b : Block) : (modFld f b).pub = b.pub := rfl
@[simp] theorem modFld_sch (f : FieldSt → FieldSt) (b : Block) : (modFld f b).sch = b.sch := rfl
@[simp] theorem modFld_lgr (f : FieldSt → FieldSt) (b : Block) : (modFld f b).lgr = b.lgr := rfl
@[simp] theorem modFld_vim (f : FieldSt → FieldSt) (b : Block) : (modFld f b).vim = b.vim := rfl
@[simp] theorem modFld_dma (f : FieldSt → FieldSt) (b : Block) : (modFld f b).dma = b.dma := rfl
@[simp] theorem modFld_ddrHits (f : FieldSt → FieldSt) (b : Block) : (modFld f b).ddrHits = b.ddrHits := rfl
@[simp] theorem modFld_errs (f : FieldSt → FieldSt) (b : Block) : (modFld f b).errs = b.errs := rfl
@[simp] theorem modFld_remap (f : FieldSt → FieldSt) (b : Block) : (modFld f b).remap = b.remap := rfl
@[simp] theorem modFld_mtr (f : FieldSt → FieldSt) (b : Block) : (modFld f b).mtr = b.mtr := rfl
@[simp] theorem modFld_fld (f : FieldSt → FieldSt) (b : Block) : (modFld f b).fld = f b.fld := rfl

@[simp] theorem rd_modLgr (f : Lgr → Lgr) (b : Block) (a' : Nat) : rd (modLgr f b) a' = rd b a' := rfl
@[simp] theorem fget_modLgr (f : Lgr → Lgr) (b : Block) (f' : Fld) : fget (modLgr f b) f' = fget b f' := rfl
@[simp] theorem tget_modLgr (f : Lgr → Lgr) (b : Block) (k' : Nat) : tget (modLgr f b) k' = tget b k' := rfl
@[simp] theorem mget_modLgr (f : Lgr → Lgr) (b : Block) (a' : Nat) : mget (modLgr f b) a' = mget b a' := rfl
@[simp] theorem modLgr_part (f : Lgr → Lgr) (b : Block) : (modLgr f b).part = b.part := rfl
@[simp] theorem modLgr_time (f : Lgr → Lgr) (b : Block) : (modLgr f b).time = b.time := rfl
@[simp] theorem modLgr_free (f : Lgr → Lgr) (b : Block) : (modLgr f b).free = b.free := rfl
@[simp] theorem modLgr_regs (f : Lgr → Lgr) (b : Block) : (modLgr f b).regs = b.regs := rfl
@[simp] theorem modLgr_tabs (f : Lgr → Lgr) (b : Block) : (modLgr f b).tabs = b.tabs := rfl
@[simp] theorem modLgr_bankB (f : Lgr → Lgr) (b : Block) : (modLgr f b).bankB = b.bankB := rfl
@[simp] theorem modLgr_instB (f : Lgr → Lgr) (b : Block) : (modLgr f b).instB = b.instB := rfl
@[simp] theorem modLgr_mem (f : Lgr → Lgr) (b : Block) : (modLgr f b).mem = b.mem := rfl
@[simp] theorem modLgr_poisoned (f : Lgr → Lgr) (b : Block) : (modLgr f b).poisoned = b.poisoned := rfl
@[simp] theorem modLgr_uncorr (f : Lgr → Lgr) (b : Block) : (modLgr f b).uncorr = b.uncorr := rfl
@[simp] theorem modLgr_corr (f : Lgr → Lgr) (b : Block) : (modLgr f b).corr = b.corr := rfl
@[simp] theorem modLgr_hiLatch (f : Lgr → Lgr) (b : Block) : (modLgr f b).hiLatch = b.hiLatch := rfl
@[simp] theorem modLgr_heldLow (f : Lgr → Lgr) (b : Block) : (modLgr f b).heldLow = b.heldLow := rfl
@[simp] theorem modLgr_resp (f : Lgr → Lgr) (b : Block) : (modLgr f b).resp = b.resp := rfl
@[simp] theorem modLgr_out (f : Lgr → Lgr) (b : Block) : (modLgr f b).out = b.out := rfl
@[simp] theorem modLgr_actFifo (f : Lgr → Lgr) (b : Block) : (modLgr f b).actFifo = b.actFifo := rfl
@[simp] theorem modLgr_memFifo (f : Lgr → Lgr) (b : Block) : (modLgr f b).memFifo = b.memFifo := rfl
@[simp] theorem modLgr_evr (f : Lgr → Lgr) (b : Block) : (modLgr f b).evr = b.evr := rfl
@[simp] theorem modLgr_elg (f : Lgr → Lgr) (b : Block) : (modLgr f b).elg = b.elg := rfl
@[simp] theorem modLgr_pwr (f : Lgr → Lgr) (b : Block) : (modLgr f b).pwr = b.pwr := rfl
@[simp] theorem modLgr_bnk (f : Lgr → Lgr) (b : Block) : (modLgr f b).bnk = b.bnk := rfl
@[simp] theorem modLgr_shareB (f : Lgr → Lgr) (b : Block) : (modLgr f b).shareB = b.shareB := rfl
@[simp] theorem modLgr_granHold (f : Lgr → Lgr) (b : Block) : (modLgr f b).granHold = b.granHold := rfl
@[simp] theorem modLgr_flash (f : Lgr → Lgr) (b : Block) : (modLgr f b).flash = b.flash := rfl
@[simp] theorem modLgr_key (f : Lgr → Lgr) (b : Block) : (modLgr f b).key = b.key := rfl
@[simp] theorem modLgr_trust (f : Lgr → Lgr) (b : Block) : (modLgr f b).trust = b.trust := rfl
@[simp] theorem modLgr_start (f : Lgr → Lgr) (b : Block) : (modLgr f b).start = b.start := rfl
@[simp] theorem modLgr_net (f : Lgr → Lgr) (b : Block) : (modLgr f b).net = b.net := rfl
@[simp] theorem modLgr_ser (f : Lgr → Lgr) (b : Block) : (modLgr f b).ser = b.ser := rfl
@[simp] theorem modLgr_txq (f : Lgr → Lgr) (b : Block) : (modLgr f b).txq = b.txq := rfl
@[simp] theorem modLgr_evSec (f : Lgr → Lgr) (b : Block) : (modLgr f b).evSec = b.evSec := rfl
@[simp] theorem modLgr_twn (f : Lgr → Lgr) (b : Block) : (modLgr f b).twn = b.twn := rfl
@[simp] theorem modLgr_tim (f : Lgr → Lgr) (b : Block) : (modLgr f b).tim = b.tim := rfl
@[simp] theorem modLgr_ptp (f : Lgr → Lgr) (b : Block) : (modLgr f b).ptp = b.ptp := rfl
@[simp] theorem modLgr_svi (f : Lgr → Lgr) (b : Block) : (modLgr f b).svi = b.svi := rfl
@[simp] theorem modLgr_aln (f : Lgr → Lgr) (b : Block) : (modLgr f b).aln = b.aln := rfl
@[simp] theorem modLgr_aapBelow (f : Lgr → Lgr) (b : Block) : (modLgr f b).aapBelow = b.aapBelow := rfl
@[simp] theorem modLgr_aapLowStuck (f : Lgr → Lgr) (b : Block) : (modLgr f b).aapLowStuck = b.aapLowStuck := rfl
@[simp] theorem modLgr_spk (f : Lgr → Lgr) (b : Block) : (modLgr f b).spk = b.spk := rfl
@[simp] theorem modLgr_fld (f : Lgr → Lgr) (b : Block) : (modLgr f b).fld = b.fld := rfl
@[simp] theorem modLgr_phe (f : Lgr → Lgr) (b : Block) : (modLgr f b).phe = b.phe := rfl
@[simp] theorem modLgr_bio (f : Lgr → Lgr) (b : Block) : (modLgr f b).bio = b.bio := rfl
@[simp] theorem modLgr_pub (f : Lgr → Lgr) (b : Block) : (modLgr f b).pub = b.pub := rfl
@[simp] theorem modLgr_sch (f : Lgr → Lgr) (b : Block) : (modLgr f b).sch = b.sch := rfl
@[simp] theorem modLgr_vim (f : Lgr → Lgr) (b : Block) : (modLgr f b).vim = b.vim := rfl
@[simp] theorem modLgr_dma (f : Lgr → Lgr) (b : Block) : (modLgr f b).dma = b.dma := rfl
@[simp] theorem modLgr_ddrHits (f : Lgr → Lgr) (b : Block) : (modLgr f b).ddrHits = b.ddrHits := rfl
@[simp] theorem modLgr_errs (f : Lgr → Lgr) (b : Block) : (modLgr f b).errs = b.errs := rfl
@[simp] theorem modLgr_remap (f : Lgr → Lgr) (b : Block) : (modLgr f b).remap = b.remap := rfl
@[simp] theorem modLgr_mtr (f : Lgr → Lgr) (b : Block) : (modLgr f b).mtr = b.mtr := rfl
@[simp] theorem modLgr_lgr (f : Lgr → Lgr) (b : Block) : (modLgr f b).lgr = f b.lgr := rfl

@[simp] theorem rd_modPort (m : Nat) (f : Port → Port) (b : Block) (a' : Nat) : rd (modPort m f b) a' = rd b a' := rfl
@[simp] theorem fget_modPort (m : Nat) (f : Port → Port) (b : Block) (f' : Fld) : fget (modPort m f b) f' = fget b f' := rfl
@[simp] theorem tget_modPort (m : Nat) (f : Port → Port) (b : Block) (k' : Nat) : tget (modPort m f b) k' = tget b k' := rfl
@[simp] theorem mget_modPort (m : Nat) (f : Port → Port) (b : Block) (a' : Nat) : mget (modPort m f b) a' = mget b a' := rfl
@[simp] theorem modPort_part (m : Nat) (f : Port → Port) (b : Block) : (modPort m f b).part = b.part := rfl
@[simp] theorem modPort_time (m : Nat) (f : Port → Port) (b : Block) : (modPort m f b).time = b.time := rfl
@[simp] theorem modPort_free (m : Nat) (f : Port → Port) (b : Block) : (modPort m f b).free = b.free := rfl
@[simp] theorem modPort_regs (m : Nat) (f : Port → Port) (b : Block) : (modPort m f b).regs = b.regs := rfl
@[simp] theorem modPort_tabs (m : Nat) (f : Port → Port) (b : Block) : (modPort m f b).tabs = b.tabs := rfl
@[simp] theorem modPort_bankB (m : Nat) (f : Port → Port) (b : Block) : (modPort m f b).bankB = b.bankB := rfl
@[simp] theorem modPort_instB (m : Nat) (f : Port → Port) (b : Block) : (modPort m f b).instB = b.instB := rfl
@[simp] theorem modPort_mem (m : Nat) (f : Port → Port) (b : Block) : (modPort m f b).mem = b.mem := rfl
@[simp] theorem modPort_poisoned (m : Nat) (f : Port → Port) (b : Block) : (modPort m f b).poisoned = b.poisoned := rfl
@[simp] theorem modPort_uncorr (m : Nat) (f : Port → Port) (b : Block) : (modPort m f b).uncorr = b.uncorr := rfl
@[simp] theorem modPort_corr (m : Nat) (f : Port → Port) (b : Block) : (modPort m f b).corr = b.corr := rfl
@[simp] theorem modPort_hiLatch (m : Nat) (f : Port → Port) (b : Block) : (modPort m f b).hiLatch = b.hiLatch := rfl
@[simp] theorem modPort_heldLow (m : Nat) (f : Port → Port) (b : Block) : (modPort m f b).heldLow = b.heldLow := rfl
@[simp] theorem modPort_resp (m : Nat) (f : Port → Port) (b : Block) : (modPort m f b).resp = b.resp := rfl
@[simp] theorem modPort_out (m : Nat) (f : Port → Port) (b : Block) : (modPort m f b).out = b.out := rfl
@[simp] theorem modPort_actFifo (m : Nat) (f : Port → Port) (b : Block) : (modPort m f b).actFifo = b.actFifo := rfl
@[simp] theorem modPort_memFifo (m : Nat) (f : Port → Port) (b : Block) : (modPort m f b).memFifo = b.memFifo := rfl
@[simp] theorem modPort_evr (m : Nat) (f : Port → Port) (b : Block) : (modPort m f b).evr = b.evr := rfl
@[simp] theorem modPort_elg (m : Nat) (f : Port → Port) (b : Block) : (modPort m f b).elg = b.elg := rfl
@[simp] theorem modPort_pwr (m : Nat) (f : Port → Port) (b : Block) : (modPort m f b).pwr = b.pwr := rfl
@[simp] theorem modPort_bnk (m : Nat) (f : Port → Port) (b : Block) : (modPort m f b).bnk = b.bnk := rfl
@[simp] theorem modPort_shareB (m : Nat) (f : Port → Port) (b : Block) : (modPort m f b).shareB = b.shareB := rfl
@[simp] theorem modPort_granHold (m : Nat) (f : Port → Port) (b : Block) : (modPort m f b).granHold = b.granHold := rfl
@[simp] theorem modPort_flash (m : Nat) (f : Port → Port) (b : Block) : (modPort m f b).flash = b.flash := rfl
@[simp] theorem modPort_key (m : Nat) (f : Port → Port) (b : Block) : (modPort m f b).key = b.key := rfl
@[simp] theorem modPort_trust (m : Nat) (f : Port → Port) (b : Block) : (modPort m f b).trust = b.trust := rfl
@[simp] theorem modPort_start (m : Nat) (f : Port → Port) (b : Block) : (modPort m f b).start = b.start := rfl
@[simp] theorem modPort_ser (m : Nat) (f : Port → Port) (b : Block) : (modPort m f b).ser = b.ser := rfl
@[simp] theorem modPort_txq (m : Nat) (f : Port → Port) (b : Block) : (modPort m f b).txq = b.txq := rfl
@[simp] theorem modPort_evSec (m : Nat) (f : Port → Port) (b : Block) : (modPort m f b).evSec = b.evSec := rfl
@[simp] theorem modPort_twn (m : Nat) (f : Port → Port) (b : Block) : (modPort m f b).twn = b.twn := rfl
@[simp] theorem modPort_tim (m : Nat) (f : Port → Port) (b : Block) : (modPort m f b).tim = b.tim := rfl
@[simp] theorem modPort_ptp (m : Nat) (f : Port → Port) (b : Block) : (modPort m f b).ptp = b.ptp := rfl
@[simp] theorem modPort_svi (m : Nat) (f : Port → Port) (b : Block) : (modPort m f b).svi = b.svi := rfl
@[simp] theorem modPort_aln (m : Nat) (f : Port → Port) (b : Block) : (modPort m f b).aln = b.aln := rfl
@[simp] theorem modPort_aapBelow (m : Nat) (f : Port → Port) (b : Block) : (modPort m f b).aapBelow = b.aapBelow := rfl
@[simp] theorem modPort_aapLowStuck (m : Nat) (f : Port → Port) (b : Block) : (modPort m f b).aapLowStuck = b.aapLowStuck := rfl
@[simp] theorem modPort_spk (m : Nat) (f : Port → Port) (b : Block) : (modPort m f b).spk = b.spk := rfl
@[simp] theorem modPort_fld (m : Nat) (f : Port → Port) (b : Block) : (modPort m f b).fld = b.fld := rfl
@[simp] theorem modPort_phe (m : Nat) (f : Port → Port) (b : Block) : (modPort m f b).phe = b.phe := rfl
@[simp] theorem modPort_bio (m : Nat) (f : Port → Port) (b : Block) : (modPort m f b).bio = b.bio := rfl
@[simp] theorem modPort_pub (m : Nat) (f : Port → Port) (b : Block) : (modPort m f b).pub = b.pub := rfl
@[simp] theorem modPort_sch (m : Nat) (f : Port → Port) (b : Block) : (modPort m f b).sch = b.sch := rfl
@[simp] theorem modPort_lgr (m : Nat) (f : Port → Port) (b : Block) : (modPort m f b).lgr = b.lgr := rfl
@[simp] theorem modPort_vim (m : Nat) (f : Port → Port) (b : Block) : (modPort m f b).vim = b.vim := rfl
@[simp] theorem modPort_dma (m : Nat) (f : Port → Port) (b : Block) : (modPort m f b).dma = b.dma := rfl
@[simp] theorem modPort_ddrHits (m : Nat) (f : Port → Port) (b : Block) : (modPort m f b).ddrHits = b.ddrHits := rfl
@[simp] theorem modPort_errs (m : Nat) (f : Port → Port) (b : Block) : (modPort m f b).errs = b.errs := rfl
@[simp] theorem modPort_remap (m : Nat) (f : Port → Port) (b : Block) : (modPort m f b).remap = b.remap := rfl
@[simp] theorem modPort_mtr (m : Nat) (f : Port → Port) (b : Block) : (modPort m f b).mtr = b.mtr := rfl
@[simp] theorem modPort_net (m : Nat) (f : Port → Port) (b : Block) : (modPort m f b).net = { b.net with ports := modAt Port.init b.net.ports m f } := rfl

@[simp] theorem rd_modMtr (f : Mtr → Mtr) (b : Block) (a' : Nat) : rd (modMtr f b) a' = rd b a' := rfl
@[simp] theorem fget_modMtr (f : Mtr → Mtr) (b : Block) (f' : Fld) : fget (modMtr f b) f' = fget b f' := rfl
@[simp] theorem tget_modMtr (f : Mtr → Mtr) (b : Block) (k' : Nat) : tget (modMtr f b) k' = tget b k' := rfl
@[simp] theorem mget_modMtr (f : Mtr → Mtr) (b : Block) (a' : Nat) : mget (modMtr f b) a' = mget b a' := rfl
@[simp] theorem modMtr_part (f : Mtr → Mtr) (b : Block) : (modMtr f b).part = b.part := rfl
@[simp] theorem modMtr_time (f : Mtr → Mtr) (b : Block) : (modMtr f b).time = b.time := rfl
@[simp] theorem modMtr_free (f : Mtr → Mtr) (b : Block) : (modMtr f b).free = b.free := rfl
@[simp] theorem modMtr_regs (f : Mtr → Mtr) (b : Block) : (modMtr f b).regs = b.regs := rfl
@[simp] theorem modMtr_tabs (f : Mtr → Mtr) (b : Block) : (modMtr f b).tabs = b.tabs := rfl
@[simp] theorem modMtr_bankB (f : Mtr → Mtr) (b : Block) : (modMtr f b).bankB = b.bankB := rfl
@[simp] theorem modMtr_instB (f : Mtr → Mtr) (b : Block) : (modMtr f b).instB = b.instB := rfl
@[simp] theorem modMtr_mem (f : Mtr → Mtr) (b : Block) : (modMtr f b).mem = b.mem := rfl
@[simp] theorem modMtr_poisoned (f : Mtr → Mtr) (b : Block) : (modMtr f b).poisoned = b.poisoned := rfl
@[simp] theorem modMtr_uncorr (f : Mtr → Mtr) (b : Block) : (modMtr f b).uncorr = b.uncorr := rfl
@[simp] theorem modMtr_corr (f : Mtr → Mtr) (b : Block) : (modMtr f b).corr = b.corr := rfl
@[simp] theorem modMtr_hiLatch (f : Mtr → Mtr) (b : Block) : (modMtr f b).hiLatch = b.hiLatch := rfl
@[simp] theorem modMtr_heldLow (f : Mtr → Mtr) (b : Block) : (modMtr f b).heldLow = b.heldLow := rfl
@[simp] theorem modMtr_resp (f : Mtr → Mtr) (b : Block) : (modMtr f b).resp = b.resp := rfl
@[simp] theorem modMtr_out (f : Mtr → Mtr) (b : Block) : (modMtr f b).out = b.out := rfl
@[simp] theorem modMtr_actFifo (f : Mtr → Mtr) (b : Block) : (modMtr f b).actFifo = b.actFifo := rfl
@[simp] theorem modMtr_memFifo (f : Mtr → Mtr) (b : Block) : (modMtr f b).memFifo = b.memFifo := rfl
@[simp] theorem modMtr_evr (f : Mtr → Mtr) (b : Block) : (modMtr f b).evr = b.evr := rfl
@[simp] theorem modMtr_elg (f : Mtr → Mtr) (b : Block) : (modMtr f b).elg = b.elg := rfl
@[simp] theorem modMtr_pwr (f : Mtr → Mtr) (b : Block) : (modMtr f b).pwr = b.pwr := rfl
@[simp] theorem modMtr_bnk (f : Mtr → Mtr) (b : Block) : (modMtr f b).bnk = b.bnk := rfl
@[simp] theorem modMtr_shareB (f : Mtr → Mtr) (b : Block) : (modMtr f b).shareB = b.shareB := rfl
@[simp] theorem modMtr_granHold (f : Mtr → Mtr) (b : Block) : (modMtr f b).granHold = b.granHold := rfl
@[simp] theorem modMtr_flash (f : Mtr → Mtr) (b : Block) : (modMtr f b).flash = b.flash := rfl
@[simp] theorem modMtr_key (f : Mtr → Mtr) (b : Block) : (modMtr f b).key = b.key := rfl
@[simp] theorem modMtr_trust (f : Mtr → Mtr) (b : Block) : (modMtr f b).trust = b.trust := rfl
@[simp] theorem modMtr_start (f : Mtr → Mtr) (b : Block) : (modMtr f b).start = b.start := rfl
@[simp] theorem modMtr_net (f : Mtr → Mtr) (b : Block) : (modMtr f b).net = b.net := rfl
@[simp] theorem modMtr_ser (f : Mtr → Mtr) (b : Block) : (modMtr f b).ser = b.ser := rfl
@[simp] theorem modMtr_txq (f : Mtr → Mtr) (b : Block) : (modMtr f b).txq = b.txq := rfl
@[simp] theorem modMtr_evSec (f : Mtr → Mtr) (b : Block) : (modMtr f b).evSec = b.evSec := rfl
@[simp] theorem modMtr_twn (f : Mtr → Mtr) (b : Block) : (modMtr f b).twn = b.twn := rfl
@[simp] theorem modMtr_tim (f : Mtr → Mtr) (b : Block) : (modMtr f b).tim = b.tim := rfl
@[simp] theorem modMtr_ptp (f : Mtr → Mtr) (b : Block) : (modMtr f b).ptp = b.ptp := rfl
@[simp] theorem modMtr_svi (f : Mtr → Mtr) (b : Block) : (modMtr f b).svi = b.svi := rfl
@[simp] theorem modMtr_aln (f : Mtr → Mtr) (b : Block) : (modMtr f b).aln = b.aln := rfl
@[simp] theorem modMtr_aapBelow (f : Mtr → Mtr) (b : Block) : (modMtr f b).aapBelow = b.aapBelow := rfl
@[simp] theorem modMtr_aapLowStuck (f : Mtr → Mtr) (b : Block) : (modMtr f b).aapLowStuck = b.aapLowStuck := rfl
@[simp] theorem modMtr_spk (f : Mtr → Mtr) (b : Block) : (modMtr f b).spk = b.spk := rfl
@[simp] theorem modMtr_fld (f : Mtr → Mtr) (b : Block) : (modMtr f b).fld = b.fld := rfl
@[simp] theorem modMtr_phe (f : Mtr → Mtr) (b : Block) : (modMtr f b).phe = b.phe := rfl
@[simp] theorem modMtr_bio (f : Mtr → Mtr) (b : Block) : (modMtr f b).bio = b.bio := rfl
@[simp] theorem modMtr_pub (f : Mtr → Mtr) (b : Block) : (modMtr f b).pub = b.pub := rfl
@[simp] theorem modMtr_sch (f : Mtr → Mtr) (b : Block) : (modMtr f b).sch = b.sch := rfl
@[simp] theorem modMtr_lgr (f : Mtr → Mtr) (b : Block) : (modMtr f b).lgr = b.lgr := rfl
@[simp] theorem modMtr_vim (f : Mtr → Mtr) (b : Block) : (modMtr f b).vim = b.vim := rfl
@[simp] theorem modMtr_dma (f : Mtr → Mtr) (b : Block) : (modMtr f b).dma = b.dma := rfl
@[simp] theorem modMtr_ddrHits (f : Mtr → Mtr) (b : Block) : (modMtr f b).ddrHits = b.ddrHits := rfl
@[simp] theorem modMtr_errs (f : Mtr → Mtr) (b : Block) : (modMtr f b).errs = b.errs := rfl
@[simp] theorem modMtr_remap (f : Mtr → Mtr) (b : Block) : (modMtr f b).remap = b.remap := rfl
@[simp] theorem modMtr_mtr (f : Mtr → Mtr) (b : Block) : (modMtr f b).mtr = f b.mtr := rfl

@[simp] theorem rd_modPhe (f : Phe → Phe) (b : Block) (a' : Nat) : rd (modPhe f b) a' = rd b a' := rfl
@[simp] theorem fget_modPhe (f : Phe → Phe) (b : Block) (f' : Fld) : fget (modPhe f b) f' = fget b f' := rfl
@[simp] theorem tget_modPhe (f : Phe → Phe) (b : Block) (k' : Nat) : tget (modPhe f b) k' = tget b k' := rfl
@[simp] theorem mget_modPhe (f : Phe → Phe) (b : Block) (a' : Nat) : mget (modPhe f b) a' = mget b a' := rfl
@[simp] theorem modPhe_part (f : Phe → Phe) (b : Block) : (modPhe f b).part = b.part := rfl
@[simp] theorem modPhe_time (f : Phe → Phe) (b : Block) : (modPhe f b).time = b.time := rfl
@[simp] theorem modPhe_free (f : Phe → Phe) (b : Block) : (modPhe f b).free = b.free := rfl
@[simp] theorem modPhe_regs (f : Phe → Phe) (b : Block) : (modPhe f b).regs = b.regs := rfl
@[simp] theorem modPhe_tabs (f : Phe → Phe) (b : Block) : (modPhe f b).tabs = b.tabs := rfl
@[simp] theorem modPhe_bankB (f : Phe → Phe) (b : Block) : (modPhe f b).bankB = b.bankB := rfl
@[simp] theorem modPhe_instB (f : Phe → Phe) (b : Block) : (modPhe f b).instB = b.instB := rfl
@[simp] theorem modPhe_mem (f : Phe → Phe) (b : Block) : (modPhe f b).mem = b.mem := rfl
@[simp] theorem modPhe_poisoned (f : Phe → Phe) (b : Block) : (modPhe f b).poisoned = b.poisoned := rfl
@[simp] theorem modPhe_uncorr (f : Phe → Phe) (b : Block) : (modPhe f b).uncorr = b.uncorr := rfl
@[simp] theorem modPhe_corr (f : Phe → Phe) (b : Block) : (modPhe f b).corr = b.corr := rfl
@[simp] theorem modPhe_hiLatch (f : Phe → Phe) (b : Block) : (modPhe f b).hiLatch = b.hiLatch := rfl
@[simp] theorem modPhe_heldLow (f : Phe → Phe) (b : Block) : (modPhe f b).heldLow = b.heldLow := rfl
@[simp] theorem modPhe_resp (f : Phe → Phe) (b : Block) : (modPhe f b).resp = b.resp := rfl
@[simp] theorem modPhe_out (f : Phe → Phe) (b : Block) : (modPhe f b).out = b.out := rfl
@[simp] theorem modPhe_actFifo (f : Phe → Phe) (b : Block) : (modPhe f b).actFifo = b.actFifo := rfl
@[simp] theorem modPhe_memFifo (f : Phe → Phe) (b : Block) : (modPhe f b).memFifo = b.memFifo := rfl
@[simp] theorem modPhe_evr (f : Phe → Phe) (b : Block) : (modPhe f b).evr = b.evr := rfl
@[simp] theorem modPhe_elg (f : Phe → Phe) (b : Block) : (modPhe f b).elg = b.elg := rfl
@[simp] theorem modPhe_pwr (f : Phe → Phe) (b : Block) : (modPhe f b).pwr = b.pwr := rfl
@[simp] theorem modPhe_bnk (f : Phe → Phe) (b : Block) : (modPhe f b).bnk = b.bnk := rfl
@[simp] theorem modPhe_shareB (f : Phe → Phe) (b : Block) : (modPhe f b).shareB = b.shareB := rfl
@[simp] theorem modPhe_granHold (f : Phe → Phe) (b : Block) : (modPhe f b).granHold = b.granHold := rfl
@[simp] theorem modPhe_flash (f : Phe → Phe) (b : Block) : (modPhe f b).flash = b.flash := rfl
@[simp] theorem modPhe_key (f : Phe → Phe) (b : Block) : (modPhe f b).key = b.key := rfl
@[simp] theorem modPhe_trust (f : Phe → Phe) (b : Block) : (modPhe f b).trust = b.trust := rfl
@[simp] theorem modPhe_start (f : Phe → Phe) (b : Block) : (modPhe f b).start = b.start := rfl
@[simp] theorem modPhe_net (f : Phe → Phe) (b : Block) : (modPhe f b).net = b.net := rfl
@[simp] theorem modPhe_ser (f : Phe → Phe) (b : Block) : (modPhe f b).ser = b.ser := rfl
@[simp] theorem modPhe_txq (f : Phe → Phe) (b : Block) : (modPhe f b).txq = b.txq := rfl
@[simp] theorem modPhe_evSec (f : Phe → Phe) (b : Block) : (modPhe f b).evSec = b.evSec := rfl
@[simp] theorem modPhe_twn (f : Phe → Phe) (b : Block) : (modPhe f b).twn = b.twn := rfl
@[simp] theorem modPhe_tim (f : Phe → Phe) (b : Block) : (modPhe f b).tim = b.tim := rfl
@[simp] theorem modPhe_ptp (f : Phe → Phe) (b : Block) : (modPhe f b).ptp = b.ptp := rfl
@[simp] theorem modPhe_svi (f : Phe → Phe) (b : Block) : (modPhe f b).svi = b.svi := rfl
@[simp] theorem modPhe_aln (f : Phe → Phe) (b : Block) : (modPhe f b).aln = b.aln := rfl
@[simp] theorem modPhe_aapBelow (f : Phe → Phe) (b : Block) : (modPhe f b).aapBelow = b.aapBelow := rfl
@[simp] theorem modPhe_aapLowStuck (f : Phe → Phe) (b : Block) : (modPhe f b).aapLowStuck = b.aapLowStuck := rfl
@[simp] theorem modPhe_spk (f : Phe → Phe) (b : Block) : (modPhe f b).spk = b.spk := rfl
@[simp] theorem modPhe_fld (f : Phe → Phe) (b : Block) : (modPhe f b).fld = b.fld := rfl
@[simp] theorem modPhe_bio (f : Phe → Phe) (b : Block) : (modPhe f b).bio = b.bio := rfl
@[simp] theorem modPhe_pub (f : Phe → Phe) (b : Block) : (modPhe f b).pub = b.pub := rfl
@[simp] theorem modPhe_sch (f : Phe → Phe) (b : Block) : (modPhe f b).sch = b.sch := rfl
@[simp] theorem modPhe_lgr (f : Phe → Phe) (b : Block) : (modPhe f b).lgr = b.lgr := rfl
@[simp] theorem modPhe_vim (f : Phe → Phe) (b : Block) : (modPhe f b).vim = b.vim := rfl
@[simp] theorem modPhe_dma (f : Phe → Phe) (b : Block) : (modPhe f b).dma = b.dma := rfl
@[simp] theorem modPhe_ddrHits (f : Phe → Phe) (b : Block) : (modPhe f b).ddrHits = b.ddrHits := rfl
@[simp] theorem modPhe_errs (f : Phe → Phe) (b : Block) : (modPhe f b).errs = b.errs := rfl
@[simp] theorem modPhe_remap (f : Phe → Phe) (b : Block) : (modPhe f b).remap = b.remap := rfl
@[simp] theorem modPhe_mtr (f : Phe → Phe) (b : Block) : (modPhe f b).mtr = b.mtr := rfl
@[simp] theorem modPhe_phe (f : Phe → Phe) (b : Block) : (modPhe f b).phe = f b.phe := rfl

@[simp] theorem rd_modPwr (f : Pwr → Pwr) (b : Block) (a' : Nat) : rd (modPwr f b) a' = rd b a' := rfl
@[simp] theorem fget_modPwr (f : Pwr → Pwr) (b : Block) (f' : Fld) : fget (modPwr f b) f' = fget b f' := rfl
@[simp] theorem tget_modPwr (f : Pwr → Pwr) (b : Block) (k' : Nat) : tget (modPwr f b) k' = tget b k' := rfl
@[simp] theorem mget_modPwr (f : Pwr → Pwr) (b : Block) (a' : Nat) : mget (modPwr f b) a' = mget b a' := rfl
@[simp] theorem modPwr_part (f : Pwr → Pwr) (b : Block) : (modPwr f b).part = b.part := rfl
@[simp] theorem modPwr_time (f : Pwr → Pwr) (b : Block) : (modPwr f b).time = b.time := rfl
@[simp] theorem modPwr_free (f : Pwr → Pwr) (b : Block) : (modPwr f b).free = b.free := rfl
@[simp] theorem modPwr_regs (f : Pwr → Pwr) (b : Block) : (modPwr f b).regs = b.regs := rfl
@[simp] theorem modPwr_tabs (f : Pwr → Pwr) (b : Block) : (modPwr f b).tabs = b.tabs := rfl
@[simp] theorem modPwr_bankB (f : Pwr → Pwr) (b : Block) : (modPwr f b).bankB = b.bankB := rfl
@[simp] theorem modPwr_instB (f : Pwr → Pwr) (b : Block) : (modPwr f b).instB = b.instB := rfl
@[simp] theorem modPwr_mem (f : Pwr → Pwr) (b : Block) : (modPwr f b).mem = b.mem := rfl
@[simp] theorem modPwr_poisoned (f : Pwr → Pwr) (b : Block) : (modPwr f b).poisoned = b.poisoned := rfl
@[simp] theorem modPwr_uncorr (f : Pwr → Pwr) (b : Block) : (modPwr f b).uncorr = b.uncorr := rfl
@[simp] theorem modPwr_corr (f : Pwr → Pwr) (b : Block) : (modPwr f b).corr = b.corr := rfl
@[simp] theorem modPwr_hiLatch (f : Pwr → Pwr) (b : Block) : (modPwr f b).hiLatch = b.hiLatch := rfl
@[simp] theorem modPwr_heldLow (f : Pwr → Pwr) (b : Block) : (modPwr f b).heldLow = b.heldLow := rfl
@[simp] theorem modPwr_resp (f : Pwr → Pwr) (b : Block) : (modPwr f b).resp = b.resp := rfl
@[simp] theorem modPwr_out (f : Pwr → Pwr) (b : Block) : (modPwr f b).out = b.out := rfl
@[simp] theorem modPwr_actFifo (f : Pwr → Pwr) (b : Block) : (modPwr f b).actFifo = b.actFifo := rfl
@[simp] theorem modPwr_memFifo (f : Pwr → Pwr) (b : Block) : (modPwr f b).memFifo = b.memFifo := rfl
@[simp] theorem modPwr_evr (f : Pwr → Pwr) (b : Block) : (modPwr f b).evr = b.evr := rfl
@[simp] theorem modPwr_elg (f : Pwr → Pwr) (b : Block) : (modPwr f b).elg = b.elg := rfl
@[simp] theorem modPwr_bnk (f : Pwr → Pwr) (b : Block) : (modPwr f b).bnk = b.bnk := rfl
@[simp] theorem modPwr_shareB (f : Pwr → Pwr) (b : Block) : (modPwr f b).shareB = b.shareB := rfl
@[simp] theorem modPwr_granHold (f : Pwr → Pwr) (b : Block) : (modPwr f b).granHold = b.granHold := rfl
@[simp] theorem modPwr_flash (f : Pwr → Pwr) (b : Block) : (modPwr f b).flash = b.flash := rfl
@[simp] theorem modPwr_key (f : Pwr → Pwr) (b : Block) : (modPwr f b).key = b.key := rfl
@[simp] theorem modPwr_trust (f : Pwr → Pwr) (b : Block) : (modPwr f b).trust = b.trust := rfl
@[simp] theorem modPwr_start (f : Pwr → Pwr) (b : Block) : (modPwr f b).start = b.start := rfl
@[simp] theorem modPwr_net (f : Pwr → Pwr) (b : Block) : (modPwr f b).net = b.net := rfl
@[simp] theorem modPwr_ser (f : Pwr → Pwr) (b : Block) : (modPwr f b).ser = b.ser := rfl
@[simp] theorem modPwr_txq (f : Pwr → Pwr) (b : Block) : (modPwr f b).txq = b.txq := rfl
@[simp] theorem modPwr_evSec (f : Pwr → Pwr) (b : Block) : (modPwr f b).evSec = b.evSec := rfl
@[simp] theorem modPwr_twn (f : Pwr → Pwr) (b : Block) : (modPwr f b).twn = b.twn := rfl
@[simp] theorem modPwr_tim (f : Pwr → Pwr) (b : Block) : (modPwr f b).tim = b.tim := rfl
@[simp] theorem modPwr_ptp (f : Pwr → Pwr) (b : Block) : (modPwr f b).ptp = b.ptp := rfl
@[simp] theorem modPwr_svi (f : Pwr → Pwr) (b : Block) : (modPwr f b).svi = b.svi := rfl
@[simp] theorem modPwr_aln (f : Pwr → Pwr) (b : Block) : (modPwr f b).aln = b.aln := rfl
@[simp] theorem modPwr_aapBelow (f : Pwr → Pwr) (b : Block) : (modPwr f b).aapBelow = b.aapBelow := rfl
@[simp] theorem modPwr_aapLowStuck (f : Pwr → Pwr) (b : Block) : (modPwr f b).aapLowStuck = b.aapLowStuck := rfl
@[simp] theorem modPwr_spk (f : Pwr → Pwr) (b : Block) : (modPwr f b).spk = b.spk := rfl
@[simp] theorem modPwr_fld (f : Pwr → Pwr) (b : Block) : (modPwr f b).fld = b.fld := rfl
@[simp] theorem modPwr_phe (f : Pwr → Pwr) (b : Block) : (modPwr f b).phe = b.phe := rfl
@[simp] theorem modPwr_bio (f : Pwr → Pwr) (b : Block) : (modPwr f b).bio = b.bio := rfl
@[simp] theorem modPwr_pub (f : Pwr → Pwr) (b : Block) : (modPwr f b).pub = b.pub := rfl
@[simp] theorem modPwr_sch (f : Pwr → Pwr) (b : Block) : (modPwr f b).sch = b.sch := rfl
@[simp] theorem modPwr_lgr (f : Pwr → Pwr) (b : Block) : (modPwr f b).lgr = b.lgr := rfl
@[simp] theorem modPwr_vim (f : Pwr → Pwr) (b : Block) : (modPwr f b).vim = b.vim := rfl
@[simp] theorem modPwr_dma (f : Pwr → Pwr) (b : Block) : (modPwr f b).dma = b.dma := rfl
@[simp] theorem modPwr_ddrHits (f : Pwr → Pwr) (b : Block) : (modPwr f b).ddrHits = b.ddrHits := rfl
@[simp] theorem modPwr_errs (f : Pwr → Pwr) (b : Block) : (modPwr f b).errs = b.errs := rfl
@[simp] theorem modPwr_remap (f : Pwr → Pwr) (b : Block) : (modPwr f b).remap = b.remap := rfl
@[simp] theorem modPwr_mtr (f : Pwr → Pwr) (b : Block) : (modPwr f b).mtr = b.mtr := rfl
@[simp] theorem modPwr_pwr (f : Pwr → Pwr) (b : Block) : (modPwr f b).pwr = f b.pwr := rfl

@[simp] theorem rd_modPtp (o : Nat) (f : PtpPort → PtpPort) (b : Block) (a' : Nat) : rd (modPtp o f b) a' = rd b a' := rfl
@[simp] theorem fget_modPtp (o : Nat) (f : PtpPort → PtpPort) (b : Block) (f' : Fld) : fget (modPtp o f b) f' = fget b f' := rfl
@[simp] theorem tget_modPtp (o : Nat) (f : PtpPort → PtpPort) (b : Block) (k' : Nat) : tget (modPtp o f b) k' = tget b k' := rfl
@[simp] theorem mget_modPtp (o : Nat) (f : PtpPort → PtpPort) (b : Block) (a' : Nat) : mget (modPtp o f b) a' = mget b a' := rfl
@[simp] theorem modPtp_part (o : Nat) (f : PtpPort → PtpPort) (b : Block) : (modPtp o f b).part = b.part := rfl
@[simp] theorem modPtp_time (o : Nat) (f : PtpPort → PtpPort) (b : Block) : (modPtp o f b).time = b.time := rfl
@[simp] theorem modPtp_free (o : Nat) (f : PtpPort → PtpPort) (b : Block) : (modPtp o f b).free = b.free := rfl
@[simp] theorem modPtp_regs (o : Nat) (f : PtpPort → PtpPort) (b : Block) : (modPtp o f b).regs = b.regs := rfl
@[simp] theorem modPtp_tabs (o : Nat) (f : PtpPort → PtpPort) (b : Block) : (modPtp o f b).tabs = b.tabs := rfl
@[simp] theorem modPtp_bankB (o : Nat) (f : PtpPort → PtpPort) (b : Block) : (modPtp o f b).bankB = b.bankB := rfl
@[simp] theorem modPtp_instB (o : Nat) (f : PtpPort → PtpPort) (b : Block) : (modPtp o f b).instB = b.instB := rfl
@[simp] theorem modPtp_mem (o : Nat) (f : PtpPort → PtpPort) (b : Block) : (modPtp o f b).mem = b.mem := rfl
@[simp] theorem modPtp_poisoned (o : Nat) (f : PtpPort → PtpPort) (b : Block) : (modPtp o f b).poisoned = b.poisoned := rfl
@[simp] theorem modPtp_uncorr (o : Nat) (f : PtpPort → PtpPort) (b : Block) : (modPtp o f b).uncorr = b.uncorr := rfl
@[simp] theorem modPtp_corr (o : Nat) (f : PtpPort → PtpPort) (b : Block) : (modPtp o f b).corr = b.corr := rfl
@[simp] theorem modPtp_hiLatch (o : Nat) (f : PtpPort → PtpPort) (b : Block) : (modPtp o f b).hiLatch = b.hiLatch := rfl
@[simp] theorem modPtp_heldLow (o : Nat) (f : PtpPort → PtpPort) (b : Block) : (modPtp o f b).heldLow = b.heldLow := rfl
@[simp] theorem modPtp_resp (o : Nat) (f : PtpPort → PtpPort) (b : Block) : (modPtp o f b).resp = b.resp := rfl
@[simp] theorem modPtp_out (o : Nat) (f : PtpPort → PtpPort) (b : Block) : (modPtp o f b).out = b.out := rfl
@[simp] theorem modPtp_actFifo (o : Nat) (f : PtpPort → PtpPort) (b : Block) : (modPtp o f b).actFifo = b.actFifo := rfl
@[simp] theorem modPtp_memFifo (o : Nat) (f : PtpPort → PtpPort) (b : Block) : (modPtp o f b).memFifo = b.memFifo := rfl
@[simp] theorem modPtp_evr (o : Nat) (f : PtpPort → PtpPort) (b : Block) : (modPtp o f b).evr = b.evr := rfl
@[simp] theorem modPtp_elg (o : Nat) (f : PtpPort → PtpPort) (b : Block) : (modPtp o f b).elg = b.elg := rfl
@[simp] theorem modPtp_pwr (o : Nat) (f : PtpPort → PtpPort) (b : Block) : (modPtp o f b).pwr = b.pwr := rfl
@[simp] theorem modPtp_bnk (o : Nat) (f : PtpPort → PtpPort) (b : Block) : (modPtp o f b).bnk = b.bnk := rfl
@[simp] theorem modPtp_shareB (o : Nat) (f : PtpPort → PtpPort) (b : Block) : (modPtp o f b).shareB = b.shareB := rfl
@[simp] theorem modPtp_granHold (o : Nat) (f : PtpPort → PtpPort) (b : Block) : (modPtp o f b).granHold = b.granHold := rfl
@[simp] theorem modPtp_flash (o : Nat) (f : PtpPort → PtpPort) (b : Block) : (modPtp o f b).flash = b.flash := rfl
@[simp] theorem modPtp_key (o : Nat) (f : PtpPort → PtpPort) (b : Block) : (modPtp o f b).key = b.key := rfl
@[simp] theorem modPtp_trust (o : Nat) (f : PtpPort → PtpPort) (b : Block) : (modPtp o f b).trust = b.trust := rfl
@[simp] theorem modPtp_start (o : Nat) (f : PtpPort → PtpPort) (b : Block) : (modPtp o f b).start = b.start := rfl
@[simp] theorem modPtp_net (o : Nat) (f : PtpPort → PtpPort) (b : Block) : (modPtp o f b).net = b.net := rfl
@[simp] theorem modPtp_ser (o : Nat) (f : PtpPort → PtpPort) (b : Block) : (modPtp o f b).ser = b.ser := rfl
@[simp] theorem modPtp_txq (o : Nat) (f : PtpPort → PtpPort) (b : Block) : (modPtp o f b).txq = b.txq := rfl
@[simp] theorem modPtp_evSec (o : Nat) (f : PtpPort → PtpPort) (b : Block) : (modPtp o f b).evSec = b.evSec := rfl
@[simp] theorem modPtp_twn (o : Nat) (f : PtpPort → PtpPort) (b : Block) : (modPtp o f b).twn = b.twn := rfl
@[simp] theorem modPtp_tim (o : Nat) (f : PtpPort → PtpPort) (b : Block) : (modPtp o f b).tim = b.tim := rfl
@[simp] theorem modPtp_svi (o : Nat) (f : PtpPort → PtpPort) (b : Block) : (modPtp o f b).svi = b.svi := rfl
@[simp] theorem modPtp_aln (o : Nat) (f : PtpPort → PtpPort) (b : Block) : (modPtp o f b).aln = b.aln := rfl
@[simp] theorem modPtp_aapBelow (o : Nat) (f : PtpPort → PtpPort) (b : Block) : (modPtp o f b).aapBelow = b.aapBelow := rfl
@[simp] theorem modPtp_aapLowStuck (o : Nat) (f : PtpPort → PtpPort) (b : Block) : (modPtp o f b).aapLowStuck = b.aapLowStuck := rfl
@[simp] theorem modPtp_spk (o : Nat) (f : PtpPort → PtpPort) (b : Block) : (modPtp o f b).spk = b.spk := rfl
@[simp] theorem modPtp_fld (o : Nat) (f : PtpPort → PtpPort) (b : Block) : (modPtp o f b).fld = b.fld := rfl
@[simp] theorem modPtp_phe (o : Nat) (f : PtpPort → PtpPort) (b : Block) : (modPtp o f b).phe = b.phe := rfl
@[simp] theorem modPtp_bio (o : Nat) (f : PtpPort → PtpPort) (b : Block) : (modPtp o f b).bio = b.bio := rfl
@[simp] theorem modPtp_pub (o : Nat) (f : PtpPort → PtpPort) (b : Block) : (modPtp o f b).pub = b.pub := rfl
@[simp] theorem modPtp_sch (o : Nat) (f : PtpPort → PtpPort) (b : Block) : (modPtp o f b).sch = b.sch := rfl
@[simp] theorem modPtp_lgr (o : Nat) (f : PtpPort → PtpPort) (b : Block) : (modPtp o f b).lgr = b.lgr := rfl
@[simp] theorem modPtp_vim (o : Nat) (f : PtpPort → PtpPort) (b : Block) : (modPtp o f b).vim = b.vim := rfl
@[simp] theorem modPtp_dma (o : Nat) (f : PtpPort → PtpPort) (b : Block) : (modPtp o f b).dma = b.dma := rfl
@[simp] theorem modPtp_ddrHits (o : Nat) (f : PtpPort → PtpPort) (b : Block) : (modPtp o f b).ddrHits = b.ddrHits := rfl
@[simp] theorem modPtp_errs (o : Nat) (f : PtpPort → PtpPort) (b : Block) : (modPtp o f b).errs = b.errs := rfl
@[simp] theorem modPtp_remap (o : Nat) (f : PtpPort → PtpPort) (b : Block) : (modPtp o f b).remap = b.remap := rfl
@[simp] theorem modPtp_mtr (o : Nat) (f : PtpPort → PtpPort) (b : Block) : (modPtp o f b).mtr = b.mtr := rfl
@[simp] theorem modPtp_ptp (o : Nat) (f : PtpPort → PtpPort) (b : Block) : (modPtp o f b).ptp = modAt PtpPort.init b.ptp o f := rfl

@[simp] theorem rd_modPub (f : Pub → Pub) (b : Block) (a' : Nat) : rd (modPub f b) a' = rd b a' := rfl
@[simp] theorem fget_modPub (f : Pub → Pub) (b : Block) (f' : Fld) : fget (modPub f b) f' = fget b f' := rfl
@[simp] theorem tget_modPub (f : Pub → Pub) (b : Block) (k' : Nat) : tget (modPub f b) k' = tget b k' := rfl
@[simp] theorem mget_modPub (f : Pub → Pub) (b : Block) (a' : Nat) : mget (modPub f b) a' = mget b a' := rfl
@[simp] theorem modPub_part (f : Pub → Pub) (b : Block) : (modPub f b).part = b.part := rfl
@[simp] theorem modPub_time (f : Pub → Pub) (b : Block) : (modPub f b).time = b.time := rfl
@[simp] theorem modPub_free (f : Pub → Pub) (b : Block) : (modPub f b).free = b.free := rfl
@[simp] theorem modPub_regs (f : Pub → Pub) (b : Block) : (modPub f b).regs = b.regs := rfl
@[simp] theorem modPub_tabs (f : Pub → Pub) (b : Block) : (modPub f b).tabs = b.tabs := rfl
@[simp] theorem modPub_bankB (f : Pub → Pub) (b : Block) : (modPub f b).bankB = b.bankB := rfl
@[simp] theorem modPub_instB (f : Pub → Pub) (b : Block) : (modPub f b).instB = b.instB := rfl
@[simp] theorem modPub_mem (f : Pub → Pub) (b : Block) : (modPub f b).mem = b.mem := rfl
@[simp] theorem modPub_poisoned (f : Pub → Pub) (b : Block) : (modPub f b).poisoned = b.poisoned := rfl
@[simp] theorem modPub_uncorr (f : Pub → Pub) (b : Block) : (modPub f b).uncorr = b.uncorr := rfl
@[simp] theorem modPub_corr (f : Pub → Pub) (b : Block) : (modPub f b).corr = b.corr := rfl
@[simp] theorem modPub_hiLatch (f : Pub → Pub) (b : Block) : (modPub f b).hiLatch = b.hiLatch := rfl
@[simp] theorem modPub_heldLow (f : Pub → Pub) (b : Block) : (modPub f b).heldLow = b.heldLow := rfl
@[simp] theorem modPub_resp (f : Pub → Pub) (b : Block) : (modPub f b).resp = b.resp := rfl
@[simp] theorem modPub_out (f : Pub → Pub) (b : Block) : (modPub f b).out = b.out := rfl
@[simp] theorem modPub_actFifo (f : Pub → Pub) (b : Block) : (modPub f b).actFifo = b.actFifo := rfl
@[simp] theorem modPub_memFifo (f : Pub → Pub) (b : Block) : (modPub f b).memFifo = b.memFifo := rfl
@[simp] theorem modPub_evr (f : Pub → Pub) (b : Block) : (modPub f b).evr = b.evr := rfl
@[simp] theorem modPub_elg (f : Pub → Pub) (b : Block) : (modPub f b).elg = b.elg := rfl
@[simp] theorem modPub_pwr (f : Pub → Pub) (b : Block) : (modPub f b).pwr = b.pwr := rfl
@[simp] theorem modPub_bnk (f : Pub → Pub) (b : Block) : (modPub f b).bnk = b.bnk := rfl
@[simp] theorem modPub_shareB (f : Pub → Pub) (b : Block) : (modPub f b).shareB = b.shareB := rfl
@[simp] theorem modPub_granHold (f : Pub → Pub) (b : Block) : (modPub f b).granHold = b.granHold := rfl
@[simp] theorem modPub_flash (f : Pub → Pub) (b : Block) : (modPub f b).flash = b.flash := rfl
@[simp] theorem modPub_key (f : Pub → Pub) (b : Block) : (modPub f b).key = b.key := rfl
@[simp] theorem modPub_trust (f : Pub → Pub) (b : Block) : (modPub f b).trust = b.trust := rfl
@[simp] theorem modPub_start (f : Pub → Pub) (b : Block) : (modPub f b).start = b.start := rfl
@[simp] theorem modPub_net (f : Pub → Pub) (b : Block) : (modPub f b).net = b.net := rfl
@[simp] theorem modPub_ser (f : Pub → Pub) (b : Block) : (modPub f b).ser = b.ser := rfl
@[simp] theorem modPub_txq (f : Pub → Pub) (b : Block) : (modPub f b).txq = b.txq := rfl
@[simp] theorem modPub_evSec (f : Pub → Pub) (b : Block) : (modPub f b).evSec = b.evSec := rfl
@[simp] theorem modPub_twn (f : Pub → Pub) (b : Block) : (modPub f b).twn = b.twn := rfl
@[simp] theorem modPub_tim (f : Pub → Pub) (b : Block) : (modPub f b).tim = b.tim := rfl
@[simp] theorem modPub_ptp (f : Pub → Pub) (b : Block) : (modPub f b).ptp = b.ptp := rfl
@[simp] theorem modPub_svi (f : Pub → Pub) (b : Block) : (modPub f b).svi = b.svi := rfl
@[simp] theorem modPub_aln (f : Pub → Pub) (b : Block) : (modPub f b).aln = b.aln := rfl
@[simp] theorem modPub_aapBelow (f : Pub → Pub) (b : Block) : (modPub f b).aapBelow = b.aapBelow := rfl
@[simp] theorem modPub_aapLowStuck (f : Pub → Pub) (b : Block) : (modPub f b).aapLowStuck = b.aapLowStuck := rfl
@[simp] theorem modPub_spk (f : Pub → Pub) (b : Block) : (modPub f b).spk = b.spk := rfl
@[simp] theorem modPub_fld (f : Pub → Pub) (b : Block) : (modPub f b).fld = b.fld := rfl
@[simp] theorem modPub_phe (f : Pub → Pub) (b : Block) : (modPub f b).phe = b.phe := rfl
@[simp] theorem modPub_bio (f : Pub → Pub) (b : Block) : (modPub f b).bio = b.bio := rfl
@[simp] theorem modPub_sch (f : Pub → Pub) (b : Block) : (modPub f b).sch = b.sch := rfl
@[simp] theorem modPub_lgr (f : Pub → Pub) (b : Block) : (modPub f b).lgr = b.lgr := rfl
@[simp] theorem modPub_vim (f : Pub → Pub) (b : Block) : (modPub f b).vim = b.vim := rfl
@[simp] theorem modPub_dma (f : Pub → Pub) (b : Block) : (modPub f b).dma = b.dma := rfl
@[simp] theorem modPub_ddrHits (f : Pub → Pub) (b : Block) : (modPub f b).ddrHits = b.ddrHits := rfl
@[simp] theorem modPub_errs (f : Pub → Pub) (b : Block) : (modPub f b).errs = b.errs := rfl
@[simp] theorem modPub_remap (f : Pub → Pub) (b : Block) : (modPub f b).remap = b.remap := rfl
@[simp] theorem modPub_mtr (f : Pub → Pub) (b : Block) : (modPub f b).mtr = b.mtr := rfl
@[simp] theorem modPub_pub (f : Pub → Pub) (b : Block) : (modPub f b).pub = f b.pub := rfl

@[simp] theorem rd_modSch (f : Sch → Sch) (b : Block) (a' : Nat) : rd (modSch f b) a' = rd b a' := rfl
@[simp] theorem fget_modSch (f : Sch → Sch) (b : Block) (f' : Fld) : fget (modSch f b) f' = fget b f' := rfl
@[simp] theorem tget_modSch (f : Sch → Sch) (b : Block) (k' : Nat) : tget (modSch f b) k' = tget b k' := rfl
@[simp] theorem mget_modSch (f : Sch → Sch) (b : Block) (a' : Nat) : mget (modSch f b) a' = mget b a' := rfl
@[simp] theorem modSch_part (f : Sch → Sch) (b : Block) : (modSch f b).part = b.part := rfl
@[simp] theorem modSch_time (f : Sch → Sch) (b : Block) : (modSch f b).time = b.time := rfl
@[simp] theorem modSch_free (f : Sch → Sch) (b : Block) : (modSch f b).free = b.free := rfl
@[simp] theorem modSch_regs (f : Sch → Sch) (b : Block) : (modSch f b).regs = b.regs := rfl
@[simp] theorem modSch_tabs (f : Sch → Sch) (b : Block) : (modSch f b).tabs = b.tabs := rfl
@[simp] theorem modSch_bankB (f : Sch → Sch) (b : Block) : (modSch f b).bankB = b.bankB := rfl
@[simp] theorem modSch_instB (f : Sch → Sch) (b : Block) : (modSch f b).instB = b.instB := rfl
@[simp] theorem modSch_mem (f : Sch → Sch) (b : Block) : (modSch f b).mem = b.mem := rfl
@[simp] theorem modSch_poisoned (f : Sch → Sch) (b : Block) : (modSch f b).poisoned = b.poisoned := rfl
@[simp] theorem modSch_uncorr (f : Sch → Sch) (b : Block) : (modSch f b).uncorr = b.uncorr := rfl
@[simp] theorem modSch_corr (f : Sch → Sch) (b : Block) : (modSch f b).corr = b.corr := rfl
@[simp] theorem modSch_hiLatch (f : Sch → Sch) (b : Block) : (modSch f b).hiLatch = b.hiLatch := rfl
@[simp] theorem modSch_heldLow (f : Sch → Sch) (b : Block) : (modSch f b).heldLow = b.heldLow := rfl
@[simp] theorem modSch_resp (f : Sch → Sch) (b : Block) : (modSch f b).resp = b.resp := rfl
@[simp] theorem modSch_out (f : Sch → Sch) (b : Block) : (modSch f b).out = b.out := rfl
@[simp] theorem modSch_actFifo (f : Sch → Sch) (b : Block) : (modSch f b).actFifo = b.actFifo := rfl
@[simp] theorem modSch_memFifo (f : Sch → Sch) (b : Block) : (modSch f b).memFifo = b.memFifo := rfl
@[simp] theorem modSch_evr (f : Sch → Sch) (b : Block) : (modSch f b).evr = b.evr := rfl
@[simp] theorem modSch_elg (f : Sch → Sch) (b : Block) : (modSch f b).elg = b.elg := rfl
@[simp] theorem modSch_pwr (f : Sch → Sch) (b : Block) : (modSch f b).pwr = b.pwr := rfl
@[simp] theorem modSch_bnk (f : Sch → Sch) (b : Block) : (modSch f b).bnk = b.bnk := rfl
@[simp] theorem modSch_shareB (f : Sch → Sch) (b : Block) : (modSch f b).shareB = b.shareB := rfl
@[simp] theorem modSch_granHold (f : Sch → Sch) (b : Block) : (modSch f b).granHold = b.granHold := rfl
@[simp] theorem modSch_flash (f : Sch → Sch) (b : Block) : (modSch f b).flash = b.flash := rfl
@[simp] theorem modSch_key (f : Sch → Sch) (b : Block) : (modSch f b).key = b.key := rfl
@[simp] theorem modSch_trust (f : Sch → Sch) (b : Block) : (modSch f b).trust = b.trust := rfl
@[simp] theorem modSch_start (f : Sch → Sch) (b : Block) : (modSch f b).start = b.start := rfl
@[simp] theorem modSch_net (f : Sch → Sch) (b : Block) : (modSch f b).net = b.net := rfl
@[simp] theorem modSch_ser (f : Sch → Sch) (b : Block) : (modSch f b).ser = b.ser := rfl
@[simp] theorem modSch_txq (f : Sch → Sch) (b : Block) : (modSch f b).txq = b.txq := rfl
@[simp] theorem modSch_evSec (f : Sch → Sch) (b : Block) : (modSch f b).evSec = b.evSec := rfl
@[simp] theorem modSch_twn (f : Sch → Sch) (b : Block) : (modSch f b).twn = b.twn := rfl
@[simp] theorem modSch_tim (f : Sch → Sch) (b : Block) : (modSch f b).tim = b.tim := rfl
@[simp] theorem modSch_ptp (f : Sch → Sch) (b : Block) : (modSch f b).ptp = b.ptp := rfl
@[simp] theorem modSch_svi (f : Sch → Sch) (b : Block) : (modSch f b).svi = b.svi := rfl
@[simp] theorem modSch_aln (f : Sch → Sch) (b : Block) : (modSch f b).aln = b.aln := rfl
@[simp] theorem modSch_aapBelow (f : Sch → Sch) (b : Block) : (modSch f b).aapBelow = b.aapBelow := rfl
@[simp] theorem modSch_aapLowStuck (f : Sch → Sch) (b : Block) : (modSch f b).aapLowStuck = b.aapLowStuck := rfl
@[simp] theorem modSch_spk (f : Sch → Sch) (b : Block) : (modSch f b).spk = b.spk := rfl
@[simp] theorem modSch_fld (f : Sch → Sch) (b : Block) : (modSch f b).fld = b.fld := rfl
@[simp] theorem modSch_phe (f : Sch → Sch) (b : Block) : (modSch f b).phe = b.phe := rfl
@[simp] theorem modSch_bio (f : Sch → Sch) (b : Block) : (modSch f b).bio = b.bio := rfl
@[simp] theorem modSch_pub (f : Sch → Sch) (b : Block) : (modSch f b).pub = b.pub := rfl
@[simp] theorem modSch_lgr (f : Sch → Sch) (b : Block) : (modSch f b).lgr = b.lgr := rfl
@[simp] theorem modSch_vim (f : Sch → Sch) (b : Block) : (modSch f b).vim = b.vim := rfl
@[simp] theorem modSch_dma (f : Sch → Sch) (b : Block) : (modSch f b).dma = b.dma := rfl
@[simp] theorem modSch_ddrHits (f : Sch → Sch) (b : Block) : (modSch f b).ddrHits = b.ddrHits := rfl
@[simp] theorem modSch_errs (f : Sch → Sch) (b : Block) : (modSch f b).errs = b.errs := rfl
@[simp] theorem modSch_remap (f : Sch → Sch) (b : Block) : (modSch f b).remap = b.remap := rfl
@[simp] theorem modSch_mtr (f : Sch → Sch) (b : Block) : (modSch f b).mtr = b.mtr := rfl
@[simp] theorem modSch_sch (f : Sch → Sch) (b : Block) : (modSch f b).sch = f b.sch := rfl

@[simp] theorem rd_modSer (p : Nat) (f : Ser → Ser) (b : Block) (a' : Nat) : rd (modSer p f b) a' = rd b a' := rfl
@[simp] theorem fget_modSer (p : Nat) (f : Ser → Ser) (b : Block) (f' : Fld) : fget (modSer p f b) f' = fget b f' := rfl
@[simp] theorem tget_modSer (p : Nat) (f : Ser → Ser) (b : Block) (k' : Nat) : tget (modSer p f b) k' = tget b k' := rfl
@[simp] theorem mget_modSer (p : Nat) (f : Ser → Ser) (b : Block) (a' : Nat) : mget (modSer p f b) a' = mget b a' := rfl
@[simp] theorem modSer_part (p : Nat) (f : Ser → Ser) (b : Block) : (modSer p f b).part = b.part := rfl
@[simp] theorem modSer_time (p : Nat) (f : Ser → Ser) (b : Block) : (modSer p f b).time = b.time := rfl
@[simp] theorem modSer_free (p : Nat) (f : Ser → Ser) (b : Block) : (modSer p f b).free = b.free := rfl
@[simp] theorem modSer_regs (p : Nat) (f : Ser → Ser) (b : Block) : (modSer p f b).regs = b.regs := rfl
@[simp] theorem modSer_tabs (p : Nat) (f : Ser → Ser) (b : Block) : (modSer p f b).tabs = b.tabs := rfl
@[simp] theorem modSer_bankB (p : Nat) (f : Ser → Ser) (b : Block) : (modSer p f b).bankB = b.bankB := rfl
@[simp] theorem modSer_instB (p : Nat) (f : Ser → Ser) (b : Block) : (modSer p f b).instB = b.instB := rfl
@[simp] theorem modSer_mem (p : Nat) (f : Ser → Ser) (b : Block) : (modSer p f b).mem = b.mem := rfl
@[simp] theorem modSer_poisoned (p : Nat) (f : Ser → Ser) (b : Block) : (modSer p f b).poisoned = b.poisoned := rfl
@[simp] theorem modSer_uncorr (p : Nat) (f : Ser → Ser) (b : Block) : (modSer p f b).uncorr = b.uncorr := rfl
@[simp] theorem modSer_corr (p : Nat) (f : Ser → Ser) (b : Block) : (modSer p f b).corr = b.corr := rfl
@[simp] theorem modSer_hiLatch (p : Nat) (f : Ser → Ser) (b : Block) : (modSer p f b).hiLatch = b.hiLatch := rfl
@[simp] theorem modSer_heldLow (p : Nat) (f : Ser → Ser) (b : Block) : (modSer p f b).heldLow = b.heldLow := rfl
@[simp] theorem modSer_resp (p : Nat) (f : Ser → Ser) (b : Block) : (modSer p f b).resp = b.resp := rfl
@[simp] theorem modSer_out (p : Nat) (f : Ser → Ser) (b : Block) : (modSer p f b).out = b.out := rfl
@[simp] theorem modSer_actFifo (p : Nat) (f : Ser → Ser) (b : Block) : (modSer p f b).actFifo = b.actFifo := rfl
@[simp] theorem modSer_memFifo (p : Nat) (f : Ser → Ser) (b : Block) : (modSer p f b).memFifo = b.memFifo := rfl
@[simp] theorem modSer_evr (p : Nat) (f : Ser → Ser) (b : Block) : (modSer p f b).evr = b.evr := rfl
@[simp] theorem modSer_elg (p : Nat) (f : Ser → Ser) (b : Block) : (modSer p f b).elg = b.elg := rfl
@[simp] theorem modSer_pwr (p : Nat) (f : Ser → Ser) (b : Block) : (modSer p f b).pwr = b.pwr := rfl
@[simp] theorem modSer_bnk (p : Nat) (f : Ser → Ser) (b : Block) : (modSer p f b).bnk = b.bnk := rfl
@[simp] theorem modSer_shareB (p : Nat) (f : Ser → Ser) (b : Block) : (modSer p f b).shareB = b.shareB := rfl
@[simp] theorem modSer_granHold (p : Nat) (f : Ser → Ser) (b : Block) : (modSer p f b).granHold = b.granHold := rfl
@[simp] theorem modSer_flash (p : Nat) (f : Ser → Ser) (b : Block) : (modSer p f b).flash = b.flash := rfl
@[simp] theorem modSer_key (p : Nat) (f : Ser → Ser) (b : Block) : (modSer p f b).key = b.key := rfl
@[simp] theorem modSer_trust (p : Nat) (f : Ser → Ser) (b : Block) : (modSer p f b).trust = b.trust := rfl
@[simp] theorem modSer_start (p : Nat) (f : Ser → Ser) (b : Block) : (modSer p f b).start = b.start := rfl
@[simp] theorem modSer_net (p : Nat) (f : Ser → Ser) (b : Block) : (modSer p f b).net = b.net := rfl
@[simp] theorem modSer_txq (p : Nat) (f : Ser → Ser) (b : Block) : (modSer p f b).txq = b.txq := rfl
@[simp] theorem modSer_evSec (p : Nat) (f : Ser → Ser) (b : Block) : (modSer p f b).evSec = b.evSec := rfl
@[simp] theorem modSer_twn (p : Nat) (f : Ser → Ser) (b : Block) : (modSer p f b).twn = b.twn := rfl
@[simp] theorem modSer_tim (p : Nat) (f : Ser → Ser) (b : Block) : (modSer p f b).tim = b.tim := rfl
@[simp] theorem modSer_ptp (p : Nat) (f : Ser → Ser) (b : Block) : (modSer p f b).ptp = b.ptp := rfl
@[simp] theorem modSer_svi (p : Nat) (f : Ser → Ser) (b : Block) : (modSer p f b).svi = b.svi := rfl
@[simp] theorem modSer_aln (p : Nat) (f : Ser → Ser) (b : Block) : (modSer p f b).aln = b.aln := rfl
@[simp] theorem modSer_aapBelow (p : Nat) (f : Ser → Ser) (b : Block) : (modSer p f b).aapBelow = b.aapBelow := rfl
@[simp] theorem modSer_aapLowStuck (p : Nat) (f : Ser → Ser) (b : Block) : (modSer p f b).aapLowStuck = b.aapLowStuck := rfl
@[simp] theorem modSer_spk (p : Nat) (f : Ser → Ser) (b : Block) : (modSer p f b).spk = b.spk := rfl
@[simp] theorem modSer_fld (p : Nat) (f : Ser → Ser) (b : Block) : (modSer p f b).fld = b.fld := rfl
@[simp] theorem modSer_phe (p : Nat) (f : Ser → Ser) (b : Block) : (modSer p f b).phe = b.phe := rfl
@[simp] theorem modSer_bio (p : Nat) (f : Ser → Ser) (b : Block) : (modSer p f b).bio = b.bio := rfl
@[simp] theorem modSer_pub (p : Nat) (f : Ser → Ser) (b : Block) : (modSer p f b).pub = b.pub := rfl
@[simp] theorem modSer_sch (p : Nat) (f : Ser → Ser) (b : Block) : (modSer p f b).sch = b.sch := rfl
@[simp] theorem modSer_lgr (p : Nat) (f : Ser → Ser) (b : Block) : (modSer p f b).lgr = b.lgr := rfl
@[simp] theorem modSer_vim (p : Nat) (f : Ser → Ser) (b : Block) : (modSer p f b).vim = b.vim := rfl
@[simp] theorem modSer_dma (p : Nat) (f : Ser → Ser) (b : Block) : (modSer p f b).dma = b.dma := rfl
@[simp] theorem modSer_ddrHits (p : Nat) (f : Ser → Ser) (b : Block) : (modSer p f b).ddrHits = b.ddrHits := rfl
@[simp] theorem modSer_errs (p : Nat) (f : Ser → Ser) (b : Block) : (modSer p f b).errs = b.errs := rfl
@[simp] theorem modSer_remap (p : Nat) (f : Ser → Ser) (b : Block) : (modSer p f b).remap = b.remap := rfl
@[simp] theorem modSer_mtr (p : Nat) (f : Ser → Ser) (b : Block) : (modSer p f b).mtr = b.mtr := rfl
@[simp] theorem modSer_ser (p : Nat) (f : Ser → Ser) (b : Block) : (modSer p f b).ser = modAt Ser.init b.ser p f := rfl

@[simp] theorem rd_modSpk (f : Spk → Spk) (b : Block) (a' : Nat) : rd (modSpk f b) a' = rd b a' := rfl
@[simp] theorem fget_modSpk (f : Spk → Spk) (b : Block) (f' : Fld) : fget (modSpk f b) f' = fget b f' := rfl
@[simp] theorem tget_modSpk (f : Spk → Spk) (b : Block) (k' : Nat) : tget (modSpk f b) k' = tget b k' := rfl
@[simp] theorem mget_modSpk (f : Spk → Spk) (b : Block) (a' : Nat) : mget (modSpk f b) a' = mget b a' := rfl
@[simp] theorem modSpk_part (f : Spk → Spk) (b : Block) : (modSpk f b).part = b.part := rfl
@[simp] theorem modSpk_time (f : Spk → Spk) (b : Block) : (modSpk f b).time = b.time := rfl
@[simp] theorem modSpk_free (f : Spk → Spk) (b : Block) : (modSpk f b).free = b.free := rfl
@[simp] theorem modSpk_regs (f : Spk → Spk) (b : Block) : (modSpk f b).regs = b.regs := rfl
@[simp] theorem modSpk_tabs (f : Spk → Spk) (b : Block) : (modSpk f b).tabs = b.tabs := rfl
@[simp] theorem modSpk_bankB (f : Spk → Spk) (b : Block) : (modSpk f b).bankB = b.bankB := rfl
@[simp] theorem modSpk_instB (f : Spk → Spk) (b : Block) : (modSpk f b).instB = b.instB := rfl
@[simp] theorem modSpk_mem (f : Spk → Spk) (b : Block) : (modSpk f b).mem = b.mem := rfl
@[simp] theorem modSpk_poisoned (f : Spk → Spk) (b : Block) : (modSpk f b).poisoned = b.poisoned := rfl
@[simp] theorem modSpk_uncorr (f : Spk → Spk) (b : Block) : (modSpk f b).uncorr = b.uncorr := rfl
@[simp] theorem modSpk_corr (f : Spk → Spk) (b : Block) : (modSpk f b).corr = b.corr := rfl
@[simp] theorem modSpk_hiLatch (f : Spk → Spk) (b : Block) : (modSpk f b).hiLatch = b.hiLatch := rfl
@[simp] theorem modSpk_heldLow (f : Spk → Spk) (b : Block) : (modSpk f b).heldLow = b.heldLow := rfl
@[simp] theorem modSpk_resp (f : Spk → Spk) (b : Block) : (modSpk f b).resp = b.resp := rfl
@[simp] theorem modSpk_out (f : Spk → Spk) (b : Block) : (modSpk f b).out = b.out := rfl
@[simp] theorem modSpk_actFifo (f : Spk → Spk) (b : Block) : (modSpk f b).actFifo = b.actFifo := rfl
@[simp] theorem modSpk_memFifo (f : Spk → Spk) (b : Block) : (modSpk f b).memFifo = b.memFifo := rfl
@[simp] theorem modSpk_evr (f : Spk → Spk) (b : Block) : (modSpk f b).evr = b.evr := rfl
@[simp] theorem modSpk_elg (f : Spk → Spk) (b : Block) : (modSpk f b).elg = b.elg := rfl
@[simp] theorem modSpk_pwr (f : Spk → Spk) (b : Block) : (modSpk f b).pwr = b.pwr := rfl
@[simp] theorem modSpk_bnk (f : Spk → Spk) (b : Block) : (modSpk f b).bnk = b.bnk := rfl
@[simp] theorem modSpk_shareB (f : Spk → Spk) (b : Block) : (modSpk f b).shareB = b.shareB := rfl
@[simp] theorem modSpk_granHold (f : Spk → Spk) (b : Block) : (modSpk f b).granHold = b.granHold := rfl
@[simp] theorem modSpk_flash (f : Spk → Spk) (b : Block) : (modSpk f b).flash = b.flash := rfl
@[simp] theorem modSpk_key (f : Spk → Spk) (b : Block) : (modSpk f b).key = b.key := rfl
@[simp] theorem modSpk_trust (f : Spk → Spk) (b : Block) : (modSpk f b).trust = b.trust := rfl
@[simp] theorem modSpk_start (f : Spk → Spk) (b : Block) : (modSpk f b).start = b.start := rfl
@[simp] theorem modSpk_net (f : Spk → Spk) (b : Block) : (modSpk f b).net = b.net := rfl
@[simp] theorem modSpk_ser (f : Spk → Spk) (b : Block) : (modSpk f b).ser = b.ser := rfl
@[simp] theorem modSpk_txq (f : Spk → Spk) (b : Block) : (modSpk f b).txq = b.txq := rfl
@[simp] theorem modSpk_evSec (f : Spk → Spk) (b : Block) : (modSpk f b).evSec = b.evSec := rfl
@[simp] theorem modSpk_twn (f : Spk → Spk) (b : Block) : (modSpk f b).twn = b.twn := rfl
@[simp] theorem modSpk_tim (f : Spk → Spk) (b : Block) : (modSpk f b).tim = b.tim := rfl
@[simp] theorem modSpk_ptp (f : Spk → Spk) (b : Block) : (modSpk f b).ptp = b.ptp := rfl
@[simp] theorem modSpk_svi (f : Spk → Spk) (b : Block) : (modSpk f b).svi = b.svi := rfl
@[simp] theorem modSpk_aln (f : Spk → Spk) (b : Block) : (modSpk f b).aln = b.aln := rfl
@[simp] theorem modSpk_aapBelow (f : Spk → Spk) (b : Block) : (modSpk f b).aapBelow = b.aapBelow := rfl
@[simp] theorem modSpk_aapLowStuck (f : Spk → Spk) (b : Block) : (modSpk f b).aapLowStuck = b.aapLowStuck := rfl
@[simp] theorem modSpk_fld (f : Spk → Spk) (b : Block) : (modSpk f b).fld = b.fld := rfl
@[simp] theorem modSpk_phe (f : Spk → Spk) (b : Block) : (modSpk f b).phe = b.phe := rfl
@[simp] theorem modSpk_bio (f : Spk → Spk) (b : Block) : (modSpk f b).bio = b.bio := rfl
@[simp] theorem modSpk_pub (f : Spk → Spk) (b : Block) : (modSpk f b).pub = b.pub := rfl
@[simp] theorem modSpk_sch (f : Spk → Spk) (b : Block) : (modSpk f b).sch = b.sch := rfl
@[simp] theorem modSpk_lgr (f : Spk → Spk) (b : Block) : (modSpk f b).lgr = b.lgr := rfl
@[simp] theorem modSpk_vim (f : Spk → Spk) (b : Block) : (modSpk f b).vim = b.vim := rfl
@[simp] theorem modSpk_dma (f : Spk → Spk) (b : Block) : (modSpk f b).dma = b.dma := rfl
@[simp] theorem modSpk_ddrHits (f : Spk → Spk) (b : Block) : (modSpk f b).ddrHits = b.ddrHits := rfl
@[simp] theorem modSpk_errs (f : Spk → Spk) (b : Block) : (modSpk f b).errs = b.errs := rfl
@[simp] theorem modSpk_remap (f : Spk → Spk) (b : Block) : (modSpk f b).remap = b.remap := rfl
@[simp] theorem modSpk_mtr (f : Spk → Spk) (b : Block) : (modSpk f b).mtr = b.mtr := rfl
@[simp] theorem modSpk_spk (f : Spk → Spk) (b : Block) : (modSpk f b).spk = f b.spk := rfl

@[simp] theorem rd_modStart (f : Start → Start) (b : Block) (a' : Nat) : rd (modStart f b) a' = rd b a' := rfl
@[simp] theorem fget_modStart (f : Start → Start) (b : Block) (f' : Fld) : fget (modStart f b) f' = fget b f' := rfl
@[simp] theorem tget_modStart (f : Start → Start) (b : Block) (k' : Nat) : tget (modStart f b) k' = tget b k' := rfl
@[simp] theorem mget_modStart (f : Start → Start) (b : Block) (a' : Nat) : mget (modStart f b) a' = mget b a' := rfl
@[simp] theorem modStart_part (f : Start → Start) (b : Block) : (modStart f b).part = b.part := rfl
@[simp] theorem modStart_time (f : Start → Start) (b : Block) : (modStart f b).time = b.time := rfl
@[simp] theorem modStart_free (f : Start → Start) (b : Block) : (modStart f b).free = b.free := rfl
@[simp] theorem modStart_regs (f : Start → Start) (b : Block) : (modStart f b).regs = b.regs := rfl
@[simp] theorem modStart_tabs (f : Start → Start) (b : Block) : (modStart f b).tabs = b.tabs := rfl
@[simp] theorem modStart_bankB (f : Start → Start) (b : Block) : (modStart f b).bankB = b.bankB := rfl
@[simp] theorem modStart_instB (f : Start → Start) (b : Block) : (modStart f b).instB = b.instB := rfl
@[simp] theorem modStart_mem (f : Start → Start) (b : Block) : (modStart f b).mem = b.mem := rfl
@[simp] theorem modStart_poisoned (f : Start → Start) (b : Block) : (modStart f b).poisoned = b.poisoned := rfl
@[simp] theorem modStart_uncorr (f : Start → Start) (b : Block) : (modStart f b).uncorr = b.uncorr := rfl
@[simp] theorem modStart_corr (f : Start → Start) (b : Block) : (modStart f b).corr = b.corr := rfl
@[simp] theorem modStart_hiLatch (f : Start → Start) (b : Block) : (modStart f b).hiLatch = b.hiLatch := rfl
@[simp] theorem modStart_heldLow (f : Start → Start) (b : Block) : (modStart f b).heldLow = b.heldLow := rfl
@[simp] theorem modStart_resp (f : Start → Start) (b : Block) : (modStart f b).resp = b.resp := rfl
@[simp] theorem modStart_out (f : Start → Start) (b : Block) : (modStart f b).out = b.out := rfl
@[simp] theorem modStart_actFifo (f : Start → Start) (b : Block) : (modStart f b).actFifo = b.actFifo := rfl
@[simp] theorem modStart_memFifo (f : Start → Start) (b : Block) : (modStart f b).memFifo = b.memFifo := rfl
@[simp] theorem modStart_evr (f : Start → Start) (b : Block) : (modStart f b).evr = b.evr := rfl
@[simp] theorem modStart_elg (f : Start → Start) (b : Block) : (modStart f b).elg = b.elg := rfl
@[simp] theorem modStart_pwr (f : Start → Start) (b : Block) : (modStart f b).pwr = b.pwr := rfl
@[simp] theorem modStart_bnk (f : Start → Start) (b : Block) : (modStart f b).bnk = b.bnk := rfl
@[simp] theorem modStart_shareB (f : Start → Start) (b : Block) : (modStart f b).shareB = b.shareB := rfl
@[simp] theorem modStart_granHold (f : Start → Start) (b : Block) : (modStart f b).granHold = b.granHold := rfl
@[simp] theorem modStart_flash (f : Start → Start) (b : Block) : (modStart f b).flash = b.flash := rfl
@[simp] theorem modStart_key (f : Start → Start) (b : Block) : (modStart f b).key = b.key := rfl
@[simp] theorem modStart_trust (f : Start → Start) (b : Block) : (modStart f b).trust = b.trust := rfl
@[simp] theorem modStart_net (f : Start → Start) (b : Block) : (modStart f b).net = b.net := rfl
@[simp] theorem modStart_ser (f : Start → Start) (b : Block) : (modStart f b).ser = b.ser := rfl
@[simp] theorem modStart_txq (f : Start → Start) (b : Block) : (modStart f b).txq = b.txq := rfl
@[simp] theorem modStart_evSec (f : Start → Start) (b : Block) : (modStart f b).evSec = b.evSec := rfl
@[simp] theorem modStart_twn (f : Start → Start) (b : Block) : (modStart f b).twn = b.twn := rfl
@[simp] theorem modStart_tim (f : Start → Start) (b : Block) : (modStart f b).tim = b.tim := rfl
@[simp] theorem modStart_ptp (f : Start → Start) (b : Block) : (modStart f b).ptp = b.ptp := rfl
@[simp] theorem modStart_svi (f : Start → Start) (b : Block) : (modStart f b).svi = b.svi := rfl
@[simp] theorem modStart_aln (f : Start → Start) (b : Block) : (modStart f b).aln = b.aln := rfl
@[simp] theorem modStart_aapBelow (f : Start → Start) (b : Block) : (modStart f b).aapBelow = b.aapBelow := rfl
@[simp] theorem modStart_aapLowStuck (f : Start → Start) (b : Block) : (modStart f b).aapLowStuck = b.aapLowStuck := rfl
@[simp] theorem modStart_spk (f : Start → Start) (b : Block) : (modStart f b).spk = b.spk := rfl
@[simp] theorem modStart_fld (f : Start → Start) (b : Block) : (modStart f b).fld = b.fld := rfl
@[simp] theorem modStart_phe (f : Start → Start) (b : Block) : (modStart f b).phe = b.phe := rfl
@[simp] theorem modStart_bio (f : Start → Start) (b : Block) : (modStart f b).bio = b.bio := rfl
@[simp] theorem modStart_pub (f : Start → Start) (b : Block) : (modStart f b).pub = b.pub := rfl
@[simp] theorem modStart_sch (f : Start → Start) (b : Block) : (modStart f b).sch = b.sch := rfl
@[simp] theorem modStart_lgr (f : Start → Start) (b : Block) : (modStart f b).lgr = b.lgr := rfl
@[simp] theorem modStart_vim (f : Start → Start) (b : Block) : (modStart f b).vim = b.vim := rfl
@[simp] theorem modStart_dma (f : Start → Start) (b : Block) : (modStart f b).dma = b.dma := rfl
@[simp] theorem modStart_ddrHits (f : Start → Start) (b : Block) : (modStart f b).ddrHits = b.ddrHits := rfl
@[simp] theorem modStart_errs (f : Start → Start) (b : Block) : (modStart f b).errs = b.errs := rfl
@[simp] theorem modStart_remap (f : Start → Start) (b : Block) : (modStart f b).remap = b.remap := rfl
@[simp] theorem modStart_mtr (f : Start → Start) (b : Block) : (modStart f b).mtr = b.mtr := rfl
@[simp] theorem modStart_start (f : Start → Start) (b : Block) : (modStart f b).start = f b.start := rfl

@[simp] theorem rd_modTim (f : Tim → Tim) (b : Block) (a' : Nat) : rd (modTim f b) a' = rd b a' := rfl
@[simp] theorem fget_modTim (f : Tim → Tim) (b : Block) (f' : Fld) : fget (modTim f b) f' = fget b f' := rfl
@[simp] theorem tget_modTim (f : Tim → Tim) (b : Block) (k' : Nat) : tget (modTim f b) k' = tget b k' := rfl
@[simp] theorem mget_modTim (f : Tim → Tim) (b : Block) (a' : Nat) : mget (modTim f b) a' = mget b a' := rfl
@[simp] theorem modTim_part (f : Tim → Tim) (b : Block) : (modTim f b).part = b.part := rfl
@[simp] theorem modTim_time (f : Tim → Tim) (b : Block) : (modTim f b).time = b.time := rfl
@[simp] theorem modTim_free (f : Tim → Tim) (b : Block) : (modTim f b).free = b.free := rfl
@[simp] theorem modTim_regs (f : Tim → Tim) (b : Block) : (modTim f b).regs = b.regs := rfl
@[simp] theorem modTim_tabs (f : Tim → Tim) (b : Block) : (modTim f b).tabs = b.tabs := rfl
@[simp] theorem modTim_bankB (f : Tim → Tim) (b : Block) : (modTim f b).bankB = b.bankB := rfl
@[simp] theorem modTim_instB (f : Tim → Tim) (b : Block) : (modTim f b).instB = b.instB := rfl
@[simp] theorem modTim_mem (f : Tim → Tim) (b : Block) : (modTim f b).mem = b.mem := rfl
@[simp] theorem modTim_poisoned (f : Tim → Tim) (b : Block) : (modTim f b).poisoned = b.poisoned := rfl
@[simp] theorem modTim_uncorr (f : Tim → Tim) (b : Block) : (modTim f b).uncorr = b.uncorr := rfl
@[simp] theorem modTim_corr (f : Tim → Tim) (b : Block) : (modTim f b).corr = b.corr := rfl
@[simp] theorem modTim_hiLatch (f : Tim → Tim) (b : Block) : (modTim f b).hiLatch = b.hiLatch := rfl
@[simp] theorem modTim_heldLow (f : Tim → Tim) (b : Block) : (modTim f b).heldLow = b.heldLow := rfl
@[simp] theorem modTim_resp (f : Tim → Tim) (b : Block) : (modTim f b).resp = b.resp := rfl
@[simp] theorem modTim_out (f : Tim → Tim) (b : Block) : (modTim f b).out = b.out := rfl
@[simp] theorem modTim_actFifo (f : Tim → Tim) (b : Block) : (modTim f b).actFifo = b.actFifo := rfl
@[simp] theorem modTim_memFifo (f : Tim → Tim) (b : Block) : (modTim f b).memFifo = b.memFifo := rfl
@[simp] theorem modTim_evr (f : Tim → Tim) (b : Block) : (modTim f b).evr = b.evr := rfl
@[simp] theorem modTim_elg (f : Tim → Tim) (b : Block) : (modTim f b).elg = b.elg := rfl
@[simp] theorem modTim_pwr (f : Tim → Tim) (b : Block) : (modTim f b).pwr = b.pwr := rfl
@[simp] theorem modTim_bnk (f : Tim → Tim) (b : Block) : (modTim f b).bnk = b.bnk := rfl
@[simp] theorem modTim_shareB (f : Tim → Tim) (b : Block) : (modTim f b).shareB = b.shareB := rfl
@[simp] theorem modTim_granHold (f : Tim → Tim) (b : Block) : (modTim f b).granHold = b.granHold := rfl
@[simp] theorem modTim_flash (f : Tim → Tim) (b : Block) : (modTim f b).flash = b.flash := rfl
@[simp] theorem modTim_key (f : Tim → Tim) (b : Block) : (modTim f b).key = b.key := rfl
@[simp] theorem modTim_trust (f : Tim → Tim) (b : Block) : (modTim f b).trust = b.trust := rfl
@[simp] theorem modTim_start (f : Tim → Tim) (b : Block) : (modTim f b).start = b.start := rfl
@[simp] theorem modTim_net (f : Tim → Tim) (b : Block) : (modTim f b).net = b.net := rfl
@[simp] theorem modTim_ser (f : Tim → Tim) (b : Block) : (modTim f b).ser = b.ser := rfl
@[simp] theorem modTim_txq (f : Tim → Tim) (b : Block) : (modTim f b).txq = b.txq := rfl
@[simp] theorem modTim_evSec (f : Tim → Tim) (b : Block) : (modTim f b).evSec = b.evSec := rfl
@[simp] theorem modTim_twn (f : Tim → Tim) (b : Block) : (modTim f b).twn = b.twn := rfl
@[simp] theorem modTim_ptp (f : Tim → Tim) (b : Block) : (modTim f b).ptp = b.ptp := rfl
@[simp] theorem modTim_svi (f : Tim → Tim) (b : Block) : (modTim f b).svi = b.svi := rfl
@[simp] theorem modTim_aln (f : Tim → Tim) (b : Block) : (modTim f b).aln = b.aln := rfl
@[simp] theorem modTim_aapBelow (f : Tim → Tim) (b : Block) : (modTim f b).aapBelow = b.aapBelow := rfl
@[simp] theorem modTim_aapLowStuck (f : Tim → Tim) (b : Block) : (modTim f b).aapLowStuck = b.aapLowStuck := rfl
@[simp] theorem modTim_spk (f : Tim → Tim) (b : Block) : (modTim f b).spk = b.spk := rfl
@[simp] theorem modTim_fld (f : Tim → Tim) (b : Block) : (modTim f b).fld = b.fld := rfl
@[simp] theorem modTim_phe (f : Tim → Tim) (b : Block) : (modTim f b).phe = b.phe := rfl
@[simp] theorem modTim_bio (f : Tim → Tim) (b : Block) : (modTim f b).bio = b.bio := rfl
@[simp] theorem modTim_pub (f : Tim → Tim) (b : Block) : (modTim f b).pub = b.pub := rfl
@[simp] theorem modTim_sch (f : Tim → Tim) (b : Block) : (modTim f b).sch = b.sch := rfl
@[simp] theorem modTim_lgr (f : Tim → Tim) (b : Block) : (modTim f b).lgr = b.lgr := rfl
@[simp] theorem modTim_vim (f : Tim → Tim) (b : Block) : (modTim f b).vim = b.vim := rfl
@[simp] theorem modTim_dma (f : Tim → Tim) (b : Block) : (modTim f b).dma = b.dma := rfl
@[simp] theorem modTim_ddrHits (f : Tim → Tim) (b : Block) : (modTim f b).ddrHits = b.ddrHits := rfl
@[simp] theorem modTim_errs (f : Tim → Tim) (b : Block) : (modTim f b).errs = b.errs := rfl
@[simp] theorem modTim_remap (f : Tim → Tim) (b : Block) : (modTim f b).remap = b.remap := rfl
@[simp] theorem modTim_mtr (f : Tim → Tim) (b : Block) : (modTim f b).mtr = b.mtr := rfl
@[simp] theorem modTim_tim (f : Tim → Tim) (b : Block) : (modTim f b).tim = f b.tim := rfl

@[simp] theorem rd_modTwn (f : Twn → Twn) (b : Block) (a' : Nat) : rd (modTwn f b) a' = rd b a' := rfl
@[simp] theorem fget_modTwn (f : Twn → Twn) (b : Block) (f' : Fld) : fget (modTwn f b) f' = fget b f' := rfl
@[simp] theorem tget_modTwn (f : Twn → Twn) (b : Block) (k' : Nat) : tget (modTwn f b) k' = tget b k' := rfl
@[simp] theorem mget_modTwn (f : Twn → Twn) (b : Block) (a' : Nat) : mget (modTwn f b) a' = mget b a' := rfl
@[simp] theorem modTwn_part (f : Twn → Twn) (b : Block) : (modTwn f b).part = b.part := rfl
@[simp] theorem modTwn_time (f : Twn → Twn) (b : Block) : (modTwn f b).time = b.time := rfl
@[simp] theorem modTwn_free (f : Twn → Twn) (b : Block) : (modTwn f b).free = b.free := rfl
@[simp] theorem modTwn_regs (f : Twn → Twn) (b : Block) : (modTwn f b).regs = b.regs := rfl
@[simp] theorem modTwn_tabs (f : Twn → Twn) (b : Block) : (modTwn f b).tabs = b.tabs := rfl
@[simp] theorem modTwn_bankB (f : Twn → Twn) (b : Block) : (modTwn f b).bankB = b.bankB := rfl
@[simp] theorem modTwn_instB (f : Twn → Twn) (b : Block) : (modTwn f b).instB = b.instB := rfl
@[simp] theorem modTwn_mem (f : Twn → Twn) (b : Block) : (modTwn f b).mem = b.mem := rfl
@[simp] theorem modTwn_poisoned (f : Twn → Twn) (b : Block) : (modTwn f b).poisoned = b.poisoned := rfl
@[simp] theorem modTwn_uncorr (f : Twn → Twn) (b : Block) : (modTwn f b).uncorr = b.uncorr := rfl
@[simp] theorem modTwn_corr (f : Twn → Twn) (b : Block) : (modTwn f b).corr = b.corr := rfl
@[simp] theorem modTwn_hiLatch (f : Twn → Twn) (b : Block) : (modTwn f b).hiLatch = b.hiLatch := rfl
@[simp] theorem modTwn_heldLow (f : Twn → Twn) (b : Block) : (modTwn f b).heldLow = b.heldLow := rfl
@[simp] theorem modTwn_resp (f : Twn → Twn) (b : Block) : (modTwn f b).resp = b.resp := rfl
@[simp] theorem modTwn_out (f : Twn → Twn) (b : Block) : (modTwn f b).out = b.out := rfl
@[simp] theorem modTwn_actFifo (f : Twn → Twn) (b : Block) : (modTwn f b).actFifo = b.actFifo := rfl
@[simp] theorem modTwn_memFifo (f : Twn → Twn) (b : Block) : (modTwn f b).memFifo = b.memFifo := rfl
@[simp] theorem modTwn_evr (f : Twn → Twn) (b : Block) : (modTwn f b).evr = b.evr := rfl
@[simp] theorem modTwn_elg (f : Twn → Twn) (b : Block) : (modTwn f b).elg = b.elg := rfl
@[simp] theorem modTwn_pwr (f : Twn → Twn) (b : Block) : (modTwn f b).pwr = b.pwr := rfl
@[simp] theorem modTwn_bnk (f : Twn → Twn) (b : Block) : (modTwn f b).bnk = b.bnk := rfl
@[simp] theorem modTwn_shareB (f : Twn → Twn) (b : Block) : (modTwn f b).shareB = b.shareB := rfl
@[simp] theorem modTwn_granHold (f : Twn → Twn) (b : Block) : (modTwn f b).granHold = b.granHold := rfl
@[simp] theorem modTwn_flash (f : Twn → Twn) (b : Block) : (modTwn f b).flash = b.flash := rfl
@[simp] theorem modTwn_key (f : Twn → Twn) (b : Block) : (modTwn f b).key = b.key := rfl
@[simp] theorem modTwn_trust (f : Twn → Twn) (b : Block) : (modTwn f b).trust = b.trust := rfl
@[simp] theorem modTwn_start (f : Twn → Twn) (b : Block) : (modTwn f b).start = b.start := rfl
@[simp] theorem modTwn_net (f : Twn → Twn) (b : Block) : (modTwn f b).net = b.net := rfl
@[simp] theorem modTwn_ser (f : Twn → Twn) (b : Block) : (modTwn f b).ser = b.ser := rfl
@[simp] theorem modTwn_txq (f : Twn → Twn) (b : Block) : (modTwn f b).txq = b.txq := rfl
@[simp] theorem modTwn_evSec (f : Twn → Twn) (b : Block) : (modTwn f b).evSec = b.evSec := rfl
@[simp] theorem modTwn_tim (f : Twn → Twn) (b : Block) : (modTwn f b).tim = b.tim := rfl
@[simp] theorem modTwn_ptp (f : Twn → Twn) (b : Block) : (modTwn f b).ptp = b.ptp := rfl
@[simp] theorem modTwn_svi (f : Twn → Twn) (b : Block) : (modTwn f b).svi = b.svi := rfl
@[simp] theorem modTwn_aln (f : Twn → Twn) (b : Block) : (modTwn f b).aln = b.aln := rfl
@[simp] theorem modTwn_aapBelow (f : Twn → Twn) (b : Block) : (modTwn f b).aapBelow = b.aapBelow := rfl
@[simp] theorem modTwn_aapLowStuck (f : Twn → Twn) (b : Block) : (modTwn f b).aapLowStuck = b.aapLowStuck := rfl
@[simp] theorem modTwn_spk (f : Twn → Twn) (b : Block) : (modTwn f b).spk = b.spk := rfl
@[simp] theorem modTwn_fld (f : Twn → Twn) (b : Block) : (modTwn f b).fld = b.fld := rfl
@[simp] theorem modTwn_phe (f : Twn → Twn) (b : Block) : (modTwn f b).phe = b.phe := rfl
@[simp] theorem modTwn_bio (f : Twn → Twn) (b : Block) : (modTwn f b).bio = b.bio := rfl
@[simp] theorem modTwn_pub (f : Twn → Twn) (b : Block) : (modTwn f b).pub = b.pub := rfl
@[simp] theorem modTwn_sch (f : Twn → Twn) (b : Block) : (modTwn f b).sch = b.sch := rfl
@[simp] theorem modTwn_lgr (f : Twn → Twn) (b : Block) : (modTwn f b).lgr = b.lgr := rfl
@[simp] theorem modTwn_vim (f : Twn → Twn) (b : Block) : (modTwn f b).vim = b.vim := rfl
@[simp] theorem modTwn_dma (f : Twn → Twn) (b : Block) : (modTwn f b).dma = b.dma := rfl
@[simp] theorem modTwn_ddrHits (f : Twn → Twn) (b : Block) : (modTwn f b).ddrHits = b.ddrHits := rfl
@[simp] theorem modTwn_errs (f : Twn → Twn) (b : Block) : (modTwn f b).errs = b.errs := rfl
@[simp] theorem modTwn_remap (f : Twn → Twn) (b : Block) : (modTwn f b).remap = b.remap := rfl
@[simp] theorem modTwn_mtr (f : Twn → Twn) (b : Block) : (modTwn f b).mtr = b.mtr := rfl
@[simp] theorem modTwn_twn (f : Twn → Twn) (b : Block) : (modTwn f b).twn = f b.twn := rfl

@[simp] theorem rd_modLease1 (f : Lease → Lease) (b : Block) (a' : Nat) : rd (modLease1 f b) a' = rd b a' := rfl
@[simp] theorem fget_modLease1 (f : Lease → Lease) (b : Block) (f' : Fld) : fget (modLease1 f b) f' = fget b f' := rfl
@[simp] theorem tget_modLease1 (f : Lease → Lease) (b : Block) (k' : Nat) : tget (modLease1 f b) k' = tget b k' := rfl
@[simp] theorem mget_modLease1 (f : Lease → Lease) (b : Block) (a' : Nat) : mget (modLease1 f b) a' = mget b a' := rfl
@[simp] theorem modLease1_part (f : Lease → Lease) (b : Block) : (modLease1 f b).part = b.part := rfl
@[simp] theorem modLease1_time (f : Lease → Lease) (b : Block) : (modLease1 f b).time = b.time := rfl
@[simp] theorem modLease1_free (f : Lease → Lease) (b : Block) : (modLease1 f b).free = b.free := rfl
@[simp] theorem modLease1_regs (f : Lease → Lease) (b : Block) : (modLease1 f b).regs = b.regs := rfl
@[simp] theorem modLease1_tabs (f : Lease → Lease) (b : Block) : (modLease1 f b).tabs = b.tabs := rfl
@[simp] theorem modLease1_bankB (f : Lease → Lease) (b : Block) : (modLease1 f b).bankB = b.bankB := rfl
@[simp] theorem modLease1_instB (f : Lease → Lease) (b : Block) : (modLease1 f b).instB = b.instB := rfl
@[simp] theorem modLease1_mem (f : Lease → Lease) (b : Block) : (modLease1 f b).mem = b.mem := rfl
@[simp] theorem modLease1_poisoned (f : Lease → Lease) (b : Block) : (modLease1 f b).poisoned = b.poisoned := rfl
@[simp] theorem modLease1_uncorr (f : Lease → Lease) (b : Block) : (modLease1 f b).uncorr = b.uncorr := rfl
@[simp] theorem modLease1_corr (f : Lease → Lease) (b : Block) : (modLease1 f b).corr = b.corr := rfl
@[simp] theorem modLease1_hiLatch (f : Lease → Lease) (b : Block) : (modLease1 f b).hiLatch = b.hiLatch := rfl
@[simp] theorem modLease1_heldLow (f : Lease → Lease) (b : Block) : (modLease1 f b).heldLow = b.heldLow := rfl
@[simp] theorem modLease1_resp (f : Lease → Lease) (b : Block) : (modLease1 f b).resp = b.resp := rfl
@[simp] theorem modLease1_out (f : Lease → Lease) (b : Block) : (modLease1 f b).out = b.out := rfl
@[simp] theorem modLease1_actFifo (f : Lease → Lease) (b : Block) : (modLease1 f b).actFifo = b.actFifo := rfl
@[simp] theorem modLease1_memFifo (f : Lease → Lease) (b : Block) : (modLease1 f b).memFifo = b.memFifo := rfl
@[simp] theorem modLease1_evr (f : Lease → Lease) (b : Block) : (modLease1 f b).evr = b.evr := rfl
@[simp] theorem modLease1_elg (f : Lease → Lease) (b : Block) : (modLease1 f b).elg = b.elg := rfl
@[simp] theorem modLease1_pwr (f : Lease → Lease) (b : Block) : (modLease1 f b).pwr = b.pwr := rfl
@[simp] theorem modLease1_bnk (f : Lease → Lease) (b : Block) : (modLease1 f b).bnk = b.bnk := rfl
@[simp] theorem modLease1_shareB (f : Lease → Lease) (b : Block) : (modLease1 f b).shareB = b.shareB := rfl
@[simp] theorem modLease1_granHold (f : Lease → Lease) (b : Block) : (modLease1 f b).granHold = b.granHold := rfl
@[simp] theorem modLease1_flash (f : Lease → Lease) (b : Block) : (modLease1 f b).flash = b.flash := rfl
@[simp] theorem modLease1_key (f : Lease → Lease) (b : Block) : (modLease1 f b).key = b.key := rfl
@[simp] theorem modLease1_trust (f : Lease → Lease) (b : Block) : (modLease1 f b).trust = b.trust := rfl
@[simp] theorem modLease1_start (f : Lease → Lease) (b : Block) : (modLease1 f b).start = b.start := rfl
@[simp] theorem modLease1_net (f : Lease → Lease) (b : Block) : (modLease1 f b).net = b.net := rfl
@[simp] theorem modLease1_ser (f : Lease → Lease) (b : Block) : (modLease1 f b).ser = b.ser := rfl
@[simp] theorem modLease1_txq (f : Lease → Lease) (b : Block) : (modLease1 f b).txq = b.txq := rfl
@[simp] theorem modLease1_evSec (f : Lease → Lease) (b : Block) : (modLease1 f b).evSec = b.evSec := rfl
@[simp] theorem modLease1_twn (f : Lease → Lease) (b : Block) : (modLease1 f b).twn = b.twn := rfl
@[simp] theorem modLease1_tim (f : Lease → Lease) (b : Block) : (modLease1 f b).tim = b.tim := rfl
@[simp] theorem modLease1_ptp (f : Lease → Lease) (b : Block) : (modLease1 f b).ptp = b.ptp := rfl
@[simp] theorem modLease1_svi (f : Lease → Lease) (b : Block) : (modLease1 f b).svi = b.svi := rfl
@[simp] theorem modLease1_aln (f : Lease → Lease) (b : Block) : (modLease1 f b).aln = b.aln := rfl
@[simp] theorem modLease1_aapBelow (f : Lease → Lease) (b : Block) : (modLease1 f b).aapBelow = b.aapBelow := rfl
@[simp] theorem modLease1_aapLowStuck (f : Lease → Lease) (b : Block) : (modLease1 f b).aapLowStuck = b.aapLowStuck := rfl
@[simp] theorem modLease1_spk (f : Lease → Lease) (b : Block) : (modLease1 f b).spk = b.spk := rfl
@[simp] theorem modLease1_phe (f : Lease → Lease) (b : Block) : (modLease1 f b).phe = b.phe := rfl
@[simp] theorem modLease1_bio (f : Lease → Lease) (b : Block) : (modLease1 f b).bio = b.bio := rfl
@[simp] theorem modLease1_pub (f : Lease → Lease) (b : Block) : (modLease1 f b).pub = b.pub := rfl
@[simp] theorem modLease1_sch (f : Lease → Lease) (b : Block) : (modLease1 f b).sch = b.sch := rfl
@[simp] theorem modLease1_lgr (f : Lease → Lease) (b : Block) : (modLease1 f b).lgr = b.lgr := rfl
@[simp] theorem modLease1_vim (f : Lease → Lease) (b : Block) : (modLease1 f b).vim = b.vim := rfl
@[simp] theorem modLease1_dma (f : Lease → Lease) (b : Block) : (modLease1 f b).dma = b.dma := rfl
@[simp] theorem modLease1_ddrHits (f : Lease → Lease) (b : Block) : (modLease1 f b).ddrHits = b.ddrHits := rfl
@[simp] theorem modLease1_errs (f : Lease → Lease) (b : Block) : (modLease1 f b).errs = b.errs := rfl
@[simp] theorem modLease1_remap (f : Lease → Lease) (b : Block) : (modLease1 f b).remap = b.remap := rfl
@[simp] theorem modLease1_mtr (f : Lease → Lease) (b : Block) : (modLease1 f b).mtr = b.mtr := rfl
@[simp] theorem modLease1_fld (f : Lease → Lease) (b : Block) : (modLease1 f b).fld = { b.fld with lease := f b.fld.lease } := rfl

@[simp] theorem rd_modVim (f : Vim → Vim) (b : Block) (a' : Nat) : rd (modVim f b) a' = rd b a' := rfl
@[simp] theorem fget_modVim (f : Vim → Vim) (b : Block) (f' : Fld) : fget (modVim f b) f' = fget b f' := rfl
@[simp] theorem tget_modVim (f : Vim → Vim) (b : Block) (k' : Nat) : tget (modVim f b) k' = tget b k' := rfl
@[simp] theorem mget_modVim (f : Vim → Vim) (b : Block) (a' : Nat) : mget (modVim f b) a' = mget b a' := rfl
@[simp] theorem modVim_part (f : Vim → Vim) (b : Block) : (modVim f b).part = b.part := rfl
@[simp] theorem modVim_time (f : Vim → Vim) (b : Block) : (modVim f b).time = b.time := rfl
@[simp] theorem modVim_free (f : Vim → Vim) (b : Block) : (modVim f b).free = b.free := rfl
@[simp] theorem modVim_regs (f : Vim → Vim) (b : Block) : (modVim f b).regs = b.regs := rfl
@[simp] theorem modVim_tabs (f : Vim → Vim) (b : Block) : (modVim f b).tabs = b.tabs := rfl
@[simp] theorem modVim_bankB (f : Vim → Vim) (b : Block) : (modVim f b).bankB = b.bankB := rfl
@[simp] theorem modVim_instB (f : Vim → Vim) (b : Block) : (modVim f b).instB = b.instB := rfl
@[simp] theorem modVim_mem (f : Vim → Vim) (b : Block) : (modVim f b).mem = b.mem := rfl
@[simp] theorem modVim_poisoned (f : Vim → Vim) (b : Block) : (modVim f b).poisoned = b.poisoned := rfl
@[simp] theorem modVim_uncorr (f : Vim → Vim) (b : Block) : (modVim f b).uncorr = b.uncorr := rfl
@[simp] theorem modVim_corr (f : Vim → Vim) (b : Block) : (modVim f b).corr = b.corr := rfl
@[simp] theorem modVim_hiLatch (f : Vim → Vim) (b : Block) : (modVim f b).hiLatch = b.hiLatch := rfl
@[simp] theorem modVim_heldLow (f : Vim → Vim) (b : Block) : (modVim f b).heldLow = b.heldLow := rfl
@[simp] theorem modVim_resp (f : Vim → Vim) (b : Block) : (modVim f b).resp = b.resp := rfl
@[simp] theorem modVim_out (f : Vim → Vim) (b : Block) : (modVim f b).out = b.out := rfl
@[simp] theorem modVim_actFifo (f : Vim → Vim) (b : Block) : (modVim f b).actFifo = b.actFifo := rfl
@[simp] theorem modVim_memFifo (f : Vim → Vim) (b : Block) : (modVim f b).memFifo = b.memFifo := rfl
@[simp] theorem modVim_evr (f : Vim → Vim) (b : Block) : (modVim f b).evr = b.evr := rfl
@[simp] theorem modVim_elg (f : Vim → Vim) (b : Block) : (modVim f b).elg = b.elg := rfl
@[simp] theorem modVim_pwr (f : Vim → Vim) (b : Block) : (modVim f b).pwr = b.pwr := rfl
@[simp] theorem modVim_bnk (f : Vim → Vim) (b : Block) : (modVim f b).bnk = b.bnk := rfl
@[simp] theorem modVim_shareB (f : Vim → Vim) (b : Block) : (modVim f b).shareB = b.shareB := rfl
@[simp] theorem modVim_granHold (f : Vim → Vim) (b : Block) : (modVim f b).granHold = b.granHold := rfl
@[simp] theorem modVim_flash (f : Vim → Vim) (b : Block) : (modVim f b).flash = b.flash := rfl
@[simp] theorem modVim_key (f : Vim → Vim) (b : Block) : (modVim f b).key = b.key := rfl
@[simp] theorem modVim_trust (f : Vim → Vim) (b : Block) : (modVim f b).trust = b.trust := rfl
@[simp] theorem modVim_start (f : Vim → Vim) (b : Block) : (modVim f b).start = b.start := rfl
@[simp] theorem modVim_net (f : Vim → Vim) (b : Block) : (modVim f b).net = b.net := rfl
@[simp] theorem modVim_ser (f : Vim → Vim) (b : Block) : (modVim f b).ser = b.ser := rfl
@[simp] theorem modVim_txq (f : Vim → Vim) (b : Block) : (modVim f b).txq = b.txq := rfl
@[simp] theorem modVim_evSec (f : Vim → Vim) (b : Block) : (modVim f b).evSec = b.evSec := rfl
@[simp] theorem modVim_twn (f : Vim → Vim) (b : Block) : (modVim f b).twn = b.twn := rfl
@[simp] theorem modVim_tim (f : Vim → Vim) (b : Block) : (modVim f b).tim = b.tim := rfl
@[simp] theorem modVim_ptp (f : Vim → Vim) (b : Block) : (modVim f b).ptp = b.ptp := rfl
@[simp] theorem modVim_svi (f : Vim → Vim) (b : Block) : (modVim f b).svi = b.svi := rfl
@[simp] theorem modVim_aln (f : Vim → Vim) (b : Block) : (modVim f b).aln = b.aln := rfl
@[simp] theorem modVim_aapBelow (f : Vim → Vim) (b : Block) : (modVim f b).aapBelow = b.aapBelow := rfl
@[simp] theorem modVim_aapLowStuck (f : Vim → Vim) (b : Block) : (modVim f b).aapLowStuck = b.aapLowStuck := rfl
@[simp] theorem modVim_spk (f : Vim → Vim) (b : Block) : (modVim f b).spk = b.spk := rfl
@[simp] theorem modVim_fld (f : Vim → Vim) (b : Block) : (modVim f b).fld = b.fld := rfl
@[simp] theorem modVim_phe (f : Vim → Vim) (b : Block) : (modVim f b).phe = b.phe := rfl
@[simp] theorem modVim_bio (f : Vim → Vim) (b : Block) : (modVim f b).bio = b.bio := rfl
@[simp] theorem modVim_pub (f : Vim → Vim) (b : Block) : (modVim f b).pub = b.pub := rfl
@[simp] theorem modVim_sch (f : Vim → Vim) (b : Block) : (modVim f b).sch = b.sch := rfl
@[simp] theorem modVim_lgr (f : Vim → Vim) (b : Block) : (modVim f b).lgr = b.lgr := rfl
@[simp] theorem modVim_dma (f : Vim → Vim) (b : Block) : (modVim f b).dma = b.dma := rfl
@[simp] theorem modVim_ddrHits (f : Vim → Vim) (b : Block) : (modVim f b).ddrHits = b.ddrHits := rfl
@[simp] theorem modVim_errs (f : Vim → Vim) (b : Block) : (modVim f b).errs = b.errs := rfl
@[simp] theorem modVim_remap (f : Vim → Vim) (b : Block) : (modVim f b).remap = b.remap := rfl
@[simp] theorem modVim_mtr (f : Vim → Vim) (b : Block) : (modVim f b).mtr = b.mtr := rfl
@[simp] theorem modVim_vim (f : Vim → Vim) (b : Block) : (modVim f b).vim = f b.vim := rfl

end Sys2Proof.Machine
end

