-- ==== Sys2Proof/Laws/Raise.lean ====
section
/-! SUPPORT. The components that raising an event leaves, one lemma each, and the equality of two blocks by their components. -/

namespace Sys2Proof.Machine

@[simp] theorem raise_part (ev : Nat) (b : Block) : (raise ev b).part = b.part := by rw [(raise_evOnly ev b).1]
@[simp] theorem raise_time (ev : Nat) (b : Block) : (raise ev b).time = b.time := by rw [(raise_evOnly ev b).1]
@[simp] theorem raise_free (ev : Nat) (b : Block) : (raise ev b).free = b.free := by rw [(raise_evOnly ev b).1]
@[simp] theorem raise_tabs (ev : Nat) (b : Block) : (raise ev b).tabs = b.tabs := by rw [(raise_evOnly ev b).1]
@[simp] theorem raise_bankB (ev : Nat) (b : Block) : (raise ev b).bankB = b.bankB := by rw [(raise_evOnly ev b).1]
@[simp] theorem raise_instB (ev : Nat) (b : Block) : (raise ev b).instB = b.instB := by rw [(raise_evOnly ev b).1]
@[simp] theorem raise_mem (ev : Nat) (b : Block) : (raise ev b).mem = b.mem := by rw [(raise_evOnly ev b).1]
@[simp] theorem raise_poisoned (ev : Nat) (b : Block) : (raise ev b).poisoned = b.poisoned := by rw [(raise_evOnly ev b).1]
@[simp] theorem raise_uncorr (ev : Nat) (b : Block) : (raise ev b).uncorr = b.uncorr := by rw [(raise_evOnly ev b).1]
@[simp] theorem raise_corr (ev : Nat) (b : Block) : (raise ev b).corr = b.corr := by rw [(raise_evOnly ev b).1]
@[simp] theorem raise_hiLatch (ev : Nat) (b : Block) : (raise ev b).hiLatch = b.hiLatch := by rw [(raise_evOnly ev b).1]
@[simp] theorem raise_heldLow (ev : Nat) (b : Block) : (raise ev b).heldLow = b.heldLow := by rw [(raise_evOnly ev b).1]
@[simp] theorem raise_resp (ev : Nat) (b : Block) : (raise ev b).resp = b.resp := by rw [(raise_evOnly ev b).1]
@[simp] theorem raise_out (ev : Nat) (b : Block) : (raise ev b).out = b.out := by rw [(raise_evOnly ev b).1]
@[simp] theorem raise_actFifo (ev : Nat) (b : Block) : (raise ev b).actFifo = b.actFifo := by rw [(raise_evOnly ev b).1]
@[simp] theorem raise_memFifo (ev : Nat) (b : Block) : (raise ev b).memFifo = b.memFifo := by rw [(raise_evOnly ev b).1]
@[simp] theorem raise_pwr (ev : Nat) (b : Block) : (raise ev b).pwr = b.pwr := by rw [(raise_evOnly ev b).1]
@[simp] theorem raise_bnk (ev : Nat) (b : Block) : (raise ev b).bnk = b.bnk := by rw [(raise_evOnly ev b).1]
@[simp] theorem raise_shareB (ev : Nat) (b : Block) : (raise ev b).shareB = b.shareB := by rw [(raise_evOnly ev b).1]
@[simp] theorem raise_granHold (ev : Nat) (b : Block) : (raise ev b).granHold = b.granHold := by rw [(raise_evOnly ev b).1]
@[simp] theorem raise_flash (ev : Nat) (b : Block) : (raise ev b).flash = b.flash := by rw [(raise_evOnly ev b).1]
@[simp] theorem raise_key (ev : Nat) (b : Block) : (raise ev b).key = b.key := by rw [(raise_evOnly ev b).1]
@[simp] theorem raise_trust (ev : Nat) (b : Block) : (raise ev b).trust = b.trust := by rw [(raise_evOnly ev b).1]
@[simp] theorem raise_start (ev : Nat) (b : Block) : (raise ev b).start = b.start := by rw [(raise_evOnly ev b).1]
@[simp] theorem raise_net (ev : Nat) (b : Block) : (raise ev b).net = b.net := by rw [(raise_evOnly ev b).1]
@[simp] theorem raise_ser (ev : Nat) (b : Block) : (raise ev b).ser = b.ser := by rw [(raise_evOnly ev b).1]
@[simp] theorem raise_txq (ev : Nat) (b : Block) : (raise ev b).txq = b.txq := by rw [(raise_evOnly ev b).1]
@[simp] theorem raise_evSec (ev : Nat) (b : Block) : (raise ev b).evSec = b.evSec := by rw [(raise_evOnly ev b).1]
@[simp] theorem raise_twn (ev : Nat) (b : Block) : (raise ev b).twn = b.twn := by rw [(raise_evOnly ev b).1]
@[simp] theorem raise_tim (ev : Nat) (b : Block) : (raise ev b).tim = b.tim := by rw [(raise_evOnly ev b).1]
@[simp] theorem raise_ptp (ev : Nat) (b : Block) : (raise ev b).ptp = b.ptp := by rw [(raise_evOnly ev b).1]
@[simp] theorem raise_svi (ev : Nat) (b : Block) : (raise ev b).svi = b.svi := by rw [(raise_evOnly ev b).1]
@[simp] theorem raise_aln (ev : Nat) (b : Block) : (raise ev b).aln = b.aln := by rw [(raise_evOnly ev b).1]
@[simp] theorem raise_aapBelow (ev : Nat) (b : Block) : (raise ev b).aapBelow = b.aapBelow := by rw [(raise_evOnly ev b).1]
@[simp] theorem raise_aapLowStuck (ev : Nat) (b : Block) : (raise ev b).aapLowStuck = b.aapLowStuck := by rw [(raise_evOnly ev b).1]
@[simp] theorem raise_spk (ev : Nat) (b : Block) : (raise ev b).spk = b.spk := by rw [(raise_evOnly ev b).1]
@[simp] theorem raise_fld (ev : Nat) (b : Block) : (raise ev b).fld = b.fld := by rw [(raise_evOnly ev b).1]
@[simp] theorem raise_phe (ev : Nat) (b : Block) : (raise ev b).phe = b.phe := by rw [(raise_evOnly ev b).1]
@[simp] theorem raise_bio (ev : Nat) (b : Block) : (raise ev b).bio = b.bio := by rw [(raise_evOnly ev b).1]
@[simp] theorem raise_pub (ev : Nat) (b : Block) : (raise ev b).pub = b.pub := by rw [(raise_evOnly ev b).1]
@[simp] theorem raise_sch (ev : Nat) (b : Block) : (raise ev b).sch = b.sch := by rw [(raise_evOnly ev b).1]
@[simp] theorem raise_lgr (ev : Nat) (b : Block) : (raise ev b).lgr = b.lgr := by rw [(raise_evOnly ev b).1]
@[simp] theorem raise_vim (ev : Nat) (b : Block) : (raise ev b).vim = b.vim := by rw [(raise_evOnly ev b).1]
@[simp] theorem raise_dma (ev : Nat) (b : Block) : (raise ev b).dma = b.dma := by rw [(raise_evOnly ev b).1]
@[simp] theorem raise_ddrHits (ev : Nat) (b : Block) : (raise ev b).ddrHits = b.ddrHits := by rw [(raise_evOnly ev b).1]
@[simp] theorem raise_errs (ev : Nat) (b : Block) : (raise ev b).errs = b.errs := by rw [(raise_evOnly ev b).1]
@[simp] theorem raise_remap (ev : Nat) (b : Block) : (raise ev b).remap = b.remap := by rw [(raise_evOnly ev b).1]
@[simp] theorem raise_mtr (ev : Nat) (b : Block) : (raise ev b).mtr = b.mtr := by rw [(raise_evOnly ev b).1]
@[simp] theorem tget_raise (ev : Nat) (b : Block) (k : Nat) : tget (raise ev b) k = tget b k := by rw [tget, raise_tabs, tget]
@[simp] theorem mget_raise (ev : Nat) (b : Block) (a : Nat) : mget (raise ev b) a = mget b a := by rw [mget, raise_mem, mget]

@[simp] theorem raiseP_part (ev : Nat) (pl : List Byte) (b : Block) : (raiseP ev pl b).part = b.part := by rw [(raiseP_evOnly ev pl b).1]
@[simp] theorem raiseP_time (ev : Nat) (pl : List Byte) (b : Block) : (raiseP ev pl b).time = b.time := by rw [(raiseP_evOnly ev pl b).1]
@[simp] theorem raiseP_free (ev : Nat) (pl : List Byte) (b : Block) : (raiseP ev pl b).free = b.free := by rw [(raiseP_evOnly ev pl b).1]
@[simp] theorem raiseP_tabs (ev : Nat) (pl : List Byte) (b : Block) : (raiseP ev pl b).tabs = b.tabs := by rw [(raiseP_evOnly ev pl b).1]
@[simp] theorem raiseP_bankB (ev : Nat) (pl : List Byte) (b : Block) : (raiseP ev pl b).bankB = b.bankB := by rw [(raiseP_evOnly ev pl b).1]
@[simp] theorem raiseP_instB (ev : Nat) (pl : List Byte) (b : Block) : (raiseP ev pl b).instB = b.instB := by rw [(raiseP_evOnly ev pl b).1]
@[simp] theorem raiseP_mem (ev : Nat) (pl : List Byte) (b : Block) : (raiseP ev pl b).mem = b.mem := by rw [(raiseP_evOnly ev pl b).1]
@[simp] theorem raiseP_poisoned (ev : Nat) (pl : List Byte) (b : Block) : (raiseP ev pl b).poisoned = b.poisoned := by rw [(raiseP_evOnly ev pl b).1]
@[simp] theorem raiseP_uncorr (ev : Nat) (pl : List Byte) (b : Block) : (raiseP ev pl b).uncorr = b.uncorr := by rw [(raiseP_evOnly ev pl b).1]
@[simp] theorem raiseP_corr (ev : Nat) (pl : List Byte) (b : Block) : (raiseP ev pl b).corr = b.corr := by rw [(raiseP_evOnly ev pl b).1]
@[simp] theorem raiseP_hiLatch (ev : Nat) (pl : List Byte) (b : Block) : (raiseP ev pl b).hiLatch = b.hiLatch := by rw [(raiseP_evOnly ev pl b).1]
@[simp] theorem raiseP_heldLow (ev : Nat) (pl : List Byte) (b : Block) : (raiseP ev pl b).heldLow = b.heldLow := by rw [(raiseP_evOnly ev pl b).1]
@[simp] theorem raiseP_resp (ev : Nat) (pl : List Byte) (b : Block) : (raiseP ev pl b).resp = b.resp := by rw [(raiseP_evOnly ev pl b).1]
@[simp] theorem raiseP_out (ev : Nat) (pl : List Byte) (b : Block) : (raiseP ev pl b).out = b.out := by rw [(raiseP_evOnly ev pl b).1]
@[simp] theorem raiseP_actFifo (ev : Nat) (pl : List Byte) (b : Block) : (raiseP ev pl b).actFifo = b.actFifo := by rw [(raiseP_evOnly ev pl b).1]
@[simp] theorem raiseP_memFifo (ev : Nat) (pl : List Byte) (b : Block) : (raiseP ev pl b).memFifo = b.memFifo := by rw [(raiseP_evOnly ev pl b).1]
@[simp] theorem raiseP_pwr (ev : Nat) (pl : List Byte) (b : Block) : (raiseP ev pl b).pwr = b.pwr := by rw [(raiseP_evOnly ev pl b).1]
@[simp] theorem raiseP_bnk (ev : Nat) (pl : List Byte) (b : Block) : (raiseP ev pl b).bnk = b.bnk := by rw [(raiseP_evOnly ev pl b).1]
@[simp] theorem raiseP_shareB (ev : Nat) (pl : List Byte) (b : Block) : (raiseP ev pl b).shareB = b.shareB := by rw [(raiseP_evOnly ev pl b).1]
@[simp] theorem raiseP_granHold (ev : Nat) (pl : List Byte) (b : Block) : (raiseP ev pl b).granHold = b.granHold := by rw [(raiseP_evOnly ev pl b).1]
@[simp] theorem raiseP_flash (ev : Nat) (pl : List Byte) (b : Block) : (raiseP ev pl b).flash = b.flash := by rw [(raiseP_evOnly ev pl b).1]
@[simp] theorem raiseP_key (ev : Nat) (pl : List Byte) (b : Block) : (raiseP ev pl b).key = b.key := by rw [(raiseP_evOnly ev pl b).1]
@[simp] theorem raiseP_trust (ev : Nat) (pl : List Byte) (b : Block) : (raiseP ev pl b).trust = b.trust := by rw [(raiseP_evOnly ev pl b).1]
@[simp] theorem raiseP_start (ev : Nat) (pl : List Byte) (b : Block) : (raiseP ev pl b).start = b.start := by rw [(raiseP_evOnly ev pl b).1]
@[simp] theorem raiseP_net (ev : Nat) (pl : List Byte) (b : Block) : (raiseP ev pl b).net = b.net := by rw [(raiseP_evOnly ev pl b).1]
@[simp] theorem raiseP_ser (ev : Nat) (pl : List Byte) (b : Block) : (raiseP ev pl b).ser = b.ser := by rw [(raiseP_evOnly ev pl b).1]
@[simp] theorem raiseP_txq (ev : Nat) (pl : List Byte) (b : Block) : (raiseP ev pl b).txq = b.txq := by rw [(raiseP_evOnly ev pl b).1]
@[simp] theorem raiseP_evSec (ev : Nat) (pl : List Byte) (b : Block) : (raiseP ev pl b).evSec = b.evSec := by rw [(raiseP_evOnly ev pl b).1]
@[simp] theorem raiseP_twn (ev : Nat) (pl : List Byte) (b : Block) : (raiseP ev pl b).twn = b.twn := by rw [(raiseP_evOnly ev pl b).1]
@[simp] theorem raiseP_tim (ev : Nat) (pl : List Byte) (b : Block) : (raiseP ev pl b).tim = b.tim := by rw [(raiseP_evOnly ev pl b).1]
@[simp] theorem raiseP_ptp (ev : Nat) (pl : List Byte) (b : Block) : (raiseP ev pl b).ptp = b.ptp := by rw [(raiseP_evOnly ev pl b).1]
@[simp] theorem raiseP_svi (ev : Nat) (pl : List Byte) (b : Block) : (raiseP ev pl b).svi = b.svi := by rw [(raiseP_evOnly ev pl b).1]
@[simp] theorem raiseP_aln (ev : Nat) (pl : List Byte) (b : Block) : (raiseP ev pl b).aln = b.aln := by rw [(raiseP_evOnly ev pl b).1]
@[simp] theorem raiseP_aapBelow (ev : Nat) (pl : List Byte) (b : Block) : (raiseP ev pl b).aapBelow = b.aapBelow := by rw [(raiseP_evOnly ev pl b).1]
@[simp] theorem raiseP_aapLowStuck (ev : Nat) (pl : List Byte) (b : Block) : (raiseP ev pl b).aapLowStuck = b.aapLowStuck := by rw [(raiseP_evOnly ev pl b).1]
@[simp] theorem raiseP_spk (ev : Nat) (pl : List Byte) (b : Block) : (raiseP ev pl b).spk = b.spk := by rw [(raiseP_evOnly ev pl b).1]
@[simp] theorem raiseP_fld (ev : Nat) (pl : List Byte) (b : Block) : (raiseP ev pl b).fld = b.fld := by rw [(raiseP_evOnly ev pl b).1]
@[simp] theorem raiseP_phe (ev : Nat) (pl : List Byte) (b : Block) : (raiseP ev pl b).phe = b.phe := by rw [(raiseP_evOnly ev pl b).1]
@[simp] theorem raiseP_bio (ev : Nat) (pl : List Byte) (b : Block) : (raiseP ev pl b).bio = b.bio := by rw [(raiseP_evOnly ev pl b).1]
@[simp] theorem raiseP_pub (ev : Nat) (pl : List Byte) (b : Block) : (raiseP ev pl b).pub = b.pub := by rw [(raiseP_evOnly ev pl b).1]
@[simp] theorem raiseP_sch (ev : Nat) (pl : List Byte) (b : Block) : (raiseP ev pl b).sch = b.sch := by rw [(raiseP_evOnly ev pl b).1]
@[simp] theorem raiseP_lgr (ev : Nat) (pl : List Byte) (b : Block) : (raiseP ev pl b).lgr = b.lgr := by rw [(raiseP_evOnly ev pl b).1]
@[simp] theorem raiseP_vim (ev : Nat) (pl : List Byte) (b : Block) : (raiseP ev pl b).vim = b.vim := by rw [(raiseP_evOnly ev pl b).1]
@[simp] theorem raiseP_dma (ev : Nat) (pl : List Byte) (b : Block) : (raiseP ev pl b).dma = b.dma := by rw [(raiseP_evOnly ev pl b).1]
@[simp] theorem raiseP_ddrHits (ev : Nat) (pl : List Byte) (b : Block) : (raiseP ev pl b).ddrHits = b.ddrHits := by rw [(raiseP_evOnly ev pl b).1]
@[simp] theorem raiseP_errs (ev : Nat) (pl : List Byte) (b : Block) : (raiseP ev pl b).errs = b.errs := by rw [(raiseP_evOnly ev pl b).1]
@[simp] theorem raiseP_remap (ev : Nat) (pl : List Byte) (b : Block) : (raiseP ev pl b).remap = b.remap := by rw [(raiseP_evOnly ev pl b).1]
@[simp] theorem raiseP_mtr (ev : Nat) (pl : List Byte) (b : Block) : (raiseP ev pl b).mtr = b.mtr := by rw [(raiseP_evOnly ev pl b).1]
@[simp] theorem tget_raiseP (ev : Nat) (pl : List Byte) (b : Block) (k : Nat) : tget (raiseP ev pl b) k = tget b k := by rw [tget, raiseP_tabs, tget]
@[simp] theorem mget_raiseP (ev : Nat) (pl : List Byte) (b : Block) (a : Nat) : mget (raiseP ev pl b) a = mget b a := by rw [mget, raiseP_mem, mget]

/-- Two blocks with equal components are equal. -/
theorem Block.eq_of_fields {a b : Block}
    (h_part : a.part = b.part)
    (h_time : a.time = b.time)
    (h_free : a.free = b.free)
    (h_regs : a.regs = b.regs)
    (h_tabs : a.tabs = b.tabs)
    (h_bankB : a.bankB = b.bankB)
    (h_instB : a.instB = b.instB)
    (h_mem : a.mem = b.mem)
    (h_poisoned : a.poisoned = b.poisoned)
    (h_uncorr : a.uncorr = b.uncorr)
    (h_corr : a.corr = b.corr)
    (h_hiLatch : a.hiLatch = b.hiLatch)
    (h_heldLow : a.heldLow = b.heldLow)
    (h_resp : a.resp = b.resp)
    (h_out : a.out = b.out)
    (h_actFifo : a.actFifo = b.actFifo)
    (h_memFifo : a.memFifo = b.memFifo)
    (h_evr : a.evr = b.evr)
    (h_elg : a.elg = b.elg)
    (h_pwr : a.pwr = b.pwr)
    (h_bnk : a.bnk = b.bnk)
    (h_shareB : a.shareB = b.shareB)
    (h_granHold : a.granHold = b.granHold)
    (h_flash : a.flash = b.flash)
    (h_key : a.key = b.key)
    (h_trust : a.trust = b.trust)
    (h_start : a.start = b.start)
    (h_net : a.net = b.net)
    (h_ser : a.ser = b.ser)
    (h_txq : a.txq = b.txq)
    (h_evSec : a.evSec = b.evSec)
    (h_twn : a.twn = b.twn)
    (h_tim : a.tim = b.tim)
    (h_ptp : a.ptp = b.ptp)
    (h_svi : a.svi = b.svi)
    (h_aln : a.aln = b.aln)
    (h_aapBelow : a.aapBelow = b.aapBelow)
    (h_aapLowStuck : a.aapLowStuck = b.aapLowStuck)
    (h_spk : a.spk = b.spk)
    (h_fld : a.fld = b.fld)
    (h_phe : a.phe = b.phe)
    (h_bio : a.bio = b.bio)
    (h_pub : a.pub = b.pub)
    (h_sch : a.sch = b.sch)
    (h_lgr : a.lgr = b.lgr)
    (h_vim : a.vim = b.vim)
    (h_dma : a.dma = b.dma)
    (h_ddrHits : a.ddrHits = b.ddrHits)
    (h_errs : a.errs = b.errs)
    (h_remap : a.remap = b.remap)
    (h_mtr : a.mtr = b.mtr) : a = b := by
  cases a; cases b; simp_all

end Sys2Proof.Machine
end

