-- ==== Sys2Proof/Laws/Reset.lean ====
section
/-! SUPPORT. What a reset leaves (R150, R151). -/

namespace Sys2Proof.Machine

theorem keepRegs_out (o : Block) (l : List Nat) (b : Block) : ∃ r, keepRegs o l b = { b with regs := r } := by
  induction l generalizing b with
  | nil => exact ⟨_, rfl⟩
  | cons x t ih =>
    obtain ⟨r, h⟩ := ih (wr x ((rd o x &&& keptMask x) ||| (rd b x &&& (0xFFFFFFFF ^^^ keptMask x))) b)
    exact ⟨r, h⟩

/-- Registers that are not carried over. -/
theorem rd_keepRegs (o : Block) (l : List Nat) (b : Block) (a : Nat) (h : a ∉ l) : rd (keepRegs o l b) a = rd b a := by
  induction l generalizing b with
  | nil => rfl
  | cons x t ih =>
    simp only [List.mem_cons, not_or] at h
    rw [keepRegs, ih _ h.2, rd_wr_other _ _ _ _ h.1]

/-- The last part of a reset, from the block `z` with the kept registers: cause, class and what the status registers show. -/
theorem reset_tail (z : Block) (c k p q r x y : Nat) (b : Block)
   (hb : b = (z |> fset F.SYS_RSTCAUSE_cause c |> fset F.SYS_RSTCAUSE_class k |> fset F.SYS_RSTCAUSE_origcause c
    |> fset F.SYS_RSTCAUSE_prevstep p |> fset F.STL_STAT_cause c |> fset F.STL_STAT_class k |> fset F.SYS_STAT_lcs q
    |> fset F.PWR_STAT_side r |> fset F.PWR_STAT_rstpin x |> fset F.PWR_STAT_pwrok y)) (hc : c < 16) (hk : k < 2):
    OnlyRegs z b ∧ fget b F.SYS_RSTCAUSE_cause = c ∧ fget b F.SYS_RSTCAUSE_class = k ∧
      ∀ a, a ∉ [R.SYS_RSTCAUSE, R.STL_STAT, R.SYS_STAT, R.PWR_STAT] → rd b a = rd z a := by
  refine ⟨?_, ?_, ?_, ?_⟩
  · rw [hb]; exact ((((((((((OnlyRegs.rfl' z).fset _ _).fset _ _).fset _ _).fset _ _).fset _ _).fset _ _).fset _ _).fset _ _).fset _ _).fset _ _
  · rw [hb]
    repeat (rw [fget_fset_other _ _ _ _ (by decide) (by decide)])
    rw [fget_fset_same _ _ _ (by decide)]
    exact Nat.mod_eq_of_lt (Nat.lt_of_lt_of_le hc (by decide))
  · rw [hb]
    repeat (rw [fget_fset_other _ _ _ _ (by decide) (by decide)])
    rw [fget_fset_same _ _ _ (by decide)]
    exact Nat.mod_eq_of_lt (Nat.lt_of_lt_of_le hk (by decide))
  · intro a hl
    simp only [List.mem_cons, List.not_mem_nil, or_false, not_or] at hl
    rw [hb]
    rw [rd_fset_other _ _ _ _ hl.2.2.2, rd_fset_other _ _ _ _ hl.2.2.2, rd_fset_other _ _ _ _ hl.2.2.2, rd_fset_other _ _ _ _ hl.2.2.1,
      rd_fset_other _ _ _ _ hl.2.1, rd_fset_other _ _ _ _ hl.2.1, rd_fset_other _ _ _ _ hl.1, rd_fset_other _ _ _ _ hl.1,
      rd_fset_other _ _ _ _ hl.1, rd_fset_other _ _ _ _ hl.1]

/-- A reset of class 0 or 1 is `resetBlock` with registers carried over and the registers that tell of the reset set. -/
theorem doReset_tail (cause cls : Nat) (b : Block) (hc : cause < 16) (hk : cls < 2) :
    OnlyRegs (keepRegs b (keptOf cls) (resetBlock cls b)) (doReset cause cls b) ∧ fget (doReset cause cls b) F.SYS_RSTCAUSE_cause = cause ∧
      fget (doReset cause cls b) F.SYS_RSTCAUSE_class = cls ∧
      ∀ a, a ∉ [R.SYS_RSTCAUSE, R.STL_STAT, R.SYS_STAT, R.PWR_STAT] →
        rd (doReset cause cls b) a = rd (keepRegs b (keptOf cls) (resetBlock cls b)) a := by
  have h2 : decide (cls = 2) = false := by simp; omega
  exact reset_tail (keepRegs b (keptOf cls) (resetBlock cls b)) cause cls (prevStep b)
    (lcs b) (if b.pwr.phase = .on ∧ b.pwr.rstLow = false then b2n b.pwr.strap else fget b F.PWR_STAT_side)
    (b2n (!b.pwr.rstLow)) (b2n (b.pwr.phase == .on)) (doReset cause cls b) (by simp only [doReset, cond, h2]; rfl) hc hk

theorem doReset_out (cause cls : Nat) (b : Block) (hc : cause < 16) (hk : cls < 2) : OnlyRegs (resetBlock cls b) (doReset cause cls b) :=
  OnlyRegs.trans (keepRegs_out ..) (doReset_tail cause cls b hc hk).1

/-- What every reset but that of a wake from fallow leaves. -/
theorem doReset_wasReset (cause cls : Nat) (b : Block) (hc : cause < 16) (hk : cls < 2) : WasReset cause cls b (doReset cause cls b) := by
  obtain ⟨r1, h1⟩ := keepRegs_out b (keptOf cls) (resetBlock cls b)
  obtain ⟨⟨r, hr⟩, hcause, hcls, hrd⟩ := doReset_tail cause cls b hc hk
  refine ⟨hcause, hcls, fun a ha hl => ?_, ?_⟩
  · rw [hrd a hl, rd_keepRegs _ _ _ _ ha]; rfl
  · rw [hr, h1]
    exact ⟨fun _ => rfl, fun _ => rfl, rfl, rfl, rfl, rfl, rfl, rfl, rfl, rfl, rfl, rfl, rfl, rfl, rfl, rfl, rfl⟩

end Sys2Proof.Machine
end

