-- ==== Sys2Proof/Laws/Tables.lean ====
section
/-! SUPPORT. What a run of table writes leaves. -/

namespace Sys2Proof.Machine

/-- `b'` differs from `b` in table words alone: those of `K` now read `v`, every other one reads as before. -/
def TabsSet (K : Nat → Prop) (v : Nat → Nat) (b b' : Block) : Prop :=
  (∃ l, b' = { b with tabs := l }) ∧ (∀ k, K k → tget b' k = v k) ∧ ∀ k, ¬ K k → tget b' k = tget b k

theorem TabsSet.one (k x : Nat) (b : Block) (h : x < 2 ^ 32) : TabsSet (fun i => i = k) (fun _ => x) b (tset k x b) := by
  refine ⟨⟨_, rfl⟩, fun i hi => ?_, fun i hi => ?_⟩
  · rw [tget_tset, if_pos hi, Nat.mod_eq_of_lt h]
  · rw [tget_tset, if_neg hi]

theorem TabsSet.imp {K K' : Nat → Prop} {v v' : Nat → Nat} {b b' : Block} (h : TabsSet K v b b') (hk : ∀ k, K k ↔ K' k)
    (hv : ∀ k, K k → v k = v' k) : TabsSet K' v' b b' :=
  ⟨h.1, fun k hk' => (h.2.1 k ((hk k).2 hk')).trans (hv k ((hk k).2 hk')), fun k hn => h.2.2 k (fun h' => hn ((hk k).1 h'))⟩

theorem TabsSet.trans {K K' : Nat → Prop} {v : Nat → Nat} {a b c : Block} (h : TabsSet K v a b) (h' : TabsSet K' v b c) :
    TabsSet (fun k => K k ∨ K' k) v a c := by
  refine ⟨?_, fun k hk => ?_, fun k hk => ?_⟩
  · obtain ⟨⟨l, hb⟩, _⟩ := h
    obtain ⟨⟨l', hc⟩, _⟩ := h'
    exact ⟨l', by rw [hc, hb]⟩
  · by_cases h2 : K' k
    · exact h'.2.1 k h2
    · rw [h'.2.2 k h2]
      exact h.2.1 k (hk.resolve_right h2)
  · rw [h'.2.2 k (fun x => hk (.inr x)), h.2.2 k (fun x => hk (.inl x))]

/-- A run of writers, each of which sets its own words to `v`. -/
theorem TabsSet.each {α : Type} (f : α → Block → Block) (K : α → Nat → Prop) (v : Nat → Nat) (l : List α)
    (h : ∀ i ∈ l, ∀ b, TabsSet (K i) v b (f i b)) (b : Block) : TabsSet (fun k => ∃ i ∈ l, K i k) v b (each f l b) := by
  induction l generalizing b with
  | nil => exact ⟨⟨_, rfl⟩, fun k hk => (by simp at hk), fun k _ => rfl⟩
  | cons x t ih =>
    refine ((h x (by simp) b).trans (ih (fun i hi => h i (by simp [hi])) (f x b))).imp (fun k => ?_) fun _ _ => rfl
    simp

end Sys2Proof.Machine
end

