-- ==== Sys2Proof/Tests/Slice0.lean ====
section
/-! SUPPORT. The smoke of WellFormed, a state and operands that meet the hypotheses of each statement, and single steps. Expected results
come from the rules named, not from the model. -/

namespace Sys2Proof.Tests

set_option Elab.async false

open Sys2Proof Sys2Proof.Machine

/-! ### Sample frames and messages -/

/-- A good untagged frame with no payload of interest. -/
def tFrame : Frame := ⟨1, 2, none, 0x1234, 64, .good, false, false, none, none, none, none, .raw []⟩
/-- An Announce of domain 0. -/
def tPtp : PtpMsg := ⟨.announce, 0, 0, 0, 0, 0, 0, false, 0, 0, 0, 0, 0, 0, 0, 0, 0, none, none, none⟩
/-- A heartbeat of zeros. -/
def tHeartbeat : Heartbeat := ⟨0, false, 0, 0, 0, 0, 0, 0, false, false, false, 0, 0, 0⟩
/-- A HELLO of zeros. -/
def tHello : Hello := ⟨0, false, 0, 0, 0, 0, 0, 0, 0, false, false, 0, 0⟩
/-- An IRIG frame of zeros. -/
def tIrig : Irig := ⟨0, true, 1, 0, 0, 0, none, none⟩

/-! ### Well formed: the largest operands of every row are, and one beyond each range is not -/

theorem test_wf_largest_1 : ([Instr.vinStartRise false, Instr.pwrOkRise false, Instr.vinAbandon, Instr.holdupReady 65535, Instr.railFault 15, Instr.modRstNLow, Instr.modRstNRise false, Instr.pwrMeasure 65535 65535 65535 65535 65535 65535 false false, Instr.vinWarningCross 4, Instr.saveSetComplete false, Instr.meteringSaveRepeat, Instr.vinRecoveryCross] ++
    [Instr.vinResetCross 4, Instr.holdupArrayFloor, Instr.junctionHot, Instr.junctionCool, Instr.junctionTrip 4, Instr.thermalRestart, Instr.lifeUpdate, Instr.clearMin 1023, Instr.tallyPeriodEnd, Instr.tallySpeedRefresh 65535 65535, Instr.pwrTallyctlWrite 1023 4294967295, Instr.memoryPatrol 2 []] : List Instr).all (fun c => c.wf) = true := by decide

theorem test_wf_largest_2 : ([Instr.flashPatrol [], Instr.memPop 1023, Instr.memInject 1023 3 false, Instr.registerWrite 1023 1099511627775 4294967295, Instr.loRegisterRead 1023 1099511627775, Instr.lockWrite 1023 255 4294967295, Instr.unknownCommand 1023 255 4294967295, Instr.accessEntryWrite 1023 1099511627775 4294967295, Instr.coreMemoryAccess 1023 1099511627775 (.load 4), Instr.bnkSwap 1023 false false, Instr.bnkCancel 1023, Instr.bnkCopyback 1023] ++
    [Instr.copybackDone, Instr.bnkISwap 1023 63, Instr.bnkICancel 1023 63, Instr.actPop 1023, Instr.actLookup 1023 15, Instr.eventAssert 1023 [], Instr.ievtenWrite 1023 255 63 4294967295, Instr.evrQueueLatch 1023 false, Instr.evrQueuePop 1023 false, Instr.startStep false 0 255, Instr.stepLimit, Instr.harrowPassDone [] 0] : List Instr).all (fun c => c.wf) = true := by decide

theorem test_wf_largest_3 : ([Instr.stlClear 1023 31, Instr.spkHandover, Instr.spkFallback, Instr.spkEvaluate, Instr.watchdogExpiry, Instr.watchdogAutowarm, Instr.sysWdogkick 1023, Instr.sysWarm 1023 false, Instr.sysCold 1023 false, Instr.sysFallow 1023, Instr.sysFallback 1023, Instr.sysResume 1023] ++
    [Instr.sysSpkset 1023 1, Instr.fallowWake, Instr.keyMordant 1023, Instr.keyIdread 1023, Instr.keyAttest 1023, Instr.keyKex 1023, Instr.keyLeafload 1023 2047, Instr.keyLeafdrop 1023 2047, Instr.keyLeafpersist 1023 2047 63, Instr.keyDeriveleaf 1023 7, Instr.keyLeafinfo 1023 2047, Instr.keyRekey 1023] : List Instr).all (fun c => c.wf) = true := by decide

theorem test_wf_largest_4 : ([Instr.keyAnchorset 1023, Instr.keyZeroise 1023, Instr.entropyHealthTest false, Instr.leafExpiry 2047, Instr.rxgraceExpiry 2047, Instr.tmpClear 1023, Instr.tmpVerify 1023 3 63, Instr.tmpRaise 1023 3, Instr.tmpMeasure 1023, Instr.tamperDetect 8 ⟨.ends, false⟩ false 4, Instr.tamperLoopMeasure none false, Instr.tapInstruction .other] ++
    [Instr.dbgChallenge 1023, Instr.dbgAuth 1023, Instr.dbgClose 1023, Instr.linkUp 14 7, Instr.linkDown 14, Instr.sgmiiControlWord 11 false false 7, Instr.macReceive 13 tFrame, Instr.pauseReceive 11 65535, Instr.pauseTimerExpiry 11, Instr.outputTransmit 14 false, Instr.verifyInterval 11, Instr.verifyResponse 11] : List Instr).all (fun c => c.wf) = true := by decide

theorem test_wf_largest_5 : ([Instr.downshiftWindowEnd 11, Instr.downshiftHoldEnd 11, Instr.downshiftFail 11, Instr.downshiftBlockEnd 11, Instr.macClrcnt 1023 14, Instr.macAnrestart 1023 14, Instr.macVerify 1023 14, Instr.hIngress tFrame 7 false false (some 65535) (some 63), Instr.serSend 1023 (some 63) 1, Instr.serRxpop 1023 (some 63) 1, Instr.serAbort 1023 (some 63) 1, Instr.serCharacterReceive 1 0 false false false] ++
    [Instr.serGapSilence 1, Instr.serEndSilence 1, Instr.serIdleReady 1, Instr.serLeadEnd 1, Instr.serLagEnd 1, Instr.serReplyTimeout 1, Instr.switchForward, Instr.cutThrough 11 tFrame, Instr.cutThroughEnd 11 .good, Instr.fdbAgeing, Instr.filterWindow, Instr.swcTread 1023 15] : List Instr).all (fun c => c.wf) = true := by decide

theorem test_wf_largest_6 : ([Instr.swcTwrite 1023 15, Instr.swcFlush 1023 4095, Instr.swcClrcnt 1023, Instr.prpSupervision 5, Instr.prpNodeForget, Instr.prpForget, Instr.prpClrcnt 1023, Instr.prpFlushnodes 1023, Instr.ppsInEdge 0, Instr.irigFrame 0 tIrig, Instr.ptpReceive 11 0 tPtp, Instr.ptpInterval 11 .announce] ++
    [Instr.sourceLoss, Instr.holdoverBound, Instr.timStep 1023, Instr.timStepcancel 1023, Instr.timTxqclr 1023, Instr.timRelock 1023, Instr.timCmptgtWrite 1023 (some 63) 15 4294967295, Instr.timCmpperWrite 1023 (some 63) 15 4294967295, Instr.compareFire 15, Instr.comparePulseEnd 15, Instr.ppsOutRise, Instr.ppsOutFall] : List Instr).all (fun c => c.wf) = true := by decide

theorem test_wf_largest_7 : ([Instr.timSecLoRead 1023, Instr.timTxq0Read 1023, Instr.timTxq2Read 1023, Instr.sviStreamFrame tFrame 14 0, Instr.sviRelayFrame tFrame 14 0, Instr.sviGooseFrame tFrame 0, Instr.gooseStale 1023, Instr.sviTread 1023 15, Instr.sviTwrite 1023 15, Instr.sviClrcnt 1023 2047 false, Instr.sviSimWrite 1023 4294967295, Instr.aapSample 1023 0 []] ++
    [Instr.aapStuck 15 false, Instr.aapRecover 15 false, Instr.aapClrcnt 1023, Instr.slotClaim false, Instr.samplePlace, Instr.localRelease false, Instr.spanPh1Receive false 0 0 [], Instr.spanPh2Receive false 0 [] false, Instr.spanPh3Receive false 0 0, Instr.agreementTimeout false, Instr.gleanClose false, Instr.spanSettleReceive false 0 (.bitmap 0)] : List Instr).all (fun c => c.wf) = true := by decide

theorem test_wf_largest_8 : ([Instr.settleTimeout false, Instr.alnClrcnt 1023, Instr.pheListComplete 7 8191, Instr.pheTread 1023 (some 63) 15, Instr.pheTwrite 1023 (some 63) 15, Instr.pheClrcnt 1023, Instr.windowOpen 15 [], Instr.windowClose 15 0, Instr.imageCopyDone 15, Instr.zdone 15 255 0, Instr.zyield 15 0, Instr.taskTrap 15 0] ++
    [Instr.deadlineGuard 1023 0, Instr.lRelease 1023, Instr.schStart 1023, Instr.schStop 1023, Instr.schTread 1023 15, Instr.schTwrite 1023 15, Instr.schClrcnt 1023 1023 false, Instr.vimShare 1023, Instr.vimCancelshare 1023, Instr.vimStart 1023 63, Instr.vimQuiesce 1023 63, Instr.vimResume 1023 63] : List Instr).all (fun c => c.wf) = true := by decide

theorem test_wf_largest_9 : ([Instr.vimReset 1023 63, Instr.vimForceReset 1023 63 [], Instr.vimMap 1023, Instr.vimUnmap 1023, Instr.vimTread 1023 15, Instr.vimTwrite 1023 15, Instr.shareHarrowDone [] 0, Instr.quiesceDrained 63, Instr.quiesceTimeout 63, Instr.instanceResetDone 63 [] 0, Instr.dmaDoorbell 1023 64 4294967295, Instr.dmaFetch 64] ++
    [Instr.dmaDescriptorStart 64, Instr.dmaBurst 31, Instr.dmaClrcnt 1023, Instr.dplClrcnt 1023, Instr.gooseRetransmit 352, Instr.minonExpiry 15, Instr.binAccept 31, Instr.chatterWindowEnd 31, Instr.supervisionFilter 15, Instr.pubTread 1023 15, Instr.pubTwrite 1023 15, Instr.pubClrcnt 1023] : List Instr).all (fun c => c.wf) = true := by decide

theorem test_wf_largest_10 : ([Instr.bioClrcnt 1023, Instr.bioBinq0Read 1023, Instr.bioBinq2Read 1023, Instr.heartbeatSend, Instr.spanHeartbeatReceive 2 tHeartbeat, Instr.laneTimeout 2, Instr.spanLost, Instr.helloSend, Instr.helloReceive tHello, Instr.pairedJoin, Instr.resyncReceive 65535 [] [], Instr.framedigReceive []] ++
    [Instr.digestPartnerTimeout, Instr.timeSend, Instr.spanTimeReceive 0 0 0 0, Instr.noticeReceive 255 [], Instr.tunnelReceive 2 tFrame, Instr.agreeReceive 5 false false 0 0, Instr.agreeTimeout, Instr.renewDue 1, Instr.renewRetry 1, Instr.grantReceive tFrame, Instr.statusReceive tFrame, Instr.leaseExpiry 1] : List Instr).all (fun c => c.wf) = true := by decide

theorem test_wf_largest_11 : ([Instr.presentSend, Instr.requestRepeat, Instr.statusRemainingExpiry, Instr.witnessMessage tFrame, Instr.witnessQuarantineEnd, Instr.twnCheck 1023 (some 63) 65535, Instr.twnRelease 1023, Instr.twnRejoin 1023, Instr.twnClrcnt 1023, Instr.noleaseWrite 1023 4294967295, Instr.announceSend, Instr.candidateSend] ++
    [Instr.announceAbsent, Instr.fieldAnnounceReceive tFrame, Instr.epochGraceEnd, Instr.fldTread 1023 15, Instr.fldTwrite 1023 15, Instr.fldClrcnt 1023, Instr.retentiveSaveDone 255 false, Instr.lgrTread 1023 15, Instr.lgrTwrite 1023 15, Instr.lgrClrcnt 1023, Instr.lgrRetclr 1023 255, Instr.meteringSheaf] : List Instr).all (fun c => c.wf) = true := by decide

theorem test_wf_largest_12 : ([Instr.mtrPeriodicSave, Instr.mtrSaveDone false, Instr.mtrSnap 1023 (some 63) 127 255, Instr.mtrTread 1023 15, Instr.mtrTwrite 1023 15, Instr.mtrZero 1023 127, Instr.mtrClrcnt 1023, Instr.pulseStart 15, Instr.pulseEnd 15, Instr.plsClrcnt 1023, Instr.recordWrite []] ++
    [Instr.elgLog 1023 63 1023 7, Instr.elgClear 1023, Instr.elgClearDone [], Instr.elgClrcnt 1023, Instr.holdWrite 1023 4294967295 [], Instr.holdExpiry [], Instr.enclaveCommandDone, Instr.swapChecksDone, Instr.binLevelChange 31 false, Instr.drainLevelChange 15 false, Instr.coreMemoryAccess 1023 0 (.csr 15 0xCC2 0)] : List Instr).all (fun c => c.wf) = true := by decide

theorem test_wf_beyond_1 : ([Instr.holdupReady 65536, Instr.railFault 16, Instr.pwrMeasure 65536 65535 65535 65535 65535 65535 false false, Instr.pwrMeasure 65535 65536 65535 65535 65535 65535 false false, Instr.pwrMeasure 65535 65535 65536 65535 65535 65535 false false, Instr.pwrMeasure 65535 65535 65535 65536 65535 65535 false false, Instr.pwrMeasure 65535 65535 65535 65535 65536 65535 false false, Instr.pwrMeasure 65535 65535 65535 65535 65535 65536 false false, Instr.vinWarningCross 5, Instr.vinResetCross 5, Instr.junctionTrip 5, Instr.clearMin 1024] ++
    [Instr.tallySpeedRefresh 65536 65535, Instr.tallySpeedRefresh 65535 65536, Instr.pwrTallyctlWrite 1024 4294967295, Instr.pwrTallyctlWrite 1023 4294967296, Instr.memoryPatrol 3 [], Instr.memPop 1024, Instr.memInject 1024 3 false, Instr.memInject 1023 4 false, Instr.registerWrite 1024 1099511627775 4294967295, Instr.registerWrite 1023 1099511627776 4294967295, Instr.registerWrite 1023 1099511627775 4294967296, Instr.loRegisterRead 1024 1099511627775] : List Instr).all (fun c => !c.wf) = true := by decide

theorem test_wf_beyond_2 : ([Instr.loRegisterRead 1023 1099511627776, Instr.lockWrite 1024 255 4294967295, Instr.lockWrite 1023 256 4294967295, Instr.lockWrite 1023 255 4294967296, Instr.unknownCommand 1024 255 4294967295, Instr.unknownCommand 1023 256 4294967295, Instr.unknownCommand 1023 255 4294967296, Instr.accessEntryWrite 1024 1099511627775 4294967295, Instr.accessEntryWrite 1023 1099511627776 4294967295, Instr.accessEntryWrite 1023 1099511627775 4294967296, Instr.coreMemoryAccess 1024 1099511627775 (.load 4), Instr.coreMemoryAccess 1023 1099511627776 (.load 4)] ++
    [Instr.bnkSwap 1024 false false, Instr.bnkCancel 1024, Instr.bnkCopyback 1024, Instr.bnkISwap 1024 63, Instr.bnkISwap 1023 64, Instr.bnkICancel 1024 63, Instr.bnkICancel 1023 64, Instr.actPop 1024, Instr.actLookup 1024 15, Instr.actLookup 1023 16, Instr.eventAssert 1024 [], Instr.ievtenWrite 1024 255 63 4294967295] : List Instr).all (fun c => !c.wf) = true := by decide

theorem test_wf_beyond_3 : ([Instr.ievtenWrite 1023 256 63 4294967295, Instr.ievtenWrite 1023 255 64 4294967295, Instr.ievtenWrite 1023 255 63 4294967296, Instr.evrQueueLatch 1024 false, Instr.evrQueuePop 1024 false, Instr.startStep false 0 256, Instr.stlClear 1024 31, Instr.stlClear 1023 32, Instr.sysWdogkick 1024, Instr.sysWarm 1024 false, Instr.sysCold 1024 false, Instr.sysFallow 1024] ++
    [Instr.sysFallback 1024, Instr.sysResume 1024, Instr.sysSpkset 1024 1, Instr.sysSpkset 1023 2, Instr.keyMordant 1024, Instr.keyIdread 1024, Instr.keyAttest 1024, Instr.keyKex 1024, Instr.keyLeafload 1024 2047, Instr.keyLeafload 1023 2048, Instr.keyLeafdrop 1024 2047, Instr.keyLeafdrop 1023 2048] : List Instr).all (fun c => !c.wf) = true := by decide

theorem test_wf_beyond_4 : ([Instr.keyLeafpersist 1024 2047 63, Instr.keyLeafpersist 1023 2048 63, Instr.keyLeafpersist 1023 2047 64, Instr.keyDeriveleaf 1024 7, Instr.keyDeriveleaf 1023 8, Instr.keyLeafinfo 1024 2047, Instr.keyLeafinfo 1023 2048, Instr.keyRekey 1024, Instr.keyAnchorset 1024, Instr.keyZeroise 1024, Instr.leafExpiry 2048, Instr.rxgraceExpiry 2048] ++
    [Instr.tmpClear 1024, Instr.tmpVerify 1024 3 63, Instr.tmpVerify 1023 4 63, Instr.tmpVerify 1023 3 64, Instr.tmpRaise 1024 3, Instr.tmpRaise 1023 4, Instr.tmpMeasure 1024, Instr.tamperDetect 9 ⟨.ends, false⟩ false 4, Instr.tamperDetect 8 ⟨.ends, false⟩ false 5, Instr.dbgChallenge 1024, Instr.dbgAuth 1024, Instr.dbgClose 1024] : List Instr).all (fun c => !c.wf) = true := by decide

theorem test_wf_beyond_5 : ([Instr.linkUp 15 7, Instr.linkUp 14 8, Instr.linkDown 15, Instr.sgmiiControlWord 12 false false 7, Instr.sgmiiControlWord 11 false false 8, Instr.macReceive 14 tFrame, Instr.pauseReceive 12 65535, Instr.pauseReceive 11 65536, Instr.pauseTimerExpiry 12, Instr.outputTransmit 15 false, Instr.verifyInterval 12, Instr.verifyResponse 12] ++
    [Instr.downshiftWindowEnd 12, Instr.downshiftHoldEnd 12, Instr.downshiftFail 12, Instr.downshiftBlockEnd 12, Instr.macClrcnt 1024 14, Instr.macClrcnt 1023 15, Instr.macAnrestart 1024 14, Instr.macAnrestart 1023 15, Instr.macVerify 1024 14, Instr.macVerify 1023 15, Instr.hIngress tFrame 8 false false (some 65535) (some 63), Instr.hIngress tFrame 7 false false (some 65536) (some 63)] : List Instr).all (fun c => !c.wf) = true := by decide

theorem test_wf_beyond_6 : ([Instr.hIngress tFrame 7 false false (some 65535) (some 64), Instr.serSend 1024 (some 63) 1, Instr.serSend 1023 (some 64) 1, Instr.serSend 1023 (some 63) 2, Instr.serRxpop 1024 (some 63) 1, Instr.serRxpop 1023 (some 64) 1, Instr.serRxpop 1023 (some 63) 2, Instr.serAbort 1024 (some 63) 1, Instr.serAbort 1023 (some 64) 1, Instr.serAbort 1023 (some 63) 2, Instr.serCharacterReceive 2 0 false false false, Instr.serGapSilence 2] ++
    [Instr.serEndSilence 2, Instr.serIdleReady 2, Instr.serLeadEnd 2, Instr.serLagEnd 2, Instr.serReplyTimeout 2, Instr.cutThrough 12 tFrame, Instr.cutThroughEnd 12 .good, Instr.swcTread 1024 15, Instr.swcTread 1023 16, Instr.swcTwrite 1024 15, Instr.swcTwrite 1023 16, Instr.swcFlush 1024 4095] : List Instr).all (fun c => !c.wf) = true := by decide

theorem test_wf_beyond_7 : ([Instr.swcFlush 1023 4096, Instr.swcClrcnt 1024, Instr.prpSupervision 6, Instr.prpClrcnt 1024, Instr.prpFlushnodes 1024, Instr.ptpReceive 12 0 tPtp, Instr.ptpInterval 12 .announce, Instr.timStep 1024, Instr.timStepcancel 1024, Instr.timTxqclr 1024, Instr.timRelock 1024, Instr.timCmptgtWrite 1024 (some 63) 15 4294967295] ++
    [Instr.timCmptgtWrite 1023 (some 64) 15 4294967295, Instr.timCmptgtWrite 1023 (some 63) 16 4294967295, Instr.timCmptgtWrite 1023 (some 63) 15 4294967296, Instr.timCmpperWrite 1024 (some 63) 15 4294967295, Instr.timCmpperWrite 1023 (some 64) 15 4294967295, Instr.timCmpperWrite 1023 (some 63) 16 4294967295, Instr.timCmpperWrite 1023 (some 63) 15 4294967296, Instr.compareFire 16, Instr.comparePulseEnd 16, Instr.timSecLoRead 1024, Instr.timTxq0Read 1024, Instr.timTxq2Read 1024] : List Instr).all (fun c => !c.wf) = true := by decide

theorem test_wf_beyond_8 : ([Instr.sviStreamFrame tFrame 15 0, Instr.sviRelayFrame tFrame 15 0, Instr.gooseStale 1024, Instr.sviTread 1024 15, Instr.sviTread 1023 16, Instr.sviTwrite 1024 15, Instr.sviTwrite 1023 16, Instr.sviClrcnt 1024 2047 false, Instr.sviClrcnt 1023 2048 false, Instr.sviSimWrite 1024 4294967295, Instr.sviSimWrite 1023 4294967296, Instr.aapSample 1024 0 []] ++
    [Instr.aapStuck 16 false, Instr.aapRecover 16 false, Instr.aapClrcnt 1024, Instr.alnClrcnt 1024, Instr.pheListComplete 8 8191, Instr.pheListComplete 7 8192, Instr.pheTread 1024 (some 63) 15, Instr.pheTread 1023 (some 64) 15, Instr.pheTread 1023 (some 63) 16, Instr.pheTwrite 1024 (some 63) 15, Instr.pheTwrite 1023 (some 64) 15, Instr.pheTwrite 1023 (some 63) 16] : List Instr).all (fun c => !c.wf) = true := by decide

theorem test_wf_beyond_9 : ([Instr.pheClrcnt 1024, Instr.windowOpen 16 [], Instr.windowClose 16 0, Instr.imageCopyDone 16, Instr.zdone 16 255 0, Instr.zdone 15 256 0, Instr.zyield 16 0, Instr.taskTrap 16 0, Instr.deadlineGuard 1024 0, Instr.lRelease 1024, Instr.schStart 1024, Instr.schStop 1024] ++
    [Instr.schTread 1024 15, Instr.schTread 1023 16, Instr.schTwrite 1024 15, Instr.schTwrite 1023 16, Instr.schClrcnt 1024 1023 false, Instr.schClrcnt 1023 1024 false, Instr.vimShare 1024, Instr.vimCancelshare 1024, Instr.vimStart 1024 63, Instr.vimStart 1023 64, Instr.vimQuiesce 1024 63, Instr.vimQuiesce 1023 64] : List Instr).all (fun c => !c.wf) = true := by decide

theorem test_wf_beyond_10 : ([Instr.vimResume 1024 63, Instr.vimResume 1023 64, Instr.vimReset 1024 63, Instr.vimReset 1023 64, Instr.vimForceReset 1024 63 [], Instr.vimForceReset 1023 64 [], Instr.vimMap 1024, Instr.vimUnmap 1024, Instr.vimTread 1024 15, Instr.vimTread 1023 16, Instr.vimTwrite 1024 15, Instr.vimTwrite 1023 16] ++
    [Instr.quiesceDrained 64, Instr.quiesceTimeout 64, Instr.instanceResetDone 64 [] 0, Instr.dmaDoorbell 1024 64 4294967295, Instr.dmaDoorbell 1023 65 4294967295, Instr.dmaDoorbell 1023 64 4294967296, Instr.dmaFetch 65, Instr.dmaDescriptorStart 65, Instr.dmaBurst 32, Instr.dmaClrcnt 1024, Instr.dplClrcnt 1024, Instr.gooseRetransmit 353] : List Instr).all (fun c => !c.wf) = true := by decide

theorem test_wf_beyond_11 : ([Instr.minonExpiry 16, Instr.binAccept 32, Instr.chatterWindowEnd 32, Instr.supervisionFilter 16, Instr.pubTread 1024 15, Instr.pubTread 1023 16, Instr.pubTwrite 1024 15, Instr.pubTwrite 1023 16, Instr.pubClrcnt 1024, Instr.bioClrcnt 1024, Instr.bioBinq0Read 1024, Instr.bioBinq2Read 1024] ++
    [Instr.spanHeartbeatReceive 0 tHeartbeat, Instr.spanHeartbeatReceive 3 tHeartbeat, Instr.laneTimeout 0, Instr.laneTimeout 3, Instr.resyncReceive 65536 [] [], Instr.noticeReceive 256 [], Instr.tunnelReceive 0 tFrame, Instr.tunnelReceive 3 tFrame, Instr.agreeReceive 0 false false 0 0, Instr.agreeReceive 6 false false 0 0, Instr.renewDue 2, Instr.renewRetry 2] : List Instr).all (fun c => !c.wf) = true := by decide

theorem test_wf_beyond_12 : ([Instr.leaseExpiry 2, Instr.twnCheck 1024 (some 63) 65535, Instr.twnCheck 1023 (some 64) 65535, Instr.twnCheck 1023 (some 63) 65536, Instr.twnRelease 1024, Instr.twnRejoin 1024, Instr.twnClrcnt 1024, Instr.noleaseWrite 1024 4294967295, Instr.noleaseWrite 1023 4294967296, Instr.fldTread 1024 15, Instr.fldTread 1023 16, Instr.fldTwrite 1024 15] ++
    [Instr.fldTwrite 1023 16, Instr.fldClrcnt 1024, Instr.retentiveSaveDone 256 false, Instr.lgrTread 1024 15, Instr.lgrTread 1023 16, Instr.lgrTwrite 1024 15, Instr.lgrTwrite 1023 16, Instr.lgrClrcnt 1024, Instr.lgrRetclr 1024 255, Instr.lgrRetclr 1023 256, Instr.mtrSnap 1024 (some 63) 127 255, Instr.mtrSnap 1023 (some 64) 127 255] : List Instr).all (fun c => !c.wf) = true := by decide

theorem test_wf_beyond_13 : ([Instr.mtrSnap 1023 (some 63) 128 255, Instr.mtrSnap 1023 (some 63) 127 256, Instr.mtrTread 1024 15, Instr.mtrTread 1023 16, Instr.mtrTwrite 1024 15, Instr.mtrTwrite 1023 16, Instr.mtrZero 1024 127, Instr.mtrZero 1023 128, Instr.mtrClrcnt 1024, Instr.pulseStart 16, Instr.pulseEnd 16, Instr.plsClrcnt 1024] ++
    [Instr.elgLog 1024 63 1023 7, Instr.elgLog 1023 64 1023 7, Instr.elgLog 1023 63 1024 7, Instr.elgLog 1023 63 1023 8, Instr.elgClear 1024, Instr.elgClrcnt 1024, Instr.holdWrite 1024 4294967295 [], Instr.holdWrite 1023 4294967296 [], Instr.binLevelChange 32 false, Instr.drainLevelChange 16 false, Instr.coreMemoryAccess 1023 0 (.csr 16 0xCC2 0), Instr.coreMemoryAccess 1023 0 (.csr 15 0xCC3 0)] : List Instr).all (fun c => !c.wf) = true := by decide


/-! ### States and operands that meet the hypotheses of the statements

Each theorem shows, for the statement that it names, states and operands that meet the hypotheses of its clauses. At reset the manager core
0x081 holds every right over the registers. -/

/-- The state after reset with some registers set. -/
def tB (l : List (Nat × Nat)) : Block := l.foldl (fun b x => wr x.1 x.2 b) State.reset.blk

/-- The state after reset with one table word set, in both copies. -/
def tT (l : List (Nat × Nat)) (b : Block) : Block := l.foldl (fun b x => tset (x.1 + copyB) x.2 (tset x.1 x.2 b)) b

/-- The state after reset in another supply state. -/
def tP (f : Pwr → Pwr) : Block := { State.reset.blk with pwr := f State.reset.blk.pwr }

theorem test_hyp_StepRunsTheFrontCommand : ({ State.reset with pending := [.lRelease 1] } : State).pending = .lRelease 1 :: [] := rfl

theorem test_hyp_IdleStepAdvancesTime : State.reset.pending = [] ∧ State.reset.blk.pwr.phase ≠ .off ∧ rd State.reset.blk R.TIM_FREQ = 0 ∧
    State.reset.blk.tim.tickRem = 0 ∧ (tP (fun p => { p with phase := .off })).pwr.phase = .off := by decide +kernel

theorem test_hyp_EveryCommandAnswers : (Instr.serAbort 1 none 0).wf = true ∧ (Instr.railFault 16).wf = false := by decide +kernel

theorem test_hyp_StepKeepsSound : ({ State.reset with pending := [.pulseEnd 15, .pulseEnd 0] } : State).sound = true := by decide +kernel

theorem test_hyp_NothingRunsInReset : (Instr.pulseEnd 15).wf = true ∧ (Instr.pulseEnd 15).alwaysOn = false ∧
    running (tP (fun p => { p with rstLow := true })) = false ∧ running (tP (fun p => { p with phase := .off })) = false := by decide +kernel

theorem test_hyp_RefusedCommandHasNoEffect : (Instr.bnkCancel 5).command = some (5, 0x08) ∧ (Instr.bnkCancel 5).wf = true ∧
    coreRuns State.reset.blk 5 = true ∧ ¬ mayWrite State.reset.blk 5 (pg 0x08 0x28) := by unfold mayWrite; decide +kernel

theorem test_hyp_BusyPageIgnoresCommands : (Instr.bnkCancel 0x81).command = some (0x81, 0x08) ∧ (Instr.bnkCancel 0x81).wf = true ∧
    coreRuns (tB [(pg 0x08 0x2C, 1)]) 0x81 = true ∧ mayWrite (tB [(pg 0x08 0x2C, 1)]) 0x81 (pg 0x08 0x28) ∧
    cmdBusy (tB [(pg 0x08 0x2C, 1)]) (pg 0x08 0x2C) = true := by unfold mayWrite; decide +kernel

theorem test_hyp_ClrcntZeroesCounterRegisters : (∀ p ∈ [0x32, 0x33, 0x35, 0x3F, 0x2A, 0x2C, 0x39, 0x38, 0x40, 0x21, 0x10, 0x1E],
    cmdFree State.reset.blk 0x81 p) := by unfold cmdFree mayWrite; decide +kernel

theorem test_hyp_SwcClrcnt : cmdFree State.reset.blk 0x81 0x20 := by unfold cmdFree mayWrite; decide +kernel

theorem test_hyp_ClrcntClearsCounterTables : ∀ p ∈ [0x34, 0x3C, 0x3E, 0x28], cmdFree State.reset.blk 0x81 p := by
  unfold cmdFree mayWrite; decide +kernel

theorem test_hyp_SchClrcntOfOneTask : 1023 < 1024 ∧ cmdFree State.reset.blk 0x81 0x30 := by unfold cmdFree mayWrite; decide +kernel

theorem test_hyp_SupplySequence : (tP (fun p => { p with phase := .off })).pwr.phase = .off ∧
    (tP (fun p => { p with phase := .rising })).pwr.phase = .rising ∧ (tP (fun p => { p with phase := .fallow })).pwr.phase = .fallow ∧
    (tP (fun p => { p with rstLow := true })).pwr.rstLow = true ∧ (tP (fun p => { p with phase := .thermal })).pwr.phase = .thermal := by
  decide +kernel

theorem test_hyp_SupplyResets : (tP (fun p => { p with phase := .rising, nextCause := 15 })).pwr.phase = .rising ∧
    (tP (fun p => { p with phase := .rising, nextCause := 15 })).pwr.nextCause < 16 ∧ State.reset.blk.pwr.phase = .on ∧
    State.reset.blk.mtr.save = none ∧ gaspBusy State.reset.blk = false ∧
    (let b := { tB [(R.PWR_STAT, 1)] with pwr := { State.reset.blk.pwr with saving := true, deferred := .cold 0x0B } }
     b.pwr.phase = .on ∧ gaspBusy b = true) ∧ (let b := tB [(R.PWR_STAT, 2)]
     b.mtr.save = none ∧ b.pwr.phase ≠ .off ∧ pwrState b = 2 ∧ b.pwr.saving = false ∧ b.pwr.thermal = false) := by decide +kernel

theorem test_hyp_SupplyMeasurements : State.reset.blk.pwr.phase = .on ∧ fon State.reset.blk F.PWR_STAT_holdup_ready = false ∧
    (Instr.pwrMeasure 0 65535 0 65535 0 65535 false false).wf = true ∧
    ¬ (fget (tB [(R.PWR_AGEMON, 0)]) F.PWR_AGEMON_ratio < fget (tB [(R.PWR_AGEMON, 0)]) F.PWR_AGEMON_limit ∧
      fget (tB [(R.PWR_AGEMON, 0)]) F.PWR_AGEMON_limit ≤ 65535) ∧ fon State.reset.blk F.PWR_STAT_hot = false ∧
    fon (tB [(R.PWR_STAT, 0x100)]) F.PWR_STAT_hot = true ∧ cmdFree State.reset.blk 0x81 0x01 := by
  unfold cmdFree mayWrite; decide +kernel

theorem test_hyp_SupplyMonitor : (let b := State.reset.blk
     b.pwr.phase = .on ∧ pwrState b = 0 ∧ b.key.run = none ∧ holder b = false) ∧
    (tB [(R.PWR_STAT, 1)]).pwr.phase = .on ∧ pwrState (tB [(R.PWR_STAT, 1)]) = 1 ∧ gaspBusy (tB [(R.PWR_STAT, 1)]) = false ∧
    (tB [(R.PWR_STAT, 1)]).pwr.deferred = .none ∧ (tB [(R.PWR_STAT, 1)]).pwr.thermal = false ∧
    (let b := { tB [(R.PWR_STAT, 1)] with pwr := { State.reset.blk.pwr with saving := true } }
     b.pwr.phase ≠ .off ∧ b.pwr.saving = true ∧ pwrState b = 1 ∧ b.pwr.deferred = .none ∧ b.pwr.recoverAt = none ∧ gaspBusy b = true ∧
      fon b F.ELG_STAT_ready = false ∧ b.mtr.next = none ∧ b.mtr.save = none) ∧
    (let b := { tB [(R.PWR_STAT, 1)] with pwr := { State.reset.blk.pwr with saving := true, recoverAt := some 0 } }
     b.pwr.phase ≠ .off ∧ b.pwr.saving = true ∧ pwrState b = 1 ∧ b.pwr.deferred = .none ∧ b.pwr.recoverAt = some 0) ∧
    (tP (fun p => { p with phase := .fallow })).pwr.phase = .fallow ∧
    (let b := { tB [(R.PWR_STAT, 1)] with pwr := { State.reset.blk.pwr with firstSave := true }, mtr := { State.reset.blk.mtr with next := some 0 } }
     b.pwr.phase ≠ .off ∧ pwrState b = 1 ∧ b.pwr.firstSave = true ∧ b.mtr.save = none ∧ b.part.optM = true ∧ b.mtr.next.isSome = true) := by
  decide +kernel

/-- The tally loop acting on a least headland, with Vcore at `v` mV. -/
def tTally (h : Option Int) (v hot state : Nat) (jump : Bool) (hold : Nat) : Block :=
  { tB [(R.PWR_TALLYCTL, 0x3200001)] with
    sch := { State.reset.blk.sch with minH := h }
    pwr := { State.reset.blk.pwr with tallyJump := jump } }
    |> fset F.SCH_STAT_run 1 |> fset F.PWR_TALLYSTAT_vcore v |> fset F.PWR_STAT_hot hot |> fset F.PWR_STAT_state state |> fset F.PWR_TALLYSTAT_holdleft hold

theorem test_hyp_TallyLoop : (∀ b ∈ [tTally (some (-1)) 800 0 0 false 0, tTally (some (-1)) 800 1 0 false 0, tTally none 800 0 0 false 0,
      tTally (some (-1)) 800 0 1 false 0, tTally (some (-1)) 900 0 0 true 0, tTally none 800 0 0 false 16],
      running b = true ∧ tallyOn b = true) ∧ running State.reset.blk = true ∧ tallyOn State.reset.blk = false ∧
    (tTally none 800 0 0 true 0).pwr.tallyJump = true ∧ fget (tTally none 800 0 0 false 16) F.PWR_TALLYSTAT_holdleft = 16 ∧
    pwrState (tTally none 800 0 1 false 0) = 1 ∧ fon (tTally none 800 1 0 false 0) F.PWR_STAT_hot = true ∧
    -1 < (cfg State.reset.blk F.PWR_TALLY_target : Int) ∧ coreRuns State.reset.blk 0x81 = true ∧
    mayWrite State.reset.blk 0x81 R.PWR_TALLYCTL ∧ bitsOf (719 * 65536) 27 16 < 720 ∧ 900 < bitsOf (901 * 65536) 27 16 ∧
    720 ≤ bitsOf (720 * 65536) 27 16 ∧ bitsOf (900 * 65536) 27 16 ≤ 900 ∧ bitOf (900 * 65536) 0 = false := by
  unfold mayWrite; decide +kernel

theorem test_hyp_TreadShowsTheEntry : (∀ p ∈ [0x34, 0x28, 0x30, 0x3C, 0x3E, 0x39, 0x2C], cmdFree State.reset.blk 0x81 p) ∧
    rd (tB [(R.PUB_TIDX, 351)]) R.PUB_TIDX < 352 ∧ 352 ≤ rd (tB [(R.PUB_TIDX, 352)]) R.PUB_TIDX ∧ fget State.reset.blk F.MTR_TIDX_idx < 32 := by
  unfold cmdFree mayWrite; decide +kernel

theorem test_hyp_TwriteWritesTheShadow : (∀ p ∈ [0x34, 0x28, 0x30, 0x3C, 0x3E, 0x39], cmdFree State.reset.blk 0x81 p ∧
      cfgLocked State.reset.blk p = false ∧ cmdFree (tB [(pg p 0x24, 1)]) 0x81 p ∧ cfgLocked (tB [(pg p 0x24, 1)]) p = true) ∧
    shadowsFrozen State.reset.blk = false ∧ (let b := { State.reset.blk with bnk := { State.reset.blk.bnk with copying := true } }
     cmdFree b 0x81 0x34 ∧ shadowsFrozen b = true) := by
  unfold cmdFree mayWrite; decide +kernel

theorem test_hyp_TablesThatCommandsDoNotWrite : (∀ p ∈ [0x34, 0x28, 0x30, 0x3C, 0x3E, 0x39, 0x20, 0x31, 0x2C], cmdFree State.reset.blk 0x81 p) ∧
    15 < 16 := by unfold cmdFree mayWrite; decide +kernel

/-- A state after reset with the start in a given place. -/
def tStart (f : Start → Start) (b : Block := State.reset.blk) : Block := { b with start := f b.start }

theorem test_hyp_SwitchTables : cmdFree State.reset.blk 0x81 0x20 ∧ fget (tB [(R.SWC_TIDX, 4094)]) F.SWC_TIDX_idx = 4094 ∧
    cmdFree (tB [(R.SWC_TIDX, 1)]) 0x81 0x20 ∧ fget (tB [(R.SWC_TIDX, 1)]) F.SWC_TIDX_idx = 1 ∧ fdbAt State.reset.blk 0 = none ∧
    fget (tB [(R.SWC_TIDX, 511)]) F.SWC_TIDX_idx < 512 ∧ cfgLocked State.reset.blk 0x20 = false ∧ shadowsFrozen State.reset.blk = false := by
  unfold cmdFree mayWrite; decide +kernel

/-- An entry lies where the hash puts it, whatever the hash. -/
theorem test_hyp_SwitchTables_entry :
    (fdbFind { State.reset.blk with net := { State.reset.blk.net with fdb := [(8 * fdbBucket 1 5, ⟨5, 1, 1, false, 0⟩)] } } 1 5 =
      some (8 * fdbBucket 1 5, ⟨5, 1, 1, false, 0⟩)) ∧ 8 * fdbBucket 1 5 < 16384 := by
  have : fdbBucket 1 5 < 2048 := Nat.mod_lt _ (by decide)
  exact ⟨by simp [fdbFind], by omega⟩

theorem test_hyp_ShareAndJobTables : cmdFree State.reset.blk 0x81 0x31 ∧ fget (tB [(R.VIM_TIDX, 63)]) F.VIM_TIDX_idx < vimSize 0 ∧
    fget (tB [(R.VIM_TIDX, 511)]) F.VIM_TIDX_idx < vimSize 2 ∧ cfgLocked State.reset.blk 0x31 = false ∧ State.reset.blk.vim.pend = none ∧
    State.reset.blk.vim.ask = none ∧ cmdFree (tB [(R.PHE_TIDX, 160)]) 0x81 0x2C ∧ 160 ≤ fget (tB [(R.PHE_TIDX, 160)]) F.PHE_TIDX_idx ∧
    slotOwner (tB [(R.PHE_TIDX, 160)]) 160 = none ∧ subFree State.reset.blk 0x81 0x2C 63 0x1F0 0x1F4 := by
  unfold cmdFree subFree mayWrite; decide +kernel

/-- Instance 0 with 64 job slots from slot 160. -/
def tSlots : Block := tT [(vimKey 0 0 0, 2 ^ 31), (vimKey 0 0 6, 160 * 65536 + 64)] (tB [(R.PHE_I_TIDX 0, 160)])

theorem test_hyp_PatrolsMendMemory : running State.reset.blk = true ∧ ofKind 2 State.reset.blk.uncorr = [] ∧ pwrState State.reset.blk ≠ 2 ∧ pwrState (tB [(R.PWR_STAT, 2)]) = 2 ∧
    running (tB [(R.PWR_STAT, 2)]) = true ∧
    (let b := { State.reset.blk with uncorr := [0x1000000000] }
     b.uncorr = [0x1000000000] ∧ memKind 0x1000000000 < 3 ∧ (cwOf 0x1000000000).1 = 0x1000000000 ∧ 0x1000000000 ∉ b.poisoned ∧ b.corr = [] ∧
     b.memFifo.length < 32) ∧ (⟨9, none, 12, false, 10⟩ : FlashBlk).slot = none ∧
    (let x : FlashBlk := ⟨9, some 0, 0, true, 10⟩
     let y : FlashBlk := ⟨11, some 1, 0, true, 12⟩
     x.slot = some 0 ∧ y.slot = some 1 ∧ x.old = true ∧ y.old = true ∧ x.block ≠ y.block) := by decide +kernel

theorem test_hyp_MemPopAndInject : cmdFree State.reset.blk 0x81 0x42 ∧ debugMay State.reset.blk 3 = false ∧
    (let b := tB [(R.SYS_STAT, 0xFFFFFFFF), (R.DBG_STAT, 0xFFFFFFFF), (R.MEM_INJADDR_HI, 0x10)]
     cmdFree b 0x81 0x42 ∧ debugMay b 3 = true ∧ targetOf b.part 0x1000000000 = .mem 1 ∧
     fget b F.MEM_INJADDR_LO_addr + fget b F.MEM_INJADDR_HI_addr * 2 ^ 32 = 0x1000000000 ∧ (cwOf 0x1000000000).1 ∉ b.uncorr ∧
     (cwOf 0x1000000000).1 ∉ b.poisoned ∧ memKind 0x1000000000 ≠ 1 ∧ b.errs.find? (fun e => e.addr == 0x1000000000) = none) ∧
    (let b := tB [(R.SYS_STAT, 0xFFFFFFFF), (R.DBG_STAT, 0xFFFFFFFF), (R.MEM_INJADDR_HI, 0x20)]
     debugMay b 3 = true ∧ targetOf b.part 0x2000000000 = .page 0x00 0) := by unfold cmdFree mayWrite; decide +kernel

theorem test_hyp_AbsentPagesReadZero : (let b := { State.reset.blk with part := { State.reset.blk.part with optS := false } }
    coreRuns b 0x81 = true ∧ absentPage b.part 0x36 = true ∧ targetOf b.part (pg 0x36 0xC) = .page 0x36 0xC ∧
    targetOf b.part (sp 63 0x36 0x10) = .sub 0x36 63 0x10) := by decide +kernel

theorem test_hyp_ForeignAperturesAreDenied : 63 < 64 ∧ 62 ≠ 63 ∧ 0x3E ∈ subPages ∧ 0xFFC % 4 = 0 ∧ coreRuns State.reset.blk 62 = true ∧
    absentPage State.reset.blk.part 0x3E = false := by decide +kernel

theorem test_hyp_RegisterAccess : coreRuns State.reset.blk 0x81 = true ∧ (∀ p ∈ [0x00, 0x44], p ∈ allPages ∧ mayWrite State.reset.blk 0x81 (pg p 0x14) ∧
      mayWrite State.reset.blk 0x81 (pg p 0x10) ∧ mayWrite State.reset.blk 0x81 (pg p 0x24) ∧ mayWrite State.reset.blk 0x81 (pg p 0xF000) ∧
      mayWrite State.reset.blk 0x81 (pg p 0xF000 + 8 * 127 + 4) ∧ bitOf (rd State.reset.blk (pg p 0x24)) 1 = false) ∧
    bitOf (rd (tB [(pg 0x44 0x24, 2)]) (pg 0x44 0x24)) 1 = true ∧ mayWrite (tB [(pg 0x44 0x24, 2)]) 0x81 (pg 0x44 0xF000) ∧
    mayRead State.reset.blk 0x81 R.BNK_CURIDX_LO ∧ isMem State.reset.blk R.BNK_CURIDX_LO = false ∧
    isLo (targetOf State.reset.blk.part R.BNK_CURIDX_LO) = true ∧ isLo (targetOf State.reset.blk.part (R.BNK_CURIDX_LO + 4)) = false ∧
    mayRead State.reset.blk 0x81 (R.BNK_CURIDX_LO + 4) ∧ State.reset.blk.hiLatch.any (fun e => e.1 == (0x81, R.BNK_CURIDX_LO + 4)) = false := by
  unfold mayWrite mayRead; decide +kernel

/-- Some requester may load and store at some byte of memory at reset, and a poisoned codeword can stand there. -/
theorem test_hyp_CoreMemoryAccess : isMem State.reset.blk 0x1800000000 = true ∧
    (judge State.reset.blk 0x81 0x1800000000 (.word 8) Need.write).status = .ok ∧
    (judge State.reset.blk 0x81 0x1800000000 (.word 8) Need.read).status = .ok ∧
    (∀ c ∈ cwsOf 0x1800000000 8, c ∉ State.reset.blk.poisoned ∧ c ∉ State.reset.blk.uncorr ∧ c ∉ State.reset.blk.corr) ∧
    (let b := { State.reset.blk with poisoned := [0x1800000000] }
     (judge b 0x81 0x1800000000 (.word 1) Need.read).status = .ok ∧ (cwOf 0x1800000000).1 ∈ b.poisoned ∧ b.memFifo.length < 32) := by
  decide +kernel

theorem test_hyp_UnknownCommandsAndAct : (pageCommand 0x81 0x40 0xFF).isNone = true ∧ cmdFree State.reset.blk 0x81 0x40 ∧
    cmdFree State.reset.blk 0x81 0x06 ∧ targetOf State.reset.blk.part 0x0FFFFFFFFF = .unmapped := by unfold cmdFree mayWrite; decide +kernel

theorem test_hyp_EventsReachTheirRoute : evLoc 384 = some (0x20, 0) ∧ evLoc 1023 = none ∧ absentPage State.reset.blk.part 0x20 = false ∧
    absentPage { State.reset.blk.part with optS := false } 0x36 = true ∧ evLoc 896 = some (0x36, 0) ∧
    bitOf (rd State.reset.blk (pg 0x20 0x14)) 0 = false ∧ (∀ d ∈ [0, 1, 2, 3], (let b := tB [(pg 0x20 0x14, 1), (R.EVR_ROUTE 384, d * 65536 + 63 * 256)]
      bitOf (rd b (pg 0x20 0x14)) 0 = true ∧ bitOf (rd b (R.EVR_ROUTE 384)) 31 = false ∧ bitsOf (rd b (R.EVR_ROUTE 384)) 17 16 = d ∧
      (b.evr.mq.filter (fun x => x.prio == 0)).length < 32 ∧ b.evr.sq.length < 64 ∧ fon b F.ELG_STAT_dead = false ∧ fon b F.ELG_CTL_hold = false ∧
      b.elg.queue.length < 256)) ∧ instExists (tB [(R.VIM_ISTATE 63, 2)]) 63 = true ∧
    bitOf (rd (tB [(R.EVR_ROUTE 384, 2 ^ 31)]) (R.EVR_ROUTE 384)) 31 = true := by decide +kernel

theorem test_hyp_QueuesAndEnables : coreRuns State.reset.blk 0x81 = true ∧ (∀ p ∈ [0x30, 0x08], p ∈ subPages ∧ mayWrite State.reset.blk 0x81 (sp 63 p 0x014)) ∧
    rd State.reset.blk (sp 63 0x08 0x010) &&& 0xFFFFFFFF &&& (0xFFFFFFFF ^^^ rd State.reset.blk (sp 63 0x08 0x014)) = 0 ∧
    rd (tB [(sp 0 0x30 0x010, 1)]) (sp 0 0x30 0x010) &&& 1 &&& (0xFFFFFFFF ^^^ rd (tB [(sp 0 0x30 0x010, 1)]) (sp 0 0x30 0x014)) ≠ 0 ∧
    mayRead State.reset.blk 0x81 R.EVR_MQ0 ∧ mayRead State.reset.blk 0x81 R.EVR_MQ1 ∧ State.reset.blk.evr.mq = [] ∧
    State.reset.blk.evr.mLatch.find? (fun x => x.1 == 0x81) = none ∧
    (let e : EvEnt := ⟨0, 5, 7, 1023⟩
     let b := { State.reset.blk with evr := { State.reset.blk.evr with mq := [e], mLatch := [(0x81, e)], sq := [e], sLatch := [(0x81, e)] } }
     mqHead b = some e ∧ e ∈ b.evr.mq ∧ e.prio < 8 ∧ e.ev < 1024) := by unfold mayWrite mayRead; decide +kernel

theorem test_hyp_BankSwap : cmdFree State.reset.blk 0x81 0x08 ∧ State.reset.blk.bnk.pend = none ∧ State.reset.blk.bnk.copying = false ∧
    paired State.reset.blk = false ∧ swapIdx State.reset.blk ≤ curIdx State.reset.blk ∧
    curIdx (tB [(R.BNK_SWAPIDX_LO, 5)]) < swapIdx (tB [(R.BNK_SWAPIDX_LO, 5)]) ∧
    (let b := { State.reset.blk with bnk := { State.reset.blk.bnk with pend := some ⟨1, false, false, false⟩ } }
     cmdFree b 0x81 0x08 ∧ b.bnk.pend.isSome = true) ∧
    (let b := { State.reset.blk with bnk := { State.reset.blk.bnk with check := some ⟨false, false, false, 0, 0⟩ } }
     running b = true ∧ b.bnk.check = some ⟨false, false, false, swapIdx b, 0⟩) ∧
    (let b := { State.reset.blk with bnk := { State.reset.blk.bnk with copying := true, copyCmd := true } }
     running b = true ∧ b.bnk.copying = true ∧ b.bnk.copyCmd = true) := by unfold cmdFree mayWrite; decide +kernel

theorem test_hyp_InstanceBankSwap : subFree State.reset.blk 0x81 0x08 63 0x100 0x104 ∧ 63 ∉ State.reset.blk.bnk.instPend ∧
    pheInstRefuses 63 State.reset.blk State.reset.blk = false := by unfold subFree mayWrite; decide +kernel

theorem test_hyp_StartSteps : running State.reset.blk = true ∧ (tStart (fun s => { s with halted := true })).start.halted = true ∧
    (let b := { tStart (fun s => { s with last := 17 }) with mem := [(0x1801000400, 1#8)] }
     b.start.halted = false ∧ b.start.busy = false ∧ b.start.last + 1 = 18 ∧ 18 ≤ lastStep (lcs b) ∧ b.start.ways.getD 17 0 = 0) ∧
    (let b := { tStart (fun s => { s with last := 13, ways := List.replicate 18 2 }) with mem := [(0x1801000400, 1#8)] }
     b.start.halted = false ∧ b.start.busy = false ∧ b.start.last = 13 ∧ 14 ≤ lastStep (lcs b) ∧ b.start.ways.getD 13 0 = 2) ∧
    (let b := tStart (fun s => { s with last := 1 })
     b.start.halted = false ∧ b.start.busy = false ∧ b.start.last = 1 ∧ 2 ≤ lastStep (lcs b) ∧ b.start.ways.getD 1 0 = 0) ∧
    (let b := tStart (fun s => { s with busy := true, step := 6 })
     b.start.halted = false ∧ b.start.busy = true ∧ b.start.step = 6 ∧ b.start.ways.getD 5 0 = 0) := by decide +kernel

theorem test_hyp_StepLimitAndWatchdog : (let b := tStart (fun s => { s with busy := true })
     running b = true ∧ b.start.busy = true ∧ b.start.halted = false ∧ b.mtr.save = none ∧ b.pwr.saving = false) ∧
    State.reset.blk.start.busy = false ∧ mayWrite State.reset.blk 0x081 R.SYS_WDOGKICK ∧
    (let b := tStart (fun s => { s with wdog := some 0 })
     b.start.wdog = some 0 ∧ b.start.wdogHit = false ∧ fon b F.SYS_CTL_wden = true ∧ fon b F.SYS_CTL_autowarm = true) ∧
    (tStart (fun s => { s with wdog := some 0, wdogHit := true })).start.wdogHit = true := by unfold mayWrite; decide +kernel

theorem test_hyp_HarrowAndLedgerClear : fon (tB [(R.HRW_STAT, 0xFFFFFFFF)]) F.HRW_STAT_busy = true ∧
    (∃ v, fon (tB [(R.HRW_STAT, v)]) F.HRW_STAT_busy = true ∧ fget (tB [(R.HRW_STAT, v)]) F.HRW_STAT_kind = 1) ∧
    State.reset.blk.start.step ≠ 10 ∧ fon State.reset.blk F.HRW_STAT_busy = false ∧ cmdFree State.reset.blk 0x81 0x02 ∧ 18 ≤ 18 := by
  refine ⟨by decide +kernel, ⟨3, by decide +kernel, by decide +kernel⟩, ?_⟩
  unfold cmdFree mayWrite; decide +kernel

theorem test_hyp_StandbyKernel : (tStart (fun s => { s with handover := some 0 })).start.handover = some 0 ∧ State.reset.blk.start.busy = false ∧
    State.reset.blk.spk.fb = false ∧ (let b := { State.reset.blk with
      spk := { State.reset.blk.spk with fb := true, record := [1#8] }
      phe := { State.reset.blk.phe with units := [{ PheUnit.init with done := some 0 }] } }
     b.spk.fb = true ∧ b.spk.record ≠ [] ∧ (b.phe.units.getD 0 PheUnit.init).done = some 0 ∧ b.spk.evalK ≠ some 0) := by decide +kernel

theorem test_hyp_SysCommands : (let b := State.reset.blk
     cmdFree b 0x81 0x00 ∧ paired b = false ∧ holder b = false ∧ spanUp b = false ∧ b.mtr.save = none ∧ b.pwr.saving = false ∧ b.bnk.pend = none ∧
     fon b F.SCH_STAT_run = false ∧ b.spk.record = [] ∧ fget b F.SYS_STAT_service ≠ 1 ∧ noLease b = false) ∧
    (let b := { tB [(R.TWN_STAT, 0xFFFFFFFF)] with twn := { State.reset.blk.twn with hbAt := some 0 } }
     cmdFree b 0x81 0x00 ∧ peerNotFull b = true ∧ holder b = true) ∧
    (let b := { tB [(R.SYS_STAT, 1), (R.SCH_STAT, 0xFFFFFFFF)] with spk := { State.reset.blk.spk with record := [1#8] } }
     cmdFree b 0x81 0x00 ∧ b.spk.record ≠ [] ∧ fon b F.SCH_STAT_run = true) ∧
    (let b := { tB [(R.SYS_WAKESEC, 1)] with pwr := { State.reset.blk.pwr with phase := .fallow } }
     b.pwr.phase = .fallow ∧ b.trust.fallowLevel < 3 ∧ rd b R.SYS_WAKESEC ≠ 0 ∧ secOf b < rd b R.SYS_WAKESEC) := by
  unfold cmdFree mayWrite; decide +kernel

/-- The on-die SRAM open to the requesters of the given access entries. -/
def tG (l : List Nat) (b : Block) : Block := each (fun e b => grant (.mem 1) e 0 15 b) l b

/-- The cells hold value `v` in slot 0 of cell `c`, committed under counter 0. -/
def tCell (c : Nat) (v : List Byte) : KeyStore := ⟨[(c, ⟨⟨v, v⟩, Slot.zero, ⟨0x434B4C5A, 1, c, 0, 0, [], 0xFFFFFFFFFFFFFFFF⟩, Site.zero, false⟩)], 0⟩

/-- A valid leaf of kind `k` that never expires. -/
def tLeaf (k : Nat) : Leaf := ⟨k, 1, 7, 0, 0xFFFFFFFFFFFFFFFF, [1#8], [2#8], false⟩

theorem test_hyp_KeyReadCommands : 2047 < 2048 ∧ (let b := tG [66] (tB [(R.KEY_RSPADDR_HI, 0x10), (R.KEY_RSPLEN, 0xFFFF)])
     cmdFree b 0x81 0x04 ∧ (idRecord b).length ≤ rd b R.KEY_RSPLEN % 65536 ∧ (engWrite 0x082 0x1000000000 (idRecord b) b).1 = .ok ∧ b.corr = []) ∧
    (let b := tB [(R.KEY_RSPLEN, 9064)]
     cmdFree b 0x81 0x04 ∧ rd b R.KEY_RSPLEN % 65536 < (idRecord b).length) := by unfold cmdFree mayWrite; decide +kernel

/-- A reading by an engine that ends well, of memory with no correctable word, leaves the block as it is, as the statements ask. -/
theorem test_engRead {rqid a n : Nat} {b : Block} (hc : b.corr = []) (h : (engRead rqid a n b).1 = .ok) :
    engRead rqid a n b = (.ok, (engRead rqid a n b).2.1, b) := by
  have key : ∀ l, (engReadL rqid l b).1 = .ok → (engReadL rqid l b).2.2 = b := by
    intro l
    induction l with
    | nil => intro _; rfl
    | cons x l ih =>
      obtain ⟨xa, xn⟩ := x
      intro hh
      have hr : ∀ st d b', busRead rqid xa xn (.burst xn) Need.read b = (st, d, b') → st = .ok → b' = b := by
        intro st d b' he hs
        simp only [busRead, corrected, hc] at he
        split at he
        · simp only [Prod.mk.injEq] at he
          exact absurd (he.1.trans hs) ‹_›
        · split at he
          · split at he <;> simp only [Prod.mk.injEq] at he <;> rw [hs] at he <;> exact absurd he.1 (by decide)
          · simp at he; exact he.2.2.symm
      rcases hb : busRead rqid xa xn (.burst xn) Need.read b with ⟨st, d, b'⟩
      by_cases hs : st = .ok
      · have he := hr st d b' hb hs
        rw [he, hs] at hb
        simp only [engReadL, hb] at hh ⊢
        exact ih hh
      · cases st <;> simp [engReadL, hb] at hh hs
  have h2 := key _ h
  rcases hx : engRead rqid a n b with ⟨st, l, b'⟩
  simp only [engRead] at hx h h2
  simp only [hx] at h h2
  simp [h, h2]

theorem test_hyp_LeafCommands : cmdFree State.reset.blk 0x81 0x04 ∧ (leaf State.reset.blk 2047).state ≠ 1 ∧
    (let b := { tB [(R.SYS_STAT, 0xFFFFFFFF)] with key := { State.reset.blk.key with leaves := [(2047, tLeaf 3), (5, { tLeaf 3 with na := 9 }),
       (6, { tLeaf 3 with state := 2, grace := true })] } }
     cmdFree b 0x81 0x04 ∧ (leaf b 2047).state = 1 ∧ (deviceRoot b).isSome = true ∧ b.spk.record = [] ∧ { b.spk with record := [1#8] }.record ≠ [] ∧
     running b = true ∧ (leaf b 5).state = 1 ∧ (leaf b 5).na ≠ 0xFFFFFFFFFFFFFFFF ∧ (leaf b 6).grace = true) := by
  unfold cmdFree mayWrite; decide +kernel

/-- A request of `n` bytes in SRAM, with room for the longest response. -/
def tReq (n : Nat) (st : KeyStore) (l : List (Nat × Leaf)) : Block :=
  { tG [66] (tB [(R.KEY_REQADDR_HI, 0x10), (R.KEY_REQLEN, n), (R.KEY_RSPADDR_HI, 0x10), (R.KEY_RSPLEN, 0xFFFF)]) with
    key := { State.reset.blk.key with prod := st, leaves := l } }

theorem test_hyp_KeyRequests : (∀ n ∈ [64, 120, 2657], (let b := tReq n State.reset.blk.key.prod []
      cmdFree b 0x81 0x04 ∧ reqLen b = n ∧ (engRead 0x082 0x1000000000 n b).1 = .ok ∧ b.corr = [] ∧ rngOk b = true ∧ rspFits 13806 b = true ∧
      freeHandle b = some 64 ∧ lcs b = 0)) ∧ fget State.reset.blk F.PWR_STAT_state = 0 ∧ fget (tB [(R.PWR_STAT, 1)]) F.PWR_STAT_state ≠ 0 ∧
    rngOk (tB [(R.KEY_STAT, 0)]) = false ∧ cmdFree (tB [(R.KEY_STAT, 0)]) 0x81 0x04 ∧ lcs { State.reset.blk with mem := [(0x1801000400, 4#8)] } = 4 ∧
    (let b := tReq 64 (tCell 0 [1#8]) []
     (cellVal b 0).isSome = true ∧ (deviceRoot b).isSome = true ∧ freeHandle b = some 64) ∧ leafLabel (List.replicate 64 0#8) = none ∧
    (let b := tReq 64 State.reset.blk.key.prod [(2047, tLeaf 5)]
     (leaf b 2047).kind = 5 ∧ (leaf b 2047).state = 1 ∧ (leaf b 5).kind ≠ 5) ∧ leNat ((List.replicate 2657 0#8).take 1) ≤ 1 ∧
    allZero (((List.replicate 2657 0#8).drop 1).take 7) = true := by unfold cmdFree mayWrite; decide +kernel

theorem test_hyp_KeyRunsEnd : (let b := { State.reset.blk with key := { State.reset.blk.key with run := some (.commit 6 [1#8] 1 false) } }
     running b = true ∧ fon b F.KEY_STAT_held = false ∧ b.key.run = some (.commit 6 [1#8] 1 false) ∧ fget b F.KEY_STAT_step = 0 ∧
     ((store b).cell 6).force = none) ∧
    (let b := { State.reset.blk with key := { State.reset.blk.key with run := some (.commit 3 [1#8] 1 false) } }
     b.key.run = some (.commit 3 [1#8] 1 false) ∧ testSet b = false ∧ fon b F.KEY_STAT_held = false) ∧
    (let b := { tB [(R.KEY_RSPLEN, 0xFFFF), (R.KEY_RSPADDR_HI, 0x10)] with key := { State.reset.blk.key with run := some (.attest []) } }
     running b = true ∧ b.key.run = some (.attest []) ∧ b.corr = [] ∧ rd b R.KEY_RSPLEN % 65536 = 65535) ∧ State.reset.blk.key.run = none ∧
    fon (tB [(R.KEY_STAT, 0xFFFFFFFF)]) F.KEY_STAT_held = true := by decide +kernel

theorem test_hyp_TamperCommands : cmdFree State.reset.blk 0x81 0x05 ∧ lcs State.reset.blk ≠ 15 ∧ gaspBusy State.reset.blk = false ∧
    rd State.reset.blk R.TMP_LATCH &&& fget State.reset.blk F.TMP_STAT_active = 0 ∧
    (let b := tB [(R.TMP_LATCH, 0x3FF), (R.TMP_STAT, 0xFFFFFFFF)]
     cmdFree b 0x81 0x05 ∧ rd b R.TMP_LATCH &&& fget b F.TMP_STAT_active ≠ 0 ∧ fon b F.TMP_STAT_closed = true) ∧
    (let b := tB [(R.TMP_VADDR_HI, 0x10)]
     cmdFree b 0x81 0x05 ∧ fon b F.TMP_STAT_closed = false ∧ (engRead 0x084 (vaddr b) 32 b).1 = .ok ∧ b.corr = []) := by
  unfold cmdFree mayWrite; decide +kernel

theorem test_hyp_VerifyReportsItsOutcome : cmdFree State.reset.blk 0x81 0x05 ∧ rd State.reset.blk R.TMP_VLEN < 512 ∧
    (let b := tB [(R.TMP_VADDR_HI, 0x10), (R.TMP_VLEN, 512)]
     cmdFree b 0x81 0x05 ∧ 512 ≤ rd b R.TMP_VLEN ∧ (engRead 0x084 (vaddr b) 512 b).1 = .ok ∧ b.corr = [] ∧
     decide ((imgHdr (List.replicate 512 0#8)).n + 5253 ≤ rd b R.TMP_VLEN) = false ∧ (engRead 0x084 (vaddr b + 512) 0 b).1 = .ok) := by
  unfold cmdFree mayWrite; decide +kernel

theorem test_hyp_TamperSources : (∀ l ∈ [1, 2, 3], tamperLevel (tB [(R.TMP_SRCLVL, l * 2 ^ 16)]) 8 = l ∧ (tB [(R.TMP_SRCLVL, l * 2 ^ 16)]).pwr.phase = .on) ∧
    lcs State.reset.blk ≠ 15 ∧ gaspBusy State.reset.blk = false ∧ (tP (fun p => { p with phase := .fallow })).pwr.phase = .fallow ∧
    watchedInFallow 0 false = true ∧ tamperLevel (tB [(R.TMP_SRCLVL, 1)]) 0 = 1 ∧ (tB [(R.TMP_SRCLVL, 1)]).key.run = none ∧
    bitOf (fget (tB [(R.TMP_SRCLVL, 1)]) F.TMP_STAT_active) 0 = false ∧ outputsOn State.reset.blk = true ∧
    fon (tB [(R.SYS_STAT, 0xFFFFFFFF)]) F.SYS_STAT_dbg = true ∧ fon State.reset.blk F.SYS_STAT_dbg = false ∧
    tamperLevel (tB [(R.TMP_SRCLVL, 2 ^ 14)]) 7 = 1 := by decide +kernel

theorem test_hyp_DebugCommands : cmdFree State.reset.blk 0x81 0x44 ∧ rngOk State.reset.blk = true ∧ rngOk (tB [(R.KEY_STAT, 0)]) = false ∧
    lcs State.reset.blk ≠ 2 ∧ lcs State.reset.blk ≠ 4 ∧ lcs State.reset.blk ≠ 15 ∧ fget State.reset.blk F.DBG_STAT_fails < 7 ∧
    (let b := tB [(R.DBG_TOKADDR_HI, 0x10)]
     cmdFree b 0x81 0x44 ∧ (engRead 0x084 0x1000000000 4869 b).1 = .ok ∧ b.corr = []) := by unfold cmdFree mayWrite; decide +kernel

/-- A block with start step `n` done. -/
def tAt (n : Nat) (b : Block := State.reset.blk) : Block := { b with start := { b.start with last := n } }

/-- A block with fields set in both copies of their registers. -/
def tF (l : List (Fld × Nat)) (b : Block) : Block :=
  l.foldl (fun b x => fset ⟨x.1.addr + 2 ^ 40, x.1.hi, x.1.lo⟩ x.2 (fset x.1 x.2 b)) b

/-- A frame of class `c` at input `m`. -/
def tQ (m c : Nat) (f : Frame) : QFrame := ⟨0, f, c, m, 0, false, 0x3FF, none, false, 1, false⟩

theorem test_hyp_LinksAndDownshift : (let b := tAt 13
     running b = true ∧ outputsOn b = true ∧ portUp b 13 = true ∧ fon b (F.MAC_STAT_link 13) = false ∧ fon b (F.MAC_CTL_txdis 13) = false ∧
     rateFits b 13 1 = true ∧ (port b 13).dropEnd = none ∧ fon b (F.MAC_STAT_halfdup 13) = false) ∧
    fon (tF [(F.MAC_STAT_link 13, 1)] (tAt 13)) (F.MAC_STAT_link 13) = true ∧ portUp State.reset.blk 14 = false ∧
    (let b := tF [(F.MAC_PORTCFG_mode 11, 6)] (tAt 13)
     portMode b 11 = 6 ∧ portUp b 11 = true ∧ fon b (F.MAC_STAT_link 11) = false ∧ rateFits b 11 6 = true ∧ 3 < 4 + (port b 11).goal ∧
      (port b 11).verAt = none ∧ cmdFree b 0x81 0x1B) ∧
    (let b := modPort 11 (fun p => { p with verAt := some 0, verTries := 2, dropEnd := some 0, failAt := some 0, blockEnd := some 0 }) State.reset.blk
     (port b 11).verAt = some 0 ∧ (port b 11).verTries < 3 ∧ (port b 11).dropEnd = some 0 ∧ (port b 11).failAt = some 0 ∧
      (port b 11).blockEnd = some 0 ∧ fon b (F.MAC_STAT_link 11) = false) ∧
    (let b := modPort 0 (fun p => { p with verAt := some 0, verTries := 3 }) (tF [(F.MAC_STAT_verify 0, 1)] State.reset.blk)
     (port b 0).verAt = some 0 ∧ 3 ≤ (port b 0).verTries ∧ fget b (F.MAC_STAT_verify 0) = 1) ∧ fget State.reset.blk (F.MAC_STAT_verify 0) ≠ 1 := by
  unfold cmdFree mayWrite; decide +kernel

theorem test_hyp_LinksAndDownshift_windows :
    (let b := modPort 11 (fun p => { p with winOk := true }) (tF [(F.MAC_PORTCFG_mode 11, 3), (F.MAC_PORTCFG_dshift 11, 1)] State.reset.blk)
     (port b 11).winOk = true ∧ lowerStep b 11 = some 1 ∧ (port b 11).winRx = 0 ∧ (port b 11).winTx = 0) ∧
    (let b := modPort 0 (fun p => { p with winOk := true }) State.reset.blk
     (port b 0).winOk = true ∧ lowerStep b 0 = none ∧ (port b 0).goal = 0) ∧
    (let b := modPort 11 (fun p => { p with winOk := true, goal := 1, winRx := 2 ^ 40 }) (tF [(F.MAC_STAT_link 11, 1), (F.MAC_STAT_rate 11, 4)] State.reset.blk)
     (port b 11).winOk = true ∧ (port b 11).goal ≠ 0 ∧ 400 * 1000000000 < (port b 11).winRx * 8 * psPerBit (rateOf b 11)) ∧
    (let b := tF [(F.MAC_PREEMPT_en 0, 1), (F.MAC_STAT_link 0, 1)] State.reset.blk
     cmdFree b 0x81 0x10 ∧ cfgOn b (F.MAC_PREEMPT_en 0) = true ∧ fon b (F.MAC_STAT_link 0) = true) ∧
    (let b := tF [(F.MAC_PREEMPT_en 11, 1)] State.reset.blk
     cmdFree b 0x81 0x1B ∧ cfgOn b (F.MAC_PREEMPT_en 11) = true ∧ fon b (F.MAC_STAT_link 11) = false) ∧
    (let b := tF [(F.MAC_PREEMPT_en 0, 0)] State.reset.blk
     cmdFree b 0x81 0x10 ∧ portMode b 0 ∉ [3, 4, 6] ∧ cfgOn b (F.MAC_PREEMPT_en 0) = false ∧ cmdFree b 0x81 0x1E) := by unfold cmdFree mayWrite; decide +kernel

/-- Ports 0 and 13 with their links up, the switch and the ports brought up. -/
def tUp : Block := tF [(F.MAC_STAT_link 0, 1), (F.MAC_STAT_link 13, 1), (F.MAC_STAT_rate 0, 4), (F.MAC_STAT_rate 13, 1)] (tAt 13)

theorem test_hyp_FramesThroughTheSwitch_ports : (running tUp = true ∧ (∀ m ∈ [0, 13], fon tUp (F.MAC_STAT_link m) = true ∧ portUp tUp m = true ∧ 64 ≤ maxLen tUp m) ∧
     outputsOn tUp = true) ∧ portUp State.reset.blk 0 = false ∧ maxLen tUp 0 = 1536 ∧ cfgOn tUp (F.MAC_PORTCFG_obey 0) = false ∧
    (let b := tF [(F.MAC_PORTCFG_obey 0, 1)] tUp
     cfgOn b (F.MAC_PORTCFG_obey 0) = true ∧ (port b 0).txEnd ≤ ns b ∧ (port b 0).pauseEnd = none) ∧
    (let b := modPort 0 (fun p => { p with txEnd := 10 ^ 10, pauseEnd := none }) (tF [(F.MAC_PORTCFG_obey 0, 1)] tUp)
     ns b < (port b 0).txEnd ∧ (port b 0).pauseEnd = none ∧ fon b (F.MAC_STAT_pactive 0) = false) ∧
    (port (modPort 11 (fun p => { p with pauseEnd := some 7 }) State.reset.blk) 11).pauseEnd = some 7 ∧
    (let b := modPort 0 (fun p => { p with cur := some (tQ 1 0 tFrame), txEnd := 10 ^ 10 }) (tF [(F.MAC_PREEMPT_express 0, 0x80), (F.MAC_STAT_pactive 0, 1)]
       { tUp with net := { tUp.net with queues := [(7, [tQ 1 7 tFrame])] } })
     sending b 0 = some (tQ 1 0 tFrame) ∧ (fragPoint b 0).isSome = true ∧ fon b (F.MAC_STAT_pactive 0) = true ∧ isExpress b 0 0 = false ∧
      (port b 0).rest = none ∧ (port b 0).pauseEnd = none ∧ (pickClass b 0 (isExpress b 0)).map (·.1) = some 7) ∧
    (let b := modPort 0 (fun p => { p with rest := some (tQ 1 0 tFrame) }) tUp
     (port b 0).rest = some (tQ 1 0 tFrame) ∧ (port b 0).pauseEnd = none ∧ pickClass b 0 (isExpress b 0) = none) ∧
    sending tUp 13 = none ∧ (port tUp 13).rest = none ∧ pickClass tUp 13 (fun _ => true) = none ∧
    (let b := { tUp with net := { tUp.net with queues := [(8 * 13 + 7, [tQ 1 7 tFrame])] } }
     (pickClass b 13 (fun _ => true)).map (·.1) = some 7 ∧ queueOf b 13 7 = [tQ 1 7 tFrame] ∧ tFrame.len ≤ maxLen b 13 ∧
      maxLen b 13 < { tFrame with len := 2049 }.len) := by decide +kernel

theorem test_hyp_FramesThroughTheSwitch_switch : okHIngress 7 (some 65535) (some 63) = true ∧ isUp State.reset.blk 13 = false ∧ isUp tUp 13 = true ∧
    2048 < { tFrame with len := 2049 }.len ∧ tFrame.len ≤ 2048 ∧
    (let b := { tUp with net := { tUp.net with queues := [(8 * 14 + 7, [tQ 1 7 tFrame])] } }
     (pickClass b 14 (fun _ => true)).map (·.1) = some 7 ∧ sendQ b 14 7 = [tQ 1 7 tFrame] ∧ (port b 14).rest = none ∧ tFrame.ip = none) ∧
    isUp tUp 6 = true ∧ tUp.net.rx = [] ∧ pairOf tUp 14 = none ∧ bitOf (vlanW tUp (vidOf tUp 14 { tFrame with tag := some (0, 2) }) 0) 14 = false ∧
    (let f := { tFrame with dst := 0xFFFFFFFFFFFF }
     let b := tT [(tkey 0x20 0 1 0, 2 ^ 31 + 2 ^ 14 + 1)] (tF [(F.SWC_QUOTA_cells 0 0, 1)] tUp)
     pairOf b 14 = none ∧ pairOf b 0 = none ∧ f.inst = none ∧ vidOf b 14 f = 1 ∧ bitOf (vlanW b 1 0) 31 = true ∧ vlanW b 1 0 % 2 ^ 15 = 2 ^ 14 + 2 ^ 0 ∧
      cfgOn b (F.SWC_PORTCFG_tagonly 14) = false ∧ linkUp b 0 = true ∧ qocc b 0 0 + (tQ 14 0 f).cells ≤ cfg b (F.SWC_QUOTA_cells 0 0) ∧
      cellsUsed b + 1 ≤ 98304) ∧ (∀ k, k < 512 → filtHit (tT [(tkey 0x20 0 1 0, 2 ^ 31 + 2 ^ 14 + 1)] tUp) k 14 1 tFrame = false) ∧
    (let b := tF [(F.PRP_PAIR_w0_kind 5, 1), (F.PRP_PAIR_w0_porta 5, 0), (F.PRP_PAIR_w0_portb 5, 1)] tUp
     pairOf b 0 = some 5 ∧ pairKind b 5 ≠ 2) ∧ pairKind State.reset.blk 5 = 0 := by decide +kernel

/-- A ring pair of ports 0 and 1 with both links up, over which a frame is cut through. -/
def tRing : Block := tF [(F.PRP_PAIR_w0_kind 0, 2), (F.PRP_PAIR_w0_porta 0, 0), (F.PRP_PAIR_w0_portb 0, 1), (F.MAC_STAT_link 1, 1), (F.MAC_STAT_rate 1, 4)] tUp

theorem test_hyp_FramesThroughTheSwitch_rings : (let b := tRing
     let f := { tFrame with hsr := some (1, 0) }
     pairOf b 0 = some 0 ∧ pairKind b 0 = 2 ∧ portUp b 0 = true ∧ f.hsr.isSome = true ∧ 64 ≤ f.len ∧ findNode b 0 f.src = none ∧ earlierRx b 0 0 = false ∧
     outputBusy b 1 0 = false ∧ queueOf b 1 0 = [] ∧ linkUp b 1 = true ∧ linkUp b 0 = true) ∧
    (let q := tQ 0 0 tFrame
     let b := modPort 1 (fun p => { p with cur := some q, txEnd := 10 ^ 10 }) { tRing with net := { tRing.net with ct := [(q, 1, false)] } }
     b.net.ct.find? (fun x => x.2.1 == 1) = some (q, 1, false) ∧ b.net.ct.find? (fun x => x.2.1 == 11) = none ∧ q.inp < 15 ∧ q.f.len ≤ maxLen b 0 ∧
      sending b 1 = some q) ∧
    cfg State.reset.blk F.SWC_CFG_agesec ≠ 0 ∧ (⟨5, 1, 1, false, 0⟩ : FdbEnt).static = false ∧ State.reset.blk.net.filtWin = ns State.reset.blk / 1000000 ∧
    { State.reset.blk.net with filtWin := 7 }.filtWin ≠ ns State.reset.blk / 1000000 ∧ State.reset.blk.net.nodes = [] ∧ nextForget State.reset.blk = none ∧
    (let n : Node := ⟨0, 5, 9, [(1, [⟨3, 8, 0⟩])], []⟩
     let b := { State.reset.blk with net := { State.reset.blk.net with nodes := [n] } }
     n ∈ b.net.nodes ∧ nextForget b = some (8, 0, 5, 1, 3) ∧ findNode b 0 5 = some n) ∧ cmdFree State.reset.blk 0x81 0x21 := by
  unfold cmdFree mayWrite; decide +kernel

/-- Whatever this part's address is, a frame from and to other stations exists. -/
theorem test_hyp_FramesThroughTheSwitch_stations : ∃ x : Nat, x ≠ State.reset.blk.part.mac ∧ x + 1 ≠ State.reset.blk.part.mac ∨ x ≠ State.reset.blk.part.mac ∧
    x + 2 ≠ State.reset.blk.part.mac := ⟨State.reset.blk.part.mac + 1, by omega⟩
/-! ### Serial lines and time -/

/-- Entry `e` granted every region of page `p`. -/
def tGP (p e : Nat) (b : Block) : Block := each (fun r b => grant (.page p 0) e r 15 b) (List.range 16) b

/-- Serial line 0 enabled, its data and its ring in DDR5, in the state `f` gives. -/
def tSer (f : Ser → Ser) (l : List (Nat × Nat) := []) : Block :=
  modSer 0 f (tF [(F.SER_PCFG_en 0, 1)] (tB ([(R.SER_TXADDR_HI 0, 0x10), (R.SER_RING_HI 0, 0x10), (R.SER_RING_HI 0 + 2 ^ 40, 0x10)] ++ l)))

theorem test_hyp_SerialLines : (let b := tSer id
     running b = true ∧ outputsOn b = true ∧ b.part.optS = true ∧ serOn b 0 = true ∧ serOwner b 0 = 0x81 ∧ (serial b 0).tx = .idle ∧
     cmdFree b 0x81 0x36 ∧ fget b (F.SER_TXLEN_len 0) = 0 ∧ serOn State.reset.blk 0 = false ∧ (serial b 0).occ = 0 ∧ (serial b 0).rxOn = false ∧
     (serial b 0).reply = none ∧ (serial b 0).tx ≠ .wait) ∧
    (let b := tSer id [(R.SER_TXLEN 0, 512)]
     serOn b 0 = true ∧ (serial b 0).tx = .idle ∧ fget b (F.SER_TXLEN_len 0) = 512 ∧ (engRead 0x81 0x1000000000 512 b).1 = .ok ∧ b.corr = []) ∧
    fget (tSer id [(R.SER_TXLEN 0, 513)]) (F.SER_TXLEN_len 0) = 513 ∧
    (∀ x ∈ [SerTx.wait, .lead, .lag, .data], (serial (tSer (fun y => { y with tx := x, occ := 1 })) 0).tx = x ∧
      (serial (tSer (fun y => { y with tx := x, occ := 1 })) 0).occ ≠ 0 ∧ serOn (tSer (fun y => { y with tx := x, occ := 1 })) 0 = true) := by
  unfold cmdFree mayWrite; decide +kernel

theorem test_hyp_SerialLines_instance :
    (let b := tGP 0x36 3 (tF [(F.SER_PCFG_owner 0, 1), (F.SER_PCFG_inst 0, 3)] (tB []))
     serOwner b 0 = 3 ∧ subFree b 3 0x36 3 0x1F0 0x1F4) ∧ serOwner State.reset.blk 0 ≠ 3 := by unfold subFree mayWrite; decide +kernel

theorem test_hyp_SerialLines_frames :
    (let b := tSer (fun y => { y with rxOn := true, occ := 8 })
     (serial b 0).rxOn = true ∧ (serial b 0).occ = 8 ∧ outputsOn b = true) ∧
    (let b := tG [65] (tSer (fun y => { y with rxOn := true, rx := [1#8], rxFlags := 1 }))
     (serial b 0).rxOn = true ∧ (serial b 0).occ ≠ 8 ∧ (serial b 0).rxFlags ≠ 0 ∧ (engWrite 0x81 0x1000000000 (serHeader (serial b 0) ++ [1#8]) b).1 = .ok) ∧
    (let b := tB []
     (engWrite 0x81 0x2000000000 [1#8] b).1 ≠ .ok) ∧
    (serial (tSer (fun y => { y with reply := some 5 })) 0).reply = some 5 := by decide +kernel

theorem test_hyp_TimeSources : (running (tAt 5) = true ∧ isUp (tAt 5) 5 = true ∧ isUp State.reset.blk 5 = false ∧ State.reset.blk.tim.irig = none ∧
     4 ∉ listedSrc (tAt 5) ∧ 3 ∉ listedSrc (tAt 5)) ∧
    (let b := tF [(F.TIM_SRCSEL_src 0, 4), (F.TIM_SRCSEL_src 1, 0), (F.TIM_SRCSEL_src 2, 0), (F.TIM_STAT_set, 1), (F.TIM_STAT_src, 4), (F.TIM_STAT_state, 2)] (tAt 5)
     fon b F.TIM_STAT_set = true ∧ listedSrc b = [4] ∧ fget b F.TIM_STAT_src = 4 ∧ fget b F.TIM_STAT_state = 2 ∧ 0 < cfg b F.TIM_DISC2_lossto ∧
      fon b F.TIM_CTL_slewbig = false ∧ b.tim.irig = none ∧ b.tim.meas = [] ∧ fon b F.TIM_STAT_offbig = false ∧
      ((0 : Int) - (nearestSec 0 * nsec : Nat)).natAbs ≤ cfg b F.TIM_DISC2_stepthr * 1000 ∧
      cfg b F.TIM_DISC2_stepthr * 1000 < ((400000000 : Int) - (nearestSec 400000000 * nsec : Nat)).natAbs) ∧
    irigGood State.reset.blk { tIrig with ok := false } = false ∧ irigGood (tAt 5) tIrig = true ∧ (irigTai (tAt 5) tIrig).isSome = true ∧
    fget State.reset.blk F.TIM_STAT_src = 0 ∧
    (let b := { tF [(F.TIM_STAT_src, 4)] (tAt 5) with tim := { State.reset.blk.tim with meas := [(4, 9)], lockedAt := some 3 } }
     b.tim.meas.find? (fun y => y.1 == fget b F.TIM_STAT_src) = some (4, 9) ∧ b.tim.lockedAt = some 3 ∧ fget b F.TIM_STAT_state ≠ 2) ∧
    State.reset.blk.tim.lockedAt = none ∧
    (let b := { tF [(F.TIM_STAT_state, 3)] (tAt 5) with tim := { State.reset.blk.tim with lockedAt := some 3, step := some 1 } }
     b.tim.lockedAt = some 3 ∧ fget b F.TIM_STAT_state = 3 ∧ fon b F.TIM_STAT_hexp = false ∧ b.tim.step ≠ none) := by decide +kernel

theorem test_hyp_TimeSources_commands : (let b := State.reset.blk
     cmdFree b 0x81 0x24 ∧ (sNat 32 (rd b R.TIM_STEPNS)).natAbs ≤ 999999999 ∧ b.tim.step = none ∧ chooseSrc b = 0 ∧ fget b F.TIM_STAT_src = 0) ∧
    999999999 < (sNat 32 (rd (tB [(R.TIM_STEPNS, 1000000000)]) R.TIM_STEPNS)).natAbs ∧
    (let b := { tF [(F.TIM_SRCSEL_src 0, 4), (F.TIM_SRCSEL_src 1, 0), (F.TIM_SRCSEL_src 2, 0), (F.TIM_STAT_set, 1), (F.TIM_STAT_src, 4), (F.TIM_STAT_state, 2)] (tAt 5) with
       tim := { State.reset.blk.tim with meas := [(4, 0)] } }
     chooseSrc b = 4 ∧ fget b F.TIM_STAT_src = 4 ∧ fget b F.TIM_STAT_state = 2 ∧ cmdFree b 0x81 0x24) := by unfold cmdFree mayWrite; decide +kernel

theorem test_hyp_TimeSources_ptp : isUp State.reset.blk 13 = false ∧ ptpOn (tF [(F.PTP_PORTCFG_en 0, 0)] State.reset.blk) 0 = false ∧
    (let b := tF [(F.PTP_PORTCFG_en 0, 1)] (tAt 13)
     isUp b 13 = true ∧ ptpOn b 0 = true ∧ ptpState b 0 ≠ 6 ∧ 1 ≠ cfg b F.PTP_CFG_domain) := by decide +kernel

/-- Port 0 is a slave of the master with identity `i`. -/
def tSlave (i : Nat) : Block :=
  { tAt 13 with
    regs := (tF [(F.PTP_PORTCFG_en 0, 1), (F.PTP_PSTATE0_st 0, 9)] (tAt 13)).regs
    ptp := modAt PtpPort.init State.reset.blk.ptp 0 (fun p => { p with foreign := [⟨{ tPtp with srcId := i }, 0, some 0⟩] }) }

theorem test_slave (i : Nat) (h : i ∈ [5, 6]) : isUp (tSlave i) 13 = true ∧ ptpOn (tSlave i) 0 = true ∧ 0 = cfg (tSlave i) F.PTP_CFG_domain ∧
    fromParent (tSlave i) 0 { tPtp with kind := .sync, twoStep := true, srcId := i } = true := by
  revert i; decide +kernel

theorem test_clock (b : Block) (r) (p) : clockId { b with regs := r, ptp := p } = clockId b := rfl

/-- A master other than this clock is some port's parent, whatever this clock's identity. -/
theorem test_hyp_TimeSources_parent : ∃ i, i ≠ clockId (tSlave i) ∧ isUp (tSlave i) 13 = true ∧ ptpOn (tSlave i) 0 = true ∧
    0 = cfg (tSlave i) F.PTP_CFG_domain ∧ fromParent (tSlave i) 0 { tPtp with kind := .sync, twoStep := true, srcId := i } = true := by
  by_cases h : 5 = clockId (tAt 13)
  · exact ⟨6, by rw [tSlave, test_clock, ← h]; decide, test_slave 6 (by simp)⟩
  · exact ⟨5, by rw [tSlave, test_clock]; exact h, test_slave 5 (by simp)⟩

theorem test_hyp_CompareAndStamps : (let b := State.reset.blk
     running b = true ∧ outputsOn b = true ∧ coreRuns b 0x81 = true ∧ mayWrite b 0x81 (cmpAddr none 0 0) ∧ cmpOwner b 0 = none ∧ cfgOn b (F.TIM_CMPCFG_en 0) = false ∧
     mayWrite b 0x81 (cmpAddr none 0 4) ∧ fon b (F.TIM_CMPSTAT_armed 0) = false ∧ cmpPulse b 0 = 0 ∧ isUp b 5 = false ∧ b.tim.pps = none ∧
     mayRead b 0x81 R.TIM_SEC_LO ∧ mayRead b 0x81 R.TIM_TXQ0 ∧ mayRead b 0x81 R.TIM_TXQ2 ∧ b.txq = [] ∧ latchOf b 0x81 R.TIM_TXQ2 = none) ∧
    (let b := tF [(F.TIM_CMPCFG_en 0, 1)] (tAt 5)
     cfgOn b (F.TIM_CMPCFG_en 0) = true ∧ reached (fast b) (fast b + 5) = false ∧ reached (fast b) (fast b) = true ∧ isUp b 5 = true ∧ cmpOwner b 0 = none) ∧
    (let b := tGP 0x24 7 (tF [(F.TIM_CMPCFG_owner 0, 1), (F.TIM_CMPCFG_inst 0, 7)] (tAt 5))
     cmpOwner b 0 = some 7 ∧ mayWrite b 7 (cmpAddr (some 7) 0 0) ∧ cmpOwner b 0 ≠ none ∧ cmpOwner State.reset.blk 0 ≠ some 7 ∧
      coreRuns b 7 = true) ∧
    (∀ p ∈ [0, 1000], let b := tF [(F.TIM_CMPSTAT_armed 0, 1)] (tB [(R.TIM_CMPPER 0, p)])
      fon b (F.TIM_CMPSTAT_armed 0) = true ∧ rd b (R.TIM_CMPPER 0) = p ∧ reached (fast b) (rd b (R.TIM_CMPTGT 0)) = true) ∧
    (let b := { State.reset.blk with tim := { State.reset.blk.tim with pulse := [(0, 9)], pps := some 8 }, txq := [⟨5, false, 1, 2, 0⟩] }
     cmpPulse b 0 ≠ 0 ∧ b.tim.pps = some 8 ∧ b.txq = [⟨5, false, 1, 2, 0⟩] ∧ latchOf b 0x81 R.TIM_TXQ2 = none) := by
  unfold mayWrite mayRead; decide +kernel
/-! ### Sheaves, windows and instances -/

/-- The ring runs, with sheaf 0 of the primary grid held and in state `f`. -/
def tSheaf (f : Sheaf → Sheaf) (l : List (Fld × Nat) := []) : Block :=
  { tF ([(F.ALN_STAT_running, 1), (F.ALN_STAT_secen, 1)] ++ l) (grant (.mem 0) 97 0 15 (grant (.mem 2) 97 0 15 (tB [(descAddr false 0 + 16, 1)]))) with
    aln := { State.reset.blk.aln with sheaves := [f (Sheaf.init false 0)] } }

/-- A sample at instant 0 of channel 0. -/
def tSamp (relay : Option (Nat × Bool)) : Sample := ⟨false, 0, false, 0, 0, true, true, relay, [(0, 5)]⟩

theorem test_hyp_SheafProgress : (running State.reset.blk = true ∧ outputsOn State.reset.blk = true ∧ gridOn State.reset.blk false = false ∧
     State.reset.blk.aln.due = [] ∧ State.reset.blk.aln.settled = [] ∧ State.reset.blk.aln.inq = [] ∧ agreed State.reset.blk = false ∧
     cmdFree State.reset.blk 0x81 0x29 ∧ (pheUnit State.reset.blk 0).work = []) ∧
    (let b := tSheaf id
     gridOn b false = true ∧ held b false (claimNext b false) = true ∧ gridOn b true = true ∧ held b true (claimNext b true) = false ∧
      (judge b 0x0C1 (slotAddr b true (claimNext b true)) (.word 8) Need.write).status = .ok ∧
      b.aln.sheaves.any (fun s => s.sec == false && s.phase == .agreeing) = false ∧
      b.aln.sheaves.find? (fun x => x.sec == false && x.phase == .agreeing) = none ∧ b.aln.sheaves.find? (fun x => x.sec == false && x.phase == .settling) = none ∧
      (∀ x ∈ sheafOf b false (closeNext b false), x.phase ≠ .released)) ∧
    (let b := { tSheaf id with aln := { (tSheaf id).aln with inq := [tSamp none], closeP := 0 } }
     gridOn b false = true ∧ (tSamp none).direct = true ∧ 0 < gridChans false ∧ gridAt (gridRate b false) 0 = 0 ∧ closeNext b false ≤ 0 ∧ held b false 0 = true ∧
      sheafOf b false 0 = some (Sheaf.init false 0) ∧ b.poisoned = [] ∧ b.uncorr = [] ∧ b.corr = [] ∧ entState (getEnt b false 0 0) = 0 ∧
      fon b (F.strmHeld 0) = false ∧ (judge b 0x0C1 (slotAddr b false 0) (.word 8) Need.write).status = .ok) ∧
    (let b := { tSheaf id with aln := { (tSheaf id).aln with inq := [tSamp (some (0, false))], closeP := 1 } }
     gridOn b false = true ∧ b.aln.inq = [tSamp (some (0, false))] ∧ 0 < closeNext b false) ∧
    gridOn { State.reset.blk with aln := { State.reset.blk.aln with inq := [tSamp none] } } false = false := by
  unfold cmdFree mayWrite; decide +kernel

theorem test_hyp_SheafProgress_span :
    (let b := tSheaf id [(F.TWN_STAT_state, 3)]
     agreed b = true ∧ sheafOf b false 1 = none ∧ relNext b false ≤ 1 ∧ sheafOf b false 0 = some (Sheaf.init false 0) ∧ (Sheaf.init false 0).phase ≠ .settling) ∧
    (let b := tSheaf (fun s => { s with phase := .agreeing, unsync := [] }) [(F.TWN_STAT_state, 3)]
     ∃ sh ∈ sheafOf b false 0, agreed b = true ∧ sh.phase = .agreeing ∧ sh.peer = none ∧ sh.in2 = false ∧ sh.digest = none ∧ sh.snap = [] ∧
      (b.aln.sheaves.find? (fun x => x.sec == false && x.phase == .agreeing)) = some sh) ∧
    (let b := tSheaf (fun s => { s with phase := .released })
     agreed b = false ∧ ∃ x ∈ sheafOf b false (closeNext b false), x.phase = .released) ∧
    (let b := tSheaf (fun s => { s with phase := .settling })
     ∃ x ∈ b.aln.sheaves.find? (fun x => x.sec == false && x.phase == .settling), x.k = 0) ∧
    (let b := { State.reset.blk with phe := { State.reset.blk.phe with units := [{ PheUnit.init with work := [⟨0, ⟨0, 0, 0, 0, 0, 0, 0, 0, [], 0, 0, 0⟩, none⟩] }] } }
     (pheUnit b 0).work ≠ []) := by decide +kernel
/-- The scheduler runs, with core 0 in state `f`, the windows `w` due, instance 0 RUNNING and sheaf 0 released. -/
def tSch (f : SchCore → SchCore) (w : List SchWin := []) : Block :=
  { tF [(F.SCH_STAT_run, 1), (F.VIM_ISTATE_state 0, 2)] (grant (.mem 0) 0 0 15 (tB [(descAddr false 0 + 16, 3)])) with
    sch := { State.reset.blk.sch with cores := modAt SchCore.init State.reset.blk.sch.cores 0 f, wins := w } }

/-- A release of task 0 of class `c` in phase `ph` whose deadline is at `dl`. -/
def tRel (c : Nat) (ph : RelPhase) (dl : Nat) : SchRel := ⟨⟨0, [], none, [], [], 0⟩, c, 0, 0, dl, ph, 0, 0, false⟩

/-- A window of core 0 at sheaf 0. -/
def tWin (word : Nat) (l : List SnapTask) : SchWin := ⟨0, word, 0, 0, 10, l⟩

theorem test_hyp_ScheduleAndTasks_windows : (running State.reset.blk = true ∧ fon State.reset.blk F.SCH_STAT_run = false ∧ nextWin (tSch id) 0 = none ∧
     (schCore State.reset.blk 0).win = none ∧ (schCore State.reset.blk 0).cur = none) ∧
    (let b := tSch id [tWin 0 []]
     outputsOn b = true ∧ fon b F.SCH_STAT_run = true ∧ nextWin b 0 = some (tWin 0 []) ∧ (schCore b 0).win = none ∧ (schCore b 0).cur = none ∧
      (schCore b 0).queue = [] ∧ (schCore b 0).unsaved = none) ∧
    (let w := tWin (2 ^ 30) [⟨0, [], none, [], [], 0⟩]
     let b := tSch id [w]
     nextWin b 0 = some w ∧ bitOf w.word 30 = true ∧ instRuns b (winInst w.word) = true ∧ releasedSheaf b w.k = true ∧
      w.tasks.filter (fun y => tClass y.ent == 0) = [⟨0, [], none, [], [], 0⟩]) ∧
    (∀ r ∈ [none, some (tRel 1 .running 0)], let b := tSch (fun x => { x with win := some (tWin 0 []), cur := r })
     (schCore b 0).win = some (tWin 0 []) ∧ (schCore b 0).queue = [] ∧ (schCore b 0).cur = r) := by decide +kernel

theorem test_hyp_ScheduleAndTasks_releases :
    (let b := tSch (fun x => { x with win := some (tWin 0 []), cur := some (tRel 0 .copying 9) })
     (schCore b 0).cur = some (tRel 0 .copying 9) ∧ (schCore b 0).win = some (tWin 0 []) ∧ (tRel 0 .copying 9).phase ≠ .running) ∧
    (∀ c ∈ [0, 1, 2], ∀ d ∈ [0, 10 ^ 12], let r := tRel c .running d
     let b := tSch (fun x => { x with cur := some r })
     (schCore b 0).cur = some r ∧ (∀ i < 16, i ≠ 0 → (schCore b i).cur = none) ∧ (d = 0 → r.dl ≤ ns b) ∧ (d ≠ 0 → ns b < r.dl) ∧ r.qual = false ∧
      (engRead (tInst r.snap.ent) (tBlk r.snap.ent + 0x1800) (tOutlen r.snap.ent) b).1 = .ok ∧
      (let x := engRead (tInst r.snap.ent) (tBlk r.snap.ent + 0xC00) 8 b
       x.1 = .ok ∧ leNat x.2.1 = 0) ∧ b.corr = [] ∧ (c < 2 → openRel b 0 = some (some 0, r))) ∧
    openRel (tSch id) 0 = none := by decide +kernel

theorem test_hyp_ScheduleAndTasks_commands :
    (let b := tT [(tkey 0x30 2 0 0, 2 ^ 31 + 2 ^ 29), (tkey 0x30 2 0 1, 5), (tkey 0x30 2 1 0, 2 ^ 31 + 2 ^ 29 + 2 ^ 16), (tkey 0x30 2 1 1, 5)] (tSch id)
     let e := taskEnt b 0
     tEn e = true ∧ tClass e = 1 ∧ tPeriod e ≠ 0 ∧ instRuns b (tInst e) = true ∧ openRel b 0 = none ∧ instRuns b (tInst (taskEnt b 1)) = false ∧
      tEn (taskEnt b 1) = true ∧ fon b F.SCH_STAT_run = true) ∧
    cmdFree State.reset.blk 0x81 0x30 ∧ s18 State.reset.blk = false ∧ s18 (tAt 18) = true ∧ cmdFree (tAt 18) 0x81 0x30 ∧ fon (tAt 18) F.SCH_STAT_run = false ∧
    cmdFree (tSch id) 0x81 0x30 := by unfold cmdFree mayWrite; decide +kernel
/-- Instance 0 in state `st`. -/
def tInst0 (st : Nat) (l : List (Fld × Nat) := []) (v : Vim → Vim := id) : Block :=
  { tF ([(F.VIM_ISTATE_state 0, st)] ++ l) State.reset.blk with vim := v State.reset.blk.vim }

theorem test_hyp_InstancesAndDma : (let b := State.reset.blk
     running b = true ∧ cmdFree b 0x81 0x31 ∧ noLease b = false ∧ paired b = false  ∧ b.vim.pend = none ∧ startCode 1 0 b ≠ 0 ∧
     instState b 0 ≠ 4 ∧ instState b 0 ≠ 2 ∧ instState b 0 ≠ 6 ∧ [2, 3, 4, 6].contains (instState b 0) = false ∧ granOwner b (gsel b) = none ∧
     b.granHold = [] ∧ b.vim.qtmo.find? (fun x => x.1 == 0) = none ∧ b.vim.resets.find? (fun r => r.1 == 0) = none ∧ instState b 0 ≠ 3) ∧
    (let b := tF [(F.TWN_STAT_paired, 1)] State.reset.blk
     noLease b = true ∧ cmdFree b 0x81 0x31) ∧
    (∀ st ∈ [2, 3, 4, 6], let b := tInst0 st
     instState b 0 = st ∧ cmdFree b 0x81 0x31 ∧ [2, 3, 4, 6].contains st = true ∧ ringDescs b 0 = [] ∧ releasesRun b 0 = false) ∧
    (let b := tInst0 3 [] (fun v => { v with pend := some none, qtmo := [(0, 5)], resets := [(0, [])] })
     cmdFree b 0x81 0x31 ∧ b.vim.pend ≠ none ∧ b.vim.qtmo.find? (fun x => x.1 == 0) = some (0, 5) ∧
      b.vim.resets.find? (fun r => r.1 == 0) ≠ none ∧ instState b 0 = 3) ∧
    { State.reset.blk with granHold := [(false, 0)] }.granHold ≠ [] := by unfold cmdFree mayWrite; decide +kernel

/-- A pair's holder whose twin link is in state `st`, with instance 0 QUIESCED. -/
def tPair (st : Nat) : Block := tF [(F.TWN_STAT_paired, 1), (F.TWN_STAT_holder, 1), (F.TWN_STAT_state, st), (F.VIM_ISTATE_state 0, 4)] State.reset.blk

/-- The checks of SHARE find nothing where no granule is mapped and each other check finds nothing. -/
theorem test_share (b : Block) (h : b.vim.mapped = [] ∧ b.bnk.pend = none ∧ b.vim.pend = none ∧ b.part.ddr32 = true ∧
    (List.range 64).any (fun n => shareEn b n && !shareEn (shareNext b) n && instState b n != 1) = false ∧
    ¬ 32 < ((List.range 64).map (fun n => shareW (shareNext b) n 1 % 64)).sum + cfg b F.VIM_CFG_mgrtok ∧ slotRanges b = [] ∧
    (List.range 64).any (fun n => decide (98304 < shareW (shareNext b) n 0 % 2 ^ 17)) = false ∧ (∀ n ∈ List.range 64, ∀ u ∈ List.range 8, bitsOf (shareW b n (2 + u)) 26 16 = 0) ∧
    tasksOn b = []) : vimCode 0 0 b = 0 := by
  obtain ⟨a1, a2, a3, a4, a5, a6, a7, a8, a9, a10⟩ := h
  have s (k) : afterSwap k b = b := by simp [afterSwap, a2]
  have q : (List.range 64).any (fun n => (slotsOf b n).any (fun s => slotOf (shareNext b) n s &&
      (let l := job b true s; jEn l && (jType l == 1 || jType l == 2) && !chanSub (shareNext b) n (jIn l 0)))) = false :=
    List.any_eq_false.mpr (fun n hn => by
      have e : slotsOf b n = [] := List.filter_eq_nil_iff.mpr (fun s hs => by
        have hs : s / 1024 < 8 := by have := List.mem_range.mp hs; omega
        have := a9 n hn (s / 1024) (List.mem_range.mpr hs)
        simp only [slotOf, this, Bool.and_eq_true, decide_eq_true_eq]
        omega)
      rw [e]; simp)
  have g : (granules b).any (fun g => granOwner b g != granOwner (shareNext b) g && b.vim.mapped.contains g) = false := by simp [a1]
  unfold vimCode shareCode
  simp only [s, a3]
  unfold shareCodeIn
  simp only [g, a4, a5, a6, a7, a8, a10, q]
  simp [anyRangeClash]

theorem test_share_reset : ∀ b ∈ [State.reset.blk, tPair 0, tPair 3], vimCode 0 0 b = 0 := by
  intro b hb
  apply test_share
  revert b
  decide +kernel

theorem test_hyp_InstancesAndDma_pair : (∀ st ∈ [0, 3], noLease (tPair st) = false ∧ paired (tPair st) = true ∧ agreed (tPair st) = decide (st = 3) ∧
     vimCode 2 0 (tPair st) = 0 ∧ instState (tPair st) 0 = 4 ∧ cmdFree (tPair st) 0x81 0x31) ∧
    (let b := tT [(tkey 0x31 0 0 0, 2 ^ 31), (tkey 0x31 4 0 0, 2 ^ 31)]
       { tInst0 1 with trust := { State.reset.blk.trust with slots := [(0, [1#8])] } }
     startCode 1 0 b = 0 ∧ paired b = false ∧ granOwner b (gsel b) = some 0 ∧ granOwner b (gsel b) = granOwner (shareNext b) (gsel b)) ∧
    (let b := { tset (tkey 0x31 4 0 0) (2 ^ 31) State.reset.blk with vim := { Vim.init with pend := some none } }
     b.vim.pend ≠ none ∧ granOwner b (gsel b) ≠ granOwner (shareNext b) (gsel b)) := by unfold cmdFree mayWrite; decide +kernel

/-- A descriptor on channel `c` that fills 512 bytes of DDR5. -/
def tDesc (c : Option Nat) : DmaDesc := ⟨64, 0, 0, 0x1000000000, 512, 1, 4, 0, c⟩

theorem test_hyp_InstancesAndDma_rings : (let b := State.reset.blk
     coreRuns b 0x81 = true ∧ mayWrite b 0x81 (ringReg 64 0x0C) ∧ rd b (ringReg 64 0x10) = rd b (ringReg 64 0x0C) ∧ ringDescs b 64 = [] ∧ b.dma = []) ∧
    (let b := tG [65] (tB [(ringReg 64 4, 0x10), (ringReg 64 0x0C, 1)])
     ringOn b 64 = true ∧ rd b (ringReg 64 0x10) ≠ rd b (ringReg 64 0x0C) ∧ (ringDescs b 64).length < 64 ∧
      (engRead (ringRqid 64) (ringBase b 64) 32 b).1 = .ok ∧ b.corr = []) ∧
    (let b := { State.reset.blk with dma := [tDesc none] }
     (ringDescs b 64).find? (fun d => d.chan.isNone) = some (tDesc none) ∧ ringChans b 64 < max 1 (ringTokens b 64) ∧ bitOf (tDesc none).flags 1 = false ∧
      (List.range 32).find? (fun c => !b.dma.any (fun x => x.chan == some c)) = some 0 ∧ (tDesc none).valid = true) ∧
    (let b := { tG [65] State.reset.blk with dma := [tDesc (some 0)] }
     b.dma.find? (fun d => d.chan == some 0) = some (tDesc (some 0)) ∧ bitOf (tDesc (some 0)).flags 2 = true ∧ isMem b 0x1000000000 = true ∧
      0 + min (512 - 0) (256 - 0x1000000000 % 256) < 512 ∧ (engWrite (ringRqid 64) 0x1000000000 (fillBytes 0 0 256) b).1 = .ok) := by
  unfold mayWrite; decide +kernel
/-! ### Publications, binaries and the twin -/

/-- A publication whose entry word 0 is `w`, with its next repetition at sheaf `k`. -/
def tPub (w k : Nat) : Block :=
  { State.reset.blk with pub := { Pub.init with runs := [(0, ⟨[w], 1, 0, 0, [], 0, 0, 1, k, false, false, [], none⟩)] } }

/-- Binary input 0 in the state `f`, with its chatter bit `c`. -/
def tBin (c : Nat) (f : BioIn → BioIn) : Block :=
  { tB [(R.BIO_CHAT, c)] with bio := { Bio.init with ins := modAt BioIn.init Bio.init.ins 0 f } }

theorem test_hyp_PublicationsAndBinaries :
    (let b := State.reset.blk
     running b = true ∧ pubRun b 0 = none ∧ (bioOut b 0).holdEnd = none ∧ (bioIn b 0).pend = none ∧ chatOn b 0 = false ∧ supDue b 0 = none ∧
      coreRuns b 0x81 = true ∧ mayRead b 0x81 R.BIO_BINQ0 ∧ mayRead b 0x81 R.BIO_BINQ2 ∧ b.bio.queue = [] ∧ latchOf b 0x81 R.BIO_BINQ2 = none) ∧
    (∃ r, pubRun (tPub 0xFFFFFFFF 0) 0 = some r ∧ pGoose r.ent = false) ∧
    (∃ r, pubRun (tPub 0 0) 0 = some r ∧ pGoose r.ent = true ∧ r.nextK ≤ rd64 (tPub 0 0) R.BNK_CURIDX_LO) ∧
    (∃ r, pubRun (tPub 0 1) 0 = some r ∧ pGoose r.ent = true ∧ rd64 (tPub 0 1) R.BNK_CURIDX_LO < r.nextK) ∧
    (∀ c ∈ [0, 1], (bioIn (tBin c (fun x => { x with pend := some 5 })) 0).pend = some 5 ∧
      chatOn (tBin c (fun x => { x with pend := some 5 })) 0 = decide (c = 1)) ∧
    (let b := tBin 1 (fun x => { x with changes := List.replicate 40 0 })
     cfg b F.BIO_CHATCFG_chatn / 2 < ((bioIn b 0).changes.filter (fun c => decide ((bioIn b 0).window ≤ c) &&
       decide (c < (bioIn b 0).window + cfg b F.BIO_CHATCFG_chatw * 1000000000))).length) ∧
    (let b := { State.reset.blk with bio := { Bio.init with
       outs := [{ BioOut.init with holdEnd := some 4, openHold := true }], queue := [⟨3, 1, true, false⟩] } }
     (bioOut b 0).holdEnd = some 4 ∧ (supDue b 0).map (·.2) = some (true, true) ∧ b.bio.queue = [⟨3, 1, true, false⟩] ∧
      latchOf b 0x81 R.BIO_BINQ2 = none) := by unfold mayRead; decide +kernel

/-- What a HELLO must equal, whatever this module's identity, some HELLO equals. -/
theorem test_hyp_TwinLink_hello (b : Block) : ∃ h : Hello, h.cap = (hello b).cap ∧ h.side ≠ (hello b).side ∧ h.fleet = (hello b).fleet ∧
    h.fldId = (hello b).fldId ∧ h.pair = (hello b).pair ∧ h.vmac = (hello b).vmac ∧ h.rate = (hello b).rate ∧ h.s16 = false ∧
    { h with cap := h.cap + 1 }.cap ≠ (hello b).cap :=
  ⟨{ hello b with
     side := !(hello b).side
     s16 := false }, rfl, by simp, rfl, rfl, rfl, rfl, rfl, rfl, by simp⟩

/-- The twin's state `f` and the fields `l`. -/
def tTwn (f : Twn → Twn) (l : List (Fld × Nat)) : Block := { tF l State.reset.blk with twn := f State.reset.blk.twn }

theorem test_hyp_TwinLink : (let b := State.reset.blk
     running b = true ∧ b.aln.due = [] ∧ b.aln.settled = [] ∧ b.twn.recs = [] ∧ laneUp b = false ∧ b.twn.lane1At = none ∧ b.twn.lane2At = none ∧
     b.twn.hbAt = none ∧ spanUp b = false ∧ b.twn.joinIdx = none ∧ twnState b ≠ 2 ∧ agreed b = false ∧ b.twn.precs = [] ∧ linkUp b 12 = false ∧
     b.bnk.check = none ∧ b.vim.ask = none) ∧
    (let b := tTwn (fun w => { w with laneOff := false, lane1At := some 0, lane2At := some 0, hbAt := some 0, missed := 3 }) [(F.TWN_STAT_lane1, 1), (F.MAC_STAT_link 12, 1)]
     laneUp b = true ∧ b.twn.recs = [] ∧ linkUp b 12 = true ∧ b.twn.laneOff = false ∧ b.twn.peerStart = none ∧ b.twn.lane1At = some 0 ∧
      b.twn.lane2At = some 0 ∧ b.twn.hbAt = some 0 ∧ b.aln.sheaves = [] ∧ b.twn.missed < 16 ∧ spanUp b = true ∧ agreed b = false ∧ 0 ≤ curIdx b ∧
      curIdx b < 1) ∧
    (let b := tTwn (fun w => { w with laneOff := true }) [(F.MAC_STAT_link 12, 1)]
     b.twn.laneOff = true ∧ laneUp b = false ∧ linkUp b 12 = true) ∧
    running State.reset.blk = true := by decide +kernel

theorem test_hyp_TwinLink_states :
    (let b := tTwn (fun w => { w with hbAt := some 0 }) [(F.TWN_STAT_state, 1)]
     spanUp b = true ∧ twnState b = 1 ∧ fget b F.TWN_STAT_refuse = 0) ∧
    (let b := tTwn (fun w => { w with joinIdx := some 0, resync := some (7, [], []) }) [(F.TWN_STAT_state, 2)]
     b.twn.joinIdx = some 0 ∧ b.twn.resync = some (7, [], []) ∧ twnState b = 2 ∧ 0 ≤ rd64 b R.ALN_CURIDX_LO) ∧
    (let b := tTwn (fun w => { w with precs := [(⟨1, 2, 3⟩, 4)] }) [(F.TWN_STAT_state, 3)]
     agreed b = true ∧ b.twn.recs = [] ∧ b.twn.precs = [(⟨1, 2, 3⟩, 4)]) ∧
    agreed (tTwn (fun w => { w with precs := [(⟨1, 2, 3⟩, 4)] }) []) = false ∧
    (let b := { tTwn id [(F.TWN_STAT_lane2, 1)] with bnk := { State.reset.blk.bnk with check := some ⟨false, false, true, 9, 0⟩ } }
     laneUp b = true ∧ b.bnk.check = some ⟨false, false, true, 9, 0⟩ ∧ curIdx b < 9) ∧
    { State.reset.blk with vim := { Vim.init with ask := some ⟨0, 0, 9, 0⟩ } }.vim.ask = some ⟨0, 0, 9, 0⟩ := by decide +kernel
/-! ### Ingest -/

/-- An SV frame of application 0x4000 with one ASDU. -/
def tSvBody : SvBody := ⟨none, 0x4000, false, true, 1, none, [⟨[], [], 0, 0, 0, none, []⟩]⟩

/-- A GOOSE of application 1 with no members. -/
def tGooBody : GooseBody := ⟨none, 1, false, true, none, [], [], [], 0, false, false, 1, 0, 0, 1000, []⟩

/-- A field frame of type `t`, from module 3 of field 5. -/
def tRelay (t : Nat) : RelayBody := ⟨t, 2, 5, 0, 3, 0, 0, 0, 0, 0, 0, [(0, 1)]⟩

/-- The ring runs, with a stream for application 0x4000, a relayed stream of module 3, an AAP stream and a GOOSE subscription, as member of field 5. -/
def tIn (l : List (Fld × Nat) := []) : Block :=
  tT [(tkey 0x28 0 0 0, 2 ^ 31 + 0x4000), (tkey 0x28 0 0 1, 1), (tkey 0x28 0 1 0, 2 ^ 31 + 2 ^ 30 + 2), (tkey 0x28 0 1 1, 3), (tkey 0x28 0 1 9, 64),
    (tkey 0x28 0 2 0, 2 ^ 31 + 3 * 2 ^ 29 + 7), (tkey 0x28 2 0 0, 2 ^ 31 + 1), (tkey 0x28 2 0 1, 1), (tkey 0x28 2 0 3, Crc.crc32c []),
    (tkey 0x28 2 0 4, Crc.crc32c [])] (tF ([(F.ALN_STAT_running, 1), (F.FLD_ID_fid, 5), (F.AAP_CTL_clken, 1)] ++ l) (tAt 9))

theorem test_hyp_IngestFrames :
    fon State.reset.blk F.ALN_STAT_running = false ∧ running (tIn) = true ∧ fon tIn F.ALN_STAT_running = true ∧ tIn.bnk.pend = none ∧
    (∀ c, (streams tIn c).find? (fun e => e.matchSv { tFrame with etype := 0x88BA } { tSvBody with appid := 1 }) = none) ∧
    fragment tFrame = false ∧
    (∃ e ∈ (streams tIn (sviCopy tIn)).find? (fun e => e.matchSv { tFrame with etype := 0x88BA } tSvBody), e.slot < 512 ∧ e.portOk 0 = true ∧ e.f 4 23 20 = 0 ∧
      e.f 0 27 26 = 0 ∧ tIn.svi.simOn.contains e.slot = false ∧
      frameRes tIn e 0 0 { tFrame with etype := 0x88BA } tSvBody = .ok false false ∧
      frameRes tIn e 0 0 { tFrame with etype := 0x88BA } { tSvBody with wf := false } = .bad (.dec 6) ∧
      frameRes tIn e 0 0 { tFrame with etype := 0x88BA } { tSvBody with sim := true } = .sim) ∧
    relayPasses State.reset.blk (tRelay 1) = false := by decide +kernel

theorem test_hyp_IngestFrames_relay : let b := { tIn with key := { tIn.key with leaves := [(64, tLeaf 4)] } }
    (∀ t ∈ [1, 2], relayPasses b (tRelay t) = true) ∧ (∃ e ∈ (streams b (sviCopy b)).find? (fun e => vidMatch (e.w.getD 2 0) tFrame && e.kind == 2 &&
      e.f 0 15 0 == 2 && e.f 1 15 0 == 3), e.slot < 512 ∧ e.portOk 0 = true ∧ leafRx b (e.f 9 10 0) 0 = true ∧ (leaf b (e.f 9 10 0)).kind = 4 ∧
      hist b e.slot e.copy = [] ∧ b.svi.lastRev = []) ∧ ({ tRelay 2 with time := 1 } : RelayBody).time ≠ 0 ∧
      relayPasses b { tRelay 2 with time := 1 } = true := by decide +kernel

theorem test_hyp_IngestFrames_goose : isUp State.reset.blk 9 = false ∧ isUp tIn 9 = true ∧
    (List.range 1024).find? (gooMatch tIn { tFrame with etype := 0x88B8 } { tGooBody with appid := 9 }) = none ∧
    (List.range 1024).find? (gooMatch tIn { tFrame with etype := 0x88B8 } tGooBody) = some 0 ∧ bitsOf (gooW tIn 0 0) 29 28 = 0 ∧
    tIn.svi.gsimOn.contains 0 = false ∧ tGooBody.confrev = gooW tIn 0 5 ∧ 1 ≠ gooW tIn 0 5 ∧ Crc.crc32c tGooBody.datset = gooW tIn 0 4 ∧
    gooVals tIn 0 tGooBody = some [] ∧ (goose tIn 0).last = none ∧ gooOwner (gooW tIn 0 0) = 0 ∧ bitOf (gooW tIn 1 0) 31 = false ∧
    gooDeadline tIn 0 = none ∧
    (let b := { tIn with svi := { tIn.svi with goose := [(0, { GooseSub.init with last := some 0, ttl := 5 })] } }
     bitOf (gooW b 0 0) 31 = true ∧ gooDeadline b 0 = some 5000000) := by decide +kernel

theorem test_hyp_IngestFrames_aap : (let b := State.reset.blk
     coreRuns b 0x81 = true ∧ mayWrite b 0x81 R.SVI_CTL ∧ cfgLocked b 0x28 = false ∧ fon b F.AAP_CTL_clken = false ∧ b.part.optA = true ∧
     aapStuckHigh b 0 = false) ∧
    (fon tIn F.AAP_CTL_clken = true ∧ tIn.part.optA = true ∧ ∃ e ∈ (streams tIn (sviCopy tIn)).find? (fun e => e.kind == 3 && e.f 0 15 0 == 7), e.slot < 512) ∧
    aapStuckHigh (tF [(F.AAP_STAT_fault, 1)] State.reset.blk) 0 = true ∧
    ({ State.reset.blk with aapLowStuck := [0] }).aapLowStuck.contains 0 = true := by unfold mayWrite; decide +kernel
/-! ### The lease, the field and what is saved -/

/-- A module at step 15 with twin lease `v`, field lease `u`, leaves and fields. -/
def tLease (v u : Lease → Lease) (lv : List (Nat × Leaf)) (l : List (Fld × Nat)) : Block :=
  { tF l (tAt 15) with
    twn := { State.reset.blk.twn with lease := v Lease.init }
    fld := { FieldSt.init with lease := u Lease.init }
    key := { State.reset.blk.key with leaves := lv } }

/-- A witness message of type `t` that answers request 7. -/
def tWit (t : Nat) : WitMsg := ⟨0, 0, 0, t, 0, 0, 0, 0, 0, 0, 0, 0, 0, 7, 0, 0, 0, 0⟩

theorem test_hyp_LeaseAndField : (let b := State.reset.blk
     running b = true ∧ holder b = false ∧ fon b F.FLD_STAT_master = false ∧ twnState b = 0 ∧ b.twn.lease.askAt = none ∧ b.twn.lease.remAt = none ∧
     replyTo b b.twn.lease (tWit 4) = none ∧ (tWit 4).lease = 0 ∧ isCandidate b = false ∧ fieldId b = 0 ∧ b.fld.prev = none) ∧
    (let b := tLease (fun v => { v with renewAt := some 5, retryAt := some 6, exp := 10 ^ 10 }) (fun v => { v with renewAt := some 5, retryAt := some 6 }) []
       [(F.TWN_STAT_holder, 1), (F.FLD_STAT_master, 1)]
     holder b = true ∧ fon b F.FLD_STAT_master = true ∧ b.twn.lease.renewAt = some 5 ∧ b.twn.lease.retryAt = some 6 ∧ b.fld.lease.renewAt = some 5 ∧
      b.fld.lease.retryAt = some 6 ∧ ns b + 1000 * 1000000 ≤ b.twn.lease.exp - 10000000) ∧
    (let b := tLease (fun v => { v with askAt := some 5, remAt := some 6, reqs := [(7, 0, 0)] }) id [(0, tLeaf 3)] [(F.TWN_STAT_state, 1), (F.TWN_WSRV_w0_en 0, 1)]
     holder b = false ∧ twnState b = 1 ∧ 15 ≤ b.start.last ∧ b.twn.lease.askAt = some 5 ∧ b.twn.lease.remAt = some 6 ∧ replyTo b b.twn.lease (tWit 4) = some (0, 0) ∧
      (tWit 4).fleet = fleetId b ∧ (tWit 4).midx = modIdx b ∧ (leaf b (cfg b F.TWN_WITLEAF_cur)).kind = 3 ∧ leafRx b (cfg b F.TWN_WITLEAF_cur) (secOf b) = true ∧
      rd b R.TWN_EPOCH ≤ (tWit 4).epoch ∧ ns b + 10000000 < 0 + leaseLen b ∧ fon b F.TWN_CTL_nolease = false ∧
      ∃ x ∈ serveOf b (tWit 1), let h := if x.2 then cfg b (F.TWN_WSRV_w3_leafy x.1) else cfg b (F.TWN_WSRV_w3_leafx x.1)
        (leaf b h).kind = 3 ∧ leafRx b h (secOf b) = true) := by decide +kernel

theorem test_hyp_LeaseAndField_commands : cmdFree State.reset.blk 0x81 0x38 ∧ (let b := tGP 0x38 3 State.reset.blk
     subFree b 3 0x38 3 0x1F0 0x1F4) ∧ coreRuns State.reset.blk 0x81 = true ∧ mayWrite State.reset.blk 0x81 R.TWN_CTL ∧
    cfgLocked State.reset.blk 0x38 = false ∧ (∀ h ∈ [0, 1], let b := tLease id id [] [(F.TWN_STAT_holder, h), (F.TWN_STAT_state, 1)]
      cmdFree b 0x81 0x38 ∧ holder b = decide (h = 1) ∧ twnState b = 1 ∧ mayWrite b 0x81 R.TWN_CTL ∧ cfgLocked b 0x38 = false) := by
  unfold cmdFree subFree mayWrite; decide +kernel

theorem test_hyp_LeaseAndField_field :
    (let b := tLease id id [(0, tLeaf 4)] [(F.FLD_STAT_master, 1), (F.FLD_ID_fid, 5)]
     cfg b F.FLD_CFG_etype ≠ 0x8808 ∧ fon b F.FLD_STAT_master = true ∧ pickLeaf b (cfg b F.FLD_LEAF_cur) (cfg b F.FLD_LEAF_next) 4 = some 0 ∧
      fieldId b ≠ 0 ∧ b.fld.noMaster = false ∧ isCandidate b = false ∧ (leaf b (cfg b F.FLD_LEAF_cur)).kind = 4 ∧
      leafRx b (cfg b F.FLD_LEAF_cur) (secOf b) = true) ∧
    (let b := { tLease id id [(0, tLeaf 4)] [(F.FLD_CFG_prio, 3), (F.FLD_ID_fid, 5)] with time := 10 ^ 10 * 65536 }
     isCandidate b = true ∧ lastAnnounce b + ms300 ≤ ns b ∧ pickLeaf b (cfg b F.FLD_LEAF_cur) (cfg b F.FLD_LEAF_next) 4 = some 0 ∧
      b.fld.noMaster = false) ∧
    isCandidate (tLease id id [] [(F.FLD_CFG_prio, 3), (F.FLD_ID_fid, 5)]) = true ∧
    ns (tLease id id [] [(F.FLD_CFG_prio, 3), (F.FLD_ID_fid, 5)]) < 0 + ms300 ∧
    { FieldSt.init with prev := some (1, 2) }.prev = some (1, 2) := by decide +kernel
theorem test_hyp_SavedRecords_metering : running State.reset.blk = true ∧
    (let b := { grant (.mem 4) 102 0 15 State.reset.blk with lgr := { State.reset.blk.lgr with saves := [⟨3, 0x1801100000, [1#8]⟩] } }
     b.lgr.saves.find? (fun x => x.prog == 3) = some ⟨3, 0x1801100000, [1#8]⟩ ∧ b.lgr.saves.find? (fun x => x.prog == 4) = none ∧
      (engWrite 0x0C6 0x1801100000 [1#8] { b with lgr := { b.lgr with saves := [] } }).1 = .ok) ∧
    mtrNext State.reset.blk = none ∧ fget State.reset.blk F.PWR_STAT_state = 0 ∧ State.reset.blk.pwr.deferred = .none ∧ State.reset.blk.mtr.save = none ∧
    (let b := { tB [(descAddr false 0 + 16, 5)] with mtr := { Mtr.init with next := some 0 } }
     b.part.optM = true ∧ fget b F.PWR_STAT_state ≠ 2 ∧ mtrNext b = some 0 ∧ b.mtr.save = none) ∧
    ({ State.reset.blk with mtr := { Mtr.init with save := some ⟨0, [], []⟩ } }).mtr.save = some ⟨0, [], []⟩ ∧
    (let b := { tF [(F.PLS_CFG_w0_en 0, 1)] State.reset.blk with
       mtr := { Mtr.init with outs := [{ PlsOut.init with queue := [(5, 6)] }, { PlsOut.init with high := some 7 }] } }
     (plsOut b 0).queue = [(5, 6)] ∧ (plsOut b 0).high = none ∧ cfgOn b (F.PLS_CFG_w0_en 0) = true ∧ (plsOut b 1).high = some 7) ∧
    (plsOut State.reset.blk 0).queue = [] := by decide +kernel

theorem test_hyp_SavedRecords_commands : (let b := State.reset.blk
     cmdFree b 0x81 0x3C ∧ lEn (lgrEnt b 0) = false ∧ lEn (lgrEnt (tT [(tkey 0x3C 0 0 0, 2 ^ 31)] b) 0) = true ∧
     cmdFree b 0x81 0x3E ∧ fget b F.MTR_SNAPLEN_len < 16 + 192 ∧ mEn (mtrEnt b 0) = false ∧ mEn (mtrEnt (tT [(tkey 0x3E 0 0 0, 2 ^ 31)] b) 0) = true) ∧
    (let b := tG [100] (tB [(R.MTR_SNAPLEN, 208), (R.MTR_SNAPADDR_HI, 0x10)])
     cmdFree b 0x81 0x3E ∧ 16 + 192 * 1 ≤ fget b F.MTR_SNAPLEN_len ∧
      fget b F.MTR_SNAPADDR_LO_addr * 8 + fget b F.MTR_SNAPADDR_HI_addr * 2 ^ 32 = 0x1000000000 ∧
      (engWrite 0x0C4 0x1000000000 (snapRecord b 0 1) b).1 = .ok) := by unfold cmdFree mayWrite; decide +kernel

theorem test_hyp_SavedRecords_instance :
    (let b := tT [(tkey 0x3E 0 0 0, 2 ^ 26 + 3 * 2 ^ 16)] (tGP 0x40 3 (tGP 0x3E 3 (tF [(F.VIM_ISTATE_state 3, 2), (F.MTR_I_SNAPLEN_len 3, 208),
       (F.MTR_I_SNAPADDR_HI_addr 3, 0x10)] (grant (.mem 1) 3 0 15 State.reset.blk))))
     subFree b 3 0x3E 3 0x1F0 0x1F4 ∧ instState b 3 = 2 ∧ mOwner (mtrEnt b 0) = some 3 ∧ 16 + 192 * 1 ≤ fget b (F.MTR_I_SNAPLEN_len 3) ∧
      (engWrite 3 0x1000000000 (snapRecord b 0 1) b).1 = .ok ∧ subFree b 3 0x40 3 0x1F0 0x1F4 ∧ fon b F.ELG_STAT_dead = false ∧
      0 < cfg b F.ELG_IRATE_rate ∧ fon b F.ELG_CTL_hold = false ∧ b.elg.queue.length < 256) ∧
    (let b := { tGP 0x3E 3 (tGP 0x40 3 (tF [(F.ELG_CTL_hold, 1)] State.reset.blk)) with
       elg := { State.reset.blk.elg with instSec := 0, instCnt := [(3, 100)] } }
     subFree b 3 0x3E 3 0x1F0 0x1F4 ∧ instState b 3 ≠ 2 ∧ subFree b 3 0x40 3 0x1F0 0x1F4 ∧ b.elg.instSec = secOf b ∧
      cfg b F.ELG_IRATE_rate ≤ sget (fun _ => 0) b.elg.instCnt 3 ∧ fon b F.ELG_CTL_hold = true ∧ b.elg.held.length < 2048) := by
  unfold subFree mayWrite; decide +kernel

/-- The log ready with one record waiting, and the fields `l`. -/
def tElg (l : List (Fld × Nat)) : Block :=
  { tF ([(F.ELG_STAT_ready, 1)] ++ l) (grant (.mem 4) 101 0 15 State.reset.blk) with
    elg := { State.reset.blk.elg with queue := [⟨1, 2, 3, 4, 5, [], false⟩], lostSince := 0, last := none } }

theorem test_hyp_SavedRecords_records : fon State.reset.blk F.ELG_STAT_ready = false ∧
    (let b := tElg []
     let x : ElgItem := ⟨1, 2, 3, 4, 5, [], false⟩
     let m : Block := { b with elg := { b.elg with queue := [] } }
     let n := rd b R.ELG_NEXT
     let r : ElgRec := ⟨x.time, n, x.code, 1, x.sev, x.rqid, elgFlags x.gasp b, 0, x.payload⟩
     let y := elgTry (elgSlot n) r.bytes false (cleanse (elgSlot n) (cleanse (elgSlot n + 32) (wr R.ELG_NEXT (n + 1) m)))
     fon b F.ELG_STAT_ready = true ∧ fon b F.ELG_STAT_clearing = false ∧ b.elg.queue = [x] ∧ fon b F.ELG_STAT_dead = false ∧ elgRepeats x m = false ∧
      b.elg.lostSince = 0 ∧ fon b F.ELG_STAT_reserve = false ∧ y.1 = true ∧ y.2.elg.lostSince = 0) ∧
    (let b := tElg [(F.ELG_STAT_dead, 1)]
     fon b F.ELG_STAT_dead = true ∧ fon b F.ELG_STAT_clearing = false) ∧
    (let b := tElg [(F.ELG_STAT_reserve, 1)]
     fon b F.ELG_STAT_reserve = true ∧ fon b F.ELG_STAT_dead = false ∧
      elgRepeats ⟨1, 2, 3, 4, 5, [], false⟩ { b with elg := { b.elg with queue := [] } } = false) := by decide +kernel

/-- A token to clear the log of device 7 up to record 0, at the start of DDR5. -/
def tTok (m : List (Nat × Byte)) : Block :=
  let b := tG [101] (tF [(F.ELG_CTL_hold, 1)] (tB [(R.ELG_TOKADDR_HI, 0x10), (R.ELG_NEXT, 1)]))
  { b with
    part := { b.part with did := 7 }
    mem := m
    elg := { b.elg with holdAt := some 5, clearing := some (0, 0, 0, []) } }

theorem test_hyp_SavedRecords_clear : (let b := State.reset.blk
     cmdFree b 0x81 0x40 ∧ noLease b = false ∧ fon b F.ELG_CTL_hold = false ∧ b.elg.clearing = none ∧ b.elg.holdAt = none ∧ coreRuns b 0x81 = true ∧
     mayWrite b 0x81 R.ELG_CTL ∧ cfgLocked b 0x40 = false ∧ fon b F.ELG_STAT_reserve = false ∧ fon b F.ELG_STAT_dead = false ∧
     fon b F.ELG_STAT_clearing = false) ∧ noLease (tF [(F.TWN_STAT_paired, 1)] State.reset.blk) = true ∧
    (let b := tTok [(0x1000000000, 0x5A), (0x1000000001, 0x4C), (0x1000000002, 0x43), (0x1000000003, 0x54), (0x1000000004, 1), (0x1000000008, 7)]
     let e := engRead 0x0C5 0x1000000000 4869 b
     let v (o k : Nat) : Nat := leNat ((e.2.1.drop o).take k)
     cmdFree b 0x81 0x40 ∧ noLease b = false ∧ fon b F.ELG_CTL_hold = true ∧ e.1 = .ok ∧ b.corr = [] ∧ v 0 4 = 0x54434C5A ∧ v 4 2 = 1 ∧ v 6 2 = 0 ∧
      v 36 4 = 0 ∧ v 80 48 = 0 ∧ v 8 16 = b.part.did ∧ v 24 4 = fleetId b ∧ secOf b ≤ v 40 8 ∧ (v 32 4 + 1) % 2 ^ 32 = rd b R.ELG_NEXT ∧
      b.elg.clearing ≠ none ∧ b.elg.holdAt = some 5) ∧
    (let b := tTok []
     let e := engRead 0x0C5 0x1000000000 4869 b
     e.1 = .ok ∧ leNat (e.2.1.take 4) ≠ 0x54434C5A ∧ mayWrite b 0x81 R.ELG_CTL ∧ fon b F.ELG_STAT_ready = false) ∧
    cfgLocked (tB [(pg 0x40 0x24, 1)]) 0x40 = true := by unfold cmdFree mayWrite; decide +kernel

/-- A binary input that changed and changed back between two images shows as changed (R431, kind 4). -/
theorem test_binsChanged : (let b := { State.reset.blk with bio := { Bio.init with hist := [(30, 0), (20, 1), (0, 0)] } }
    (binsChanged b 10 25, binsChanged b 10 40, binsChanged b 30 40)) = (1, 1, 0) := by decide

/-- A pin that takes the level it has does not start its debounce again (R489). -/
theorem test_binLevel_same : (bioIn (binLevel 0 true { tBin 0 (fun x => { x with pin := true, pend := some 5 }) with
    time := 10 ^ 9, start := { State.reset.blk.start with last := 9 } }) 0).pend = some 5 := by decide


end Sys2Proof.Tests
end

section
/-! An access of a register of an option that is not fitted: it ends as absent, records nothing and changes nothing (R8). -/

namespace Sys2Proof.Machine

/-! ### Where a register target lies -/

/-- A block page holds an offset at one address (R102). -/
theorem addr_of_targetOf_page {t : Part} {a p o : Nat} (h : targetOf t a = .page p o) : a = pg p o ∧ o < 0x10000 := by
  unfold targetOf at h
  simp only at h
  repeat' split at h
  all_goals try cases h
  rename_i hspan _
  obtain ⟨hlo, _⟩ := hspan
  simp only [pg, pageOf]
  omega

/-- A sub-page holds an offset at one address (R102, R112). -/
theorem addr_of_targetOf_sub {t : Part} {a p n o : Nat} (h : targetOf t a = .sub p n o) : a = sp n p o := by
  unfold targetOf at h
  simp only at h
  repeat' split at h
  all_goals try cases h
  rename_i hspan _
  obtain ⟨hlo, _⟩ := hspan
  simp only [sp]
  omega

/-- The pages of the options (R7). -/
theorem mem_of_absentPage {t : Part} {p : Nat} (h : absentPage t p = true) : p ∈ [0x3E, 0x3F, 0x2A, 0x36] := by
  unfold absentPage at h
  split at h
  case h_5 => cases h
  all_goals decide

/-! ### The absent outcome -/

/-- The address `a` is that of a 32-bit register of page `p`, or of a sub-page of `p`, and the option of `p` is not fitted. -/
def AbsentReg (t : Part) (p a : Nat) : Prop :=
  a % 4 = 0 ∧ absentPage t p = true ∧ ((∃ o, targetOf t a = .page p o) ∨ ∃ n o, targetOf t a = .sub p n o)

/-- Such an access is judged absent, whoever makes it and whatever for. -/
theorem judge_absentReg {b : Block} {p a : Nat} (h : AbsentReg b.part p a) (rqid : Nat) (need : Need) :
    judge b rqid a (.word 4) need = ⟨.absent, 0xF, 0, 0⟩ := by
  obtain ⟨ha, hp, ⟨o, ht⟩ | ⟨n, o, ht⟩⟩ := h <;> simp [judge, ht, widthOk, ha, hp]

/-- An absent outcome leaves no fault record and no error in a sub-page (R8, R110). -/
@[simp] theorem accessFault_absent (r k m rqid a : Nat) (need : Need) (b : Block) : accessFault ⟨.absent, r, k, m⟩ rqid a need b = b := by
  simp [accessFault, recordFault, accessErr]

/-- A register of an absent page reads 0. -/
theorem registerRead_absentReg {b : Block} {p a : Nat} (h : AbsentReg b.part p a) (rqid : Nat) :
    registerRead rqid a b = { b with resp := ⟨.absent, 0⟩ } := by
  have hj := judge_absentReg h rqid Need.read
  obtain ⟨_, _, ⟨o, ht⟩ | ⟨n, o, ht⟩⟩ := h <;> simp [registerRead, ht, hj]

/-! ### A write -/

/-- None of the registers whose write has a row of its own lies on an option's page. -/
theorem absentReg_ne_row {t : Part} {p a : Nat} (h : AbsentReg t p a) :
    a ≠ R.SYS_WDOGKICK ∧ a ≠ R.PWR_TALLYCTL ∧ a ≠ R.SVI_CTL ∧ a ≠ R.TWN_CTL := by
  obtain ⟨_, hp, ht⟩ := h
  have hp := mem_of_absentPage hp
  simp only [List.mem_cons, List.not_mem_nil, or_false] at hp
  simp only [R.SYS_WDOGKICK, R.PWR_TALLYCTL, R.SVI_CTL, R.TWN_CTL]
  obtain ⟨o, ht⟩ | ⟨n, o, ht⟩ := ht
  · have ha := addr_of_targetOf_page ht
    simp only [pg] at ha
    omega
  · have ha := addr_of_targetOf_sub ht
    simp only [sp] at ha
    omega

/-- A command word to an absent page is ignored. -/
theorem commandWrite_absentReg {b : Block} {p : Nat} (h : AbsentReg b.part p (pg p 0x28)) (rqid v : Nat) :
    commandWrite rqid p v b = { b with resp := ⟨.absent, 0⟩ } := by
  simp [commandWrite, cmdWrite, judge_absentReg h]

/-- A command word to a sub-page of an absent page is ignored. -/
theorem subCommandWrite_absentReg {b : Block} {p n o so : Nat} (hc : subCmdAt p = some (o, so)) (h : AbsentReg b.part p (sp n p o)) (rqid v : Nat) :
    subCommandWrite rqid p n v b = { b with resp := ⟨.absent, 0⟩ } := by
  simp [subCommandWrite, hc, subCmdWrite, judge_absentReg h]

/-- Any other word to a register of an absent page is ignored. -/
theorem plainWrite_absentReg {b : Block} {p a : Nat} (h : AbsentReg b.part p a) (rqid v : Nat) (t : Target) :
    registerWrite.plain rqid a v t b = { b with resp := ⟨.absent, 0⟩ } := by
  simp [registerWrite.plain, judge_absentReg h]

/-- A write of a register of an absent page changes nothing but the answer. -/
theorem registerWrite_absentReg {b : Block} {p a : Nat} (h : AbsentReg b.part p a) (rqid v : Nat) :
    registerWrite rqid a v b = { b with resp := ⟨.absent, 0⟩ } := by
  obtain ⟨hwdog, htally, hsvi, htwn⟩ := absentReg_ne_row h
  obtain ⟨_, hp, ⟨o, ht⟩ | ⟨n, o, ht⟩⟩ := id h
  · obtain ⟨ha, _⟩ := addr_of_targetOf_page ht
    simp only [registerWrite, ht, Target.num, if_neg hwdog, if_neg htally, if_neg hsvi, if_neg htwn]
    split
    · rename_i hcmd
      obtain ⟨_, hcmd⟩ := hcmd
      cases hcmd
      exact commandWrite_absentReg (ha ▸ h) _ _
    · split
      · rename_i htim
        cases htim
        exact absurd (mem_of_absentPage hp) (by decide)
      · rename_i hsub
        cases hsub
      · exact plainWrite_absentReg h _ _ _
  · have ha := addr_of_targetOf_sub ht
    simp only [registerWrite, ht, if_neg hwdog, if_neg htally, if_neg hsvi, if_neg htwn]
    rw [if_neg (by simp)]
    split
    · rename_i hcmd
      exact subCommandWrite_absentReg hcmd (ha ▸ h) _ _
    · exact plainWrite_absentReg h _ _ _

/-- Settles O25: both accesses of an absent register are judged absent, which answers 0 and touches no other component. -/
theorem absentPagesReadZero : Obligations.AbsentPagesReadZero := by
  unfold Obligations.AbsentPagesReadZero
  intro rqid a v p o n s hq ha hv h4 hrun habs htgt
  have h : AbsentReg { s.blk with out := [] }.part p a := ⟨h4, habs, htgt.imp (⟨o, ·⟩) (⟨n, o, ·⟩)⟩
  have hread : okLoRegisterRead rqid a = true := by simp only [okLoRegisterRead, hq, ha, decide_true, Bool.and_self]
  have hwrite : okRegisterWrite rqid a v = true := by simp only [okRegisterWrite, hq, ha, hv, decide_true, Bool.and_self]
  constructor
  · rw [exec_loRegisterRead, hread, meaning_acts _ (.core rqid) _ s hrun]
    exact ⟨_, congrArg _ (congrArg _ (registerRead_absentReg h rqid)), rfl, rfl, rfl⟩
  · rw [exec_registerWrite, hwrite, meaning_acts _ (.core rqid) _ s hrun]
    exact ⟨_, congrArg _ (congrArg _ (registerWrite_absentReg h rqid v)), rfl, rfl⟩

end Sys2Proof.Machine
end

section
/-! What raising an event of a present block does: its EVT bit, and the one place its route word sends it to (R106, R136, R137). -/

namespace Sys2Proof.Machine

/-! ### The EVT bit -/

/-- Bit `off` of EVT of page `p` is set (R106). -/
def setEvt (p off : Nat) (b : Block) : Block := wr (pg p 0x10) (rd b (pg p 0x10) ||| 2 ^ off) b

/-- EVT reads as before with the bit set. -/
theorem rd_setEvt_same (p off : Nat) (b : Block) (h : off < 32) : rd (setEvt p off b) (pg p 0x10) = rd b (pg p 0x10) ||| 2 ^ off := by
  rw [setEvt, rd_wr_same, Nat.mod_eq_of_lt (Nat.or_lt_two_pow (rd_lt ..) (Nat.pow_lt_pow_right (by decide) h))]

/-- Every other register reads as before. -/
theorem rd_setEvt_other (p off a : Nat) (b : Block) (h : a ≠ pg p 0x10) : rd (setEvt p off b) a = rd b a := rd_wr_other _ _ _ _ h

/-- A register at any offset of its page but that of EVT is another one. -/
theorem rd_setEvt_offset (p off a : Nat) (b : Block) (h : a % 0x10000 ≠ 0x10) : rd (setEvt p off b) a = rd b a :=
  rd_setEvt_other _ _ _ _ (by simp only [pg]; omega)

theorem fget_setEvt (p off : Nat) (f : Fld) (b : Block) (h : f.addr % 0x10000 ≠ 0x10) : fget (setEvt p off b) f = fget b f := by
  rw [fget, rd_setEvt_offset _ _ _ _ h, fget]

theorem fon_setEvt (p off : Nat) (f : Fld) (b : Block) (h : f.addr % 0x10000 ≠ 0x10) : fon (setEvt p off b) f = fon b f := by
  rw [fon, fget_setEvt _ _ _ _ h, fon]

/-- Setting an EVT bit leaves the route words. -/
theorem route_setEvt (p off ev : Nat) (b : Block) (h : ev < 1024) : route (setEvt p off b) ev = rd b (R.EVR_ROUTE ev) :=
  rd_setEvt_offset _ _ _ _ (by simp only [R.EVR_ROUTE]; omega)

theorem instExists_setEvt (p off n : Nat) (b : Block) (h : n < 64) : instExists (setEvt p off b) n = instExists b n := by
  rw [instExists, instState, fget_setEvt _ _ _ _ (by simp only [R.VIM_ISTATE]; omega), instExists, instState]

/-! ### Whether the event is delivered -/

/-- An event number of no block, or of an absent one, does nothing (R10, R106). -/
theorem raiseP_of_unlatched (ev : Nat) (pl : List Byte) (b : Block) (h : evLatch ev b = (b, false)) : raiseP ev pl b = b := by
  simp [raiseP, raiseBy, raiseStep, h]

theorem evLatch_of_evLoc_none (ev : Nat) (b : Block) (h : evLoc ev = none) : evLatch ev b = (b, false) := by simp [evLatch, h]

theorem evLatch_of_absentPage (ev p off : Nat) (b : Block) (h : evLoc ev = some (p, off)) (ha : absentPage b.part p = true) :
    evLatch ev b = (b, false) := by
  simp [evLatch, h, ha]

/-- Event `ev` is that of bit `off` in EVT of the present page `p` (R106, R133). -/
structure EventOf (b : Block) (ev p off : Nat) : Prop where
  number : ev < 1024
  loc : evLoc ev = some (p, off)
  present : absentPage b.part p = false
  bit : off < 32

section
variable {b : Block} {ev p off : Nat} (h : EventOf b ev p off)
include h

/-- An event of a present block sets its EVT bit, and passes on when EVTEN enables it (R106). -/
theorem evLatch_of_eventOf : evLatch ev b = (setEvt p off b, bitOf (rd b (pg p 0x14)) off) := by
  simp only [evLatch, h.loc, h.present, h.bit, if_true, Bool.false_eq_true, if_false, setEvt]

/-- An event that is not enabled sets its EVT bit and does nothing else. -/
theorem raiseP_of_disabled (pl : List Byte) (hen : bitOf (rd b (pg p 0x14)) off = false) : raiseP ev pl b = setEvt p off b := by
  simp only [raiseP, raiseBy, raiseStep, evLatch_of_eventOf h, hen, Bool.false_eq_true, if_false]

/-- An enabled event whose delivery drops and loses nothing ends with what the delivery leaves. -/
theorem raiseP_of_delivered {pl : List Byte} {c : Block} (hen : bitOf (rd b (pg p 0x14)) off = true)
    (hd : evDeliver ev (ownRqid p) pl (setEvt p off b) = (c, Drop.none, false)) : raiseP ev pl b = c := by
  simp only [raiseP, h.loc, raiseBy, raiseStep, evLatch_of_eventOf h, hen, hd, if_true, Bool.false_and, Bool.false_eq_true, if_false]

end

/-! ### Where the route word sends it -/

/-- Without the `rec` bit the route's destination is all. -/
theorem evDeliver_unrecorded (ev rq : Nat) (pl : List Byte) (b : Block) (h : bitOf (route b ev) 31 = false) :
    evDeliver ev rq pl b = ((evRoute ev b).1, (evRoute ev b).2, false) := by
  simp only [evDeliver, h, Bool.false_and, Bool.false_eq_true, if_false]

/-- Destination 0 is none. -/
theorem evRoute_none (ev : Nat) (b : Block) (h : bitsOf (route b ev) 17 16 = 0) : evRoute ev b = (b, Drop.none) := by
  simp only [evRoute, h]

/-- The entry that an event queued now takes. -/
def evEntry (ev : Nat) (b : Block) : EvEnt := ⟨b.evr.nextId, fast b, bitsOf (route b ev) 30 28, ev⟩

/-- Destination 1 is the manager queue, by priority. -/
theorem evRoute_manager (ev : Nat) (b : Block) (h : bitsOf (route b ev) 17 16 = 1)
    (hq : (b.evr.mq.filter (fun x => x.prio == bitsOf (route b ev) 30 28)).length < 32) :
    evRoute ev b = ({ b with evr := { b.evr with mq := b.evr.mq ++ [evEntry ev b], nextId := b.evr.nextId + 1 } }, Drop.none) := by
  simp only [evRoute, h, if_pos hq, evEntry]

/-- Destination 2 is the SPK queue. -/
theorem evRoute_spk (ev : Nat) (b : Block) (h : bitsOf (route b ev) 17 16 = 2) (hq : b.evr.sq.length < 64) :
    evRoute ev b = ({ b with evr := { b.evr with sq := b.evr.sq ++ [evEntry ev b], nextId := b.evr.nextId + 1 } }, Drop.none) := by
  simp only [evRoute, h, if_pos hq, evEntry]

/-- Destination 3 is a vector in the sub-page that the route names. -/
theorem evRoute_vector (ev : Nat) (b : Block) (h : bitsOf (route b ev) 17 16 = 3) (hi : instExists b (bitsOf (route b ev) 13 8) = true) :
    evRoute ev b = (instVector (bitsOf (route b ev) 13 8) (bitsOf (route b ev) 5 0) ev (bitsOf (route b ev) 30 28) b, Drop.none) := by
  simp only [evRoute, h, if_pos hi]

/-- With the `rec` bit, a copy joins the recorder's queue. -/
theorem evDeliver_recorded (ev rq : Nat) (pl : List Byte) (b : Block) (hr : bitOf (route b ev) 31 = true) (he : ev ≠ EV.ELG_DEAD)
    (h0 : bitsOf (route b ev) 17 16 = 0) (hd : fon b F.ELG_STAT_dead = false) (hh : fon b F.ELG_CTL_hold = false) (hq : b.elg.queue.length < 256) :
    evDeliver ev rq pl b = ({ b with elg := { b.elg with queue :=
      b.elg.queue ++ [⟨0, ev, rq, bitsOf (route b ev) 30 28, ns b, padTo 0#8 32 pl, fon b F.PWR_STAT_state⟩] } }, Drop.none, false) := by
  have hc : (bitOf (route b ev) 31 && ev != EV.ELG_DEAD) = true := by simp [hr, he]
  simp only [evDeliver, evRoute_none ev b h0, hc, if_true, elgTake, hd, hh, Bool.false_eq_true, if_false, if_pos hq]

/-! ### Vectors -/

/-- The register that holds the pending bit of vector `v` in sub-page `n` (R136). -/
def pendReg (n v : Nat) : Nat := if v < 32 then R.EVR_I_PEND0 n else R.EVR_I_PEND1 n

/-- No pending register is a source register or lies at the offset of an EVT. -/
theorem pendReg_ne_src (n v : Nat) : pendReg n v ≠ R.EVR_I_SRC n v := by
  unfold pendReg
  split <;> simp only [R.EVR_I_PEND0, R.EVR_I_PEND1, R.EVR_I_SRC, sp] <;> omega

theorem pendReg_offset (n v : Nat) : pendReg n v % 0x10000 ≠ 0x10 := by
  unfold pendReg
  split <;> simp only [R.EVR_I_PEND0, R.EVR_I_PEND1, sp] <;> omega

/-- The registers that delivering event `ev` to vector `v` in sub-page `n` writes. -/
def setVector (n v ev : Nat) (b : Block) : Block := fset (F.EVR_I_SRC_ev n v) ev (wr (pendReg n v) (rd b (pendReg n v) ||| 2 ^ (v % 32)) b)

theorem rd_instVector (n v ev prio a : Nat) (b : Block) : rd (instVector n v ev prio b) a = rd (setVector n v ev b) a := rfl

theorem rd_instVector_other (n v ev prio a : Nat) (b : Block) (hp : a ≠ pendReg n v) (hs : a ≠ R.EVR_I_SRC n v) :
    rd (instVector n v ev prio b) a = rd b a := by
  rw [rd_instVector, setVector, rd_fset_other _ _ _ _ hs, rd_wr_other _ _ _ _ hp]

/-- A delivered vector is pending. -/
theorem rd_instVector_pend (n v ev prio : Nat) (b : Block) :
    rd (instVector n v ev prio b) (pendReg n v) = rd b (pendReg n v) ||| 2 ^ (v % 32) := by
  rw [rd_instVector, setVector, rd_fset_other _ _ _ _ (pendReg_ne_src n v), rd_wr_same, Nat.mod_eq_of_lt]
  exact Nat.or_lt_two_pow (rd_lt ..) (Nat.pow_lt_pow_right (by decide) (Nat.mod_lt _ (by decide)))

/-- A delivered vector names its event. -/
theorem fget_instVector_src (n v ev prio : Nat) (b : Block) (h : ev < 1024) : fget (instVector n v ev prio b) (F.EVR_I_SRC_ev n v) = ev := by
  rw [fget, rd_instVector, ← fget, setVector, fget_fset_same _ _ _ rfl]
  exact Nat.mod_eq_of_lt h

/-! ### What an enabled event leaves, destination by destination -/

section
variable {b : Block} {ev p off : Nat} {pl : List Byte} (h : EventOf b ev p off) (hen : bitOf (rd b (pg p 0x14)) off = true)
include h hen

/-- The route's destination is all that an enabled event without the `rec` bit reaches. -/
theorem raiseP_of_route {c : Block} (hrec : bitOf (rd b (R.EVR_ROUTE ev)) 31 = false) (hd : evRoute ev (setEvt p off b) = (c, Drop.none)) :
    raiseP ev pl b = c := by
  refine raiseP_of_delivered h hen ?_
  rw [evDeliver_unrecorded _ _ _ _ (by rwa [route_setEvt _ _ _ _ h.number]), hd]

theorem raiseP_to_none (hrec : bitOf (rd b (R.EVR_ROUTE ev)) 31 = false) (hd : bitsOf (rd b (R.EVR_ROUTE ev)) 17 16 = 0) :
    raiseP ev pl b = setEvt p off b :=
  raiseP_of_route h hen hrec (evRoute_none _ _ (by rwa [route_setEvt _ _ _ _ h.number]))

theorem raiseP_to_manager (hrec : bitOf (rd b (R.EVR_ROUTE ev)) 31 = false) (hd : bitsOf (rd b (R.EVR_ROUTE ev)) 17 16 = 1)
    (hq : (b.evr.mq.filter (fun x => x.prio == bitsOf (rd b (R.EVR_ROUTE ev)) 30 28)).length < 32) :
    raiseP ev pl b = { setEvt p off b with
      evr := { b.evr with mq := b.evr.mq ++ [⟨b.evr.nextId, fast b, bitsOf (rd b (R.EVR_ROUTE ev)) 30 28, ev⟩], nextId := b.evr.nextId + 1 } } := by
  have hr := route_setEvt p off ev b h.number
  refine raiseP_of_route h hen hrec ?_
  rw [evRoute_manager _ _ (by rwa [hr]) (by rwa [hr]), evEntry, hr]
  rfl

theorem raiseP_to_spk (hrec : bitOf (rd b (R.EVR_ROUTE ev)) 31 = false) (hd : bitsOf (rd b (R.EVR_ROUTE ev)) 17 16 = 2)
    (hq : b.evr.sq.length < 64) :
    raiseP ev pl b = { setEvt p off b with
      evr := { b.evr with sq := b.evr.sq ++ [⟨b.evr.nextId, fast b, bitsOf (rd b (R.EVR_ROUTE ev)) 30 28, ev⟩], nextId := b.evr.nextId + 1 } } := by
  have hr := route_setEvt p off ev b h.number
  refine raiseP_of_route h hen hrec ?_
  rw [evRoute_spk ev (setEvt p off b) (by rwa [hr]) hq, evEntry, hr]
  rfl

theorem raiseP_to_vector (hrec : bitOf (rd b (R.EVR_ROUTE ev)) 31 = false) (hd : bitsOf (rd b (R.EVR_ROUTE ev)) 17 16 = 3)
    (hi : instExists b (bitsOf (rd b (R.EVR_ROUTE ev)) 13 8) = true) :
    raiseP ev pl b = instVector (bitsOf (rd b (R.EVR_ROUTE ev)) 13 8) (bitsOf (rd b (R.EVR_ROUTE ev)) 5 0) ev
      (bitsOf (rd b (R.EVR_ROUTE ev)) 30 28) (setEvt p off b) := by
  have hr := route_setEvt p off ev b h.number
  refine raiseP_of_route h hen hrec ?_
  rw [evRoute_vector _ _ (by rwa [hr]) (by rw [hr, instExists_setEvt _ _ _ _ (bitsOf_lt ..), hi]), hr]

theorem raiseP_to_recorder (hrec : bitOf (rd b (R.EVR_ROUTE ev)) 31 = true) (he : ev ≠ EV.ELG_DEAD)
    (hd : bitsOf (rd b (R.EVR_ROUTE ev)) 17 16 = 0) (hdead : fon b F.ELG_STAT_dead = false) (hhold : fon b F.ELG_CTL_hold = false)
    (hq : b.elg.queue.length < 256) :
    raiseP ev pl b = { setEvt p off b with
      elg := { b.elg with queue := b.elg.queue ++
        [⟨0, ev, ownRqid p, bitsOf (rd b (R.EVR_ROUTE ev)) 30 28, ns b, padTo 0#8 32 pl, fon b F.PWR_STAT_state⟩] } } := by
  have hr := route_setEvt p off ev b h.number
  have hf (f : Fld) := fon_setEvt p off f b
  refine raiseP_of_delivered h hen ?_
  rw [evDeliver_recorded ev _ pl (setEvt p off b) (by rwa [hr]) he (by rwa [hr]) (by rwa [hf _ (by decide)]) (by rwa [hf _ (by decide)]) hq, hr, hf _ (by decide)]
  rfl

end

/-! ### The command -/

/-- EVENT_ASSERT of a running module raises the event. -/
theorem exec_eventAssert_running (ev : Nat) (pl : List Byte) (s : State) (h : ev < 1024) (hr : running s.blk = true) :
    exec (.eventAssert ev pl) s = .next { s with blk := raiseP ev pl { s.blk with out := [] } } := by
  rw [exec_eventAssert, show okEventAssert ev = true from decide_eq_true h, meaning_acts _ .run _ s hr, eventAssert]

/-- EVT of a block whose registers are those of `b` with an EVT bit set. -/
theorem rd_of_regs_setEvt {p off : Nat} {b c : Block} (ho : off < 32) (hp : c.part = b.part) (hr : c.regs = (setEvt p off b).regs) :
    rd c (pg p 0x10) = rd b (pg p 0x10) ||| 2 ^ off := by
  rw [rd_congr (b := setEvt p off b) hp hr, rd_setEvt_same _ _ _ ho]

/-- Every other register of such a block. -/
theorem regsBut_of_regs_setEvt {p off : Nat} {b c : Block} (hp : c.part = b.part) (hr : c.regs = (setEvt p off b).regs) :
    RegsBut [pg p 0x10] b c := fun a ha => by
  rw [rd_congr (b := setEvt p off b) hp hr, rd_setEvt_other _ _ _ _ (by simpa using ha)]

/-- What a block reads as after an EVT bit was set and a vector delivered. -/
theorem reads_of_instVector_setEvt {p off n v ev prio : Nat} {b : Block} (hp : p < 256) (ho : off < 32) (hev : ev < 1024) :
    rd (instVector n v ev prio (setEvt p off b)) (pg p 0x10) = rd b (pg p 0x10) ||| 2 ^ off ∧
      rd (instVector n v ev prio (setEvt p off b)) (pendReg n v) = rd b (pendReg n v) ||| 2 ^ (v % 32) ∧
      fget (instVector n v ev prio (setEvt p off b)) (F.EVR_I_SRC_ev n v) = ev ∧
      RegsBut [pg p 0x10, pendReg n v, R.EVR_I_SRC n v] b (instVector n v ev prio (setEvt p off b)) := by
  have hsrc : pg p 0x10 ≠ R.EVR_I_SRC n v := by simp only [pg, R.EVR_I_SRC, sp]; omega
  have hpend : pg p 0x10 ≠ pendReg n v := fun e => pendReg_offset n v (by rw [← e]; simp only [pg]; omega)
  refine ⟨?_, ?_, fget_instVector_src n v ev prio _ hev, fun a ha => ?_⟩
  · rw [rd_instVector_other _ _ _ _ _ _ hpend hsrc, rd_setEvt_same _ _ _ ho]
  · rw [rd_instVector_pend, rd_setEvt_offset _ _ _ _ (pendReg_offset n v)]
  · simp only [List.mem_cons, List.not_mem_nil, or_false, not_or] at ha
    obtain ⟨h1, h2, h3⟩ := ha
    rw [rd_instVector_other _ _ _ _ _ _ h2 h3, rd_setEvt_other _ _ _ _ h1]

/-- Settles O30: an event that is latched and not enabled stops at `setEvt`; an enabled one goes where its route word says, each destination by
its own lemma `raiseP_to_*`. -/
theorem eventsReachTheirRoute : Obligations.EventsReachTheirRoute := by
  unfold Obligations.EventsReachTheirRoute
  intro ev pl s hev hrun
  have hexec := exec_eventAssert_running ev pl s hev hrun
  refine ⟨fun hl => ?_, fun p off hl hp => ⟨fun ha => ?_, fun ha ho => ?_⟩⟩
  · rw [hexec, raiseP_of_unlatched ev pl _ (evLatch_of_evLoc_none ev _ hl)]
  · rw [hexec, raiseP_of_unlatched ev pl { s.blk with out := [] } (evLatch_of_absentPage _ _ _ _ hl ha)]
  · have h : EventOf { s.blk with out := [] } ev p off := ⟨hev, hl, ha, ho⟩
    refine ⟨fun hen => ?_, fun hen hrec hd => ?_, fun hen hrec hd hq => ?_, fun hen hrec hd hq => ?_, fun hen hrec hd hi => ?_,
      fun hen hrec he hd hdead hhold hq => ?_⟩
    · rw [hexec, raiseP_of_disabled h pl hen]
      exact ⟨_, rfl, ⟨rfl, rd_of_regs_setEvt ho rfl rfl, fun _ => rfl, fun _ => rfl⟩, rfl, regsBut_of_regs_setEvt rfl rfl⟩
    · rw [hexec, raiseP_to_none h hen hrec hd]
      exact ⟨_, rfl, ⟨rfl, rd_of_regs_setEvt ho rfl rfl, fun _ => rfl, fun _ => rfl⟩, rfl, regsBut_of_regs_setEvt rfl rfl⟩
    · rw [hexec, raiseP_to_manager h hen hrec hd hq]
      exact ⟨_, rfl, ⟨rfl, rd_of_regs_setEvt ho rfl rfl, fun _ => rfl, fun _ => rfl⟩, rfl, rfl, regsBut_of_regs_setEvt rfl rfl⟩
    · rw [hexec, raiseP_to_spk h hen hrec hd hq]
      exact ⟨_, rfl, ⟨rfl, rd_of_regs_setEvt ho rfl rfl, fun _ => rfl, fun _ => rfl⟩, rfl, rfl, regsBut_of_regs_setEvt rfl rfl⟩
    · rw [hexec, raiseP_to_vector h hen hrec hd hi]
      obtain ⟨hevt, hpend, hsrc, hbut⟩ := reads_of_instVector_setEvt (p := p) (b := s.blk) hp ho hev (n := bitsOf (rd s.blk (R.EVR_ROUTE ev)) 13 8)
        (v := bitsOf (rd s.blk (R.EVR_ROUTE ev)) 5 0) (prio := bitsOf (rd s.blk (R.EVR_ROUTE ev)) 30 28)
      exact ⟨_, rfl, ⟨rfl, hevt, fun _ => rfl, fun _ => rfl⟩, hpend, hsrc, hbut⟩
    · rw [hexec, raiseP_to_recorder h hen hrec he hd hdead hhold hq]
      exact ⟨_, rfl, ⟨rfl, rd_of_regs_setEvt ho rfl rfl, fun _ => rfl, fun _ => rfl⟩, rfl, rfl, regsBut_of_regs_setEvt rfl rfl⟩

end Sys2Proof.Machine
end
